-- ==== Sys2Proof/Word.lean ====
section
/-!
DEFINITION. The word type of the block's registers and the plainest arithmetic on it, and the enumerations that
the commands (Syntax) and the state (Machine/State) share: dies, package modes, life-cycle states, status codes.
The rules are cited by file and number: 02 R62 is rule R62 of spec/02_modes_and_life_cycle.md.
-/

namespace Sys2Proof

/-- A 32-bit register word. -/
abbrev Word := BitVec 32

/-- A byte of a message, a frame or a payload. -/
abbrev Byte := BitVec 8

/-- Little-endian value of a list of bytes (00 R9). -/
def leNat : List Byte → Nat
  | [] => 0
  | b :: bs => b.toNat + 256 * leNat bs

/-- Big-endian value of a list of bytes (00 R9: fabric, Purl and power-line frames). -/
def beNat (bs : List Byte) : Nat := leNat bs.reverse

/-- `n` little-endian bytes of a value (00 R9). -/
def toLe : Nat → Nat → List Byte
  | 0, _ => []
  | n + 1, v => BitVec.ofNat 8 v :: toLe n (v / 256)

/-- `n` big-endian bytes of a value. -/
def toBe (n v : Nat) : List Byte := (toLe n v).reverse

/-- A Bool as a bit. -/
def bit (b : Bool) : Nat := if b then 1 else 0

/-- The two's complement integer that the low `n` bits of a value spell. -/
def sext (n v : Nat) : Int :=
  let m := v % 2 ^ n
  if m < 2 ^ (n - 1) then (m : Int) else (m : Int) - (2 ^ n : Nat)

/-- The low `n` bits of an integer, as a natural number. -/
def uns (n : Nat) (i : Int) : Nat := (i % (2 ^ n : Nat)).toNat

/-- Field [msb:lsb] of a value (00 R7). -/
def fld (v msb lsb : Nat) : Nat := v / 2 ^ lsb % 2 ^ (msb + 1 - lsb)

/-- One bit of a value. -/
def tb (v n : Nat) : Bool := v / 2 ^ n % 2 == 1

/-- Change the element at an index; a list without that index is unchanged. -/
def upd {α : Type} : List α → Nat → (α → α) → List α
  | [], _, _ => []
  | a :: as, 0, f => f a :: as
  | a :: as, n + 1, f => a :: upd as n f

/-- Add to a counter that saturates at `m`. -/
def satAdd (m a b : Nat) : Nat := if a + b > m then m else a + b

/-- Least of an integer and a bound on both sides. -/
def clampI (lo hi x : Int) : Int := if x < lo then lo else if x > hi then hi else x

/-- A Stitch die (01 R14). -/
inductive Die where
  | a | b
  deriving DecidableEq, Repr

/-- The other Stitch die. -/
def Die.other : Die → Die
  | .a => .b
  | .b => .a

/-- The package modes, coded 0x0 to 0xB in this order (02 R62). -/
inductive Mode where
  | reset | boot | selfTest | provision | idle | armed | deliver | derate | safeStop | isolated | service | retired
  deriving DecidableEq, Repr

/-- The code of a mode (02 R62). -/
def Mode.code : Mode → Nat
  | .reset => 0 | .boot => 1 | .selfTest => 2 | .provision => 3 | .idle => 4 | .armed => 5
  | .deliver => 6 | .derate => 7 | .safeStop => 8 | .isolated => 9 | .service => 10 | .retired => 11

/-- The mode of a code (02 R62); no mode above 0xB. -/
def Mode.ofCode : Nat → Option Mode
  | 0 => some .reset | 1 => some .boot | 2 => some .selfTest | 3 => some .provision | 4 => some .idle
  | 5 => some .armed | 6 => some .deliver | 7 => some .derate | 8 => some .safeStop | 9 => some .isolated
  | 10 => some .service | 11 => some .retired | _ => none

/-- The life-cycle states, coded 0x0 to 0x4 in this order (02 R70). -/
inductive Lc where
  | blank | provisioned | field | service | scrapped
  deriving DecidableEq, Repr

/-- The code of a life-cycle state (02 R70). -/
def Lc.code : Lc → Nat
  | .blank => 0 | .provisioned => 1 | .field => 2 | .service => 3 | .scrapped => 4

/-- The causes of a reset, in the order of SYS_RESET_CAUSE's bits from 1 (02 R72, R74). -/
inductive ResetCause where
  | por | pin | cmd | thermal | mem | lc | dieA | dieB | retry
  deriving DecidableEq, Repr

end Sys2Proof
end

