-- ==== Sys2Proof/Machine/Blocks/Bat.lean ====
section
/-!
DEFINITION. The state of chapter 17: the sixteen buffer strings, their configuration, estimate, learning and journal.
A default value is the reset value. Times are the model clock in ns unless a field says otherwise. Charges and
voltages of the estimate are kept exactly, as the spec states no internal resolution.
-/

namespace Sys2Proof.Machine

/-- BAT_Ss_STAT.STATE, coded 0 to 4 (17 R513, R528). -/
inductive BState where
  | disabled | absent | seen | active | lost
  deriving DecidableEq, Repr

/-- BAT_Ss_STAT.CONF, coded 0b00 to 0b11 (17 R528). -/
inductive BConf where
  | none_ | low | medium | high
  deriving DecidableEq, Repr

/-- A string's configuration (17 R527). -/
structure BCfg where
  /-- EN; 1 bit; 17 R527; reset DESIGN CHOICE 0 (log 11): from journal. -/
  en      : Bool := false
  /-- CUR_SRC, true AUX_I; 1 bit; 17 R527; reset DESIGN CHOICE 0 (log 11): from journal. -/
  aux     : Bool := false
  /-- CAN channel; 4 bits; 17 R527; reset DESIGN CHOICE 0 (log 11): from journal. -/
  can     : Nat := 0
  /-- Auxiliary metering channel; 5 bits; 17 R527; reset DESIGN CHOICE 0 (log 11): from journal. -/
  auxCh   : Nat := 0
  /-- STATUS_ID; 32 bits; 17 R527; reset DESIGN CHOICE 0 (log 11): from journal. -/
  statusId : Nat := 0
  /-- IDENT_ID; 32 bits; 17 R527; reset DESIGN CHOICE 0 (log 11): from journal. -/
  identId : Nat := 0
  /-- Q_NOM in 0.1 Ah; 16 bits; 17 R527; reset DESIGN CHOICE 10 (log 11): from journal. -/
  qNom    : Nat := 10
  /-- V_NOM in 0.1 V; 16 bits; 17 R527; reset DESIGN CHOICE 100 (log 11): from journal. -/
  vNom    : Nat := 100
  /-- P_STR_MAX in kW; 16 bits; 17 R527; reset DESIGN CHOICE 1 (log 11): from journal. -/
  pMax    : Nat := 1
  /-- ETA_CHG in 0.01 %; 16 bits; 17 R527; reset DESIGN CHOICE 10,000 (log 11): from journal. -/
  eta     : Nat := 10000
  /-- R_MIN in Ω; 32 bits; 17 R527; reset DESIGN CHOICE 100 (log 11): from journal. -/
  rMin    : Nat := 100
  /-- R_MAX in Ω; 32 bits; 17 R527; reset DESIGN CHOICE 1,000,000 (log 11): from journal. -/
  rMax    : Nat := 1000000
  /-- R0 in µΩ; 32 bits; 17 R527; reset DESIGN CHOICE 0 (log 11): from journal. -/
  r0      : Nat := 0
  /-- R1 in µΩ; 32 bits; 17 R527; reset DESIGN CHOICE 0 (log 11): from journal. -/
  r1      : Nat := 0
  /-- TAU1 in ms; 32 bits; 17 R527; reset DESIGN CHOICE 1 (log 11): from journal. -/
  tau1    : Nat := 1
  /-- SLOPE_MIN in 0.1 mV per %; 16 bits; 17 R527; reset DESIGN CHOICE 0 (log 11): from journal. -/
  slope   : Nat := 0
  /-- T_LO in 0.1 °C; 16 bits signed; 17 R527; reset DESIGN CHOICE 0 (log 11): from journal. -/
  tLo     : Int := 0
  /-- T_HI in 0.1 °C; 16 bits signed; 17 R527; reset DESIGN CHOICE 1 (log 11): from journal. -/
  tHi     : Int := 1
  /-- OCV at T_LO in 50 mV; 21 × 16 bits; 17 R527; reset DESIGN CHOICE empty (log 11): from journal. -/
  ocvLo   : List Nat := []
  /-- OCV at T_HI in 50 mV; 21 × 16 bits; 17 R527; reset DESIGN CHOICE empty (log 11): from journal. -/
  ocvHi   : List Nat := []
  deriving DecidableEq, Repr

/-- A string's capacity and where it comes from (17 R519, R524). -/
structure BCap where
  /-- Q in 0.1 Ah, kept exactly (BAT_Ss_CAP.Q); 16 bits; 17 R528; reset DESIGN CHOICE 10 (log 11): from journal. -/
  q       : Rat := 10
  /-- A capacity has been learned (CAP_SRC); 1 bit; 17 R519; reset DESIGN CHOICE false (log 11): from journal. -/
  learned : Bool := false
  /-- Site time of the last learning in ns (CAP_AGE); 64 bits; 17 R519; reset DESIGN CHOICE 0 (log 11): from journal. -/
  learnAt : Nat := 0
  /-- BAT_Ss_LEARN.LAST_Q in 0.1 Ah; 16 bits; 17 R528; reset DESIGN CHOICE 0 (log 11): from journal. -/
  lastQ   : Nat := 0
  deriving DecidableEq, Repr

/-- What the ledger MRAM region holds of a string (17 R526). -/
structure BJournal where
  /-- Serial; 64 bits; 17 R526; reset DESIGN CHOICE none (log 11): from journal. -/
  serial  : Option Nat := none
  /-- Capacity; 17 R526; reset as BCap. -/
  cap     : BCap := {}
  /-- SoC_c in %, kept exactly; 17 R526; reset DESIGN CHOICE none (log 11): from journal. -/
  soc     : Option Rat := none
  /-- UNC in %; 17 R526; reset DESIGN CHOICE 5 (log 11): from journal. -/
  unc     : Rat := 5
  /-- Site time at which SoC_c and UNC were journaled; 64 bits; 17 R526; reset DESIGN CHOICE 0 (log 11): from journal. -/
  at_     : Nat := 0
  deriving DecidableEq, Repr

/-- A STATUS frame's values (17 R512). -/
structure BStatus where
  /-- String voltage in mV; 32 bits; 17 R512; reset 0. -/
  v     : Nat := 0
  /-- String current in mA; 32 bits signed; 17 R512; reset 0. -/
  i     : Int := 0
  /-- Highest cell temperature in 0.1 °C; 16 bits signed; 17 R512; reset 0. -/
  t     : Int := 0
  /-- Discharge power limit in kW; 16 bits; 17 R512; reset 0. -/
  pDis  : Nat := 0
  /-- Charge power limit in kW; 16 bits; 17 R512; reset 0. -/
  pChg  : Nat := 0
  /-- Contactor closed; 1 bit; 17 R512; reset false. -/
  closed : Bool := false
  /-- BMS fault; 1 bit; 17 R512; reset false. -/
  fault : Bool := false
  /-- Rolling counter; 8 bits; 17 R512; reset none. -/
  count : Option Nat := none
  /-- Arrival; 17 R513; reset none. -/
  at_   : Option Nat := none
  deriving DecidableEq, Repr

/-- An open learning cycle (17 R524, R525). -/
structure BLearn where
  /-- Rising direction (opened at the lower boundary); 1 bit; 17 R524; reset none. -/
  up     : Bool := true
  /-- AH counted in mA·ms, with efficiency; 17 R524; reset none. -/
  ah     : Rat := 0
  /-- Sum of |I| in mA and boundaries counted, for the mean; 17 R525; reset none. -/
  sum    : Nat × Nat := (0, 0)
  /-- INTERRUPTS; 4 bits; 17 R525; reset none. -/
  ints   : Nat := 0
  /-- Current against the cycle's direction since, and the span already counted; 17 R525; reset none. -/
  against : Option (Nat × Bool) := none
  /-- VALID_V at 0 since, and the span already counted; 17 R525; reset none. -/
  blind  : Option (Nat × Bool) := none
  deriving DecidableEq, Repr

/-- The estimate of one string (17 R514 to R520). -/
structure BEst where
  /-- SoC_c in %, none until the first estimate; 17 R514; reset none (0x0000, CONF NONE). -/
  soc    : Option Rat := none
  /-- SoC_v in % of the last boundary, none while VALID_V is 0; 17 R514; reset none (0xFFFF). -/
  socV   : Option Rat := none
  /-- SoC_v of the last boundary at which VALID_V was set; 17 R524; reset none. -/
  lastV  : Option Rat := none
  /-- V1 in µV, kept exactly; 17 R514; reset 0. -/
  v1     : Rat := 0
  /-- UNC in %; 17 R518; reset 5.00 (0x01F4). -/
  unc    : Rat := 5
  /-- EOD; 1 bit; 17 R520; reset 0. -/
  eod    : Bool := false
  /-- EOC; 1 bit; 17 R520; reset 0. -/
  eoc    : Bool := false
  /-- DRIFT; 1 bit; 17 R517; reset 0. -/
  drift  : Bool := false
  /-- Boundaries for which |D| has been above DRIFT_TH, DRIFT clear, or at or below it, DRIFT set; 17 R517; reset 0. -/
  driftN : Nat := 0
  /-- Current used at the last boundary in mA (BAT_Ss_I); 32 bits signed; 17 R528; reset 0. -/
  i      : Int := 0
  /-- Last change of more than 0.2 C within a supervisory cycle; 17 R515; reset none. -/
  jump   : Option Nat := none
  /-- Open learning cycle (LEARNING); 17 R524; reset none. -/
  learn  : Option BLearn := none
  deriving DecidableEq, Repr

/-- One buffer string (17 R511 to R528). -/
structure BStr where
  /-- Configuration; 17 R527; reset as BCfg. -/
  cfg    : BCfg := {}
  /-- Journaled values; 17 R526; reset as BJournal. -/
  nv     : BJournal := {}
  /-- Capacity in force; 17 R514; reset as BCap, from the journal at a package reset. -/
  cap    : BCap := {}
  /-- STATE; 3 bits; 17 R528; reset 0b000. -/
  st     : BState := .disabled
  /-- Identity resistance in Ω, none open (BAT_Ss_ID); 32 bits; 17 R528; reset none (0xFFFF_FFFF). -/
  r      : Option Nat := none
  /-- Consecutive samples in band while ABSENT, out of band otherwise; 5 bits; 17 R513; reset 0. -/
  run    : Nat := 0
  /-- Newest STATUS; 17 R512; reset as BStatus. -/
  status : BStatus := {}
  /-- A valid STATUS has been received since SEEN; 1 bit; 17 R513; reset false. -/
  gotSt  : Bool := false
  /-- Serial of an IDENT received since SEEN; 64 bits; 17 R513; reset none. -/
  ident  : Option Nat := none
  /-- Entry to LOST; 17 R513; reset 0. -/
  lostAt : Nat := 0
  /-- STALE_CNT; 8 bits; 17 R528; reset 0x00. -/
  stale  : Nat := 0
  /-- Estimate; 17 R514; reset as BEst. -/
  est    : BEst := {}
  /-- The journaled SoC_c awaits the string's return to ACTIVE after a restart; 1 bit; 17 R526; reset true. -/
  resume : Bool := true
  /-- REASON; 4 bits; 17 R528; reset 0x0. -/
  reason : Nat := 0
  deriving DecidableEq, Repr

/-- BAT_EVT (17 R528). -/
structure BEvt where
  /-- LEARN_DISQ; 1 bit; 17 R528; reset 0. -/
  disq    : Bool := false
  /-- LEARNED; 1 bit; 17 R528; reset 0. -/
  learned : Bool := false
  /-- DRIFT; 1 bit; 17 R528; reset 0. -/
  drift   : Bool := false
  /-- EOC; 1 bit; 17 R528; reset 0. -/
  eoc     : Bool := false
  /-- EOD; 1 bit; 17 R528; reset 0. -/
  eod     : Bool := false
  /-- BMS_LOST; 1 bit; 17 R528; reset 0. -/
  lost    : Bool := false
  /-- SWAPPED; 1 bit; 17 R528; reset 0. -/
  swapped : Bool := false
  /-- REMOVED; 1 bit; 17 R528; reset 0. -/
  removed : Bool := false
  deriving DecidableEq, Repr

/-- The buffer battery block of chapter 17. -/
structure Bat where
  /-- Strings 0 to 15; 17 R528; reset as BStr. -/
  str     : List BStr := List.replicate 16 {}
  /-- BAT_RESERVE.RESERVE in %; 8 bits; 17 R520; reset PRESUMED 15 (log 11): from journal, R520's default. -/
  reserve : Nat := 15
  /-- Model clock of the latest journaling of the strings, in ns; 17 R526; reset 0. -/
  jrnAt   : Nat := 0
  /-- BAT_EVT; 17 R528; reset as BEvt. -/
  evt     : BEvt := {}
  /-- BAT_AVAIL in Wh, kept exactly; 32 bits; 17 R528; reset 0. -/
  avail   : Rat := 0
  /-- BAT_PLIM.P_DIS in kW; 16 bits; 17 R528; reset 0. -/
  pDis    : Nat := 0
  /-- BAT_PLIM.P_CHG in kW; 16 bits; 17 R528; reset 0. -/
  pChg    : Nat := 0
  deriving DecidableEq, Repr

end Sys2Proof.Machine
end

