-- ==== Sys2Proof/Machine/Blocks/Bill.lean ====
section
/-!
DEFINITION. The state of chapter 10: calendars and tariffs, demand and billing periods, tamper detection, the event
log, receipts and DLMS associations. A default value is the reset value.
-/

namespace Sys2Proof.Machine

/-- One switch point of a day profile (10 R321). -/
structure SwitchPt where
  /-- Minute of day; 16 bits; 10 R321; reset none. -/
  minute : Nat := 0
  /-- Tariff, 1 to 8; 8 bits; 10 R321; reset none. -/
  tariff : Nat := 1
  deriving DecidableEq, Repr

/-- One season (10 R321). -/
structure Season where
  /-- Month; 8 bits; 10 R321; reset none. -/
  month  : Nat := 1
  /-- Day; 8 bits; 10 R321; reset none. -/
  day    : Nat := 1
  /-- Minute of day; 16 bits; 10 R321; reset none. -/
  minute : Nat := 0
  /-- Week profile; 8 bits; 10 R321; reset none. -/
  week   : Nat := 0
  /-- Offset in min, signed; 16 bits; 10 R321; reset none. -/
  offset : Int := 0
  deriving DecidableEq, Repr

/-- One special day (10 R321). -/
structure SpecialDay where
  /-- Year, 0 for every year; 16 bits; 10 R321; reset none. -/
  year  : Nat := 0
  /-- Month; 8 bits; 10 R321; reset none. -/
  month : Nat := 1
  /-- Day; 8 bits; 10 R321; reset none. -/
  day   : Nat := 1
  /-- Day profile; 8 bits; 10 R321; reset none. -/
  prof  : Nat := 0
  deriving DecidableEq, Repr

/-- One billing-close point (10 R321). -/
structure ClosePt where
  /-- Day of month; 8 bits; 10 R321; reset none. -/
  day    : Nat := 1
  /-- Minute of day; 16 bits; 10 R321; reset none. -/
  minute : Nat := 0
  deriving DecidableEq, Repr

/-- A tariff calendar (10 R321). -/
structure Calendar where
  /-- CAL_ID; 32 bits; 10 R321; reset none. -/
  id       : Nat := 0
  /-- ACTIVATION in ns; 64 bits; 10 R321; reset none. -/
  act      : Nat := 0
  /-- Billing-close points; 0 to 4; 10 R321; reset none. -/
  closes   : List ClosePt := []
  /-- Seasons; 1 to 8; 10 R321; reset none. -/
  seasons  : List Season := []
  /-- Week profiles: day profile of Monday to Sunday; 1 to 8; 10 R321; reset none. -/
  weeks    : List (List Nat) := []
  /-- Day profiles; 1 to 16; 10 R321; reset none. -/
  days     : List (List SwitchPt) := []
  /-- Special days; 0 to 64; 10 R321; reset none. -/
  specials : List SpecialDay := []
  deriving DecidableEq, Repr

/-- An event record (10 R336). -/
structure EvRec where
  /-- INDEX; 64 bits; 10 R336; reset none. -/
  index  : Nat := 0
  /-- TIME; 64 bits; 10 R336; reset none. -/
  time   : Nat := 0
  /-- KIND; 16 bits; 10 R336; reset none. -/
  kind   : Nat := 0
  /-- SOURCE; 16 bits; 10 R336; reset none. -/
  source : Nat := 0xFFFF
  /-- CLIENT; 32 bits; 10 R336; reset none. -/
  client : Nat := 0
  /-- DATA, up to 20 bytes, zero-padded; 10 R336; reset none. -/
  data   : List Byte := []
  /-- No word of the record holds a double-bit error; 01 R35; reset true. -/
  ok     : Bool := true
  deriving DecidableEq, Repr

/-- An event entered in a receipt (10 R339, R340). -/
structure RcptEv where
  /-- KIND; 16 bits; 10 R339; reset none. -/
  kind : Nat := 0
  /-- TIME; 64 bits; 10 R339; reset none. -/
  time : Nat := 0
  /-- A; 64 bits; 10 R339; reset none. -/
  a    : Nat := 0
  /-- B; 64 bits; 10 R339; reset none. -/
  b    : Nat := 0
  deriving DecidableEq, Repr

/-- Receipt states, coded 0x1 to 0x3 (10 R349). -/
inductive RcptState where
  | open_ | closed | acked
  deriving DecidableEq, Repr

/-- A session receipt (10 R338, R339). -/
structure Receipt where
  /-- Slot of the receipts region, 0 to 1,023; 10 R338, 21 R623; reset none. -/
  slot     : Nat := 0
  /-- Open, closed or acknowledged; 10 R349; reset none. -/
  st       : RcptState := .open_
  /-- RECEIPT_NO; 64 bits; 10 R338; reset none. -/
  no       : Nat := 0
  /-- REGION; 8 bits; 10 R339; reset none. -/
  region   : Nat := 0
  /-- CAUSE; 8 bits; 10 R341; reset none. -/
  cause    : Nat := 0
  /-- FLAGS; 8 bits; 10 R339; reset none. -/
  flags    : Nat := 0
  /-- VID_KIND; 8 bits; 10 R339; reset none. -/
  vidKind  : Nat := 0
  /-- VID; up to 64 bytes; 10 R339; reset none. -/
  vid      : List Byte := []
  /-- START_TIME; 64 bits; 10 R339; reset none. -/
  t0       : Nat := 0
  /-- STOP_TIME; 64 bits; 10 R339; reset none. -/
  t1       : Nat := 0
  /-- START_POS and STOP_POS; 64 bits each; 10 R339; reset none. -/
  pos0     : Nat := 0
  /-- STOP_POS; 64 bits; 10 R339; reset none. -/
  pos1     : Nat := 0
  /-- START_NEG; 64 bits; 10 R339; reset none. -/
  neg0     : Nat := 0
  /-- STOP_NEG; 64 bits; 10 R339; reset none. -/
  neg1     : Nat := 0
  /-- Tariff registers at the open; 8 × 64 bits; 10 R339; reset none. -/
  tar0     : List Nat := List.replicate 8 0
  /-- TARIFF[1..8] at the close; 8 × 64 bits; 10 R339; reset none. -/
  tar      : List Nat := List.replicate 8 0
  /-- GAP; 64 bits; 10 R339; reset none. -/
  gap      : Nat := 0
  /-- CAL_ID; 32 bits; 10 R339; reset none. -/
  calId    : Nat := 0
  /-- EPOCH_START; 8 bits; 10 R339; reset none. -/
  ep0      : Nat := 0
  /-- EPOCH_STOP; 8 bits; 10 R339; reset none. -/
  ep1      : Nat := 0
  /-- BOOTS; 32 bits; 10 R339; reset none. -/
  boots    : Nat := 0
  /-- EVENTS, oldest first; up to 16; 10 R339; reset none. -/
  events   : List RcptEv := []
  /-- Instant of the open while its placing sample is awaited, in ns; 64 bits; 10 R317, R339; reset none. -/
  openReq  : Option Nat := none
  /-- Instant and cause of the close while its sample is awaited; 10 R317, R341; reset none. -/
  closeReq : Option (Nat × Nat) := none
  /-- SIG, once signed; 96 bytes; 10 R342; reset none. -/
  sig      : List Byte := []
  deriving DecidableEq, Repr

/-- A load-profile or billing-profile entry (10 R326, R327). -/
structure ProfEntry where
  /-- Boundary instant in ns; 64 bits; 10 R326; reset none. -/
  time   : Nat := 0
  /-- BIL_PERIOD after the close; 32 bits; 10 R327; reset none. -/
  period : Nat := 0
  /-- Marks: 1 POWER_DOWN, 2 TIME_SET; 10 R330, R332; reset none. -/
  marks  : Nat := 0
  /-- Accumulators of meters 0 to 5, 6 each; 10 R327; reset none. -/
  acc    : List (List Nat) := []
  /-- Tariff registers of regions 0 to 3; 10 R327; reset none. -/
  tar    : List (List Nat) := []
  /-- Maximum demands of regions 0 to 3, or the period's demand in a load-profile entry; 10 R326, R327; reset none. -/
  dem    : List (List Nat) := []
  deriving DecidableEq, Repr

/-- One tamper condition of one scope (10 R334). -/
structure Tamper where
  /-- The condition stands; 1 bit; 10 R334; reset false. -/
  on     : Bool := false
  /-- Represented ns, or windows, for which the test has held or failed against `on`; 10 R334; reset 0. -/
  count  : Nat := 0
  /-- Peak magnitude of the condition, or of the run that counts towards it; 10 R337; reset 0. -/
  peak   : Nat := 0
  /-- −A accumulator in µWh at the start of the run (REVERSE), or D of the condition's first window (BYPASS_ENERGY); 10 R337; reset 0. -/
  start  : Int := 0
  /-- Windows of the condition (BYPASS_ENERGY); 10 R337; reset 0. -/
  wins   : Nat := 0
  deriving DecidableEq, Repr

/-- Demand and tariff state of one region (10 R318, R326, R350). -/
structure BilRegion where
  /-- BIL_RGr_Tt in µWh, t = 1 to 8, journaled; 64 bits each; 10 R350; reset DESIGN CHOICE 0 (log 11): from journal. -/
  tar     : List Nat := List.replicate 8 0
  /-- BIL_RGr_MAXDEMt in W, journaled; 32 bits each; 10 R350; reset DESIGN CHOICE 0 (log 11): from journal. -/
  maxDem  : List Nat := List.replicate 8 0
  /-- Capture times of the maximum demands in ns; 64 bits each; 10 R348; reset DESIGN CHOICE 0 (log 11): from journal. -/
  maxTime : List Nat := List.replicate 8 0
  /-- BIL_RGr_DEM in W; 32 bits; 10 R350; reset 0. -/
  dem     : Nat := 0
  /-- +A energy of the period open, in µWh; 64 bits; 10 R326; reset DESIGN CHOICE 0 (log 11): from journal. -/
  perE    : Nat := 0
  /-- Powered time of the period open on the measurement clock, in ns; 10 R326; reset DESIGN CHOICE 0 (log 11): from journal. -/
  perNs   : Nat := 0
  /-- Part of the present interval's energy already given to a closed period, in µWh, and its time in ns; 10 R326; reset (0, 0). -/
  pre     : Nat × Nat := (0, 0)
  /-- Tariffs that ended inside the present interval, oldest first, with their energy in µWh; 10 R319; reset empty. -/
  cuts    : List (Nat × Nat) := []
  /-- Energy and powered time of the closed periods, newest first, at most 14; 10 R326; reset DESIGN CHOICE empty (log 11): from journal. -/
  hist    : List (Nat × Nat) := []
  /-- BIL_RGr_RCPT, open or latest receipt number; 64 bits; 10 R350; reset DESIGN CHOICE 0 (log 11): from journal. -/
  rcpt    : Nat := 0
  /-- BIL_RGr_TAMPER.REV; 8 bits; 10 R350; reset 0x00. -/
  revCnt  : Nat := 0
  /-- BIL_RGr_TAMPER.BYP_CUR; 8 bits; 10 R350; reset 0x00. -/
  curCnt  : Nat := 0
  /-- REVERSE condition; 10 R334; reset as Tamper. -/
  rev     : Tamper := {}
  /-- BYPASS_CURRENT condition; 10 R334; reset as Tamper. -/
  cur     : Tamper := {}
  deriving DecidableEq, Repr

/-- Tamper state of one AC meter (10 R334, R350). -/
structure BilAc where
  /-- BIL_ACa_TAMPER.BYP_ENERGY; 8 bits; 10 R350; reset 0x00. -/
  bypCnt : Nat := 0
  /-- BIL_ACa_TAMPER.NEUTRAL; 8 bits; 10 R350; reset 0x00. -/
  neuCnt : Nat := 0
  /-- BIL_ACa_DISP in 0.1 %; 32 bits; 10 R350; reset 0. -/
  disp   : Nat := 0
  /-- BIL_ACa_DIFF in Wh, signed; 32 bits; 10 R350; reset 0. -/
  diff   : Int := 0
  /-- BYPASS_ENERGY condition; 10 R334; reset as Tamper. -/
  byp    : Tamper := {}
  /-- MISSING_NEUTRAL condition; 10 R334; reset as Tamper. -/
  neu    : Tamper := {}
  /-- Net import of the AC meter and net +A of the DC meters it supplies at the window's start, in µWh; 10 R334; reset none. -/
  base   : Option (Int × Int) := none
  /-- Sum of the squares of Va + Vb + Vc over the RMS window, in 2^−182 mV²; 10 R334; reset 0. -/
  nSq    : Int := 0
  deriving DecidableEq, Repr

/-- Tamper thresholds and loss model (10 R350). -/
structure TmpCfg where
  /-- IREV in 100 mA; 16 bits; 10 R350; reset 0x0000. -/
  irev    : Nat := 0
  /-- REV TIME in ms; 16 bits; 10 R350; reset 0x0000. -/
  revMs   : Nat := 0
  /-- BYP REL in 0.1 %; 8 bits; 10 R350; reset 0x00. -/
  bypRel  : Nat := 0
  /-- BYP WINDOWS; 8 bits; 10 R350; reset 0x00. -/
  bypWin  : Nat := 0
  /-- BYP ABS in Wh; 16 bits; 10 R350; reset 0x0000. -/
  bypAbs  : Nat := 0
  /-- CUR ABS in 100 mA; 16 bits; 10 R350; reset 0x0000. -/
  curAbs  : Nat := 0
  /-- CUR REL in 0.1 %; 8 bits; 10 R350; reset 0x00. -/
  curRel  : Nat := 0
  /-- CUR TIME in 100 ms; 8 bits; 10 R350; reset 0x00. -/
  curTime : Nat := 0
  /-- NDISP in %; 8 bits; 10 R350; reset 0x00. -/
  ndisp   : Nat := 0
  /-- IN_MIN in 0.1 %; 8 bits; 10 R350; reset 0x00. -/
  inMin   : Nat := 0
  /-- NEU TIME in 100 ms; 8 bits; 10 R350; reset 0x00. -/
  neuTime : Nat := 0
  /-- FOUR_WIRE of AC meters 0 and 1; 1 bit each; 10 R350; reset 0b00. -/
  fourW   : List Bool := [false, false]
  /-- LOSS_A in W; 32 bits; 10 R350; reset 0. -/
  lossA   : Nat := 0
  /-- LOSS_B, Q2.30; 32 bits; 10 R350; reset 0. -/
  lossB   : Int := 0
  /-- LOSS_C in mW/kW²; 32 bits; 10 R350; reset 0. -/
  lossC   : Nat := 0
  deriving DecidableEq, Repr

/-- BIL_EVT (10 R350). -/
structure BilEvt where
  /-- POWER_DOWN; 1 bit; 10 R350; reset 0. -/
  powerDown : Bool := false
  /-- RECEIPTS_FULL; 1 bit; 10 R350; reset 0. -/
  rcptFull  : Bool := false
  /-- RECEIPTS_HIGH; 1 bit; 10 R350; reset 0. -/
  rcptHigh  : Bool := false
  /-- NEUTRAL; 1 bit; 10 R350; reset 0. -/
  neutral   : Bool := false
  /-- BYPASS_CUR; 1 bit; 10 R350; reset 0. -/
  bypCur    : Bool := false
  /-- BYPASS_ENERGY; 1 bit; 10 R350; reset 0. -/
  bypEnergy : Bool := false
  /-- REVERSE; 1 bit; 10 R350; reset 0. -/
  reverse   : Bool := false
  /-- TIME_SET; 1 bit; 10 R350; reset 0. -/
  timeSet   : Bool := false
  /-- CAL_ACTIVATED; 1 bit; 10 R350; reset 0. -/
  calAct    : Bool := false
  deriving DecidableEq, Repr

/-- DLMS client roles (10 R345). -/
inductive DlmsRole where
  | public_ | reader | operator | metrology | vendor
  deriving DecidableEq, Repr

/-- A DLMS association (10 R346, R347). -/
structure Assoc where
  /-- Association handle; 10 R346; reset none. -/
  id    : Nat := 0
  /-- Role; 10 R345; reset none. -/
  role  : DlmsRole := .public_
  /-- Endpoint, 0 or 1; 10 R345; reset none. -/
  ep    : Nat := 0
  /-- Model clock of the newest request, in ns; 10 R346; reset none. -/
  last  : Nat := 0
  /-- Invocation counter of the device's ciphered APDUs; 32 bits; 10 R347; reset 0. -/
  sent  : Nat := 0
  /-- The client's maximum receive PDU in bytes, 0 for no limit; 16 bits; 10 R346; reset none. -/
  max   : Nat := 0
  /-- What is left of a GET response sent in blocks; 10 R346; reset empty. -/
  rest  : List Byte := []
  /-- Number of the newest block sent; 32 bits; 10 R346; reset 0. -/
  blk   : Nat := 0
  deriving DecidableEq, Repr

/-- Selective access to a profile: by times from and to, or by entries from and to, counted from 1 at the oldest
(10 R346). -/
inductive Selector where
  | range (lo hi : Nat)
  | entry (lo hi : Nat)
  deriving DecidableEq, Repr

/-- A COSEM attribute or method: OBIS code of six values, and attribute or method number (10 R348). -/
structure Cosem where
  /-- OBIS code A to F; 6 × 8 bits; 10 R348; reset none. -/
  obis : List Nat := []
  /-- Attribute or method number; 8 bits; 10 R348; reset none. -/
  attr : Nat := 2
  /-- Selective access asked for, profiles only; 10 R346; reset none. -/
  sel  : Option Selector := none
  deriving DecidableEq, Repr

/-- The wrapper before an APDU (10 R345). -/
structure Wrapper where
  /-- Version, 0x0001; 16 bits; 10 R345; reset none. -/
  ver : Nat := 1
  /-- Source wPort: the client's; 16 bits; 10 R345; reset none. -/
  src : Nat := 0x0010
  /-- Destination wPort: the server's 0x0001; 16 bits; 10 R345; reset none. -/
  dst : Nat := 1
  /-- APDU length in bytes; 16 bits; 10 R345; reset none. -/
  len : Nat := 0
  deriving DecidableEq, Repr

/-- A DLMS request: its wrapper, and its APDU as the engine decodes it (10 R345 to R347; log 9). -/
structure DlmsReq where
  /-- Association handle; 10 R346. -/
  id    : Nat
  /-- Wrapper; 10 R345. -/
  wrap  : Wrapper := {}
  /-- Invoke-id and priority; 8 bits; 10 R346. -/
  inv   : Nat := 0
  /-- The APDU authenticates under the association's key; 10 R347. -/
  okTag : Bool := true
  /-- Block number acknowledged, in a request for a GET response's next block; 10 R346. -/
  next  : Option Nat := none
  deriving DecidableEq, Repr

/-- Answer to one attribute: a data-access result, or the value's A-XDR (10 R346, R348). -/
inductive DlmsAns where
  | result (code : Nat)
  | data (bytes : List Byte)
  deriving DecidableEq, Repr

/-- A DLMS datagram sent: wrapper and APDU (10 R345). -/
structure DlmsPdu where
  /-- Association handle; 10 R346; reset none. -/
  id    : Nat := 0
  /-- UDP payload; 10 R345; reset none. -/
  bytes : List Byte := []
  deriving DecidableEq, Repr

/-- A DLMS SET or ACTION not yet accepted (10 R347). -/
structure DlmsPend where
  /-- Work id of its journal record, written before it is accepted; 64 bits; 10 R347, 13 R429; reset none. -/
  work  : Option Nat := none
  /-- Association handle; 10 R347; reset none. -/
  id    : Nat := 0
  /-- Invoke-id and priority of the request; 8 bits; 10 R346; reset none. -/
  inv   : Nat := 0
  /-- Set (true) or action (false); 10 R347; reset none. -/
  isSet : Bool := true
  /-- Object; 10 R348; reset none. -/
  obj   : Cosem := {}
  /-- Values written, or the method's arguments; 10 R348; reset none. -/
  args  : List Int := []
  /-- Passive calendar parts written; 10 R324; reset none. -/
  cal   : Option Calendar := none
  deriving DecidableEq, Repr

/-- Billing of chapter 10. -/
structure Bil where
  /-- Regions 0 to 3; 10 R350; reset as BilRegion. -/
  rg       : List BilRegion := List.replicate 4 {}
  /-- AC meters 0 and 1; 10 R350; reset as BilAc. -/
  ac       : List BilAc := List.replicate 2 {}
  /-- Active calendar (BIL_CAL_ACTIVE), journaled; 10 R350; reset none: DESIGN CHOICE (log 11), from journal. -/
  cal      : Option Calendar := none
  /-- Passive calendar (BIL_CAL_PASSIVE, BIL_CAL_ACT), journaled; 10 R350; reset none: DESIGN CHOICE (log 11), from journal. -/
  passive  : Option Calendar := none
  /-- BIL_TARIFF.TARIFF, 1 to 8, journaled; 4 bits; 10 R350; reset DESIGN CHOICE 1 (log 11): from journal. -/
  tariff   : Nat := 1
  /-- BIL_PERIOD, journaled; 32 bits; 10 R350; reset DESIGN CHOICE 0 (log 11): from journal. -/
  period   : Nat := 0
  /-- BIL_CLOSE, journaled; 64 bits; 10 R350; reset DESIGN CHOICE 0 (log 11): from journal. -/
  closeT   : Nat := 0
  /-- BIL_HOLD, latest closed boundary of any kind, journaled; 64 bits; 10 R350; reset DESIGN CHOICE 0 (log 11): from journal. -/
  holdT    : Nat := 0
  /-- Boundary with which the demand period open began, in ns, journaled; 10 R326; reset DESIGN CHOICE 0 (log 11): from journal. -/
  demT     : Nat := 0
  /-- Billing-close point taken last, or the instant from which points are sought, in ns, journaled; 10 R327; reset DESIGN CHOICE 0 (log 11): from journal. -/
  bilT     : Nat := 0
  /-- Calendar time in ns up to which switch points were taken before the offset fell; 10 R320; reset none. -/
  rep_     : Option Int := none
  /-- Time-set not yet placed: old time, new time, model clock of the step; 10 R317, R331; reset none. -/
  setAt    : Option (Nat × Nat × Nat) := none
  /-- BIL_STAT.TIME_HOLD; 1 bit; 10 R350; reset 0. -/
  timeHold : Bool := false
  /-- Season in force; 3 bits; 10 R320; reset 0. -/
  season   : Nat := 0
  /-- LENGTH of the demand period in min; 8 bits; 10 R350; reset 0x00. -/
  demLen   : Nat := 0
  /-- NPER; 8 bits; 10 R350; reset 0x00. -/
  demN     : Nat := 0
  /-- Marks of the period open: 1 POWER_DOWN, 2 TIME_SET; 10 R330, R332; reset 0. -/
  marks    : Nat := 0
  /-- Load profile, newest first, journaled; 10 R326; reset DESIGN CHOICE empty (log 11): from journal. -/
  load     : List ProfEntry := []
  /-- Billing profile, newest first, journaled; 10 R327; reset DESIGN CHOICE empty (log 11): from journal. -/
  prof     : List ProfEntry := []
  /-- BIL_EVT; 10 R350; reset as BilEvt. -/
  evt      : BilEvt := {}
  /-- Tamper thresholds and loss model; 10 R350; reset as TmpCfg. -/
  tmp      : TmpCfg := {}
  /-- Event log ring, newest first, at most 7,936 records, journaled; 10 R336; reset DESIGN CHOICE empty (log 11): from journal. -/
  events   : List EvRec := []
  /-- BIL_EVIDX, next INDEX, journaled; 64 bits; 10 R350; reset DESIGN CHOICE 0 (log 11): from journal; 0 at manufacture. -/
  evIdx    : Nat := 0
  /-- Receipts, oldest first, at most 1,024, journaled; 10 R338; reset DESIGN CHOICE empty (log 11): from journal. -/
  rcpts    : List Receipt := []
  /-- Receipts whose journal record, as it stood, holds a double-bit error; 01 R35; reset empty. -/
  badRcpt  : List Receipt := []
  /-- BIL_RCPT, next receipt counter, journaled; 48 bits; 10 R350; reset DESIGN CHOICE 0 (log 11): from journal. -/
  rcptCtr  : Nat := 0
  /-- Warn instant of a power-fail record not yet taken, in ns; 10 R329; reset none. -/
  warnAt   : Option Nat := none
  /-- The time counter has been unsynchronised since the restart, so boundaries wait; 1 bit; 10 R330; reset true. -/
  waitSync : Bool := true
  /-- DLMS associations, oldest first, at most eight; 10 R346; reset empty. -/
  assoc    : List Assoc := []
  /-- DLMS requests not yet accepted; 10 R347; reset empty. -/
  dlmsPend : List DlmsPend := []
  /-- DLMS requests accepted and not yet applied, by work id; 10 R347; reset empty. -/
  dlmsAcc  : List (Nat × DlmsPend) := []
  /-- Passive calendar as written over DLMS while it does not pass 10 R322; 10 R324; reset none. -/
  draft    : Option Calendar := none
  /-- Firmware slot and size of the image transfer initiated over DLMS; 10 R348; reset none. -/
  xfer     : Option (Nat × Nat) := none
  /-- DLMS datagrams sent, newest first: the model's own record of its outputs; 10 R345; reset empty. -/
  dlmsTx   : List DlmsPdu := []
  /-- DLMS client table of the configuration image: key number, role; 10 R347; reset empty. -/
  dlmsCli  : List (Nat × DlmsRole) := []
  deriving DecidableEq, Repr

end Sys2Proof.Machine
end

