-- ==== Sys2Proof/Machine/Blocks/Can.lean ====
section
/-!
DEFINITION. The state of the CAN FD channels of chapter 14: frames, queues, transmit buffers, the Pricking, receive
rings, filters and sleep. A default value is the reset value. Times are the model clock in ns unless a field says
otherwise.
-/

namespace Sys2Proof.Machine

/-- A CAN frame (14 R469). -/
structure CanFrame where
  /-- IDE; 1 bit; 14 R469; reset none. -/
  ide  : Bool := false
  /-- FDF; 1 bit; 14 R469; reset none. -/
  fdf  : Bool := false
  /-- BRS; 1 bit; 14 R469; reset none. -/
  brs  : Bool := false
  /-- Identifier; 29 bits; 14 R469; reset none. -/
  id   : Nat := 0
  /-- DATA; 0 to 64 bytes; 14 R469; reset none. -/
  data : List Byte := []
  /-- RTR; 1 bit; 14 R469; reset none. -/
  rtr  : Bool := false
  /-- ESI; 1 bit; 14 R469; reset none. -/
  esi  : Bool := false
  deriving DecidableEq, Repr

/-- A record of a receive ring (14 R469). -/
structure CanRec where
  /-- TIME, site time in ns; 64 bits; 14 R469; reset none. -/
  time  : Nat := 0
  /-- The frame; 14 R469; reset none. -/
  frame : CanFrame := {}
  /-- FLAGS bit 2 TX; 1 bit; 14 R469; reset none. -/
  own   : Bool := false
  /-- FLAGS bit 3 WAKE; 1 bit; 14 R469; reset none. -/
  wake  : Bool := false
  /-- LENGTH as received, the data length of a remote frame; 7 bits; 14 R469; reset none. -/
  len   : Nat := 0
  deriving DecidableEq, Repr

/-- Kinds of slot, coded 0b00 to 0b11 (14 R463). -/
inductive SlotKind where
  | free | exclusive | arbitration | reference
  deriving DecidableEq, Repr

/-- A Pricking schedule (14 R462, R474). -/
structure Pricking where
  /-- CYCLE_US; 16 bits; 14 R474; reset none. -/
  cycleUs : Nat := 100
  /-- REF_ID laid out as R469's ID; 32 bits; 14 R474; reset none. -/
  refId   : Nat := 0
  /-- Start offsets of the used slots in µs, ascending; 64; 14 R474; reset none. -/
  offs    : List Nat := [0]
  /-- Entries: kind and buffer, entry 64k + s; 1,024; 14 R474; reset none. -/
  entries : List (SlotKind × Nat) := []
  deriving DecidableEq, Repr

/-- A loaded transmit buffer (14 R465). -/
structure TxBuf where
  /-- The frame; 14 R474; reset none. -/
  frame   : CanFrame := {}
  /-- ONE_SHOT; 1 bit; 14 R474; reset none. -/
  oneShot : Bool := false
  deriving DecidableEq, Repr

/-- A frame of the transmit queue (14 R466). -/
structure TxQ where
  /-- The frame; 14 R474; reset none. -/
  frame : CanFrame := {}
  /-- Work id of its CAN_SEND; 64 bits; 14 R475; reset none. -/
  work  : Nat := 0
  /-- Time it was applied; 14 R475; reset none. -/
  at_   : Nat := 0
  deriving DecidableEq, Repr

/-- How a transmission ends: sent without error, arbitration lost, or an error of a LEC code (14 R465, R477). -/
inductive CanEnd where
  | sent | lost | error (lec : Fin 8)
  deriving DecidableEq, Repr

/-- What transmission is on the bus (14 R463). -/
inductive CanTx where
  | buffer (b : Nat) (f : CanFrame) | queued (q : TxQ) | ref (f : CanFrame)
  deriving DecidableEq, Repr

/-- Consumers of a filter (14 R470). -/
inductive CanUser where
  | bat | lsw | cooling | thm | imd
  deriving DecidableEq, Repr

/-- A software filter (14 R470). -/
structure CanFilter where
  /-- Identifier with IDE in bit 31; 32 bits; 14 R470; reset none. -/
  id     : Nat := 0
  /-- Mask; 32 bits; 14 R470; reset none. -/
  mask   : Nat := 0
  /-- Consumer; 14 R470; reset none. -/
  user   : CanUser := .bat
  /-- Region of an IMD filter, string of a BAT filter, circuit or switch of the others; 14 R470; reset none. -/
  index  : Nat := 0
  deriving DecidableEq, Repr

/-- CAN_CHc_ERR.STATE, coded 0b00 to 0b10 (14 R477). -/
inductive CanState where
  | active | passive | busOff
  deriving DecidableEq, Repr

/-- CAN_CHc_EVT (14 R477). -/
structure CanEvt where
  /-- WAKE; 1 bit; 14 R477; reset 0. -/
  wake      : Bool := false
  /-- BUSOFF; 1 bit; 14 R477; reset 0. -/
  busOff    : Bool := false
  /-- PRK_LATE; 1 bit; 14 R477; reset 0. -/
  late      : Bool := false
  /-- PRK_CUT; 1 bit; 14 R477; reset 0. -/
  cut       : Bool := false
  /-- TX_TIMEOUT; 1 bit; 14 R477; reset 0. -/
  txTimeout : Bool := false
  /-- EDGE_WAKE_LOST; 1 bit; 14 R477; reset 0. -/
  edgeLost  : Bool := false
  deriving DecidableEq, Repr

/-- One CAN FD channel (14 R458 to R477). -/
structure CanCh where
  /-- CAN_CHc_CTRL.SLEEP; 1 bit; 14 R477; reset 0. -/
  sleep    : Bool := false
  /-- CAN_CHc_CTRL.WAKE_MODE, true FRAME; 1 bit; 14 R477; reset 0. -/
  wakeFrame : Bool := false
  /-- A 1 in CTRL.SLEEP is in effect, from the boundary after its write; 1 bit; 14 R472; reset false. -/
  sleepIn   : Bool := false
  /-- CAN_CHc_CTRL.AUTO_RECOVER; 1 bit; 14 R477; reset 1. -/
  autoRec  : Bool := true
  /-- Bus-off recovery is under way; 1 bit; 14 R460; reset false. -/
  recov    : Bool := false
  /-- CAN_CHc_CTRL.LOOPBACK_RX; 1 bit; 14 R477; reset 1. -/
  loopback : Bool := true
  /-- CAN_STAT.SLEEP: channel asleep; 1 bit; 14 R477; reset 0. -/
  asleep   : Bool := false
  /-- Pin CAN_STB_c; 1 bit; 14 R458, 20 R583; reset DESIGN CHOICE low (log 1). -/
  stb      : Bool := false
  /-- CAN_CHc_TIMING.NOM in kbit/s; 16 bits; 14 R477; reset 0x0000. -/
  nom      : Nat := 0
  /-- CAN_CHc_TIMING.DATA in kbit/s; 16 bits; 14 R477; reset 0x0000. -/
  dat      : Nat := 0
  /-- CAN_CHc_ERR.TEC; 8 bits; 14 R477; reset 0x00. -/
  tec      : Nat := 0
  /-- CAN_CHc_ERR.REC; 8 bits; 14 R477; reset 0x00. -/
  rec_     : Nat := 0
  /-- CAN_CHc_ERR.STATE; 2 bits; 14 R477; reset 0b00. -/
  st       : CanState := .active
  /-- CAN_CHc_ERR.LEC; 3 bits; 14 R477; reset 0b000. -/
  lec      : Nat := 0
  /-- Retained ring records, oldest first; 4,096; 14 R469; reset empty. -/
  ring     : List CanRec := []
  /-- CAN_CHc_RING: index of the next record; 64 bits; 14 R477; reset 0. -/
  next     : Nat := 0
  /-- CAN_CHc_EVT; 14 R477; reset as CanEvt. -/
  evt      : CanEvt := {}
  /-- Pricking in force (CAN_CHc_PRK.EN, CYCLE_US); 14 R477; reset none (0). -/
  prk      : Option Pricking := none
  /-- Applied schedule that waits for the matrix start, none within it for EN 0; 14 R468; reset none. -/
  nextPrk  : Option (Option Pricking) := none
  /-- CAN_CHc_PRK.CYCLE; 4 bits; 14 R477; reset 0x0. -/
  cycle    : Nat := 0
  /-- CAN_CHc_PRK.SLOT; 6 bits; 14 R477; reset 0. -/
  slot     : Nat := 0
  /-- Site time of the present basic cycle's start in ns; 64 bits; 14 R462; reset none. -/
  cycleAt  : Option Nat := none
  /-- CAN_CHc_PRK_CNT.LATE; 16 bits; 14 R477; reset 0x0000. -/
  late     : Nat := 0
  /-- CAN_CHc_PRK_CNT.SKIPPED; 16 bits; 14 R477; reset 0x0000. -/
  skipped  : Nat := 0
  /-- CAN_CHc_HEALTH.LATE_CNT: late frames in the last and the present supervisory cycle; 8 bits; 14 R477; reset (0, 0). -/
  lateCyc  : Nat × Nat := (0, 0)
  /-- Transmit queue in order of acceptance (CAN_CHc_QUEUE.DEPTH); 32 frames; 14 R466; reset empty. -/
  queue    : List TxQ := []
  /-- Transmit buffers 0 to 63; 14 R465; reset empty. -/
  buf      : List (Option TxBuf) := List.replicate 64 none
  /-- Transmission under way; 14 R463; reset none. -/
  tx       : Option CanTx := none
  /-- Start of the transmission under way, site time in ns; 64 bits; 14 R469; reset none. -/
  txAt     : Nat := 0
  /-- Slots of the present basic cycle that have begun; 14 R463; reset empty. -/
  ran      : List Nat := []
  /-- Slot whose frame waits for the first bus-idle instant; 14 R465; reset none. -/
  want     : Option Nat := none
  /-- CAN_CHc_TXCNT; 32 bits, wrapping; 14 R477; reset 0. -/
  txCnt    : Nat := 0
  /-- Frames started, newest first: the model's own record of its outputs; 14 R463; reset empty. -/
  log      : List CanFrame := []
  /-- CAN_CHc_WAKE_ID; 32 bits; 14 R477; reset 0. -/
  wakeId   : Nat := 0
  /-- CAN_CHc_WAKE_MASK; 32 bits; 14 R477; reset 0. -/
  wakeMask : Nat := 0
  /-- CAN_CHc_WAKE_DATA; 64 bits; 14 R477; reset 0. -/
  wakeData : Nat := 0
  /-- CAN_CHc_WAKE_DMASK; 64 bits; 14 R477; reset 0. -/
  wakeDm   : Nat := 0
  /-- Software filters; up to 32; 14 R470; reset empty. -/
  filters  : List CanFilter := []
  deriving DecidableEq, Repr

/-- The CAN block of chapter 14. -/
structure Can where
  /-- Channels 0 to 15; 14 R477; reset as CanCh. -/
  ch : List CanCh := List.replicate 16 {}
  deriving DecidableEq, Repr

end Sys2Proof.Machine
end

