-- ==== Sys2Proof/Machine/Blocks/Comp.lean ====
section
/-!
DEFINITION. The state of chapter 05: the 128 lanes of the compensator engine and the 64 learning memories.
Per-unit values are integers scaled by 2^40 (Q8.40) or 2^24 (Q8.24), coefficients by 2^30 (Q2.30).
-/

namespace Sys2Proof.Machine

/-- CE_Llll_CFG.OUT, coded 0b00 to 0b11 (05 R191). -/
inductive LaneOut where
  | duty | ref | actuator | none
  deriving DecidableEq, Repr

/-- CE_Llll_CFG.REF_KIND, coded 0b000 to 0b100 (05 R191). -/
inductive RefKind where
  | zero | cluster | lane | setpoint | dq
  deriving DecidableEq, Repr

/-- CE_Llll_CFG2.FF_KIND, coded 0b00 to 0b11 (05 R191). -/
inductive FfKind where
  | none | product | ratio | lane
  deriving DecidableEq, Repr

/-- Repetitive controller states, coded 0b00 to 0b11 (05 R182, R191). -/
inductive RcState where
  | off | learn | hold | coast
  deriving DecidableEq, Repr

/-- Following-error actions, coded 0b00 to 0b10 (05 R185). -/
inductive FeAction where
  | flag | derate | safeStop
  deriving DecidableEq, Repr

/-- A coefficient set: b0 to b3, a1 to a3 and the feed-forward gain, Q2.30 (05 R167). -/
structure Coefs where
  /-- b0; 32 bits; 05 R191; reset 0. -/
  b0 : Int := 0
  /-- b1; 32 bits; 05 R191; reset 0. -/
  b1 : Int := 0
  /-- b2; 32 bits; 05 R191; reset 0. -/
  b2 : Int := 0
  /-- b3; 32 bits; 05 R191; reset 0. -/
  b3 : Int := 0
  /-- a1; 32 bits; 05 R191; reset 0. -/
  a1 : Int := 0
  /-- a2; 32 bits; 05 R191; reset 0. -/
  a2 : Int := 0
  /-- a3; 32 bits; 05 R191; reset 0. -/
  a3 : Int := 0
  /-- Feed-forward gain; 32 bits; 05 R191; reset 0. -/
  ff : Int := 0
  deriving DecidableEq, Repr

/-- RO configuration of one lane (05 R191). -/
structure LaneCfg where
  /-- USED; 1 bit; 05 R191; reset 0. -/
  used    : Bool := false
  /-- ORDER: order 3; 1 bit; 05 R191; reset 0. -/
  order3  : Bool := false
  /-- RATE: SLOW; 1 bit; 05 R191; reset 0. -/
  slow    : Bool := false
  /-- CLUSTER; 3 bits; 05 R191; reset 0b000. -/
  cluster : Nat := 0
  /-- OUT; 2 bits; 05 R191; reset 0b11. -/
  out     : LaneOut := .none
  /-- OUT_IDX; 7 bits; 05 R191; reset 0x00. -/
  outIdx  : Nat := 0
  /-- REF_KIND; 3 bits; 05 R191; reset 0b000. -/
  refKind : RefKind := .zero
  /-- REF_LANE; 7 bits; 05 R191; reset 0x00. -/
  refLane : Nat := 0
  /-- FB; 7 bits; 05 R191; reset 0x00. -/
  fb      : Nat := 0
  /-- FF_KIND; 2 bits; 05 R191; reset 0b00. -/
  ffKind  : FfKind := .none
  /-- FF_A; 7 bits; 05 R191; reset 0x00. -/
  ffA     : Nat := 0
  /-- FF_B; 7 bits; 05 R191; reset 0x00. -/
  ffB     : Nat := 0
  /-- AW; 1 bit; 05 R191; reset 1. -/
  aw      : Bool := true
  /-- CAPLINK; 1 bit; 05 R191; reset 0. -/
  caplink : Bool := false
  /-- BASE in mV or mA; 32 bits; 05 R191; reset 0. -/
  base    : Nat := 0
  /-- OBASE in mV or mA; 32 bits; 05 R191; reset 0. -/
  obase   : Nat := 0
  /-- RC_CFG.PRESENT; 1 bit; 05 R191; reset 0. -/
  rc      : Bool := false
  /-- RC_CFG.ZC_SRC; 3 bits; 05 R191; reset 0b000. -/
  zcSrc   : Nat := 0
  /-- RC_CFG.SLOT; 6 bits; 05 R191; reset 0x00. -/
  slot    : Nat := 0
  deriving DecidableEq, Repr

/-- RW registers of one lane (05 R191). -/
structure LaneRw where
  /-- Staged bank, CE_Llll_B0 to A3 and FF; 05 R191; reset 0. -/
  staged  : Coefs := {}
  /-- CLAMP_LO, Q8.24; 32 bits; 05 R191; reset 0. -/
  lo      : Int := 0
  /-- CLAMP_HI, Q8.24; 32 bits; 05 R191; reset 0. -/
  hi      : Int := 0
  /-- SETPT, Q8.24; 32 bits; 05 R191; reset 0. -/
  setpt   : Int := 0
  /-- FE_LIMIT, Q8.24; 32 bits; 05 R191; reset 0x7FFF_FFFF. -/
  feLimit : Int := 0x7FFFFFFF
  /-- FE_CFG.ACTION; 2 bits; 05 R191; reset 0b00. -/
  feAct   : FeAction := .flag
  /-- FE_CFG.DERATE in %; 8 bits; 05 R191; reset 0x32. -/
  feDer   : Nat := 0x32
  /-- FE_CFG.TIME; 16 bits; 05 R191; reset 0xFFFF. -/
  feTime  : Nat := 0xFFFF
  /-- RC_CFG.LEAD; 5 bits; 05 R191; reset 0x00. -/
  lead    : Nat := 0
  /-- RC_CFG.QFILT; 8 bits; 05 R191; reset 0x00. -/
  qfilt   : Nat := 0
  /-- RC_GAIN, Q2.30; 32 bits; 05 R191; reset 0. -/
  gain    : Int := 0
  /-- RC_FORGET, Q2.30; 32 bits; 05 R191; reset 0x4000_0000. -/
  forget_ : Int := 0x40000000
  /-- RC_CLAMP, Q8.24; 32 bits; 05 R191; reset 0. -/
  rcClamp : Int := 0
  deriving DecidableEq, Repr

/-- Running state of one lane (05 R169 to R185). -/
structure LaneRun where
  /-- Active bank, ACT0 to ACT7; 05 R191; reset 0. -/
  act     : Coefs := {}
  /-- State s1, Q8.40; 48 bits; 05 R172; reset 0. -/
  s1      : Int := 0
  /-- State s2, Q8.40; 48 bits; 05 R172; reset 0. -/
  s2      : Int := 0
  /-- State s3, Q8.40; 48 bits; 05 R172; reset 0. -/
  s3      : Int := 0
  /-- Last output u, Q8.40 (CE_Llll_OUT in Q8.24); 48 bits; 05 R172, R191; reset 0. -/
  u       : Int := 0
  /-- Last e, Q8.40 (CE_Llll_ERR in Q8.24); 48 bits; 05 R191; reset 0. -/
  e       : Int := 0
  /-- Output to which the lane is preset in its next execution, Q8.40; 05 R173; reset none. -/
  preset  : Option Int := none
  /-- CE_SWAPi.PENDING, with MODE BUMPLESS or not and the staged bank as the swap was applied; 1 bit; 05 R178, R191; reset 0. -/
  swap    : Option (Bool × Coefs) := none
  /-- HEALTH.SAT; 1 bit; 05 R191; reset 0. -/
  sat     : Bool := false
  /-- ASAT in the present supervisory cycle; 1 bit; 05 R191; reset 0. -/
  asatNow : Bool := false
  /-- HEALTH.ASAT, of the last supervisory cycle; 1 bit; 05 R191; reset 0. -/
  asat    : Bool := false
  /-- Following-error count; 16 bits; 05 R184; reset 0. -/
  feCnt   : Nat := 0
  /-- Following-error count in the supervisory mirror last sent; 16 bits; 05 R184; reset 0. -/
  feMir   : Nat := 0
  /-- A safe-stop action taken since the lane's cluster was last in OFF; 1 bit; 01 R631; reset false. -/
  feStop  : Bool := false
  /-- HEALTH.FE_TAKEN; 2 bits; 05 R191; reset 0b00. -/
  feTaken : Nat := 0
  /-- Derating of R185 in force; 1 bit; 05 R185; reset false. -/
  derated : Bool := false
  /-- HEALTH.HELD; 1 bit; 05 R191; reset 0. -/
  held    : Bool := false
  /-- HEALTH.FF_GUARD; 1 bit; 05 R191; reset 0. -/
  ffGuard : Bool := false
  /-- Preset in the present supervisory cycle; 1 bit; 05 R173; reset 0. -/
  preNow  : Bool := false
  /-- HEALTH.PRESET, of the last supervisory cycle; 1 bit; 05 R191; reset 0. -/
  preLast : Bool := false
  /-- Clamped executions in the present supervisory cycle; 8 bits; 05 R191; reset 0. -/
  satNow  : Nat := 0
  /-- HEALTH.SAT_CNT, of the last supervisory cycle; 8 bits; 05 R191; reset 0. -/
  satCnt  : Nat := 0
  deriving DecidableEq, Repr

/-- Repetitive controller of one lane (05 R179 to R183). -/
structure LaneRc where
  /-- RC_CFG.STATE; 2 bits; 05 R191; reset 0b00 OFF. -/
  st     : RcState := .off
  /-- RC_CFG.REQ; 2 bits; 05 R191; reset 0b00 OFF. -/
  req    : RcState := .off
  /-- Fade factor in 1/200, 0 to 200; 8 bits; 05 R182; reset 0. -/
  fade   : Nat := 0
  /-- Correction before the fade, Q8.24; 32 bits; 05 R181; reset 0. -/
  c      : Int := 0
  /-- Sum of e over the step, Q8.40; 05 R179; reset 0. -/
  eSum   : Int := 0
  /-- Fast cycles in the step; 05 R179; reset 0. -/
  eN     : Nat := 0
  /-- RC_CONTROL CLEAR waits for the next step; 1 bit; 05 R182; reset false. -/
  clear  : Bool := false
  /-- Consecutive crossings with N valid while in COAST; 2 bits; 05 R182; reset 0. -/
  good   : Nat := 0
  deriving DecidableEq, Repr

/-- One lane. -/
structure Lane where
  /-- Configuration; 05 R191; reset as LaneCfg. -/
  cfg : LaneCfg := {}
  /-- RW registers; 05 R191; reset as LaneRw. -/
  rw  : LaneRw := {}
  /-- Running state; 05 R172; reset as LaneRun. -/
  run : LaneRun := {}
  /-- Repetitive controller; 05 R182; reset as LaneRc. -/
  rc  : LaneRc := {}
  deriving DecidableEq, Repr

/-- One learning memory (05 R179 to R181). -/
structure RcMem where
  /-- CE_RCk_STAT.N, 0 when not valid; 9 bits; 05 R191; reset 0x000. -/
  n     : Nat := 0
  /-- CE_RCk_STAT.INDEX; 9 bits; 05 R191; reset 0x000. -/
  index : Nat := 0
  /-- CE_RCk_Mj, Q8.24; 256 entries of 32 bits; 05 R183, R191; reset 0. -/
  mem   : List Int := List.replicate 256 0
  deriving DecidableEq, Repr

/-- CE_EVT (05 R191). -/
structure CeEvt where
  /-- SWAP_REFUSED; 1 bit; 05 R191; reset 0. -/
  swapRef : Bool := false
  /-- RC_COAST; 1 bit; 05 R191; reset 0. -/
  rcCoast : Bool := false
  /-- FE_STOP; 1 bit; 05 R191; reset 0. -/
  feStop  : Bool := false
  /-- FE_DERATE; 1 bit; 05 R191; reset 0. -/
  feDer   : Bool := false
  /-- FE_FLAG; 1 bit; 05 R191; reset 0. -/
  feFlag  : Bool := false
  /-- ASAT; 1 bit; 05 R191; reset 0. -/
  asat    : Bool := false
  deriving DecidableEq, Repr

/-- Compensator engine of chapter 05. -/
structure Ce where
  /-- Lanes 0 to 127; 05 R191; reset as Lane. -/
  lane    : List Lane := List.replicate 128 {}
  /-- Learning memories 0 to 63; 05 R191; reset as RcMem. -/
  rcm     : List RcMem := List.replicate 64 {}
  /-- CE_BUDGET.WORST in clocks; 9 bits; 05 R191; reset 0. -/
  worst   : Nat := 0
  /-- CE_BUDGET.PEAK in clocks; 9 bits; 05 R191; reset 0. -/
  peak    : Nat := 0
  /-- CE_EVT; 05 R191; reset as CeEvt. -/
  evt     : CeEvt := {}
  /-- A following-error safe-stop waits for the next supervisory boundary; 1 bit; 05 R185; reset false. -/
  stopOwed : Bool := false
  /-- Work id of the CE_COEF_SWAP not yet DONE, per lane still to swap; 05 R190; reset empty. -/
  swapWork : List (Nat × Nat) := []
  deriving DecidableEq, Repr

end Sys2Proof.Machine
end

