-- ==== Sys2Proof/Machine/Blocks/Cool.lean ====
section
/-!
DEFINITION. The state of chapter 16: the load-switch channels and quads of the LS die, the cooling sources and
actuators, and the cable models. A default value is the reset value. Times are the model clock in ns.
-/

namespace Sys2Proof.Machine

/-- LSW_CHc_CFG.USE, coded 0b00 to 0b10 (16 R510). -/
inductive LUse where
  | unused | switch | pwm
  deriving DecidableEq, Repr

/-- Commanded state, coded 0b00 to 0b10 (16 R505, R510). -/
inductive LCmd where
  | off | on | pwm
  deriving DecidableEq, Repr

/-- CSTATE, coded 0 to 4 (16 R499). -/
inductive CState where
  | off | blank | on | tripped | latched
  deriving DecidableEq, Repr

/-- CAUSE, coded 0b00 to 0b10 (16 R510). -/
inductive LCause where
  | thermal | short | budget
  deriving DecidableEq, Repr

/-- FAILSAFE, coded 0b00 to 0b10 (16 R498). -/
inductive LSafe where
  | off | on | hold
  deriving DecidableEq, Repr

/-- A load-switch channel (16 R496 to R510). -/
structure LCh where
  /-- USE; 2 bits; 16 R510; reset 0b00. -/
  use      : LUse := .unused
  /-- OL_MODE: 0 OFF, 1 NORMAL, 2 FINE, 3 OFF_STATE; 2 bits; 16 R510; reset 0b00. -/
  olMode   : Nat := 0
  /-- OL_TH; 6 bits; 16 R510; reset 0x00. -/
  olTh     : Nat := 0
  /-- BLANK in ms; 6 bits; 16 R510; reset 0x00. -/
  blank    : Nat := 0
  /-- RETRY_MAX; 4 bits; 16 R510; reset 0x0. -/
  retryMax : Nat := 0
  /-- AUTO_RESTART; 1 bit; 16 R510; reset 0. -/
  auto     : Bool := false
  /-- FAILSAFE; 2 bits; 16 R510; reset 0b00. -/
  failsafe : LSafe := .off
  /-- LSW_CHc_PWM.FREQ in Hz; 16 bits; 16 R510; reset 0x0000. -/
  freq     : Nat := 0
  /-- LSW_CHc_PWM.FS_DUTY in 0.01 %; 16 bits; 16 R510; reset 0x0000. -/
  fsDuty   : Nat := 0
  /-- LSW_CHc_CMD.STATE; 2 bits; 16 R510; reset 0b00. -/
  cmd      : LCmd := .off
  /-- LSW_CHc_CMD.LANE; 1 bit; 16 R510; reset 0. -/
  lane     : Bool := false
  /-- LSW_CHc_CMD.DUTY in 0.01 %; 16 bits; 16 R510; reset 0x0000. -/
  duty     : Nat := 0
  /-- State and duty the LS die last received; 16 R497; reset (OFF, 0). -/
  held     : LCmd × Nat := (.off, 0)
  /-- CSTATE; 3 bits; 16 R510; reset 0b000. -/
  st       : CState := .off
  /-- CAUSE, valid while LATCHED; 2 bits; 16 R510; reset 0b00. -/
  cause    : LCause := .thermal
  /-- LIMIT; 1 bit; 16 R510; reset 0. -/
  limit    : Bool := false
  /-- OPEN_LOAD; 1 bit; 16 R510; reset 0. -/
  open_    : Bool := false
  /-- FAILSAFE state in force; 1 bit; 16 R510; reset 0. -/
  fs       : Bool := false
  /-- Times of the thermal trips of the last 1 s, newest first (RETRIES); 16 R510; reset empty (0x0). -/
  trips    : List Nat := []
  /-- Entry to BLANK; 16 R499; reset 0. -/
  blankAt  : Nat := 0
  /-- LSW_CHc_MEAS.I in mA; 16 bits; 16 R510; reset 0x0000. -/
  i        : Nat := 0
  /-- LSW_CHc_MEAS.TJ in 0.1 °C; 16 bits signed; 16 R510; reset 0x0000. -/
  tj       : Int := 0
  /-- LSW_CHc_CLAMP.E_LAST in 0.1 mJ; 16 bits; 16 R510; reset 0x0000. -/
  eLast    : Nat := 0
  /-- LSW_CHc_CLAMP.OVER40; 16 bits; 16 R510; reset 0x0000. -/
  over40   : Nat := 0
  deriving DecidableEq, Repr

/-- A quad (16 R501, R510). -/
structure LQuad where
  /-- VS in 10 mV; 16 bits; 16 R510; reset 0x0000. -/
  vs    : Nat := 0
  /-- SHEDS; 8 bits; 16 R510; reset 0x00. -/
  sheds : Nat := 0
  deriving DecidableEq, Repr

/-- LSW_EVT (16 R510). -/
structure LEvt where
  /-- LINK_LOSS; 1 bit; 16 R510; reset 0. -/
  linkLoss : Bool := false
  /-- CLAMP_OVER; 1 bit; 16 R510; reset 0. -/
  clamp    : Bool := false
  /-- BUDGET; 1 bit; 16 R510; reset 0. -/
  budget   : Bool := false
  /-- OPEN_LOAD; 1 bit; 16 R510; reset 0. -/
  open_    : Bool := false
  /-- THERMAL; 1 bit; 16 R510; reset 0. -/
  thermal  : Bool := false
  /-- SHED; 1 bit; 16 R510; reset 0. -/
  shed     : Bool := false
  /-- CABLE_DERATE; 1 bit; 16 R510; reset 0. -/
  derate   : Bool := false
  deriving DecidableEq, Repr

/-- A field of a CAN frame or power-line REPORT taken as a cooling source (16 R506). -/
structure SrcCfg where
  /-- Channel of a CAN value, coupler of a power-line value; 16 R506; reset none. -/
  chan   : Nat := 0
  /-- Identifier laid out as R469's ID, or node id; 16 R506; reset none. -/
  id     : Nat := 0
  /-- Byte offset; 16 R506; reset none. -/
  off    : Nat := 0
  /-- Width: 8, 16 or 32 bits; 16 R506; reset none. -/
  width  : Nat := 8
  /-- Signed; 1 bit; 16 R506; reset none. -/
  signed : Bool := false
  /-- Scale; 16 R506; reset none. -/
  scale  : Int := 1
  /-- Offset in scaled units; 16 R506; reset none. -/
  add    : Int := 0
  deriving DecidableEq, Repr

/-- A source (16 R506). -/
structure LSrc where
  /-- Configuration of sources 40 to 87; 16 R506; reset none. -/
  cfg   : Option SrcCfg := none
  /-- LSW_SRCs.VALUE; 32 bits signed; 16 R510; reset 0. -/
  value : Int := 0
  /-- LSW_SRC_VALIDi bit; 1 bit; 16 R510; reset 0. -/
  valid : Bool := false
  /-- Arrival of its latest frame; 16 R506; reset none. -/
  at_   : Option Nat := none
  deriving DecidableEq, Repr

/-- LSW_ACTa.KIND with what a CAN set-point needs (16 R507). -/
inductive ActKind where
  | none_ | duty | can (chan buffer off width : Nat)
  deriving DecidableEq, Repr

/-- An actuator (16 R507, R510). -/
structure LAct where
  /-- KIND; 2 bits; 16 R510; reset 0b00. -/
  kind : ActKind := .none_
  /-- Value in force as a fraction of full scale, in 1/2^40 (OUT in 0.01 %); 16 R507; reset 0. -/
  out  : Int := 0
  deriving DecidableEq, Repr

/-- A region's cable model (16 R508, R510). -/
structure Cable where
  /-- A model is configured; 1 bit; 16 R509; reset false. -/
  on      : Bool := false
  /-- I_RATED in 100 mA; 16 bits; 16 R510; reset 0x0000. -/
  iRated  : Nat := 0
  /-- R_CABLE in µΩ; 16 bits; 16 R510; reset 0x0000. -/
  rCable  : Nat := 0
  /-- R_TH in mK/W; 16 bits; 16 R510; reset 0x0000. -/
  rTh     : Nat := 0
  /-- T_MAX in 0.1 °C; 16 bits signed; 16 R510; reset 0x0000. -/
  tMax    : Int := 0
  /-- T_DERATE in 0.1 °C; 16 bits signed; 16 R510; reset 0x0000. -/
  tDerate : Int := 0
  /-- TAU in s; 16 bits; 16 R510; reset 0x0000. -/
  tau     : Nat := 0
  /-- FAIL_PCT; 8 bits; 16 R510; reset 0x00. -/
  failPct : Nat := 0
  /-- Coolant source; 7 bits; 16 R508; reset none. -/
  coolSrc : Option Nat := none
  /-- Connector sources; up to four; 16 R508; reset empty. -/
  connSrc : List Nat := []
  /-- Pump channels; 16 R508; reset empty. -/
  pumps   : List Nat := []
  /-- dt_cab in m°C, kept exactly; 16 R508; reset 0. -/
  dtCab   : Rat := 0
  /-- T_EST in m°C, none with both inputs invalid; 16 R508; reset none (0x0000). -/
  tEst    : Option Rat := none
  /-- T_COOL in m°C at the last update; 16 R510; reset 0x0000. -/
  tCool   : Int := 0
  /-- i_th in mA, none before the first update or with no model; 16 R508; reset none (0x0000). -/
  iTh     : Option Rat := none
  deriving DecidableEq, Repr

/-- The LSW block of chapter 16. -/
structure Lsw where
  /-- Channels 0 to 23; 16 R510; reset as LCh. -/
  ch   : List LCh := List.replicate 24 {}
  /-- Quads 0 to 5; 16 R510; reset as LQuad. -/
  quad : List LQuad := List.replicate 6 {}
  /-- LSW_EVT; 16 R510; reset as LEvt. -/
  evt  : LEvt := {}
  /-- Arrival of the LS die's latest command frame since it left reset; 16 R498; reset none. -/
  cmdAt : Option Nat := none
  /-- LS die out of reset; 1 bit; 02 R78; reset false. -/
  up   : Bool := false
  /-- Sources 0 to 127; 16 R510; reset as LSrc. -/
  src  : List LSrc := List.replicate 128 {}
  /-- Actuators 0 to 31; 16 R510; reset as LAct. -/
  act  : List LAct := List.replicate 32 {}
  /-- Cable models of regions 0 to 3; 16 R510; reset as Cable. -/
  rg   : List Cable := List.replicate 4 {}
  deriving DecidableEq, Repr

end Sys2Proof.Machine
end

