-- ==== Sys2Proof/Machine/Blocks/Duo.lean ====
section
/-!
DEFINITION. The state of chapter 11: the arbiter, the two Stitch dies, mirrors and Sampler reports, and the Ground
die's safe-stop sequencer. A default value is the reset value.
-/

namespace Sys2Proof.Machine

/-- Arbiter states, coded 0x0 to 0x4 (11 R382). -/
inductive ArbState where
  | init | dual | sync | solo | none
  deriving DecidableEq, Repr

/-- Die states, coded 0x0 to 0x5 (11 R352). -/
inductive DieState where
  | held | testing | candidate | standby | active | failed
  deriving DecidableEq, Repr

/-- Criteria of failure, coded 0x1 to 0x6 with PLANNED and SAMPLER (11 R382). -/
inductive Crit where
  | heartbeat | lockstep | memory | self | planned | sampler
  deriving DecidableEq, Repr

/-- Verdicts of a Sampler report, coded 0x0 to 0x4 (11 R368). -/
inductive Verdict where
  | pass | failTest | failMismatch | staleMirror | coverage
  deriving DecidableEq, Repr

/-- A Sampler report (11 R368). -/
structure Sampler where
  /-- VERDICT; 8 bits; 11 R368; reset none. -/
  verdict  : Verdict := .coverage
  /-- DIE; 8 bits; 11 R368; reset none. -/
  die      : Die := .a
  /-- SEQ; 32 bits; 11 R368; reset none. -/
  seq      : Nat := 0
  /-- TIME in ns; 64 bits; 11 R368; reset none. -/
  time     : Nat := 0
  /-- MARCH_BANKS; 32 bits; 11 R368; reset none. -/
  banks    : Nat := 0
  /-- MARCH_ROUNDS; 32 bits; 11 R368; reset none. -/
  rounds   : Nat := 0
  /-- LANE_SETS; 32 bits; 11 R368; reset none. -/
  sets     : Nat := 0
  /-- LOOP_EDGES; 32 bits; 11 R368; reset none. -/
  edges    : Nat := 0
  /-- LAST_FAIL; 16 bits; 11 R368; reset none. -/
  lastFail : Nat := 0
  /-- LAST_FAIL_TIME; 64 bits; 11 R368; reset none. -/
  failTime : Nat := 0
  /-- MISMATCH; 32 bits; 11 R368; reset none. -/
  mismatch : Nat := 0
  /-- MISMATCH_RUN; 16 bits; 11 R368; reset none. -/
  run      : Nat := 0
  /-- FAST_LOST; 16 bits; 11 R368; reset none. -/
  fastLost : Nat := 0
  /-- AGE_FAST in 100 ns; 32 bits; 11 R368; reset none. -/
  ageFast  : Nat := 0
  /-- AGE_SUP in µs; 16 bits; 11 R368; reset none. -/
  ageSup   : Nat := 0
  /-- SUP_LOST; 16 bits; 11 R368; reset none. -/
  supLost  : Nat := 0
  deriving DecidableEq, Repr

/-- What a non-active die's shadow has found (11 R362 to R369). -/
structure Shadow where
  /-- MISMATCH since the die's reset; 32 bits; 11 R368; reset 0. -/
  mismatch : Nat := 0
  /-- MISMATCH_RUN; 16 bits; 11 R367; reset 0. -/
  run      : Nat := 0
  /-- Full synchronisation complete; 1 bit; 11 R363; reset false. -/
  synced   : Bool := false
  /-- Reports since the die's reset; 32 bits; 11 R368; reset 0. -/
  seq      : Nat := 0
  /-- Per cluster, consecutive good fast mirror frames, up to 2; 11 R358, R365; reset 0. -/
  good     : List Nat := List.replicate 8 0
  /-- Model clock of the last complete supervisory mirror, in ns; 11 R362; reset 0. -/
  supAt    : Nat := 0
  /-- Fast mirror frames lost since the last report; 16 bits; 11 R368; reset 0. -/
  fastLost : Nat := 0
  /-- Supervisory mirror frames lost since the last report; 16 bits; 11 R368; reset 0. -/
  supLost  : Nat := 0
  /-- Per cluster, model clock of the last good fast mirror frame, in ns; 11 R362; reset 0. -/
  goodAt   : List Nat := List.replicate 8 0
  /-- MARCH_BANKS; 32 bits; 11 R368; reset 0. -/
  banks    : Nat := 0
  /-- LANE_SETS; 32 bits; 11 R368; reset 0. -/
  sets     : Nat := 0
  /-- LOOP_EDGES; 32 bits; 11 R368; reset 0. -/
  edges    : Nat := 0
  /-- Ports of which a loopback edge has been compared since the die's reset; 11 R369; reset empty. -/
  looped   : List Nat := []
  /-- Test or criterion that failed last since the die's reset (LAST_FAIL); 16 bits; 11 R368; reset 0. -/
  lastFail : Nat := 0
  /-- Its time in ns (LAST_FAIL_TIME); 64 bits; 11 R368; reset 0. -/
  failTime : Nat := 0
  deriving DecidableEq, Repr

/-- One Stitch die as the arbiter sees it (11 R352 to R376). -/
structure DieRec where
  /-- DUO_STAT.DIE_A or DIE_B; 4 bits; 11 R382; reset 0x0 HELD. -/
  st       : DieState := .held
  /-- Newest Sampler report, with the model clock of its publication (DUO_SAMPLERd); 16 × 32 bits; 11 R382; reset none (0x0000_0000). -/
  report   : Option (Sampler × Nat) := none
  /-- Model clock of the first PASS report of the present soak, in ns; 11 R374; reset none. -/
  soakFrom : Option Nat := none
  /-- SOAK is applied before STANDBY; 1 bit; 11 R353, R373; reset true. -/
  soak     : Bool := true
  /-- Model clock at which the die became FAILED, in ns; 11 R376; reset none. -/
  failedAt : Option Nat := none
  /-- Start times of automatic readmissions, time counter in ns, newest first, in the always-on domain; 11 R376; reset DESIGN CHOICE empty (log 11): kept. -/
  readmits : List Nat := []
  /-- Newest LANE_CRC heard per cluster with its slot; 11 R358; reset none. -/
  crc      : List (Option (Nat × Nat)) := List.replicate 8 none
  /-- Slot count of the newest heartbeat of each source: clusters 0 to 7, then idle; 16 bits; 11 R355; reset none. -/
  slots    : List (Option Nat) := List.replicate 9 none
  /-- DUO_HB_MISS of the die; 16 bits; 11 R382; reset 0x0000. -/
  hbMiss   : Nat := 0
  /-- Shadow state; 11 R362; reset as Shadow. -/
  shadow   : Shadow := {}
  /-- LAST_FAIL from before the die's reset; 16 bits; 11 R368; reset 0. -/
  lastFail : Nat := 0
  /-- LAST_FAIL_TIME from before the die's reset, in ns; 64 bits; 11 R368; reset 0. -/
  failTime : Nat := 0
  /-- Firmware slot and version the die booted from; 11 R375; reset none. -/
  fw       : Option (Nat × Nat) := none
  deriving DecidableEq, Repr

/-- DUO_EVT (11 R382). -/
structure DuoEvt where
  /-- SAFE_STOP; 1 bit; 11 R382; reset 0. -/
  safeStop   : Bool := false
  /-- NONE; 1 bit; 11 R382; reset 0. -/
  none_      : Bool := false
  /-- READMITTED; 1 bit; 11 R382; reset 0. -/
  readmitted : Bool := false
  /-- STBY_RESET; 1 bit; 11 R382; reset 0. -/
  stbyReset  : Bool := false
  /-- MISMATCH; 1 bit; 11 R382; reset 0. -/
  mismatch   : Bool := false
  /-- MIRROR_LOSS; 1 bit; 11 R382; reset 0. -/
  mirrorLoss : Bool := false
  /-- PLANNED; 1 bit; 11 R382; reset 0. -/
  planned    : Bool := false
  /-- SWITCH; 1 bit; 11 R382; reset 0. -/
  switch     : Bool := false
  deriving DecidableEq, Repr

/-- One static-port entry of the safe-stop record (11 R380). -/
structure SsPort where
  /-- Port; 8 bits; 11 R380; reset 0xFF. -/
  port   : Nat := 0xFF
  /-- FORCED; 1 bit; 11 R380; reset none. -/
  forced : Bool := false
  /-- Current at opening in 100 mA, signed; 16 bits; 11 R380; reset none. -/
  amps   : Int := 0
  /-- Opening time after the trigger in µs; 32 bits; 11 R380; reset none. -/
  us     : Nat := 0
  deriving DecidableEq, Repr

/-- The safe-stop sequencer and its record (11 R377 to R380). -/
structure SafeStop where
  /-- DUO_SS_STAT.LATCHED; 1 bit; 11 R382; reset 0. -/
  latched : Bool := false
  /-- DUO_SS_STAT.RUNNING; 1 bit; 11 R382; reset 0. -/
  running : Bool := false
  /-- FIRST; 3 bits; 11 R382; reset 0b000. -/
  first   : Nat := 0
  /-- MASK; 5 bits; 11 R382; reset 0. -/
  mask    : Nat := 0
  /-- DUO_SS_TIME, trigger time, site time in ns; 64 bits; 11 R382; reset 0. -/
  time    : Nat := 0
  /-- Model clock of the trigger, in ns; 11 R378; reset 0. -/
  clk     : Nat := 0
  /-- Owner entered in the record; 11 R380; reset none. -/
  owner   : Option Die := none
  /-- ENABLE levels of ports 0 to 95 at the trigger; 96 bits; 11 R380; reset empty. -/
  enables : List Bool := []
  /-- Time at which the last switching ENABLE went low, in ns; 64 bits; 11 R380; reset 0. -/
  lastLow : Nat := 0
  /-- Static-port entries, in order of opening; 11 R380; reset empty. -/
  ports   : List SsPort := []
  /-- Static ports still on; 11 R378; reset empty. -/
  left_   : List Nat := []
  /-- The last 1,024 samples of each fast channel before the trigger; 196,608 bytes; 11 R380; reset empty. -/
  fast    : List Byte := []
  /-- DUO_SS_REC holds the record's address; 1 bit; 11 R382; reset false (0). -/
  rec_    : Bool := false
  /-- Consecutive samples of each AC meter with every phase current below 5 A, times 62.5 µs, in ns; 11 R378; reset 0. -/
  acLow   : List Nat := [0, 0]
  /-- Causes of the entry to SAFE_STOP while they are only the warn crossing, T_STOP or both, in that order; 19 R576; reset none. -/
  own     : Option (Bool × Bool) := none
  deriving DecidableEq, Repr

/-- Redundancy of chapter 11. -/
structure Duo where
  /-- DUO_STAT.ARB; 4 bits; 11 R382; reset 0x0 INIT. -/
  arb      : ArbState := .init
  /-- DUO_STAT.HOOP, code driven; 2 bits; 11 R382; reset 0b00 none. -/
  hoop     : Option Die := none
  /-- Stitch A; 11 R352; reset as DieRec. -/
  a        : DieRec := {}
  /-- Stitch B; 11 R352; reset as DieRec. -/
  b        : DieRec := {}
  /-- DUO_STAT.SWITCHES; 16 bits; 11 R382; reset 0x0000. -/
  switches : Nat := 0
  /-- Takeovers of Hoop since the package reset: the model's own count; 06 R201 FAILOVER; reset DESIGN CHOICE 0 (log 1). -/
  turns : Nat := 0
  /-- DUO_CFG.AUTO; 1 bit; 11 R382; reset 1. -/
  auto     : Bool := true
  /-- DUO_CFG.MAX_READMIT; 4 bits; 11 R382; reset 0x3. -/
  maxReadmit : Nat := 3
  /-- DUO_CFG.SOAK in ms; 16 bits; 11 R382; reset 0x03E8. -/
  soak     : Nat := 0x3E8
  /-- DUO_EVT; 11 R382; reset as DuoEvt. -/
  evt      : DuoEvt := {}
  /-- DUO_LAST (VALID is its presence): die, criterion, slot source; 32 bits; 11 R382; reset VALID 0. -/
  last     : Option (Die × Crit × Nat) := none
  /-- DUO_LAST_TIME in ns; 64 bits; 11 R382; reset 0. -/
  lastTime : Nat := 0
  /-- DUO_STBY_WRITE_DROPS; 32 bits; 11 R382; reset 0. -/
  drops    : Nat := 0
  /-- DUO_MIRROR.FAST_LOST; 16 bits; 11 R382; reset 0x0000. -/
  fastLost : Nat := 0
  /-- DUO_MIRROR.SUP_LOST; 8 bits; 11 R382; reset 0x00. -/
  supLost  : Nat := 0
  /-- DUO_CRC_DIFF; 32 bits; 11 R382; reset 0. -/
  crcDiff  : Nat := 0
  /-- Work ids of DUO_SWITCHes waiting for their slot, oldest first; 11 R373; reset empty. -/
  swWork   : List Nat := []
  /-- Work id and die of a DUO_READMIT waiting for DUAL; 11 R381; reset none. -/
  rdWork   : Option (Nat × Die) := none
  /-- A switchover has happened and the new active die has not run its first supervisory cycle; 1 bit; 11 R372; reset false. -/
  swDue    : Bool := false
  /-- Mirror frames sent by the active die (fast, supervisory): the model's own count of its outputs; 11 R359, R360; reset 0. -/
  mirrors  : Nat × Nat := (0, 0)
  /-- Newest supervisory mirror that the standby has acknowledged, by its count; 14 R456; reset 0. -/
  supAck   : Nat := 0
  /-- Safe-stop sequencer; 11 R382; reset as SafeStop. -/
  ss       : SafeStop := {}
  deriving DecidableEq, Repr

end Sys2Proof.Machine
end

