-- ==== Sys2Proof/Machine/Blocks/Power.lean ====
section
/-!
DEFINITION. The state of chapter 04: cluster and port configuration, cluster state machines, carriers, phases,
region limits and captures. A default value is the reset value. Voltages are in 10 mV, currents in mA or 100 mA,
times of a cluster in fine ticks of 78.125 ps, as each field says.
-/

namespace Sys2Proof.Machine

/-- PWR_CLn_CFG.TYPE, coded 0b00 to 0b10 (04 R161). -/
inductive ClType where
  | unused | afe | dcdc
  deriving DecidableEq, Repr

/-- Cluster states (04 R142). -/
inductive ClState where
  | off | prebias | match_ | ramp | regulate | rampDown | faulted
  deriving DecidableEq, Repr

/-- Phase states, coded 0b00 to 0b11 (04 R150 to R152). -/
inductive PhaseSt where
  | active | shedding | shed | returning
  deriving DecidableEq, Repr

/-- Use of a port, coded 0b00 to 0b10 (07 R229). -/
inductive PortUse where
  | unused | switching | static_
  deriving DecidableEq, Repr

/-- Function of a static port (07 R230, 01 example 1.3). -/
inductive StaticFn where
  | none | isolator | precharge | bypass
  deriving DecidableEq, Repr

/-- Quantity a fast channel measures (04 R137). -/
inductive ChanUse where
  | none
  | phaseI (port : Nat)
  | vOut (cluster : Nat)
  | iOut (cluster : Nat)
  | vLink (link : Nat)
  | vOutlet (region : Nat)
  deriving DecidableEq, Repr

/-- One fast channel of the configuration image (04 R137). -/
structure ChanCfg where
  /-- Quantity and what it belongs to; 04 R137; reset none. -/
  use_  : ChanUse := .none
  /-- Offset removed from a raw sample, in ADC counts; 04 R138; reset 0. -/
  offset : Int := 0
  /-- Gain in 2^−16 mV or mA per ADC count; 04 R138; reset 0. -/
  gain  : Int := 0
  /-- Calibrated full scale, in the channel's mV or mA; 05 R170; reset 0. -/
  full  : Nat := 0
  /-- Per-sample upper limit, absolute, in mV or mA, none where the image sets none; 04 R138; reset none. -/
  limit : Option Nat := .none
  deriving DecidableEq, Repr

/-- Configuration of one cluster (04 R120). -/
structure ClusterCfg where
  /-- TYPE; 2 bits; 04 R161; reset 0b00 unused. -/
  type    : ClType := .unused
  /-- CARRIER: centred; 2 bits; 04 R161; reset 0b00 trailing-edge. -/
  centred : Bool := false
  /-- FC_DIV; 3 bits; 04 R161; reset 0b000. -/
  fcDiv   : Nat := 0
  /-- PERIOD in fine ticks; 20 bits; 04 R161; reset 0. -/
  period  : Nat := 0
  /-- SRC: SYNC_IN; 2 bits; 04 R161; reset 0b00 TIME. -/
  syncIn  : Bool := false
  /-- SYNC_IN period in whole carrier periods, 1 to 16; 04 R121; reset 1. -/
  syncMul : Nat := 1
  /-- SAMPLE_POINT in 1/1,024 period; 10 bits; 04 R161; reset 0x000. -/
  samplePt : Nat := 0
  /-- DMIN in fine ticks; 20 bits; 04 R161; reset 0. -/
  dmin    : Nat := 0
  /-- DMAX in fine ticks; 20 bits; 04 R161; reset 0. -/
  dmax    : Nat := 0
  /-- I_PH, phase rated current in 100 mA; 16 bits; 04 R161; reset 0. -/
  iPh     : Nat := 0
  /-- V_RATED in 10 mV; 32 bits; 04 R161; reset 0. -/
  vRated  : Nat := 0
  /-- PRECHG_ILIM in 100 mA; 16 bits; 04 R161; reset 0. -/
  prechg  : Nat := 0
  /-- ISO_SETTLE in ms; 8 bits; 04 R161; reset 0. -/
  isoSettle : Nat := 0
  /-- Shed order: port numbers (ORDER0 to ORDER5); 24 entries of 8 bits; 04 R161; reset 0xFFFF_FFFF (empty). -/
  order   : List Nat := []
  /-- DC-link set-point of an AFE cluster in 10 mV; 32 bits; 04 R146; reset 0. -/
  setpoint : Nat := 0
  /-- Region of a DC/DC cluster; 2 bits; 01 R48; reset 0. -/
  region  : Nat := 0
  /-- DC link the cluster draws on (DC/DC) or feeds (AFE); 3 bits; 01 R48; reset 0. -/
  link    : Nat := 0
  /-- AC meter that measures an AFE cluster's supply, 0 or 1; 1 bit; 04 R143; reset 0. -/
  acMeter : Nat := 0
  deriving DecidableEq, Repr

/-- The cluster's RW parameters, loaded from the image and changed thereafter as written (04 R161). -/
structure ClusterRw where
  /-- PWR_CLn_SYNC.OFFSET in 1/1,024 period; 10 bits; 04 R161; reset 0x000. -/
  offset   : Nat := 0
  /-- PWR_CLn_RAMP.RATE in V/ms; 9 bits; 04 R161; reset 0x064. -/
  rate     : Nat := 100
  /-- PWR_CLn_SHED.EN; 1 bit; 04 R161; reset 0. -/
  shedEn   : Bool := false
  /-- MIN_PHASES; 5 bits; 04 R161; reset 0x01. -/
  minPh    : Nat := 1
  /-- ADD_LEVEL in %; 8 bits; 04 R161; reset 0x46. -/
  addLvl   : Nat := 0x46
  /-- SHED_LEVEL in %; 8 bits; 04 R161; reset 0x32. -/
  shedLvl  : Nat := 0x32
  /-- HOLD in ms; 16 bits; 04 R161; reset 0x01F4. -/
  hold     : Nat := 0x1F4
  /-- DWELL in ms; 16 bits; 04 R161; reset 0x0064. -/
  dwell    : Nat := 0x64
  /-- PWR_CLn_BAL.EN; 1 bit; 04 R161; reset 1. -/
  balEn    : Bool := true
  /-- KB in 2^−16; 16 bits; 04 R161; reset 0x0100. -/
  kb       : Nat := 0x100
  deriving DecidableEq, Repr

/-- PWR_CLn_EVT (04 R161). -/
structure ClEvt where
  /-- OVERRUN; 1 bit; 04 R139; reset 0. -/
  overrun  : Bool := false
  /-- REVBLOCK; 1 bit; 04 R144; reset 0. -/
  revblock : Bool := false
  /-- TRIM_SAT; 1 bit; 04 R141; reset 0. -/
  trimSat  : Bool := false
  /-- SYNC_FALLBACK; 1 bit; 04 R131; reset 0. -/
  syncFb   : Bool := false
  /-- PREBIAS_FAIL; 1 bit; 04 R145; reset 0. -/
  preFail  : Bool := false
  /-- LOADSTEP; 1 bit; 04 R153; reset 0. -/
  loadstep : Bool := false
  /-- SHED_STEP; 1 bit; 04 R161; reset 0. -/
  shedStep : Bool := false
  deriving DecidableEq, Repr

/-- Start-up and supervision state of one cluster (04 R142 to R148). -/
structure ClusterRun where
  /-- PWR_CLn_STATE.STATE; 4 bits; 04 R161; reset 0x0 OFF. -/
  st       : ClState := .off
  /-- PWR_CLn_STATE.CAUSE; 8 bits; 04 R161; reset 0x00. -/
  cause    : Nat := 0
  /-- PWR_CLn_STATE.COLD; 1 bit; 04 R161; reset 0. -/
  cold     : Bool := false
  /-- Fine ticks spent in the present state, counted at fast cycles; 04 R142; reset 0. -/
  ticks    : Nat := 0
  /-- Model clock of entry to the present state, in ns; 04 R142; reset 0. -/
  since    : Nat := 0
  /-- START is on its way to the cluster; 1 bit; 04 R142; reset false. -/
  startPend : Bool := false
  /-- STOP is on its way to the cluster; 1 bit; 04 R142; reset false. -/
  stopPend : Bool := false
  /-- PREBIAS: measuring V_pre (false: waiting); 1 bit; 04 R142; reset false. -/
  measuring : Bool := false
  /-- Output-voltage samples of the measurement, newest first, in mV; 8 values; 04 R143; reset empty. -/
  meas     : List Int := []
  /-- PWR_CLn_VPRE in 10 mV; 32 bits; 04 R161; reset 0. -/
  vpre     : Nat := 0
  /-- PWR_CLn_DROOP in 0.01 %; 16 bits; 04 R161; reset 0. -/
  droop    : Nat := 0
  /-- Droop of R145 is watched; 1 bit; 04 R145; reset false. -/
  watch    : Bool := false
  /-- Reverse-current block of the start in force; 1 bit; 04 R144; reset false. -/
  revStart : Bool := false
  /-- Fine ticks since the first enable of the start; 04 R144; reset 0. -/
  enTicks  : Nat := 0
  /-- Reference at the start, in 1/8 nV; 04 R144; reset 0. -/
  refStart : Int := 0
  /-- PWR_CLn_TARGET in 10 mV; 32 bits; 04 R161; reset 0. -/
  target   : Nat := 0
  /-- Rate of the command in force, in V/ms; 9 bits; 04 R146; reset 500 (no narrower than RATE). -/
  cmdRate  : Nat := 500
  /-- Reference in 1/8 nV (8 × 10^7 to 10 mV; PWR_CLn_REF in 10 mV); 04 R146, R161; reset 0. -/
  ref      : Int := 0
  /-- Fine ticks for which the match condition has held, none while it does not hold; 04 R142; reset none. -/
  matchTk  : Option Nat := none
  /-- Match has held for 1 ms: the isolator closes at the next boundary; 1 bit; 04 R147; reset false. -/
  isoPend  : Bool := false
  /-- Isolator of the cluster's outlet closed; 1 bit; 04 R142; reset false. -/
  isoOn    : Bool := false
  /-- Model clock at which ISO_SETTLE elapses, in ns; 04 R142; reset none. -/
  settle   : Option Nat := none
  /-- Current clamp in µA: the cluster's share of the cap, or the ramp-down's clamp; 04 R148, R157; reset 0. -/
  clamp    : Nat := 0
  /-- Current clamp at the start of the ramp-down in µA; 04 R148; reset 0. -/
  clamp0   : Nat := 0
  /-- Ramp-down: the output current has fallen below 5 A; 1 bit; 04 R148; reset false. -/
  below5   : Bool := false
  deriving DecidableEq, Repr

/-- Measurements, carrier and shedding state of one cluster (04 R124 to R155). -/
structure ClusterDyn where
  /-- PWR_CLn_SYNC.LOCKED; 1 bit; 04 R161; reset 0. -/
  locked   : Bool := false
  /-- PWR_CLn_SYNC.SRC_ACTIVE: aligned to SYNC_IN; 1 bit; 04 R161; reset 0. -/
  srcSync  : Bool := false
  /-- Consecutive accepted SYNC_IN edges, 0 to 8; 4 bits; 04 R131; reset 0. -/
  edges    : Nat := 0
  /-- Model time of the previous accepted SYNC_IN edge, in ticks; 04 R131; reset none. -/
  lastEdge : Option Nat := none
  /-- Carrier starts of the position-0 port, 0 to 7, for FC_DIV; 3 bits; 04 R136; reset 0. -/
  fcCount  : Nat := 0
  /-- The position-0 port's carrier has reached the point of a fast cycle that has not run; 1 bit; 04 R136; reset false. -/
  fcDue    : Bool := false
  /-- Sample instant S of the last fast cycle, in fine ticks of the time counter; 04 R136; reset 0. -/
  sAt      : Nat := 0
  /-- Grid angle of an AFE cluster at S, in 2^−32 turns; 05 R165; reset 0. -/
  theta    : Nat := 0
  /-- PWR_CLn_SYNC.OFFSET as written, waiting for the boundary; 10 bits; 04 R132; reset none. -/
  offPend  : Option Nat := none
  /-- Output or DC-link voltage of the last fast cycle in mV (PWR_CLn_VOUT in 10 mV); 04 R161; reset 0. -/
  vout     : Int := 0
  /-- DC-link voltage feeding a DC/DC cluster in mV; 04 R143; reset 0. -/
  vin      : Int := 0
  /-- Outlet voltage in mV; 04 R142; reset 0. -/
  voutlet  : Int := 0
  /-- Load of R149 in the last fast cycle in mA (PWR_CLn_IOUT in 100 mA); 04 R161; reset 0. -/
  load     : Int := 0
  /-- Loads of the preceding 64 fast cycles, newest first, in mA; 04 R153; reset empty. -/
  loads    : List Int := []
  /-- Sum of loads over the supervisory cycle in mA; 04 R149; reset 0. -/
  loadSum  : Int := 0
  /-- Fast cycles in the supervisory cycle; 04 R149; reset 0. -/
  loadN    : Nat := 0
  /-- Boundaries for which the load has been below the shed level at the present count of ACTIVE phases; 16 bits; 04 R150;
  reset 0. -/
  dwellN   : Nat := 0
  /-- Count of ACTIVE phases that dwellN is of; 5 bits; 04 R150; reset 0. -/
  dwellOf  : Nat := 0
  /-- PWR_CLn_STATE.FROZEN; 1 bit; 04 R161; reset 0. -/
  frozen   : Bool := false
  /-- Model clock at which HOLD ends, in ns; 04 R154; reset none. -/
  holdEnd  : Option Nat := none
  /-- PWR_CLn_EVT; 04 R161; reset as ClEvt. -/
  evt      : ClEvt := {}
  /-- A configuration has been accepted for the cluster in the present boot; 1 bit; 02 R79; reset false. -/
  cfgBoot  : Bool := false
  deriving DecidableEq, Repr

/-- One cluster. -/
structure Cluster where
  /-- Configuration; 04 R120; reset as ClusterCfg. -/
  cfg : ClusterCfg := {}
  /-- RW parameters; 04 R161; reset as ClusterRw. -/
  rw  : ClusterRw := {}
  /-- State machine; 04 R142; reset as ClusterRun. -/
  run : ClusterRun := {}
  /-- Measurements and shedding; 04 R149; reset as ClusterDyn. -/
  dyn : ClusterDyn := {}
  deriving DecidableEq, Repr

/-- Configuration of one port (04 R120, R161; 07 R229). -/
structure PortCfg where
  /-- PWR_Pp_CFG.USE, the mode in force; 2 bits; 04 R161; reset 0b00 unused. -/
  use_   : PortUse := .unused
  /-- Function of a static port; 07 R230; reset none. -/
  fn     : StaticFn := .none
  /-- PWR_Pp_CFG.GROUP, AFE group 0 to 2, 3 for others; 2 bits; 04 R161; reset 0b11. -/
  group  : Nat := 3
  /-- PWR_Pp_CFG.OFFSET, effective carrier offset in fine ticks; 20 bits; 04 R161; reset 0. -/
  offset : Nat := 0
  deriving DecidableEq, Repr

/-- Running state of one port in the Stitch dies (04 R124, R125, R140 to R155). -/
structure PortRun where
  /-- PWR_Pp_HEALTH.ENABLE, ENABLE requested by the active die; 1 bit; 04 R161; reset 0. -/
  en      : Bool := false
  /-- PWR_Pp_HEALTH.PHASE_ST; 2 bits; 04 R161; reset 0b00 ACTIVE. -/
  st      : PhaseSt := .active
  /-- ENABLE change waiting for the carrier start: to high or low; 04 R151, R152; reset none. -/
  enPend  : Option Bool := none
  /-- Carrier periods since SHEDDING or RETURNING began; 6 bits; 04 R151, R152; reset 0. -/
  periods : Nat := 0
  /-- Current has fallen below 2 % of I_PH while SHEDDING; 1 bit; 04 R151; reset false. -/
  lowI    : Bool := false
  /-- PWR_Pp_DUTY, duty last written, trim included; 20 bits; 04 R161; reset 0. -/
  duty    : Nat := 0
  /-- Untrimmed duty of the last fast cycle; 20 bits; 04 R152; reset 0. -/
  raw     : Nat := 0
  /-- Shadow duty not yet in force; 20 bits; 04 R125; reset none. -/
  shadow  : Option Nat := none
  /-- Instant from which the 1,200 ns of the shadow duty count, in fine ticks of the time counter; 04 R138; reset 0. -/
  shadowAt : Nat := 0
  /-- Instant from which the 1,200 ns of the waiting ENABLE change count, in fine ticks; 04 R143, R152; reset 0. -/
  enAt    : Nat := 0
  /-- Duty in force, none until the port's first duty; 20 bits; 04 R125, 07 R225; reset none. -/
  inForce : Option Nat := none
  /-- PWR_Pp_TRIM in 2^−16 fine tick; 32 bits; 04 R161; reset 0. -/
  trim    : Int := 0
  /-- PWR_Pp_HEALTH.TRIM_SAT; 1 bit; 04 R161; reset 0. -/
  trimSat : Bool := false
  /-- Phase current of the last fast cycle in mA (PWR_Pp_I in 100 mA); 04 R161; reset 0. -/
  i       : Int := 0
  /-- Periods left of the reverse-current block after a return; 3 bits; 04 R144; reset 0. -/
  revLeft : Nat := 0
  /-- ENABLE taken low by the reverse-current block for the rest of the period; 1 bit; 04 R144; reset false. -/
  revOff  : Bool := false
  /-- The block acted in the present supervisory cycle; 1 bit; 04 R161; reset false. -/
  revNow  : Bool := false
  /-- PWR_Pp_HEALTH.REVBLOCK, acted in the last supervisory cycle; 1 bit; 04 R161; reset 0. -/
  revLast : Bool := false
  /-- Shift of the carrier still to be made, in fine ticks, positive by lengthening; 04 R130; reset 0. -/
  shift   : Int := 0
  deriving DecidableEq, Repr

/-- One port. -/
structure Port where
  /-- Configuration; 04 R161; reset as PortCfg. -/
  cfg : PortCfg := {}
  /-- Running state; 04 R161; reset as PortRun. -/
  run : PortRun := {}
  deriving DecidableEq, Repr

/-- Limits of one region (04 R156 to R158). -/
structure Region where
  /-- PWR_RGr_CAP in kW, none for 0xFFFF_FFFF; 32 bits; 04 R161; reset 0xFFFF_FFFF. -/
  cap   : Option Nat := none
  /-- PWR_RGr_ICAP in 100 mA; 32 bits; 04 R161; reset 0. -/
  icap  : Nat := 0
  /-- PWR_RGr_DERATE.BIND; 6 bits; 04 R161; reset 0. -/
  bind  : Nat := 0
  /-- PWR_RGr_POUT in W, signed; 32 bits; 04 R161; reset 0. -/
  pout  : Int := 0
  /-- The region was held below its request at the latest boundary; 1 bit; 02 R65; reset false. -/
  held  : Bool := false
  deriving DecidableEq, Repr

/-- Capture states (04 R160). -/
inductive CapState where
  | idle | armed | filling | full
  deriving DecidableEq, Repr

/-- The waveform capture (04 R159, R160). -/
structure Capture where
  /-- Idle, armed, filling or full; 04 R160; reset idle. -/
  st      : CapState := .idle
  /-- Capture id of the latest CAPTURE_START; 32 bits; 04 R160; reset DESIGN CHOICE 0 (log 1). -/
  id      : Nat := 0
  /-- Selected channels, ascending; 96 bits; 04 R159; reset empty. -/
  chans   : List Nat := []
  /-- TRIGGER; 8 bits; 04 R159; reset 0. -/
  trig    : Nat := 0
  /-- SOURCE; 8 bits; 04 R159; reset 0. -/
  source  : Nat := 0
  /-- LEVEL, signed ADC counts; 16 bits; 04 R159; reset 0. -/
  level   : Int := 0
  /-- DECIM; 16 bits; 04 R159; reset 0. -/
  decim   : Nat := 0
  /-- PRE; 32 bits; 04 R159; reset 0. -/
  pre     : Nat := 0
  /-- LENGTH; 32 bits; 04 R159; reset 0. -/
  length  : Nat := 0
  /-- Work id of the capture; 64 bits; 04 R160; reset 0. -/
  work    : Nat := 0
  /-- Index of the trigger sample; 32 bits; 04 R160; reset 0. -/
  trigIdx : Nat := 0
  /-- The capture window's content: header and samples; up to 4 MB; 04 R160; reset empty. -/
  data    : List Byte := []
  deriving DecidableEq, Repr

/-- Power paths of chapter 04. -/
structure Pwr where
  /-- PWR_STAT.OVERRUNS; 16 bits; 04 R161; reset 0x0000. -/
  overruns : Nat := 0
  /-- Clusters 0 to 7; 04 R161; reset as Cluster. -/
  cl       : List Cluster := List.replicate 8 {}
  /-- Ports 0 to 95; 04 R161; reset as Port. -/
  port     : List Port := List.replicate 96 {}
  /-- Regions 0 to 3; 04 R161; reset as Region. -/
  rg       : List Region := List.replicate 4 {}
  /-- Fast channels 0 to 95; 04 R137; reset as ChanCfg. -/
  chan     : List ChanCfg := List.replicate 96 {}
  /-- Newest calibrated value of each fast channel, in mV or mA; 04 R137; reset DESIGN CHOICE 0 (log 1). -/
  samples  : List Int := List.replicate 96 0
  /-- Raw 16-bit samples of the last fast cycle; 04 R138; reset DESIGN CHOICE 0 (log 1). -/
  raw      : List Int := List.replicate 96 0
  /-- Raw samples of the last 1,024 instants, newest first, 96 of 16 bits each; 11 R380; reset empty. -/
  hist     : List (List Int) := []
  /-- Waveform capture; 04 R160; reset idle. -/
  capt     : Capture := {}
  deriving DecidableEq, Repr

end Sys2Proof.Machine
end

