-- ==== Sys2Proof/Machine/Blocks/Eye.lean ====
section
/-!
DEFINITION. The state of chapter 07: the Ground die's output path of the 96 Eyelet ports, driver-fault latches,
driver configuration words, dead-time and map fuses. A default value is the reset value.
-/

namespace Sys2Proof.Machine

/-- Cause of a latch, coded 0b00 to 0b10 (07 R243). -/
inductive LatchCause where
  | driver | pattern | noack
  deriving DecidableEq, Repr

/-- EYE_Pp_FORCE codes 0x0 to 0x3 (07 R235). -/
inductive Force where
  | follow | off | low | high
  deriving DecidableEq, Repr

/-- Steps of clearing a latch (07 R238): waiting for ENABLE low 10 µs, for FAULT_N high 10 µs, for the acknowledgement. -/
inductive ClrStep where
  | enLow | faultHigh | ack
  deriving DecidableEq, Repr

/-- Latch, driver word and force of one Eyelet port (07 R231 to R243). -/
structure EyePort where
  /-- EYE_Pp_STAT.LATCHED; 1 bit; 07 R243; reset 0. -/
  latched  : Bool := false
  /-- CAUSE; 2 bits; 07 R243; reset 0b00. -/
  cause    : LatchCause := .driver
  /-- CLR_ARMED, with the step of R238 reached; 1 bit; 07 R243; reset 0. -/
  clr      : Option ClrStep := none
  /-- Model clock at which the clear was armed, in ns; 07 R239; reset 0. -/
  clrSince : Nat := 0
  /-- Work ids of the EYE_FAULT_CLEAR items in progress; 64 bits each; 07 R239; reset empty. -/
  clrWork  : List Nat := []
  /-- MODE, mode in force; 2 bits; 07 R243; reset 0b00 UNUSED. -/
  mode     : PortUse := .unused
  /-- ACK, last configuration word acknowledged; 1 bit; 07 R243; reset 0. -/
  ack      : Bool := false
  /-- Last configuration word sent; 16 bits; 07 R231; reset 0. -/
  word     : Nat := 0
  /-- Half-bits of the last configuration word on EYE_PULSE_p; 32 bits; 07 R231; reset empty. -/
  code     : List Bool := []
  /-- A configuration word awaits its acknowledgement; 1 bit; 07 R232; reset false. -/
  wordWait : Bool := false
  /-- FAULT_N, EYE_FAULT_N_p level now; 1 bit; 07 R243; reset 1. -/
  faultN   : Bool := true
  /-- FAULT_CNT; 8 bits; 07 R243; reset 0x00. -/
  faultCnt : Nat := 0
  /-- EYE_Pp_FORCE.FORCE; 3 bits; 07 R243; reset 0b000. -/
  force    : Force := .follow
  deriving DecidableEq, Repr

/-- Pin path of one Eyelet port (07 R221 to R226). -/
structure EyePin where
  /-- PULSE of Stitch A's gate line; 1 bit; 01 R19; reset 0. -/
  pulseA  : Bool := false
  /-- PULSE of Stitch B's gate line; 1 bit; 01 R19; reset 0. -/
  pulseB  : Bool := false
  /-- ENABLE of Stitch A's gate line; 1 bit; 01 R19; reset 0. -/
  enA     : Bool := false
  /-- ENABLE of Stitch B's gate line; 1 bit; 01 R19; reset 0. -/
  enB     : Bool := false
  /-- Sequencer's PULSE and ENABLE of a static port with no owner; 1 bit; 07 R222; reset 0. -/
  seqEn   : Bool := false
  /-- Safe-stop sequencer in control of the port; 1 bit; 07 R221; reset 0. -/
  seqOn   : Bool := false
  /-- PULSE at the output of stage 2; 1 bit; 07 R221; reset 0. -/
  pulse2  : Bool := false
  /-- A dead-time interval is in progress; 1 bit; 07 R224; reset false. -/
  dead    : Bool := false
  /-- EYE_EN_p; 1 bit; 07 R219; reset 0. -/
  en      : Bool := false
  /-- EYE_PULSE_p; 1 bit; 07 R219; reset 0. -/
  pulse   : Bool := false
  deriving DecidableEq, Repr

/-- Eyelet ports of chapter 07. -/
structure Eye where
  /-- EYE_STAT.BOTH_REFUSED; 8 bits; 07 R243; reset 0x00. -/
  bothRef  : Nat := 0
  /-- EYE_STAT.PATTERN_ERR; 16 bits; 07 R243; reset 0x0000. -/
  patErr   : Nat := 0
  /-- PATTERN_ERR as the active die last read it; 16 bits; 07 R234; reset 0. -/
  patSeen  : Nat := 0
  /-- Ports 0 to 95; 07 R243; reset as EyePort. -/
  port     : List EyePort := List.replicate 96 {}
  /-- Pin paths of ports 0 to 95; 07 R221; reset as EyePin. -/
  pin      : List EyePin := List.replicate 96 {}
  /-- Fused cluster of each port, none if fused to none (PWR_Pp_CFG.CLUSTER and ASSIGNED); 04 R161, 01 R46; reset DESIGN CHOICE none (log 10): from fuses. -/
  map      : List (Option Nat) := List.replicate 96 none
  /-- EYE_CLn_DT.FUSED; 1 bit each; 07 R243; reset DESIGN CHOICE false (log 10): from fuses. -/
  fused    : List Bool := List.replicate 8 false
  /-- EYE_CLn_DT.COUNT, 0 to 15; 4 bits each; 07 R227, R243; reset DESIGN CHOICE 0 (log 10): from fuses. -/
  dt       : List Nat := List.replicate 8 0
  /-- EYE_CLn_DT.HOLD_MAX in fine ticks; 22 bits each; 07 R243; reset 0. -/
  holdMax  : List Nat := List.replicate 8 0
  deriving DecidableEq, Repr

end Sys2Proof.Machine
end

