-- ==== Sys2Proof/Machine/Blocks/Key.lean ====
section
/-!
DEFINITION. The state of chapter 18: the root's fuses, the key registers of the engines, the installed keys, the
firmware slots, entropy state, and the KEY block's events. A default value is the reset value. No register, result or
pin of the model carries a share of the root or a private or symmetric key (18 R532).
-/

namespace Sys2Proof.Machine

/-- KEY_STAT.ROOT, coded 0x0 to 0x3 (18 R553). -/
inductive Root where
  | none_ | ready | destroyed | failed
  deriving DecidableEq, Repr

/-- A root slot of the fuse area: unburnt; burnt in part, with SHARE_A and SHARE_B as far as they are burnt, and DONE
clear; or burnt with DONE (18 R530, R531). -/
inductive RootSlot where
  | empty | spoiled (a b : List Byte) | done (a b : List Byte)
  deriving DecidableEq, Repr

/-- The keys that an engine can hold: those of the key tree (18 R535), the key of a mailbox session (18 R539) or of a DLMS
association (10 R347), and the key of a power-line node, by coupler and node id (18 R542). -/
inductive KeyId where
  | attest | import_ | receipt | journal | dlms | secc | store | spoke (n : Nat) | session (sid : Nat) | assoc (id : Nat) | node (k n : Nat)
  deriving DecidableEq, Repr

/-- A key register of an engine (18 R537). -/
structure KeyReg where
  /-- Key; 18 R535; reset none. -/
  id   : KeyId
  /-- Stitch die of the engine, none for the Selvedge die; 18 R537; reset none. -/
  die  : Option Die := none
  /-- The key; 32, 48 or 56 bytes; 18 R533; reset none. -/
  bytes : List Byte := []
  deriving DecidableEq, Repr

/-- An imported power-line node key at rest (18 R542). -/
structure NodeWrap where
  /-- Coupler; 2 bits; 15 R478; reset none. -/
  k     : Nat := 0
  /-- Node id; 10 bits; 15 R478; reset none. -/
  id    : Nat := 0
  /-- Nonce and the key wrapped under the store key; 12 and 48 bytes; 18 R542; reset none. -/
  bytes : List Byte := []
  deriving DecidableEq, Repr

/-- An installed public key (18 R540, R541). -/
structure InstKey where
  /-- P-384 public key; 97 bytes, empty when not installed; 18 R541; reset DESIGN CHOICE empty (log 11): from image store. -/
  pub   : List Byte := []
  /-- Install count; 16 bits; 18 R553; reset DESIGN CHOICE 0 (log 11): from image store. -/
  count : Nat := 0
  deriving DecidableEq, Repr

/-- A firmware slot of the image store as the Selvedge die last verified it (18 R544, R545). -/
structure FwSlot where
  /-- It verifies; 1 bit; 18 R544; reset DESIGN CHOICE false (log 11): from image store. -/
  ok     : Bool := false
  /-- SEC_VER; 8 bits; 18 R543; reset DESIGN CHOICE 0 (log 11): from image store. -/
  secVer : Nat := 0
  /-- Quogus key that signed it, 0 to 3; 2 bits; 18 R540; reset DESIGN CHOICE 0 (log 11): from image store. -/
  key    : Nat := 0
  /-- REVOKE_BELOW; 1 bit; 18 R543; reset DESIGN CHOICE false (log 11): from image store. -/
  revoke : Bool := false
  /-- Firmware version that SYS_INFO reports; 32 bits; 03 R112; reset DESIGN CHOICE 0 (log 11): from image store. -/
  ver    : Nat := 0
  /-- SHA-384 of the image; 48 bytes; 18 R550; reset DESIGN CHOICE empty (log 11): from image store. -/
  digest : List Byte := []
  deriving DecidableEq, Repr

/-- KEY_EVT (18 R553). -/
structure KeyEvt where
  /-- ENTROPY_FAIL; 1 bit; 18 R553; reset 0. -/
  entropy   : Bool := false
  /-- ROLLBACK_RAISED; 1 bit; 18 R553; reset 0. -/
  raised    : Bool := false
  /-- KEY_INSTALLED; 1 bit; 18 R553; reset 0. -/
  installed : Bool := false
  /-- IMAGE_REFUSED; 1 bit; 18 R553; reset 0. -/
  image     : Bool := false
  /-- NONCE_REFUSED; 1 bit; 18 R553; reset 0. -/
  nonce     : Bool := false
  /-- SIG_FAIL; 1 bit; 18 R553; reset 0. -/
  sig       : Bool := false
  deriving DecidableEq, Repr

/-- The KEY block of chapter 18. -/
structure Key where
  /-- Root slots 0 and 1; 18 R531; reset DESIGN CHOICE empty (log 10): from fuses. -/
  slots    : List RootSlot := [.empty, .empty]
  /-- Key registers of the engines; 18 R537; reset empty. -/
  regs     : List KeyReg := []
  /-- Imported node keys kept with the configuration image; 18 R542; reset DESIGN CHOICE none (log 11): from image store. -/
  wraps    : List NodeWrap := []
  /-- Root destroyed by scrapping; 1 bit; 18 R552; reset DESIGN CHOICE false (log 10): from fuses. -/
  killed   : Bool := false
  /-- The latest generation failed; 1 bit; 18 R531; reset false. -/
  failed   : Bool := false
  /-- KEY_STAT.EXPORTED; 1 bit; 18 R553; reset DESIGN CHOICE 0 (log 11): from journal. -/
  exported : Bool := false
  /-- KEY_STAT.ENTROPY_OK; 1 bit; 18 R553; reset 1. -/
  entropy  : Bool := true
  /-- OPERATOR key; 18 R540; reset as InstKey. -/
  opr      : InstKey := {}
  /-- METROLOGY key; 18 R540; reset as InstKey. -/
  met      : InstKey := {}
  /-- KEY_ROLLBACK.COUNT; 8 bits; 18 R553; reset DESIGN CHOICE 0 (log 10): from fuses. -/
  rollback : Nat := 0
  /-- KEY_ROLLBACK.REVOKED; 4 bits; 18 R553; reset DESIGN CHOICE none revoked (log 10): from fuses. -/
  revoked  : List Bool := [false, false, false, false]
  /-- Firmware slots 0 and 1; 18 R544; reset as FwSlot. -/
  fw       : List FwSlot := [{}, {}]
  /-- Slots that verified at this boot (SLOT0_VER and SLOT1_VER read 0xFF otherwise); 18 R553; reset none. -/
  fwOk     : List Bool := [false, false]
  /-- KEY_ROLLBACK.BOOT_SLOT; 1 bit; 18 R553; reset 0. -/
  bootSlot : Nat := 0
  /-- Firmware slot whose newly verified image takes effect at the next package reset; 03 R114; reset DESIGN CHOICE none (log 11): from image store. -/
  next     : Option Nat := none
  /-- Neither slot authenticated at this boot: the boot ROM serves the recovery mailbox; 1 bit; 02 R65, 03 R92; reset false. -/
  recov    : Bool := false
  /-- IDLE has been entered since the boot; 1 bit; 18 R545; reset false. -/
  idled    : Bool := false
  /-- KEY_EVT; 18 R553; reset as KeyEvt. -/
  evt      : KeyEvt := {}
  /-- KEY_ERR.SIG_FAIL; 8 bits; 18 R553; reset 0x00. -/
  sigFail  : Nat := 0
  /-- KEY_ERR.NONCE_FAIL; 8 bits; 18 R553; reset 0x00. -/
  nonceFail : Nat := 0
  /-- KEY_ERR.IMAGE_FAIL; 8 bits; 18 R553; reset 0x00. -/
  imgFail  : Nat := 0
  /-- KEY_ERR.ENTROPY_FAIL; 8 bits; 18 R553; reset 0x00. -/
  entFail  : Nat := 0
  deriving DecidableEq, Repr

end Sys2Proof.Machine
end

