-- ==== Sys2Proof/Machine/Blocks/Lane.lean ====
section
/-!
DEFINITION. The state of chapter 12: the eight Dital fabric lanes, their training, idle, eye scan and fault injection.
A default value is the reset value.
-/

namespace Sys2Proof.Machine

/-- Lane states, coded 0x0 to 0x7 (12 R410). -/
inductive LnState where
  | down | search | locked | equalise | ready | countdown | up | disabled
  deriving DecidableEq, Repr

/-- The control word of a training frame (12 R393). -/
structure CtrlWord where
  /-- STATE; 8 bits; 12 R393; reset none. -/
  state     : Nat := 1
  /-- COUNT; 8 bits; 12 R393; reset none. -/
  count     : Nat := 0
  /-- DIE; 1 bit; 12 R393; reset none. -/
  die       : Bool := false
  /-- PRECODE_REQ; 1 bit; 12 R393; reset none. -/
  preReq    : Bool := false
  /-- PRECODE_ON; 1 bit; 12 R393; reset none. -/
  preOn     : Bool := false
  /-- LANE; 3 bits; 12 R393; reset none. -/
  lane      : Nat := 0
  /-- DONE; 1 bit; 12 R393; reset none. -/
  done      : Bool := false
  /-- PRESET; 1 bit; 12 R393; reset none. -/
  preset    : Bool := false
  /-- REQ_POST; 2 bits; 12 R393; reset none. -/
  reqPost   : Nat := 0
  /-- REQ_PRE; 2 bits; 12 R393; reset none. -/
  reqPre    : Nat := 0
  /-- STAT_POST; 2 bits; 12 R393; reset none. -/
  statPost  : Nat := 0
  /-- STAT_PRE; 2 bits; 12 R393; reset none. -/
  statPre   : Nat := 0
  /-- PRE; 8 bits; 12 R393; reset none. -/
  pre       : Nat := 1
  /-- POST; 8 bits; 12 R393; reset none. -/
  post      : Nat := 4
  deriving DecidableEq, Repr

/-- Training state of one lane (12 R392 to R397). -/
structure LnTrain where
  /-- Consecutive frames with the marker at the same position; 4 bits; 12 R396; reset 0. -/
  markers  : Nat := 0
  /-- STATE of the latest valid control words and their number in a row; 12 R396; reset (0, 0). -/
  words    : Nat × Nat := (0, 0)
  /-- Consecutive frames without a valid marker; 5 bits; 12 R396; reset 0. -/
  bad      : Nat := 0
  /-- Model clock of entry to the present state, in ns; 12 R396; reset 0. -/
  since    : Nat := 0
  /-- Own DONE sent; 1 bit; 12 R396; reset false. -/
  doneSent : Bool := false
  /-- Quality test passed; 1 bit; 12 R396; reset false. -/
  quality  : Bool := false
  /-- Symbols and errored bits of the quality test so far; 12 R396; reset (0, 0). -/
  qTest    : Nat × Nat := (0, 0)
  /-- COUNT of the next frame in COUNTDOWN; 4 bits; 12 R396; reset 15. -/
  count    : Nat := 15
  /-- Own countdown complete; 1 bit; 12 R396; reset false. -/
  counted  : Bool := false
  /-- A first block decoded from the far end; 1 bit; 12 R396; reset false. -/
  firstBlk : Bool := false
  /-- STAT_POST and STAT_PRE of the next frame; 2 bits each; 12 R394; reset (0, 0). -/
  stat     : Nat × Nat := (0, 0)
  /-- PRECODE_REQ sent: this receiver asks the far end to precode; 1 bit; 12 R409; reset false. -/
  preReq   : Bool := false
  /-- Requests of the next frame: REQ_PRE, REQ_POST, PRESET; 12 R393; reset (0, 0, false). -/
  req      : Nat × Nat × Bool := (0, 0, false)
  /-- The receiver requests no further change; 1 bit; 12 R393; reset false. -/
  content  : Bool := false
  /-- First decision-feedback tap above half the main cursor; 1 bit; 12 R409; reset false. -/
  bigTap   : Bool := false
  /-- Newest valid control word of the far end; 12 R393; reset none. -/
  far      : Option CtrlWord := none
  /-- PRBS13 generator state of the transmitter; 13 bits; 12 R392; reset DESIGN CHOICE all ones (log 1). -/
  prbs     : Nat := 0x1FFF
  /-- Training markers seen in consecutive frame positions while UP; 2 bits; 12 R396; reset 0. -/
  upMarks  : Nat := 0
  /-- Consecutive uncorrectable blocks while UP; 5 bits; 12 R396; reset 0. -/
  unc      : Nat := 0
  deriving DecidableEq, Repr

/-- Block coding and idle state of one lane (12 R385 to R402). -/
structure LnData where
  /-- Transmit scrambler; 31 bits; 12 R389; reset all ones. -/
  txScr    : Nat := 0x7FFFFFFF
  /-- Receive scrambler; 31 bits; 12 R389; reset all ones. -/
  rxScr    : Nat := 0x7FFFFFFF
  /-- Transmit precoder level p[n−1]; 2 bits; 12 R387; reset 0. -/
  txP      : Nat := 0
  /-- Receive precoder level p[n−1]; 2 bits; 12 R387; reset 0. -/
  rxP      : Nat := 0
  /-- STAT.TX_IDLE; 1 bit; 12 R410; reset 0. -/
  txIdle   : Bool := false
  /-- STAT.RX_IDLE; 1 bit; 12 R410; reset 0. -/
  rxIdle   : Bool := false
  /-- Model clock at which the transmitter entered idle, in ns; 12 R401; reset 0. -/
  txIdleAt : Nat := 0
  /-- The Picot marker is awaited: since when (model clock), and with IDLE_ENTER or not; 12 R399, R401; reset none. -/
  wait     : Option (Nat × Bool) := none
  /-- STAT.PRECODE_TX; 1 bit; 12 R410; reset 0. -/
  preTx    : Bool := false
  /-- STAT.PRECODE_RX; 1 bit; 12 R410; reset 0. -/
  preRx    : Bool := false
  /-- Network layer marks the lane spare; 1 bit; 12 R400; reset false. -/
  spare    : Bool := false
  /-- Block or frame last put on the line, 1,088 levels: the model's own record of its output; 12 R385; reset empty. -/
  line     : List Nat := []
  /-- Flits passed to the network layer and not yet taken, oldest first; 12 R391; reset empty. -/
  rxq      : List (List Byte) := []
  deriving DecidableEq, Repr

/-- An eye scan (12 R403, R404). -/
structure EyeScan where
  /-- Scan id; 32 bits; 12 R404; reset none. -/
  id     : Nat := 0
  /-- Running; 1 bit; 12 R410; reset none. -/
  on     : Bool := true
  /-- EYES; 3 bits; 12 R404; reset none. -/
  eyes   : Nat := 1
  /-- PH_MIN, PH_MAX, PH_STEP; 12 R404; reset none. -/
  ph     : Int × Int × Nat := (0, 0, 1)
  /-- V_MIN, V_MAX, V_STEP; 12 R404; reset none. -/
  v      : Int × Int × Nat := (0, 0, 1)
  /-- DWELL; 8 bits; 12 R404; reset none. -/
  dwell  : Nat := 10
  /-- Counts so far, in window order; 32 bits each; 12 R404; reset none. -/
  counts : List Nat := []
  /-- Start time in ns; 64 bits; 12 R404; reset none. -/
  t0     : Nat := 0
  /-- End time in ns; 64 bits; 12 R404; reset none. -/
  t1     : Nat := 0
  /-- Work id; 64 bits; 12 R404; reset none. -/
  work   : Nat := 0
  deriving DecidableEq, Repr

/-- A running injection (12 R407). -/
structure Injection where
  /-- KIND, 0x1 to 0x4; 8 bits; 12 R407; reset none. -/
  kind    : Nat := 1
  /-- DIR: transmit; 8 bits; 12 R407; reset none. -/
  tx      : Bool := false
  /-- PATTERN; 8 bits; 12 R407; reset none. -/
  pattern : Nat := 0
  /-- PARAM; 8 bits; 12 R407; reset none. -/
  param   : Nat := 0
  /-- CLASS_MASK; 16 bits; 12 R407; reset none. -/
  classes : Nat := 0
  /-- RATE; 32 bits; 12 R407; reset none. -/
  rate    : Nat := 0
  /-- BURST; 16 bits; 12 R407; reset none. -/
  burst   : Nat := 0
  /-- Generator started at SEED; 31 bits; 12 R407; reset none. -/
  lfsr    : Nat := 1
  /-- Model clock at which DURATION elapses, in ns; 12 R408; reset none. -/
  until_  : Nat := 0
  /-- MAX_EVENTS; 32 bits; 12 R407; reset none. -/
  maxEv   : Nat := 0
  /-- Eligible units seen; 12 R407; reset none. -/
  units   : Nat := 0
  /-- Flits held by REORDER, each with the eligible flits still to pass and the clock at which it was held; 12 R407; reset none. -/
  held    : List (List Byte × Nat × Nat) := []
  /-- Work id; 64 bits; 12 R408; reset none. -/
  work    : Nat := 0
  deriving DecidableEq, Repr

/-- One fabric lane (12 R410). -/
structure FLane where
  /-- CTRL.ENABLE; 1 bit; 12 R410; reset 1. -/
  enable   : Bool := true
  /-- CTRL.IDLE_REQ; 1 bit; 12 R410; reset 0. -/
  idleReq  : Bool := false
  /-- CTRL.RX_PRECODE; 2 bits; 12 R410; reset 0b00. -/
  rxPre    : Nat := 0
  /-- STAT.STATE; 4 bits; 12 R410; reset 0x0 DOWN. -/
  st       : LnState := .down
  /-- STAT.STBY_LOCK; 1 bit; 12 R410; reset 0. -/
  stbyLock : Bool := false
  /-- STAT.PEER_DIE; 1 bit; 12 R410; reset 0. -/
  peerDie  : Bool := false
  /-- STAT.PEER_LANE; 3 bits; 12 R410; reset 0b000. -/
  peerLane : Nat := 0
  /-- CORR; 32 bits; 12 R410; reset 0. -/
  corr     : Nat := 0
  /-- UNCORR; 32 bits; 12 R410; reset 0. -/
  uncorr   : Nat := 0
  /-- DROP; 32 bits; 12 R410; reset 0. -/
  drop     : Nat := 0
  /-- EVT.RETRAINS; 16 bits; 12 R410; reset 0x0000. -/
  retrains : Nat := 0
  /-- EVT.RESYNCS; 8 bits; 12 R410; reset 0x00. -/
  resyncs  : Nat := 0
  /-- EVT.CLK_LOSS; 8 bits; 12 R410; reset 0x00. -/
  clkLoss  : Nat := 0
  /-- BER.NLOG; 8 bits; 12 R410; reset 0xFF. -/
  nlog     : Nat := 0xFF
  /-- Errored bits and blocks of the last 1,000 supervisory cycles, newest first, behind NLOG; 12 R410; reset empty. -/
  errHist  : List (Nat × Nat) := []
  /-- Errored bits corrected and blocks received in the present supervisory cycle; 12 R410; reset (0, 0). -/
  errNow   : Nat × Nat := (0, 0)
  /-- HEALTH.DEGRADED; 1 bit; 12 R410; reset 0. -/
  degraded : Bool := false
  /-- Uncorrectable blocks in the present supervisory cycle; 8 bits; 12 R410; reset 0. -/
  uncNow   : Nat := 0
  /-- HEALTH.UNCORR_CNT; 8 bits; 12 R410; reset 0x00. -/
  uncLast  : Nat := 0
  /-- PICOT; 32 bits; 12 R410; reset 0. -/
  picot    : Nat := 0
  /-- TXEQ.PRE; 8 bits; 12 R410; reset 0x01. -/
  pre      : Nat := 1
  /-- TXEQ.POST; 8 bits; 12 R410; reset 0x04. -/
  post     : Nat := 4
  /-- INJ; 32 bits; 12 R410; reset 0. -/
  inj      : Nat := 0
  /-- Injection running (STAT and HEALTH INJ); 12 R407; reset none. -/
  run      : Option Injection := none
  /-- Latest scan and its window (SCAN); 12 R410; reset none (0). -/
  scan     : Option EyeScan := none
  /-- Training; 12 R396; reset as LnTrain. -/
  train    : LnTrain := {}
  /-- Block coding and idle; 12 R385; reset as LnData. -/
  data     : LnData := {}
  deriving DecidableEq, Repr

/-- Dital fabric lanes of chapter 12. -/
structure Dfl where
  /-- Lanes 0 to 7; 12 R410; reset as FLane. -/
  lane     : List FLane := List.replicate 8 {}
  /-- DFL_INJ_WINDOW.SECONDS; 12 bits; 12 R410; reset 0x000. -/
  window   : Nat := 0
  /-- DFL_INJ_CLIENT; 32 bits; 12 R410; reset 0. -/
  client   : Nat := 0
  /-- Scan id of the latest DFL_EYE_SCAN; 32 bits; 12 R404; reset DESIGN CHOICE 0 (log 1). -/
  scanId   : Nat := 0
  deriving DecidableEq, Repr

end Sys2Proof.Machine
end

