-- ==== Sys2Proof/Machine/Blocks/Ledger.lean ====
section
/-!
DEFINITION. The state of chapter 08: token ranges, lease, transfers, the holding table of a voice, summaries,
reclaims and the site map. A default value is the reset value. Times are site time in ns unless a field says otherwise.
-/

namespace Sys2Proof.Machine

/-- LDG_STAT.STATE, coded 0x0 to 0x5 (08 R282). -/
inductive LdgState where
  | unjoined | joining | joined | fenced | leaving | left_
  deriving DecidableEq, Repr

/-- A token range (08 R245). -/
structure TRange where
  /-- First index; 24 bits; 08 R280; reset none. -/
  first : Nat := 0
  /-- Count; 32 bits; 08 R280; reset none. -/
  count : Nat := 0
  deriving DecidableEq, Repr

/-- One module of the site map (08 R246). -/
structure MapModule where
  /-- Node address; 16 bits; 08 R246; reset none. -/
  node  : Nat := 0
  /-- Buddy group: members of one pair or group of three share it; 08 R246; reset none. -/
  group : Nat := 0
  /-- FLOOR in tokens; 25 bits; 08 R246; reset none. -/
  floor : Nat := 0
  /-- Weight W; 8 bits; 08 R246; reset 16. -/
  w     : Nat := 16
  /-- Module serial; 64 bits; 13 R412; reset none. -/
  serial : Nat := 0
  deriving DecidableEq, Repr

/-- A site map (08 R246, 13 R412). -/
structure SiteMap where
  /-- MAP_VER; 32 bits; 08 R246; reset none. -/
  ver     : Nat := 0
  /-- ACTIVATION, site time in ns; 64 bits; 08 R246; reset none. -/
  act     : Nat := 0
  /-- P_SITE in kW, N; 25 bits; 08 R246; reset none. -/
  n       : Nat := 0
  /-- Modules; up to 1,024; 08 R246; reset none. -/
  mods    : List MapModule := []
  /-- MAX_SKEW in ms; 8 bits; 08 R246; reset 5. -/
  skew    : Nat := 5
  /-- MIN_XFER; 10 bits; 08 R246; reset 10. -/
  minXfer : Nat := 10
  /-- TEMP_HORIZON in min; 6 bits; 08 R246; reset 10. -/
  horizon : Nat := 10
  /-- WL, WE, WU and scheduling weight of classes 0 to 15; 4 bits each; 13 R417; reset R417's defaults. -/
  cls     : List (Nat × Nat × Nat × Nat) :=
    [(0, 0, 0, 1), (4, 4, 0, 1), (2, 4, 2, 8), (1, 2, 4, 2), (1, 1, 4, 1)] ++ List.replicate 11 (1, 1, 1, 1)
  /-- SHA-384 of the map's image; 48 bytes; 18 R550; reset none. -/
  digest  : List Byte := []
  deriving DecidableEq, Repr

/-- A transfer out of this module (08 R263). -/
structure XferOut where
  /-- Transfer id; 64 bits; 08 R263; reset none. -/
  id    : Nat := 0
  /-- Receiver's node address; 16 bits; 08 R264; reset none. -/
  dst   : Nat := 0
  /-- Range LEAVING; 08 R263; reset none. -/
  range : TRange := {}
  /-- Model clock of the newest PREPARE, in ns; 08 R264; reset none. -/
  sent  : Nat := 0
  deriving DecidableEq, Repr

/-- Receiver's states of a transfer (08 R263). -/
inductive XferInState where
  | pending | held | aborted | refused
  deriving DecidableEq, Repr

/-- A transfer into this module, kept so that a PREPARE with a known id repeats the answer (08 R264). -/
structure XferIn where
  /-- Transfer id; 64 bits; 08 R263; reset none. -/
  id     : Nat := 0
  /-- Giver's node address; 16 bits; 08 R280; reset none. -/
  src    : Nat := 0
  /-- Range; 08 R280; reset none. -/
  range  : TRange := {}
  /-- PENDING, HELD, ABORTED, or refused without a record; 08 R263; reset none. -/
  st     : XferInState := .pending
  /-- Voices that answered OK; 08 R264; reset none. -/
  oks    : List Nat := []
  /-- Voices that refused; 08 R264; reset none. -/
  nos    : List Nat := []
  /-- Status of the HELD answer; 8 bits; 08 R280; reset none. -/
  answer : Nat := 0
  /-- An undo is outstanding; 1 bit; 08 R265; reset none. -/
  undo   : Bool := false
  deriving DecidableEq, Repr

/-- What a journaled ledger record brings about once it is accepted (08 R253, R263, R264, R269 to R271, R275, R276). -/
inductive LdgAct where
  /-- Giver LEAVING: PREPARE. -/
  | offer (id : Nat)
  /-- Receiver PENDING: NOTE to every voice. -/
  | pend (id : Nat)
  /-- Receiver HELD. -/
  | held (id : Nat)
  /-- Receiver ABORTED. -/
  | aborted (id : Nat)
  /-- Giver GONE. -/
  | gone (id : Nat)
  /-- The giver's range held again. -/
  | back (id : Nat)
  /-- A voice enters a NOTE of a receiver: transfer id, giver, range, undo. -/
  | note (src giver id : Nat) (range : TRange) (undo : Bool)
  /-- A voice votes yes: reclaimer, target, request id. -/
  | vote (src target id : Nat)
  /-- A reclaimer takes ranges of a target. -/
  | reclaim (target id : Nat) (ranges : List TRange)
  /-- A voice enters a completed reclaim: reclaimer, target, ranges. -/
  | done_ (src target : Nat) (ranges : List TRange)
  /-- A fenced module's ranges GONE. -/
  | fenced (ranges : List TRange)
  /-- A voice enters an empty holding. -/
  | join (src : Nat)
  /-- A voice removes an entry. -/
  | leave (src : Nat)
  /-- A voice lifts a fence. -/
  | rejoin (src : Nat)
  deriving DecidableEq, Repr

/-- A ledger record journaled and not yet accepted (08 R253, R263; 13 R429). -/
structure LdgRec where
  /-- Work id under which it is mirrored; 64 bits; 13 R432; reset none. -/
  no   : Nat := 0
  /-- Its effect; 08 R263; reset none. -/
  act  : LdgAct
  /-- The record as written; 13 R432; reset none. -/
  data : List Byte := []
  deriving DecidableEq, Repr

/-- A row of the transfer table (21 R624). -/
structure XferRec where
  /-- Transfer id; 64 bits; 21 R624; reset none. -/
  id    : Nat := 0
  /-- Range; 21 R624; reset none. -/
  range : TRange := {}
  /-- Peer's node address; 16 bits; 21 R624; reset none. -/
  peer  : Nat := 0
  /-- Role: giver; 1 bit; 21 R624; reset none. -/
  giver : Bool := false
  /-- State, 0x1 LEAVING to 0x5 ABORTED; 8 bits; 21 R624; reset none. -/
  st    : Nat := 1
  /-- Journal time in ns; 64 bits; 21 R624; reset none. -/
  time  : Nat := 0
  /-- Model clock of that time, in ns; 21 R624; reset none. -/
  clk   : Nat := 0
  deriving DecidableEq, Repr

/-- One entry of a voice's holding table (08 R255). -/
structure Holding where
  /-- Module's node address; 16 bits; 08 R255; reset none. -/
  node    : Nat := 0
  /-- Module's ranges; 08 R255; reset none. -/
  ranges  : List TRange := []
  /-- Module's floor ranges; 08 R255; reset none. -/
  floors  : List TRange := []
  /-- Model clock of the voice's last lease grant to the module, in ns; 08 R255; reset none. -/
  granted : Option Nat := none
  /-- Site time of that grant, in ns; 64 bits; 21 R621; reset none. -/
  grantAt : Nat := 0
  /-- FENCED; 1 bit; 08 R255; reset none. -/
  fenced  : Bool := false
  /-- Reclaimer the voice last voted yes for, and when; 08 R269; reset none. -/
  vote    : Option (Nat × Nat) := none
  /-- A reclaim voted by this voice is not yet done; 1 bit; 08 R264; reset none. -/
  open_   : Bool := false
  /-- Ranges of completed reclaims, sent with a FENCED refusal; 08 R271; reset none. -/
  taken   : List TRange := []
  deriving DecidableEq, Repr

/-- A NOTE(add) whose answer is deferred (08 R264). -/
structure Deferred where
  /-- Transfer id; 64 bits; 08 R264; reset none. -/
  id    : Nat := 0
  /-- Receiver that sent the NOTE; 16 bits; 08 R264; reset none. -/
  src   : Nat := 0
  /-- Giver; 16 bits; 08 R280; reset none. -/
  giver : Nat := 0
  /-- Range; 08 R280; reset none. -/
  range : TRange := {}
  /-- Model clock at which 50 ms have passed, in ns; 08 R264; reset none. -/
  due   : Nat := 0
  deriving DecidableEq, Repr

/-- What this module has heard from another (08 R266, R268). -/
structure Peer where
  /-- Node address; 16 bits; 08 R279; reset none. -/
  node    : Nat := 0
  /-- Held of its newest SUMMARY; 32 bits; 08 R280; reset none. -/
  held    : Nat := 0
  /-- Floor; 32 bits; 08 R280; reset none. -/
  floor   : Nat := 0
  /-- Temporary; 32 bits; 08 R280; reset none. -/
  temp    : Nat := 0
  /-- Demand; 32 bits; 08 R280; reset none. -/
  demand  : Nat := 0
  /-- Weight; 8 bits; 08 R280; reset none. -/
  weight  : Nat := 0
  /-- Flag isolated; 1 bit; 08 R280; reset none. -/
  isolated : Bool := false
  /-- Flag leaving; 1 bit; 08 R280; reset none. -/
  leaving : Bool := false
  /-- Ledger cycles since its newest SUMMARY; 08 R266; reset none. -/
  age     : Nat := 0
  /-- Model clock of its newest ledger message, in ns; 08 R268; reset none. -/
  heard   : Nat := 0
  deriving DecidableEq, Repr

/-- A lease request (08 R257). -/
structure LeaseReq where
  /-- Request id; 32 bits; 08 R280; reset none. -/
  id     : Nat := 0
  /-- t_req, site time in ns; 64 bits; 08 R257; reset none. -/
  at_    : Nat := 0
  /-- Model clock of sending, in ns; 08 R257; reset none. -/
  clk    : Nat := 0
  /-- Voices that granted it; 08 R257; reset none. -/
  grants : List Nat := []
  /-- It has gathered Q grants; 1 bit; 08 R257; reset none. -/
  done   : Bool := false
  /-- 20 ms passed with fewer than Q grants; 1 bit; 08 R257; reset none. -/
  late   : Bool := false
  deriving DecidableEq, Repr

/-- A reclaim this module leads (08 R268). -/
structure Reclaim where
  /-- Target; 16 bits; 08 R280; reset none. -/
  target : Nat := 0
  /-- Request id; 32 bits; 08 R280; reset none. -/
  id     : Nat := 0
  /-- Yes votes: voice, its ranges and floor ranges of the target; 08 R269; reset none. -/
  votes  : List (Nat × List TRange × List TRange) := []
  /-- Model clock of the request, in ns; 08 R269; reset none. -/
  sent   : Nat := 0
  deriving DecidableEq, Repr

/-- A ledger message as it is sent (08 R279, R280). -/
structure LdgMsg where
  /-- DST, 0xFFFF for flooding; 16 bits; 08 R279; reset none. -/
  dst   : Nat := 0
  /-- The message, header and body, most significant byte first; 08 R279; reset none. -/
  bytes : List Byte := []
  deriving DecidableEq, Repr

/-- LDG_EVT (08 R282). -/
structure LdgEvt where
  /-- MAP_OLD; 1 bit; 08 R282; reset 0. -/
  mapOld   : Bool := false
  /-- TEMP_WITHDRAWN; 1 bit; 08 R282; reset 0. -/
  tempWd   : Bool := false
  /-- RECLAIMED_BY; 1 bit; 08 R282; reset 0. -/
  reclBy   : Bool := false
  /-- FENCED; 1 bit; 08 R282; reset 0. -/
  fenced   : Bool := false
  /-- EXPIRED; 1 bit; 08 R282; reset 0. -/
  expired  : Bool := false
  /-- RENEW_LATE; 1 bit; 08 R282; reset 0. -/
  renewLate : Bool := false
  /-- XFER_REFUSED; 1 bit; 08 R282; reset 0. -/
  xferRef  : Bool := false
  /-- DEMAND_UNMET; 1 bit; 08 R282; reset 0. -/
  unmet    : Bool := false
  deriving DecidableEq, Repr

/-- The ledger's journaled records (02 R76 Ledger region). -/
structure LdgNv where
  /-- LDG_STAT.STATE; 4 bits; 08 R282; reset DESIGN CHOICE UNJOINED (log 11): from journal. -/
  st      : LdgState := .unjoined
  /-- Ranges held, LEAVING ones included, ascending and merged; 64 entries; 08 R245, R282; reset DESIGN CHOICE empty (log 11): from journal. -/
  ranges  : List TRange := []
  /-- LDG_FLOOR.SET; 1 bit; 08 R282; reset 0. -/
  floorSet : Bool := false
  /-- Transfers out in LEAVING; 16 entries; 08 R263; reset DESIGN CHOICE empty (log 11): from journal. -/
  outs    : List XferOut := []
  /-- Transfers in; 08 R263; reset DESIGN CHOICE empty (log 11): from journal. -/
  ins     : List XferIn := []
  /-- Transfers in flight and those ended lately, oldest first (LDG_XFERx); 21 R624; reset DESIGN CHOICE empty (log 11): from journal. -/
  xlog    : List XferRec := []
  /-- Records journaled and not yet accepted, oldest first; 08 R263, 13 R429; reset DESIGN CHOICE empty (log 11): from journal. -/
  recs    : List LdgRec := []
  /-- Site map in force (LDG_MAP, LDG_SITE, LDG_FLOOR, LDG_QUORUM, LDG_TIMING); 08 R246, R282; reset none: from site map. -/
  map_    : Option SiteMap := none
  /-- Committed site map whose ACTIVATION lies in the future; 08 R247; reset none. -/
  pendMap : Option SiteMap := none
  /-- Older maps are still accepted in lease requests until this site time, in ns, none once they are refused; 64 bits; 08 R247; reset none: from journal. -/
  graceTo : Option Nat := none
  /-- Holding table, kept as a voice, and as the mirror of its pair's voice; 08 R255; reset DESIGN CHOICE empty (log 11): from journal. -/
  table   : List Holding := []
  /-- Groups whose voice a reclaim has moved, as (group, voice); 08 R270; reset DESIGN CHOICE empty (log 11): from journal. -/
  moved   : List (Nat × Nat) := []
  /-- Last 500 ms lease end, site time in ns; the lease is restored expired; 08 R257, 02 R69; reset none. -/
  oldN    : Option Nat := none
  deriving DecidableEq, Repr

/-- The site power ledger of chapter 08. -/
structure Ldg where
  /-- Journaled records; 02 R76; reset as LdgNv. -/
  nv       : LdgNv := {}
  /-- Lease valid until, site time in ns (LDG_STAT.LEASE_OK, LDG_LEASE.REMAIN); 64 bits; 08 R257; reset none (0). -/
  leaseTo  : Option Nat := none
  /-- Model clock at which the last request that gathered Q grants was sent (LDG_LEASE.AGE); 08 R282; reset none (0xFFFF). -/
  granted  : Option Nat := none
  /-- Lending is formed as in ISOLATED by LEASE_LOW; 1 bit; 08 R258; reset false. -/
  low      : Bool := false
  /-- Some request since the reset has gathered Q grants; 1 bit; 02 R69; reset false. -/
  everQ    : Bool := false
  /-- Lease requests, newest first; 08 R256; reset empty. -/
  reqs     : List LeaseReq := []
  /-- Request id counter; 32 bits; 08 R280; reset DESIGN CHOICE 0 (log 1). -/
  reqCtr   : Nat := 0
  /-- LDG_TEMP.TEMP; 25 bits; 08 R282; reset 0. -/
  temp     : Nat := 0
  /-- LDG_TARGET.TARGET; 25 bits; 08 R282; reset 0. -/
  target   : Nat := 0
  /-- The module has a surplus under R267 (held above target); 1 bit; 08 R251; reset false. -/
  surplus  : Bool := false
  /-- LDG_POLICY.FLOOR_USE; 4 bits; 08 R282; reset 0xF. -/
  floorUse : List Bool := [true, true, true, true]
  /-- LDG_POLICY.LOSS; 16 bits; 08 R282; reset 0. -/
  loss     : Nat := 0
  /-- LDG_RGr_WEIGHT; 8 bits each; 08 R282; reset 0x10. -/
  weight   : List Nat := [16, 16, 16, 16]
  /-- LDG_RGr_DEMAND; 25 bits each; 08 R282; reset 0. -/
  demand   : List Nat := [0, 0, 0, 0]
  /-- PWR_RGr_LENT; 32 bits each; 04 R161; reset 0. -/
  lent     : List Nat := [0, 0, 0, 0]
  /-- Combined power clamp of the AFE clusters in kW; 08 R249; reset 0. -/
  afeClamp : Nat := 0
  /-- LDG_EVT; 08 R282; reset as LdgEvt. -/
  evt      : LdgEvt := {}
  /-- LDG_XFER.DONE; 16 bits; 08 R282; reset 0x0000. -/
  xferDone : Nat := 0
  /-- Summaries and last contact of other modules; 08 R266; reset empty. -/
  peers    : List Peer := []
  /-- NOTEs whose answer is deferred; 08 R264; reset empty. -/
  defer_   : List Deferred := []
  /-- Reclaims this module leads; 08 R268; reset empty. -/
  recl     : List Reclaim := []
  /-- JOIN_ACKs gathered; 08 R275; reset empty. -/
  joinAcks : List Nat := []
  /-- Work ids of the LDG_JOIN or LDG_LEAVE items not yet DONE; 64 bits each; 08 R275, R276; reset empty. -/
  work     : List Nat := []
  /-- The module leaves without a command, its map omitting it; 1 bit; 08 R277; reset false. -/
  autoLeave : Bool := false
  /-- Model clock at which the module left reset; 08 R269; reset 0. -/
  upSince  : Nat := 0
  /-- Import averaged over the last two supervisory cycles in kW; 08 R262; reset 0. -/
  import_  : List Int := []
  /-- Messages sent, newest first: the model's own record of its outputs; 08 R279; reset empty. -/
  tx       : List LdgMsg := []
  /-- Transfers given whose journal record, as it stood, holds a double-bit error; 01 R35; reset empty. -/
  badOut   : List XferOut := []
  /-- Transfers taken whose journal record, as it stood, holds a double-bit error; 01 R35; reset empty. -/
  badIn    : List XferIn := []
  deriving DecidableEq, Repr

end Sys2Proof.Machine
end

