-- ==== Sys2Proof/Machine/Blocks/Mbx.lean ====
section
/-!
DEFINITION. The state of chapter 03: host endpoints, envelope sessions, mailbox slots, work items, and the messages
that reach and leave the endpoints. A default value is the reset value.
-/

namespace Sys2Proof.Machine

/-- Status codes of results, in the order of their values 0x0000 to 0x0009 (03 R628). -/
inductive Status where
  | ok | busy | notReady | duplicate | badParameter | stateConflict | badOpcode | badLength | notAuthorised | faulted
  deriving DecidableEq, Repr

/-- Slot states, coded 0x0 to 0x2 (03 R94, R628). -/
inductive SlotState where
  | free | pending | done
  deriving DecidableEq, Repr

/-- Work states, coded 0x1 to 0x4 (03 R116). -/
inductive WorkState where
  | accepted | running | done | failed
  deriving DecidableEq, Repr

/-- A role set (03 R87). -/
structure Roles where
  /-- MONITOR; 1 bit; 03 R87; reset none. -/
  mon : Bool := false
  /-- OPERATOR; 1 bit; 03 R87; reset none. -/
  opr : Bool := false
  /-- METROLOGY; 1 bit; 03 R87; reset none. -/
  met : Bool := false
  /-- VENDOR; 1 bit; 03 R87; reset none. -/
  ven : Bool := false
  deriving DecidableEq, Repr

/-- One client of the configuration image (03 R87). -/
structure ClientCfg where
  /-- Client id; 32 bits; 03 R87; reset none. -/
  id    : Nat := 0
  /-- P-384 public key, uncompressed; 97 bytes; 03 R87; reset none. -/
  key   : List Byte := []
  /-- Role set; 4 bits; 03 R87; reset none. -/
  roles : Roles := {}
  /-- Slots assigned on EP0, EP1 and EP2; 64 bits each; 03 R87; reset none. -/
  slots : List (List Nat) := [[], [], []]
  deriving DecidableEq, Repr

/-- A result: the fields of its header that the slot does not hold itself, and its payload (03 R96). -/
structure Result where
  /-- STATUS; 16 bits; 03 R96; reset none. -/
  status  : Status := .notReady
  /-- OPCODE; 16 bits; 03 R96; reset none. -/
  opcode  : Nat := 0
  /-- CLIENT_ID; 32 bits; 03 R96; reset none. -/
  client  : Nat := 0
  /-- CLIENT_SEQ; 32 bits; 03 R96; reset none. -/
  seq     : Nat := 0
  /-- WORK_ID; 64 bits; 03 R96; reset none. -/
  workId  : Nat := 0
  /-- MODE when the result was made final; 8 bits; 03 R96; reset none. -/
  mode    : Nat := 0
  /-- GUARD; 8 bits; 03 R96; reset none. -/
  guard   : Nat := 0
  /-- Result payload; up to 4,064 bytes; 03 R96; reset none. -/
  payload : List Byte := []
  deriving DecidableEq, Repr

/-- A mailbox slot (03 R94). -/
structure Slot where
  /-- FREE, PENDING or DONE; 2 bits; 03 R94; reset FREE. -/
  state   : SlotState := .free
  /-- Use count, bits [15:0] of the generation; 16 bits; 03 R95; reset 0. -/
  uses    : Nat := 0
  /-- OPCODE of the command placed; 16 bits; 03 R93; reset DESIGN CHOICE 0 (log 1). -/
  opcode  : Nat := 0
  /-- CLIENT_ID of the command placed; 32 bits; 03 R93; reset DESIGN CHOICE 0 (log 1). -/
  client  : Nat := 0
  /-- CLIENT_SEQ of the command placed; 32 bits; 03 R93; reset DESIGN CHOICE 0 (log 1). -/
  seq     : Nat := 0
  /-- FLAGS.PUSH of the command placed; 1 bit; 03 R93; reset DESIGN CHOICE false (log 1). -/
  push    : Bool := false
  /-- Reserved bytes and FLAGS bits of the command header were all zero; 1 bit; 03 R93, R108; reset DESIGN CHOICE true (log 1). -/
  rsvOk   : Bool := true
  /-- SESSION_ID that placed the command; 32 bits; 03 R98; reset DESIGN CHOICE 0 (log 1). -/
  session : Nat := 0
  /-- Payload of the command placed; up to 4,064 bytes; 03 R93; reset DESIGN CHOICE empty (log 1). -/
  payload : List Byte := []
  /-- The command has passed every check of R108 and awaits acceptance; 1 bit; 03 R100; reset false. -/
  checked : Bool := false
  /-- Work id of the command's journal record, written before it is accepted; 64 bits; 03 R100, 13 R429; reset none. -/
  work    : Option Nat := none
  /-- Work id of an accepted command whose result waits for its verification; 64 bits; 03 R114; reset none. -/
  waits   : Option Nat := none
  /-- Final result, once DONE; 03 R96; reset none. -/
  result  : Option Result := none
  /-- READ_COUNT, saturating at 65,535; 16 bits; 03 R97; reset 0. -/
  reads   : Nat := 0
  deriving DecidableEq, Repr

/-- A mailbox session (03 R88, R89). -/
structure Session where
  /-- SESSION_ID, never 0; 32 bits; 03 R88; reset none. -/
  id      : Nat := 0
  /-- Client of the session; 32 bits; 03 R88; reset none. -/
  client  : Nat := 0
  /-- Endpoint on which the last message came; 2 bits; 03 R119; reset none. -/
  ep      : Nat := 0
  /-- Last message came in an IPv6 datagram; 1 bit; 03 R81; reset none. -/
  v6      : Bool := false
  /-- Source address and UDP port of the last message, to which answers go; 03 R81; reset none. -/
  peer    : Nat × Nat := (0, 0)
  /-- Model clock at which it opened, in ns; 03 R89; reset none. -/
  opened  : Nat := 0
  /-- Model clock of the newest valid host message, in ns; 03 R89; reset none. -/
  last    : Nat := 0
  /-- Host-to-device COUNTERs received within 1,024 of the highest; 63 bits each; 03 R86; reset none. -/
  seen    : List Nat := []
  /-- Highest host-to-device COUNTER received; 63 bits; 03 R86; reset none. -/
  high    : Nat := 0
  /-- Device-to-host messages sent; 63 bits; 03 R84; reset none. -/
  sent    : Nat := 0
  deriving DecidableEq, Repr

/-- A message leaving an endpoint (03 R84, R85). -/
structure OutMsg where
  /-- Endpoint; 2 bits; 03 R80; reset none. -/
  ep      : Nat := 0
  /-- TYPE; 8 bits; 03 R85; reset none. -/
  type    : Nat := 0
  /-- SESSION_ID; 32 bits; 03 R84; reset none. -/
  session : Nat := 0
  /-- COUNTER, bits [62:0]; 63 bits; 03 R84; reset none. -/
  counter : Nat := 0
  /-- Body before encryption; up to 4,096 bytes; 03 R85; reset none. -/
  body    : List Byte := []
  /-- Sent unasked under PUSH; 1 bit; 03 R83, R98; reset none. -/
  pushed  : Bool := false
  /-- IP datagrams or fragments it takes at the MTU (0 on EP2); 03 R81; reset none. -/
  frags   : Nat := 0
  /-- Address and UDP port it is sent to (none on EP2); 03 R81; reset none. -/
  peer    : Nat × Nat := (0, 0)
  /-- The envelope as it is sent: header, encrypted body and tag; 03 R84, R86; reset none. -/
  bytes   : List Byte := []
  deriving DecidableEq, Repr

/-- Error counters of one endpoint: MBX_EPn_ERR, and MBX_EPn_HEALTH.ERR_CNT (03 R119). -/
structure EpErr where
  /-- TAG; 8 bits; 03 R119; reset 0x00. -/
  tag       : Nat := 0
  /-- REPLAY; 8 bits; 03 R119; reset 0x00. -/
  replay    : Nat := 0
  /-- MALFORMED; 8 bits; 03 R119; reset 0x00. -/
  malformed : Nat := 0
  /-- PUSH_DROP; 8 bits; 03 R119; reset 0x00. -/
  pushDrop  : Nat := 0
  /-- Tag, replay and malformed errors in the present supervisory cycle; 8 bits; 03 R119; reset 0. -/
  now       : Nat := 0
  /-- MBX_EPn_HEALTH.ERR_CNT, errors of the last supervisory cycle; 8 bits; 03 R119; reset 0x00. -/
  lastCycle : Nat := 0
  deriving DecidableEq, Repr

/-- A datagram in reassembly on EP0 or EP1 (03 R81). -/
structure Reasm where
  /-- Endpoint; 1 bit; 03 R81; reset none. -/
  ep    : Nat := 0
  /-- Source and identification of the datagram; 03 R81; reset none. -/
  key   : Nat := 0
  /-- Bytes received so far, as (offset, length); 03 R81; reset none. -/
  parts : List (Nat × Nat) := []
  /-- Model clock of the first fragment, in ns; 03 R81; reset none. -/
  since : Nat := 0
  deriving DecidableEq, Repr

/-- Who placed a work item: a mailbox client, a DLMS association, or the ledger itself (13 R429). -/
inductive WorkFrom where
  | client (id : Nat)
  | dlms (assoc : Nat)
  | ledger
  deriving DecidableEq, Repr

/-- An item of work, as journaled (03 R99 to R106, R116). -/
structure WorkItem where
  /-- Work id: node address and counter; 64 bits; 03 R101; reset none. -/
  id      : Nat := 0
  /-- Origin of the item; 13 R429; reset none. -/
  origin  : WorkFrom := .ledger
  /-- OPCODE; 16 bits; 03 R112; reset none. -/
  opcode  : Nat := 0
  /-- Payload; up to 4,064 bytes; 03 R93; reset none. -/
  payload : List Byte := []
  /-- ACCEPTED, RUNNING, DONE or FAILED; 2 bits; 03 R116; reset none. -/
  state   : WorkState := .accepted
  /-- Final status, NOT_READY until DONE or FAILED; 16 bits; 03 R628; reset none. -/
  status  : Status := .notReady
  /-- Accepted time, site time in ns; 64 bits; 03 R116; reset none. -/
  accTime : Nat := 0
  /-- Completed time, 0 until DONE or FAILED; 64 bits; 03 R116; reset none. -/
  endTime : Nat := 0
  /-- Model clock of the completion, in ns; 03 R116; reset none. -/
  endClk  : Nat := 0
  /-- The package has entered SAFE_STOP since acceptance; 1 bit; 03 R110; reset none. -/
  stopped : Bool := false
  /-- Accepted LOCAL, not yet mirrored; 1 bit; 13 R433; reset none. -/
  local_  : Bool := false
  /-- The mirror acknowledgement is still awaited; 1 bit; 13 R429; reset none. -/
  unacked : Bool := false
  /-- Endpoint and slot that placed it, for a mailbox item; 03 R94; reset none. -/
  place   : Option (Nat × Nat) := none
  deriving DecidableEq, Repr

/-- One accepted command of a client (03 R102, R103). -/
structure Accepted where
  /-- CLIENT_SEQ; 32 bits; 03 R102; reset none. -/
  seq    : Nat := 0
  /-- Digest: OPCODE, LENGTH and payload, whose first 8 bytes of SHA-384 the device compares; 03 R103; reset none. -/
  digest : Nat := 0
  /-- The full original result; 03 R103; reset none. -/
  result : Result := {}
  deriving DecidableEq, Repr

/-- Sequence state of one client, journaled (03 R102). -/
structure ClientSeq where
  /-- Client id; 32 bits; 03 R87; reset none. -/
  id    : Nat := 0
  /-- MBX_Cn_HIGHSEQ; 32 bits; 03 R119; reset DESIGN CHOICE 0 (log 11): from journal. -/
  high  : Nat := 0
  /-- Whether any sequence has been accepted; 1 bit; 03 R119; reset DESIGN CHOICE false (log 11): from journal. -/
  any   : Bool := false
  /-- Accepted commands, newest first; 03 R102, R103; reset DESIGN CHOICE empty (log 11): from journal. -/
  acc   : List Accepted := []
  deriving DecidableEq, Repr

/-- A nonce issued by NONCE_GET (03 R111, 18 R547). -/
structure Nonce where
  /-- Client that obtained it; 32 bits; 18 R547; reset none. -/
  client : Nat := 0
  /-- Its 32 bytes; 18 R547; reset none. -/
  bytes  : List Byte := []
  /-- Model clock of its issue, in ns; 03 R111; reset none. -/
  issued : Nat := 0
  deriving DecidableEq, Repr

/-- Mailboxes and host endpoints of chapter 03. -/
structure Mbx where
  /-- The 192 slots of EP0, EP1 and EP2, in that order; 03 R80; reset FREE. -/
  slots    : List Slot := List.replicate 192 {}
  /-- Open sessions, oldest first, at most 64; 03 R89; reset empty. -/
  sessions : List Session := []
  /-- MBX_EPn_STAT.UP of EP0, EP1 and EP2; 1 bit each; 03 R119; reset 0. -/
  up       : List Bool := [false, false, false]
  /-- MBX_EPn_ERR and ERR_CNT; 03 R119; reset as EpErr. -/
  err      : List EpErr := List.replicate 3 {}
  /-- EP2 outbound queue, oldest first, at most 16 messages; 03 R83; reset empty. -/
  queue    : List OutMsg := []
  /-- Messages sent on EP0 and EP1 and read from EP2, newest first: the model's own record of its outputs; 03 R85; reset empty. -/
  tx       : List OutMsg := []
  /-- Datagrams in reassembly, at most 16 per port; 03 R81; reset empty. -/
  reasm    : List Reasm := []
  /-- Nonces issued and not used; 03 R111; reset empty. -/
  nonces   : List Nonce := []
  /-- ns in which a command without a final result was held, of the last 1,000 supervisory cycles, newest first, behind
  MBX_LOAD.PERMILLE; 03 R118, R119; reset empty (0x000). -/
  busy     : List Nat := []
  /-- MBX_BOOT_COUNT.BOOTS; 16 bits; 03 R119; reset DESIGN CHOICE 0 (log 11): from journal. -/
  boots    : Nat := 0
  /-- Clients of the accepted configuration image (MBX_CLIENTS.COUNT is their number); 03 R87, R119; reset empty. -/
  clients  : List ClientCfg := []
  /-- Sequence state of every client, journaled; 03 R102; reset DESIGN CHOICE empty (log 11): from journal. -/
  seqs     : List ClientSeq := []
  /-- Work-id counter, journaled; 48 bits; 03 R101; reset DESIGN CHOICE 0 (log 11): from journal. -/
  workCtr  : Nat := 0
  /-- Work items whose records are in the journal, oldest first; 03 R116; reset DESIGN CHOICE empty (log 11): from journal. -/
  work     : List WorkItem := []
  /-- SESSION_IDLE in s, 10 to 3,600; 12 bits; 03 R89; reset 600. -/
  idleMax  : Nat := 600
  /-- MTU of EP0 and EP1, 1,280 to 9,000; 14 bits; 03 R81; reset 1500. -/
  mtu      : Nat := 1500
  /-- ICMP echo enabled by the configuration image; 1 bit; 03 R81; reset DESIGN CHOICE false (log 12). -/
  echoOn   : Bool := false
  /-- Source address and UDP port of the RECOVERY message in slot 0 of EP0, EP1 and EP2, to which its answer goes; 03 R81, R92;
  reset none. -/
  recPeer  : List (Nat × Nat) := [(0, 0), (0, 0), (0, 0)]
  /-- Addresses of EP0 and EP1 in the configuration image, the link units being configured; 03 R80, 01 R631; reset none. -/
  addrs    : List (Option Nat) := [none, none]
  deriving DecidableEq, Repr

/-- A host message as it reaches an endpoint: the envelope header's bytes, the body as it decrypts under the key of its
session (counter mode loses nothing by that), the tag's bytes, and what the signature engine found (03 R81 to R86; log 5). -/
structure MsgIn where
  /-- Endpoint; 03 R80. -/
  ep      : Nat
  /-- EP2: bytes clocked in the SPI write transaction; 03 R82. -/
  spiLen  : Nat := 0
  /-- EP2: length L of the SPI write transaction; 03 R82. -/
  spiL    : Nat := 0
  /-- The 16 header bytes; 03 R84. -/
  header  : List Byte
  /-- The body in clear; 03 R85. -/
  body    : List Byte
  /-- The 16 bytes of the tag; 03 R84. -/
  tag     : List Byte := []
  /-- The signature of an OPEN_REQUEST verifies under the client key it is checked against; 03 R88. -/
  sigOk   : Bool := true
  /-- Arrived over IPv6; 03 R81. -/
  v6      : Bool := false
  /-- UDP port it was sent to; 03 R81. -/
  port    : Nat := 40740
  /-- Source address and UDP port; 03 R81. -/
  peer    : Nat × Nat := (0, 0)
  /-- A fragment of a datagram: key, offset, length, whole length; 03 R81. -/
  frag    : Option (Nat × Nat × Nat × Nat) := none
  deriving DecidableEq, Repr

end Sys2Proof.Machine
end

