-- ==== Sys2Proof/Machine/Blocks/Meter.lean ====
section
/-!
DEFINITION. The state of chapter 09: metering channels, calibration banks, six meters with their accumulators and
journal slots, the final save, pulse outputs. A default value is the reset value.
-/

namespace Sys2Proof.Machine

/-- Calibration of one channel in a bank (09 R287). -/
structure ChanCal where
  /-- KIND, 0x0 unused to 0x7 AUX_I; 4 bits; 09 R315; reset as the bank. -/
  kind   : Nat := 0
  /-- SCALE, primary value at full scale in mV or mA; 32 bits; 09 R287; reset as the bank. -/
  scale  : Nat := 0
  /-- GAIN_STEP, 0 to 5; 3 bits; 09 R315; reset as the bank. -/
  step   : Nat := 0
  /-- GAIN, Q2.30; 32 bits; 09 R287; reset as the bank (unity with none). -/
  gain   : Int := 0x40000000
  /-- OFFSET, Q1.31 of full scale; 32 bits; 09 R287; reset as the bank. -/
  offset : Int := 0
  /-- PHASE, signed, in ps; 32 bits; 09 R287; reset as the bank. -/
  phase  : Int := 0
  deriving DecidableEq, Repr

/-- An integrator's calibration bank, 1 to 8 (09 R287). -/
structure CalBank where
  /-- Channels 0 to 31; 09 R287; reset as the bank. -/
  chan  : List ChanCal := List.replicate 32 {}
  /-- Nominal frequency of AC meters 0 and 1: 60 Hz; 1 bit each; 09 R287; reset as the bank. -/
  nom60 : List Bool := [false, false]
  /-- P_MAX of each meter in kW; 32 bits each; 09 R287; reset as the bank. -/
  pmax  : List Nat := List.replicate 6 0
  deriving DecidableEq, Repr

/-- Bank 0: modulator gain and offset, and temperature coefficients, per channel and gain step (09 R287, R293; log 20). -/
structure CalBank0 where
  /-- Modulator gain, Q2.30, per channel and then per gain step: in force in the modulator, ahead of every sample; 09 R287;
  reset DESIGN CHOICE unity (log 10): from fuses. -/
  modGain : List (List Int) := List.replicate 32 (List.replicate 6 0x40000000)
  /-- Modulator offset, Q1.31, per channel and then per gain step: in force in the modulator; 09 R287; reset DESIGN CHOICE 0
  (log 10): from fuses. -/
  modOff  : List (List Int) := List.replicate 32 (List.replicate 6 0)
  /-- α1 in 2^−48 per °C, per channel and then per gain step; 09 R293; reset DESIGN CHOICE 0 (log 10): from fuses. -/
  alpha1 : List (List Int) := List.replicate 32 (List.replicate 6 0)
  /-- α2 in 2^−64 per °C², per channel and then per gain step; 09 R293; reset DESIGN CHOICE 0 (log 10): from fuses. -/
  alpha2 : List (List Int) := List.replicate 32 (List.replicate 6 0)
  deriving DecidableEq, Repr

/-- A journal record of one meter (09 R307). -/
structure MtrRecord where
  /-- KIND: 0x01 periodic, 0x02 final save, 0x03 restart; 8 bits; 09 R307; reset none. -/
  kind  : Nat := 1
  /-- METER; 8 bits; 09 R307; reset none. -/
  meter : Nat := 0
  /-- EPOCH; 8 bits; 09 R307; reset none. -/
  epoch : Nat := 0
  /-- FLAGS; 8 bits; 09 R307; reset none. -/
  flags : Nat := 0
  /-- SEQ; 64 bits; 09 R307; reset none. -/
  seq   : Nat := 0
  /-- TIME in ns; 64 bits; 09 R307; reset none. -/
  time  : Nat := 0
  /-- ACC; 6 × 64 bits; 09 R307; reset none. -/
  acc   : List Nat := List.replicate 6 0
  /-- FRAC in 2^−32 µWh; 6 × 32 bits; 09 R307; reset none. -/
  frac  : List Nat := List.replicate 6 0
  /-- GAP in µWh; 64 bits; 09 R307; reset none. -/
  gap   : Nat := 0
  /-- CAUSE; 8 bits; 09 R307; reset none. -/
  cause : Nat := 0xFF
  /-- CRC and seal verify and there is no double-bit error; 1 bit; 09 R311; reset none. -/
  ok    : Bool := true
  /-- Model clock at which the record was formed, in ns; 09 R308; reset none. -/
  clk   : Nat := 0
  /-- Tariff registers journaled with the record of a DC meter, in µWh; 8 × 64 bits; 10 R329; reset none. -/
  tar   : List Nat := []
  /-- +A energy and powered time of the demand period open, journaled with it; 10 R329; reset none. -/
  per   : Nat × Nat := (0, 0)
  deriving DecidableEq, Repr

/-- Phase tracking of one AC voltage channel (09 R301). -/
structure PhaseTrk where
  /-- MTR_Mm_ZCp, last positive crossing in ns; 64 bits; 09 R315; reset 0. -/
  zc     : Nat := 0
  /-- Interval of the last two crossings in ns, 0 before two; 09 R301; reset 0. -/
  period : Nat := 0
  /-- The voltage has been below −1 % of full scale since the last crossing; 1 bit; 09 R301; reset false. -/
  armed  : Bool := false
  /-- Last sample; 09 R301; reset none. -/
  last   : Option Int := none
  /-- Phase lost (MTR_STAT.PH_LOST); 1 bit; 09 R315; reset 0. -/
  lost   : Bool := false
  /-- Model clock of the last crossing, or of the start of metering, in ns; 09 R301; reset none. -/
  seen   : Option Nat := none
  deriving DecidableEq, Repr

/-- One metering channel (09 R315). -/
structure MChan where
  /-- Staged calibration (MTR_CHc_GAIN, OFFSET, PHASE); 09 R315; reset as the bank in force. -/
  staged  : ChanCal := {}
  /-- Calibration in force (ACT_GAIN, ACT_OFFSET, ACT_PHASE, CFG, SCALE); 09 R315; reset as the bank in force. -/
  act     : ChanCal := {}
  /-- MTR_CHc_TFACT, Q2.30; 32 bits; 09 R315; reset 0x4000_0000. -/
  tfact   : Int := 0x40000000
  /-- MTR_CHc_VALUE in mV or mA, signed; 32 bits; 09 R315; reset 0. -/
  value   : Int := 0
  /-- MTR_CHc_RIPPLE in mV or mA; 32 bits; 09 R315; reset 0. -/
  ripple  : Nat := 0
  /-- Newest sample, in 2^−91 of SCALE-weighted full scale (mV or mA × 2^91); 09 R285; reset 0. -/
  now     : Int := 0
  /-- Sum over the window; 09 R300; reset 0. -/
  wSum    : Int := 0
  /-- Sum of squares over the window; 09 R300; reset 0. -/
  wSq     : Int := 0
  /-- Samples in the window; 09 R300; reset 0. -/
  wN      : Nat := 0
  /-- A sample was clipped in the present supervisory cycle; 1 bit; 09 R315; reset false. -/
  ovrNow  : Bool := false
  /-- HEALTH.OVERRANGE; 1 bit; 09 R315; reset 0. -/
  ovrLast : Bool := false
  /-- A sample was clipped in the present interval; 1 bit; 09 R286; reset false. -/
  ovrInt  : Bool := false
  /-- HEALTH.OVR_CNT; 8 bits; 09 R315; reset 0x00. -/
  ovrCnt  : Nat := 0
  /-- HEALTH.TEMP_SUBST; 1 bit; 09 R315; reset 0. -/
  tsubst  : Bool := false
  deriving DecidableEq, Repr

/-- One meter (09 R283, R298 to R312, R315). -/
structure Meter where
  /-- Accumulators k = 0 to 5 in µWh, journaled; 6 × 64 bits; 09 R302; reset DESIGN CHOICE 0 (log 11): from journal; zero at manufacture. -/
  acc    : List Nat := List.replicate 6 0
  /-- Carried fractions in 2^−32 µWh, journaled; 6 × 32 bits; 09 R299; reset DESIGN CHOICE 0 (log 11): from journal. -/
  frac   : List Nat := List.replicate 6 0
  /-- Trial accumulators in µWh; 6 × 64 bits; 09 R292; reset 0. -/
  trial  : List Nat := List.replicate 6 0
  /-- Fractions of the trial accumulators; 6 × 32 bits; 09 R292; reset 0. -/
  trialF : List Nat := List.replicate 6 0
  /-- Active energy of the present interval, exact, in µW·samples × 2^182; 09 R298; reset 0. -/
  eA     : Int := 0
  /-- Reactive energy of the present interval; 09 R298; reset 0. -/
  eR     : Int := 0
  /-- Trial active energy of the present interval; 09 R292; reset 0. -/
  tA     : Int := 0
  /-- Trial reactive energy of the present interval; 09 R292; reset 0. -/
  tR     : Int := 0
  /-- Active and reactive energy of the present interval before the newest placing sample; 10 R317, R319; reset none. -/
  split  : Option (Int × Int) := none
  /-- A sample of the interval was clipped; 1 bit; 09 R286; reset false. -/
  clip   : Bool := false
  /-- SEQ of the latest record, journaled; 64 bits; 09 R307, R315; reset DESIGN CHOICE 0 (log 11): from journal. -/
  seq    : Nat := 0
  /-- MTR_Mm_GAP in µWh, journaled; 64 bits; 09 R315; reset DESIGN CHOICE 0 (log 11): from journal. -/
  gap    : Nat := 0
  /-- The 64 journal slots, slot i at position i; 09 R306; reset DESIGN CHOICE no record (log 11): from journal. -/
  slots  : List (Option MtrRecord) := List.replicate 64 none
  /-- Record on its way to the Selvedge die, oldest first; 09 R308; reset empty. -/
  sent   : List MtrRecord := []
  /-- MTR_Mm_P in W, signed; 32 bits; 09 R315; reset 0. -/
  p      : Int := 0
  /-- MTR_Mm_Q in var, signed; 32 bits; 09 R315; reset 0. -/
  q      : Int := 0
  /-- MTR_Mm_S in VA; 32 bits; 09 R315; reset 0. -/
  s      : Nat := 0
  /-- Sum of active power over the supervisory cycle, in µW × 2^182; 09 R315; reset 0. -/
  pSum   : Int := 0
  /-- Sum of reactive power over the supervisory cycle; 09 R315; reset 0. -/
  qSum   : Int := 0
  /-- Samples in the supervisory cycle; 09 R315; reset 0. -/
  pN     : Nat := 0
  /-- MTR_Mm_FREQ in mHz; 32 bits; 09 R315; reset 0. -/
  freq   : Nat := 0
  /-- Phases a, b, c; 09 R301; reset as PhaseTrk. -/
  ph     : List PhaseTrk := List.replicate 3 {}
  /-- Represented ns since the first of the samples that pass the QUIET test, none while the newest fails; 09 R309; reset none. -/
  quietNs : Option Nat := none
  /-- Crossings of the window's phase since it began, none before its first (AC); 09 R300; reset none. -/
  win    : Option Nat := none
  /-- QUIET at the newest sample; 1 bit; 09 R309; reset false. -/
  quiet  : Bool := false
  deriving DecidableEq, Repr

/-- One pulse output (09 R313 to R315). -/
structure PulseOut where
  /-- EN; 1 bit; 09 R315; reset 0. -/
  en    : Bool := false
  /-- SRC: trial; 1 bit; 09 R315; reset 0. -/
  trial : Bool := false
  /-- METER; 3 bits; 09 R315; reset 0b000. -/
  meter : Nat := 0
  /-- QTY; 3 bits; 09 R315; reset 0b000. -/
  qty   : Nat := 0
  /-- K in impulses/kWh; 17 bits; 09 R315; reset 0x0_2710. -/
  k     : Nat := 0x2710
  /-- MTR_PULSEk_CNT; 32 bits; 09 R315; reset 0. -/
  cnt   : Nat := 0
  /-- Energy of completed intervals since the previous pulse, times K, in 2^−32 µWh; 09 R313; reset 0. -/
  carry : Int := 0
  /-- MTR_PULSE_k level; 1 bit; 09 R313; reset low. -/
  level : Bool := false
  /-- Model clock of the previous pulse in ns; 09 R313; reset none. -/
  last  : Option Nat := none
  /-- Duration of the present pulse in ns; 09 R313; reset 0. -/
  width : Nat := 0
  deriving DecidableEq, Repr

/-- MTR_EVT (09 R315). -/
structure MtrEvt where
  /-- CAL_BURNT; 1 bit; 09 R315; reset 0. -/
  calBurnt  : Bool := false
  /-- FALLBACK; 1 bit; 09 R315; reset 0. -/
  fallback  : Bool := false
  /-- SAVE_GAP; 1 bit; 09 R315; reset 0. -/
  saveGap   : Bool := false
  /-- OVERRANGE; 1 bit; 09 R315; reset 0. -/
  overrange : Bool := false
  /-- PHASE_LOST; 1 bit; 09 R315; reset 0. -/
  phaseLost : Bool := false
  /-- TEMP_SUBST; 1 bit; 09 R315; reset 0. -/
  tempSubst : Bool := false
  /-- PULSE_LIMIT; 1 bit; 09 R315; reset 0. -/
  pulseLim  : Bool := false
  deriving DecidableEq, Repr

/-- The final save: none, started, with its first record written, complete (09 R309). -/
inductive SaveState where
  | none | running | writing | complete
  deriving DecidableEq, Repr

/-- Measurement and metering of chapter 09. -/
structure Mtr where
  /-- Channels 0 to 31; 09 R315; reset as MChan. -/
  chan    : List MChan := List.replicate 32 {}
  /-- Meters 0 to 5; 09 R315; reset as Meter. -/
  meter   : List Meter := List.replicate 6 {}
  /-- Bank 0; 09 R287; reset DESIGN CHOICE zero coefficients (log 10): from fuses. -/
  bank0   : CalBank0 := {}
  /-- Banks 1 to 8 used, in order, with whether the CRC verifies (MTR_STAT.EPOCH, FREE); 09 R287, R288; reset DESIGN CHOICE none (log 10): from fuses. -/
  banks   : List (CalBank × Bool) := []
  /-- Bank with which the present interval is measured (EPOCH), 0 to 8; 4 bits; 09 R288, R290; reset DESIGN CHOICE 0 (log 10): from bank. -/
  epoch   : Nat := 0
  /-- SCALE and P_MAX of the configuration image, used at epoch 0; 09 R288; reset 0. -/
  cfgCal  : CalBank := {}
  /-- MTR_STAT.TRIAL; 1 bit; 09 R315; reset 0. -/
  trial   : Bool := false
  /-- MTR_CAL_CTRL.BURN, with the bank being burnt; 1 bit; 09 R315; reset 0. -/
  burn    : Option CalBank := none
  /-- MTR_EVT; 09 R315; reset as MtrEvt. -/
  evt     : MtrEvt := {}
  /-- MTR_JRNL.WRITE_ERR; 8 bits; 09 R315; reset 0x00. -/
  wrErr   : Nat := 0
  /-- MTR_JRNL.LATE; 8 bits; 09 R315; reset 0x00. -/
  late    : Nat := 0
  /-- Pulse outputs 0 to 3; 09 R315; reset as PulseOut. -/
  pulse   : List PulseOut := List.replicate 4 {}
  /-- MTR_Ha_j_h, 2 × 6 × 64 values, none for 0xFFFF_FFFF; 32 bits each; 09 R315; reset 0xFFFF_FFFF. -/
  harm    : List (Option Nat) := List.replicate 768 none
  /-- Samples in the present integration interval; 8 bits; 09 R298; reset 0. -/
  intN    : Nat := 0
  /-- Samples of the present interval already taken into the accumulators by a final save; 09 R309; reset 0. -/
  intDone : Nat := 0
  /-- TIME of the newest sample available, 0 before one; 64 bits; 09 R285, R630; reset 0. -/
  tLast   : Nat := 0
  /-- TIME of the newest placing sample of the present interval, and samples of the interval before it; 10 R317; reset none. -/
  split   : Option (Nat × Nat) := none
  /-- Accumulators of the meters at the end of the last completed interval, as snapshots show them, in µWh; 09 R305; reset DESIGN CHOICE 0 (log 11): from journal. -/
  shown   : List (List Nat) := List.replicate 6 (List.replicate 6 0)
  /-- Final save; 09 R309; reset none. -/
  save    : SaveState := .none
  /-- Twice the last valid T of references A and B in 0.1 °C; 09 R293; reset DESIGN CHOICE 500 (log 1): 25 °C, unity factor. -/
  tRef    : List Int := [500, 500]
  /-- NV writes are blocked by the inhibit level; 1 bit; 09 R309, 19 R574; reset false. -/
  nvBlock : Bool := false
  deriving DecidableEq, Repr

end Sys2Proof.Machine
end

