-- ==== Sys2Proof/Machine/Blocks/Net.lean ====
section
/-!
DEFINITION. The state of chapter 13: addresses, neighbours, the link-state map, destination and route tables,
streams, floods, receive windows, mirroring and time synchronisation. A default value is the reset value.
Times are the model clock in ns unless a field says otherwise.
-/

namespace Sys2Proof.Machine

/-- A neighbour heard on a lane (13 R414). -/
structure Nbr where
  /-- Serial of its HELLO; 64 bits; 13 R414; reset none. -/
  serial : Nat := 0
  /-- Node address of its HELLO; 16 bits; 13 R414; reset none. -/
  node   : Nat := 0
  /-- Discovery address of its HELLO; 16 bits; 13 R414; reset none. -/
  disc   : Nat := 0
  /-- DFN_LANEn_NBR.PEER_LANE; 3 bits; 13 R442; reset none. -/
  lane   : Nat := 0
  /-- Its lane's die; 1 bit; 13 R414; reset none. -/
  die    : Nat := 0
  /-- MAP_VER of its HELLO; 32 bits; 13 R414; reset none. -/
  mapVer : Nat := 0
  /-- Time status of its HELLO, DFN_TIME bits [31:16]; 16 bits; 13 R414; reset none. -/
  time   : Nat := 0
  /-- Arrival of its latest HELLO; 13 R414; reset none. -/
  heard  : Nat := 0
  deriving DecidableEq, Repr

/-- A SYNC exchange: round trip and offset in ps (13 R438). -/
structure SyncEx where
  /-- Round trip in ps; 32 bits; 13 R438; reset none. -/
  rtt    : Nat := 0
  /-- Offset in ps before ASYM; 13 R438; reset none. -/
  offset : Int := 0
  deriving DecidableEq, Repr

/-- A packet sent or waiting (13 R416). -/
structure NPkt where
  /-- Lane; 3 bits; 13 R416; reset none. -/
  lane  : Nat := 0
  /-- CLASS; 4 bits; 13 R416; reset none. -/
  cls   : Nat := 0
  /-- SRC; 16 bits; 13 R416; reset none. -/
  src   : Nat := 0
  /-- DST; 16 bits; 13 R416; reset none. -/
  dst   : Nat := 0
  /-- TTL; 8 bits; 13 R416; reset none. -/
  ttl   : Nat := 32
  /-- PKIND; 8 bits; 13 R416; reset none. -/
  kind  : Nat := 1
  /-- SEQ; 32 bits; 13 R416; reset none. -/
  seq   : Nat := 0
  /-- EPOCH; 16 bits; 13 R416; reset none. -/
  epoch : Nat := 0
  /-- Payload; 13 R416; reset none. -/
  data  : List Byte := []
  deriving DecidableEq, Repr

/-- Network state of one lane (13 R442). -/
structure NLane where
  /-- DFN_LANEn_NBR: the present neighbour; 13 R414; reset none (PRESENT 0). -/
  nbr   : Option Nbr := none
  /-- DFN_LANEn_COST.L; 8 bits; 13 R442; reset 0xFF. -/
  l     : Nat := 0xFF
  /-- DFN_LANEn_COST.E; 8 bits; 13 R442; reset 0xFF. -/
  e     : Nat := 0xFF
  /-- DFN_LANEn_COST.U; 8 bits; 13 R442; reset 0x00. -/
  u     : Nat := 0
  /-- Costs in the module's newest LSA; 3 × 8 bits; 13 R415; reset (0xFF, 0xFF, 0x00). -/
  flooded : Nat × Nat × Nat := (0xFF, 0xFF, 0)
  /-- DFN_LANEn_ASYM, in ps; 32 bits signed; 13 R442; reset 0. -/
  asym  : Int := 0
  /-- Last exchanges, newest first, at most 8 (DFN_LANEn_RTT); 13 R438; reset empty (0xFFFF_FFFF). -/
  exs   : List SyncEx := []
  /-- t1 of the exchange under way, in ps; 64 bits; 13 R438; reset none. -/
  t1    : Option Nat := none
  /-- Flit slots carrying non-IDLE flits in the present and the last 1 ms; 13 R441; reset (0, 0). -/
  slots : Nat × Nat := (0, 0)
  /-- Uncorrectable blocks in the present supervisory cycle; 13 R420; reset 0. -/
  unc   : Nat := 0
  /-- Classes of the last 16 flit slots, newest first; 13 R418; reset empty. -/
  recent : List Nat := []
  /-- Deficits of classes 2 to 15; 13 R418; reset 0. -/
  deficit : List Nat := List.replicate 16 0
  /-- Class whose turn it is in the round robin; 13 R418; reset 2. -/
  turn  : Nat := 2
  /-- Packets waiting for the lane, oldest first, each with its flits not yet sent; 13 R416, R418; reset empty. -/
  txq   : List (NPkt × List (List Byte)) := []
  deriving DecidableEq, Repr

/-- One link of a link-state packet (13 R415). -/
structure LsLink where
  /-- Neighbour address; 16 bits; 13 R415; reset none. -/
  nbr   : Nat := 0
  /-- Own lane; 8 bits; 13 R415; reset none. -/
  lane  : Nat := 0
  /-- Neighbour lane; 8 bits; 13 R415; reset none. -/
  peer  : Nat := 0
  /-- L, E and U; 8 bits each; 13 R415; reset none. -/
  l     : Nat := 0
  /-- E; 8 bits; 13 R415; reset none. -/
  e     : Nat := 0
  /-- U; 8 bits; 13 R415; reset none. -/
  u     : Nat := 0
  deriving DecidableEq, Repr

/-- The stored LSA of an origin (13 R415). -/
structure Lsa where
  /-- Origin address; 16 bits; 13 R415; reset none. -/
  origin : Nat := 0
  /-- LSA sequence; 32 bits; 13 R415; reset none. -/
  seq    : Nat := 0
  /-- Links; 13 R415; reset none. -/
  links  : List LsLink := []
  /-- Arrival; 13 R415; reset none. -/
  at_    : Nat := 0
  deriving DecidableEq, Repr

/-- DFN_CLSc_CFG (13 R417). -/
structure ClsCfg where
  /-- WL; 4 bits; 13 R417; reset R417's default. -/
  wl    : Nat := 1
  /-- WE; 4 bits; 13 R417; reset R417's default. -/
  we    : Nat := 1
  /-- WU; 4 bits; 13 R417; reset R417's default. -/
  wu    : Nat := 1
  /-- SCHED; 4 bits; 13 R417; reset R417's default. -/
  sched : Nat := 1
  deriving DecidableEq, Repr

/-- A route entry (13 R419). -/
structure Route where
  /-- VALID; 1 bit; 13 R419; reset 0. -/
  valid : Bool := false
  /-- SELF; 1 bit; 13 R419; reset 0. -/
  self_ : Bool := false
  /-- PRIMARY; 3 bits; 13 R419; reset 0. -/
  prim  : Nat := 0
  /-- ALT: lane of the loop-free alternate, none with ALT_VALID 0; 3 bits; 13 R419; reset none. -/
  alt   : Option Nat := none
  /-- HOPS; 4 bits; 13 R419; reset 0. -/
  hops  : Nat := 0
  /-- COST; 19 bits; 13 R419; reset 0. -/
  cost  : Nat := 0
  deriving DecidableEq, Repr

/-- A destination (13 R419). -/
structure Dest where
  /-- DFN_DESTi.ADDR; 16 bits; 13 R442; reset 0x0000. -/
  addr   : Nat := 0
  /-- Its serial, where a HELLO or the map named it; 64 bits; 13 R413; reset none. -/
  serial : Nat := 0
  /-- DFN_RTi_c for classes 0 to 15; 32 bits each; 13 R442; reset 0x0000_0000. -/
  routes : List Route := []
  deriving DecidableEq, Repr

/-- A packet unacknowledged on a stream (13 R425). -/
structure Unacked where
  /-- SEQ; 32 bits; 13 R423; reset none. -/
  seq   : Nat := 0
  /-- Payload; 1 to 4,096 bytes; 13 R416; reset none. -/
  data  : List Byte := []
  /-- Time of the latest sending; 13 R425; reset none. -/
  sent  : Nat := 0
  /-- Its RTO in ns; 13 R425; reset none. -/
  rto   : Nat := 50000
  /-- Resent at least once; 1 bit; 13 R425; reset none. -/
  again : Bool := false
  deriving DecidableEq, Repr

/-- Sending side of a stream (13 R423, R425). -/
structure TxStream where
  /-- Destination; 16 bits; 13 R423; reset none. -/
  dst   : Nat := 0
  /-- Class; 4 bits; 13 R423; reset none. -/
  cls   : Nat := 0
  /-- Next SEQ; 32 bits; 13 R423; reset 1. -/
  next  : Nat := 1
  /-- Unacknowledged packets, oldest first, at most 64; 13 R425; reset empty. -/
  out   : List Unacked := []
  /-- Payloads waiting for a place among the 64; 13 R425; reset empty. -/
  wait  : List (List Byte) := []
  /-- Smoothed round trip in ns; 13 R425; reset 0. -/
  srtt  : Nat := 0
  /-- Time of the latest ACK, or of the first packet; 13 R425; reset 0. -/
  acked : Nat := 0
  /-- PEER_LOST reported; 1 bit; 13 R425; reset false. -/
  lost  : Bool := false
  deriving DecidableEq, Repr

/-- Receiving side of a stream (13 R423, R424). -/
structure RxStream where
  /-- Source; 16 bits; 13 R423; reset none. -/
  src   : Nat := 0
  /-- Class; 4 bits; 13 R423; reset none. -/
  cls   : Nat := 0
  /-- EPOCH; 16 bits; 13 R426; reset none. -/
  epoch : Nat := 0
  /-- Next expected SEQ; 32 bits; 13 R423; reset 1. -/
  next  : Nat := 1
  /-- Buffered packets beyond it; 64; 13 R423; reset empty. -/
  buf   : List (Nat × List Byte) := []
  /-- Deliveries not yet acknowledged; 3 bits; 13 R424; reset 0. -/
  owed  : Nat := 0
  deriving DecidableEq, Repr

/-- Flood window of a source (13 R428). -/
structure FloodWin where
  /-- Source; 16 bits; 13 R428; reset none. -/
  src  : Nat := 0
  /-- Highest SEQ seen; 32 bits; 13 R428; reset none. -/
  high : Nat := 0
  /-- Map of the 64 below it, bit 0 the nearest; 64 bits; 13 R428; reset none. -/
  map_ : Nat := 0
  deriving DecidableEq, Repr

/-- Receive window of a source's work ids (13 R430). -/
structure WorkWin where
  /-- Source node address; 16 bits; 13 R430; reset none. -/
  src     : Nat := 0
  /-- Highest counter received; 48 bits; 13 R430; reset none. -/
  high    : Nat := 0
  /-- Counters at or below which a wipe has removed the marks; 48 bits; 13 R430; reset 0. -/
  wipedAt : Nat := 0
  /-- Applied counters with their recorded outcome; 13 R430; reset empty. -/
  done    : List (Nat × Nat) := []
  deriving DecidableEq, Repr

/-- A journal record to be mirrored (13 R432). -/
structure MirRec where
  /-- Work id, or the receipt number of a receipt; 64 bits; 13 R432; reset none. -/
  id   : Nat := 0
  /-- Kind 0x01 to 0x04; 8 bits; 13 R432; reset none. -/
  kind : Nat := 1
  /-- Journal record exactly as written; 13 R432; reset none. -/
  data : List Byte := []
  /-- Time of sending; 13 R431; reset none. -/
  sent : Nat := 0
  /-- Flagged LOCAL; 1 bit; 13 R433; reset none. -/
  local_ : Bool := false
  /-- Acknowledged by a stand-in: accepted, and kept until the buddy has it; 1 bit; 13 R431, R434; reset none. -/
  got  : Bool := false
  deriving DecidableEq, Repr

/-- DFN_MIRROR.STATE, coded 0b00 to 0b10 (13 R442). -/
inductive MirState where
  | local_ | buddy | standIn
  deriving DecidableEq, Repr

/-- DFN_EVT (13 R442). -/
structure DfnEvt where
  /-- ADDR_CLASH; 1 bit; 13 R442; reset 0. -/
  clash    : Bool := false
  /-- PEER_LOST; 1 bit; 13 R442; reset 0. -/
  peerLost : Bool := false
  /-- STALE; 1 bit; 13 R442; reset 0. -/
  stale    : Bool := false
  /-- LOCAL_ACCEPT; 1 bit; 13 R442; reset 0. -/
  localAcc : Bool := false
  /-- MIRROR_SWITCH; 1 bit; 13 R442; reset 0. -/
  mirSw    : Bool := false
  /-- REROUTE; 1 bit; 13 R442; reset 0. -/
  reroute  : Bool := false
  /-- ROOT_CHANGE; 1 bit; 13 R442; reset 0. -/
  rootChg  : Bool := false
  /-- UNLOCKED; 1 bit; 13 R442; reset 0. -/
  unlocked : Bool := false
  deriving DecidableEq, Repr

/-- Time source of the network layer (13 R439, R440). -/
structure NTime where
  /-- DFN_TIME.LOCKED; 1 bit; 13 R442; reset 0. -/
  locked : Bool := false
  /-- DFN_TIME.PPS_ROOTED; 1 bit; 13 R442; reset 0. -/
  pps    : Bool := false
  /-- DFN_TIME.ROOT; 1 bit; 13 R442; reset 0. -/
  root   : Bool := false
  /-- DFN_TIME.DEPTH; 4 bits; 13 R442; reset 0xF. -/
  depth  : Nat := 15
  /-- DFN_TIME.UPLANE, none at a root or without a source; 3 bits; 13 R442; reset none (0b000). -/
  up     : Option Nat := none
  /-- DFN_TIME.SOURCE; 16 bits; 13 R442; reset 0x0000. -/
  src    : Nat := 0
  /-- DFN_TIME_OFFSET.OFFSET in ps; 32 bits signed; 13 R442; reset 0. -/
  offset : Int := 0
  /-- Consecutive exchanges with |offset| below 50 ns; 4 bits; 13 R440; reset 0. -/
  good   : Nat := 0
  deriving DecidableEq, Repr

/-- The journaled part of the network layer (13 R412, R430, R432, R434). -/
structure DfnNv where
  /-- DFN_STAT.ADDR; 16 bits; 13 R442; reset DESIGN CHOICE 0x0000 (log 11): from journal. -/
  addr   : Nat := 0
  /-- Every node address held; 16 bits each; 13 R412; reset DESIGN CHOICE empty (log 11): from journal. -/
  held   : List Nat := []
  /-- Receive windows; 13 R430; reset DESIGN CHOICE empty (log 11): from journal. -/
  wins   : List WorkWin := []
  /-- Records sent and not yet acknowledged by a mirror target, LOCAL ones among them (DFN_MIRROR.LOCAL); 13 R431, R433; reset DESIGN CHOICE empty (log 11): from journal. -/
  owed   : List MirRec := []
  /-- Copies held as a mirror target, by owner's node address; 13 R432; reset DESIGN CHOICE empty (log 11): from journal. -/
  copies : List (Nat × MirRec) := []
  deriving DecidableEq, Repr

/-- The fabric network of chapter 13. -/
structure Dfn where
  /-- Journaled part; 13 R412; reset as DfnNv. -/
  nv      : DfnNv := {}
  /-- Receive windows whose journal record, as it stood, holds a double-bit error; 01 R35; reset empty. -/
  badWin  : List WorkWin := []
  /-- DFN_SERIAL_LO and DFN_SERIAL_HI; 64 bits; 13 R442; reset DESIGN CHOICE 0 (log 10): from fuses. -/
  serial  : Nat := 0
  /-- DFN_STAT.DISC; 16 bits; 13 R442; reset 0x0000, taken at the end of the self-test (R413). -/
  disc    : Nat := 0
  /-- Lanes 0 to 7; 13 R442; reset as NLane. -/
  lane    : List NLane := List.replicate 8 {}
  /-- Link-state map; 13 R415; reset empty. -/
  lsas    : List Lsa := []
  /-- Own LSA sequence; 32 bits; 13 R415; reset DESIGN CHOICE 0 (log 1). -/
  lsaSeq  : Nat := 0
  /-- Time of the newest own LSA; 13 R415; reset 0. -/
  lsaAt   : Nat := 0
  /-- A change of R415 awaits its LSA; 1 bit; 13 R415; reset false. -/
  lsaDue  : Bool := false
  /-- Destination and route tables, by index; 1,024; 13 R419; reset empty. -/
  dests   : List Dest := []
  /-- The link-state map has changed since the latest recomputation; 1 bit; 13 R421; reset false. -/
  dirty   : Bool := false
  /-- DFN_CLSc_CFG for classes 0 to 15; 13 R417; reset R417's defaults. -/
  cls     : List ClsCfg :=
    [⟨0, 0, 0, 1⟩, ⟨4, 4, 0, 1⟩, ⟨2, 4, 2, 8⟩, ⟨1, 2, 4, 2⟩, ⟨1, 1, 4, 1⟩] ++ List.replicate 11 ⟨1, 1, 1, 1⟩
  /-- Sending streams; 13 R423; reset empty. -/
  txs     : List TxStream := []
  /-- Receiving streams; 13 R423; reset empty. -/
  rxs     : List RxStream := []
  /-- Own flood sequence; 32 bits; 13 R428; reset DESIGN CHOICE 0 (log 1). -/
  floodSeq : Nat := 0
  /-- Flood windows; 13 R428; reset empty. -/
  floods  : List FloodWin := []
  /-- Packets held for want of a lane, oldest first; 13 R422; reset empty. -/
  held    : List NPkt := []
  /-- DFN_MIRROR.STATE; 2 bits; 13 R442; reset 0b00. -/
  mirState : MirState := .local_
  /-- DFN_BUDDY.TARGET; 16 bits; 13 R442; reset 0x0000. -/
  target  : Nat := 0
  /-- Time since which no mirror target has been reachable, none while one is; 13 R433; reset 0. -/
  noTarget : Option Nat := some 0
  /-- Time of the target's latest MIRROR_ACK; 13 R431; reset 0. -/
  mirAck  : Nat := 0
  /-- Time source; 13 R439; reset as NTime. -/
  time    : NTime := {}
  /-- DFN_DROPS.CRC; 16 bits; 13 R442; reset 0x0000. -/
  crc     : Nat := 0
  /-- DFN_DROPS.TTL; 16 bits; 13 R442; reset 0x0000. -/
  ttl     : Nat := 0
  /-- DFN_RETX; 32 bits; 13 R442; reset 0. -/
  retx    : Nat := 0
  /-- DFN_DUPS; 32 bits; 13 R442; reset 0. -/
  dups    : Nat := 0
  /-- DFN_EVT; 13 R442; reset as DfnEvt. -/
  evt     : DfnEvt := {}
  /-- DFN_LOAD.PERMILLE; 10 bits; 13 R442; reset 0. -/
  load    : Nat := 0
  /-- Packets delivered to their users, newest first, as (source, class, payload): the model's own record; 13 R423, R428; reset empty. -/
  users   : List (Nat × Nat × List Byte) := []
  /-- Packets sent, newest first: the model's own record of its outputs; 13 R416; reset empty. -/
  tx      : List NPkt := []
  deriving DecidableEq, Repr

end Sys2Proof.Machine
end

