-- ==== Sys2Proof/Machine/Blocks/Plc.lean ====
section
/-!
DEFINITION. The state of chapter 15: the four power-line networks, their nodes, frames waiting and held, receive
rings and routes. A default value is the reset value. Times are the model clock in ns unless a field says otherwise.
-/

namespace Sys2Proof.Machine

/-- Modulation modes, coded 0 to 3 (15 R483). -/
inductive PMode where
  | robo | dbpsk | dqpsk | d8psk
  deriving DecidableEq, Repr

/-- Frame types, coded 0x1 to 0x4 (15 R483). -/
inductive PType where
  | data | sack | beacon | route
  deriving DecidableEq, Repr

/-- A frame waiting for its slot or its SACK (15 R483 to R488). -/
structure PFrame where
  /-- TYPE; 8 bits; 15 R483; reset none. -/
  type   : PType := .data
  /-- PRIO; 2 bits; 15 R484; reset none. -/
  prio   : Nat := 2
  /-- MODE of the next try; 2 bits; 15 R486; reset none. -/
  mode   : PMode := .robo
  /-- DST; 16 bits; 15 R483; reset none. -/
  dst    : Nat := 0
  /-- SRC: the end point, the coordinator for its own frames; 16 bits; 15 R483; reset 0. -/
  src    : Nat := 0
  /-- HOP_DST; 16 bits; 15 R483; reset none. -/
  hop    : Nat := 0
  /-- REP: repeater ids, 0 if unused; 2 × 16 bits; 15 R490; reset (0, 0). -/
  rep    : Nat × Nat := (0, 0)
  /-- HOPS; 8 bits; 15 R483; reset 15. -/
  hops   : Nat := 15
  /-- Segments still to be sent, bit i for segment i (SEGMAP); 8 bits; 15 R488; reset none. -/
  segmap : Nat := 1
  /-- NSEG; 4 bits; 15 R483; reset none. -/
  nseg   : Nat := 1
  /-- SEQ; 16 bits; 15 R488; reset none. -/
  seq    : Nat := 0
  /-- CTR; 32 bits; 15 R487; reset none. -/
  ctr    : Nat := 0
  /-- Payload before encryption; 15 R492; reset none. -/
  data   : List Byte := []
  /-- Retries made; 3 bits; 15 R488; reset 0. -/
  tries  : Nat := 0
  /-- Broadcast copies still to be sent; 2 bits; 15 R485; reset 0. -/
  copies : Nat := 0
  /-- Sent and waiting for its SACK; 1 bit; 15 R488; reset false. -/
  sent   : Bool := false
  /-- The HOST data of PLN_Ck_TX_CTRL; 1 bit; 15 R493; reset false. -/
  host   : Bool := false
  deriving DecidableEq, Repr

/-- A frame as it went on the line: the codewords of its header segment and of its data segments (15 R482, R483). -/
structure PSent where
  /-- Header segment; 52 bytes; 15 R483; reset none. -/
  head : List Nat := []
  /-- Data segments; 1 to 8 times 52 bytes; 15 R482; reset none. -/
  segs : List (List Nat) := []
  deriving DecidableEq, Repr

/-- A frame being received: its good segments (15 R488). -/
structure PHold where
  /-- Source; 16 bits; 15 R488; reset none. -/
  src   : Nat := 0
  /-- SEQ; 16 bits; 15 R488; reset none. -/
  seq   : Nat := 0
  /-- Good segments by index; 15 R488; reset none. -/
  segs  : List (Nat × List Byte) := []
  /-- First good segment's time; 15 R488; reset none. -/
  since : Nat := 0
  deriving DecidableEq, Repr

/-- Role of a node (15 R478): LEGACY bound to a region, or AUX. -/
inductive PRole where
  | legacy (r : Nat) | aux
  deriving DecidableEq, Repr

/-- Code of BAT, LSW, cooling, THM and IMD consumers is CanUser's (14 R470); a node's configuration (15 R478). -/
structure PNodeCfg where
  /-- Node id; 10 bits; 15 R478; reset none. -/
  id    : Nat := 1
  /-- EUI; 64 bits; 15 R478; reset none. -/
  eui   : Nat := 0
  /-- Role; 15 R478; reset none. -/
  role  : PRole := .aux
  /-- Consumer; 15 R478; reset none. -/
  user  : CanUser := .cooling
  /-- Region of an IMD consumer; 14 R470; reset 0. -/
  index : Nat := 0
  /-- Node key as the image wraps it; 145 bytes; 18 R542; reset none. -/
  wrap  : List Byte := []
  deriving DecidableEq, Repr

/-- Bounds of a node's phase reading, coded as PLN_Ck_Nj_STAT.PHASE (15 R489, R495). -/
inductive PPhase where
  | a | b | c | aRev | bRev | cRev | unknown
  deriving DecidableEq, Repr

/-- State kept per node (15 R486 to R491, R495). -/
structure PNode where
  /-- Node id; 10 bits; 15 R478; reset none. -/
  id     : Nat := 0
  /-- Arrival of its last valid frame (PRESENT); 15 R495; reset none (0). -/
  heard  : Option Nat := none
  /-- Δ of its last frames, newest first, at most 8, in 10 µs; 15 R489; reset empty (PHASE UNKNOWN). -/
  deltas : List Nat := []
  /-- LQI the node last reported for this coupler's frames in 0.25 dB (MODE); 8 bits; 15 R486; reset 0x00. -/
  peerLqi : Nat := 0
  /-- SNR of the last frame received from it in 0.25 dB (LQI); 8 bits; 15 R495; reset 0x00. -/
  lqi    : Nat := 0
  /-- Whether each of the last 16 frames received a SACK, newest first; 15 R490; reset empty. -/
  acks   : List Bool := []
  /-- Failures of the present path in a row; 2 bits; 15 R491; reset 0. -/
  fails  : Nat := 0
  /-- HOPS; 4 bits; 15 R495; reset 0x0. -/
  hops   : Nat := 0
  /-- REP1: first repeater or next hop; 10 bits; 15 R495; reset 0x000. -/
  rep1   : Nat := 0
  /-- REP0: second repeater; 10 bits; 15 R495; reset 0x000. -/
  rep0   : Nat := 0
  /-- COST; 16 bits; 15 R495; reset 0xFFFF. -/
  cost   : Nat := 0xFFFF
  /-- Neighbours in its last BEACON: node, LQI, r in 1/255; 15 R490; reset empty. -/
  links  : List (Nat × Nat × Nat) := []
  /-- Last use of its Tatting route; 15 R491; reset none. -/
  used   : Option Nat := none
  /-- Next SEQ towards it; 16 bits; 15 R488; reset DESIGN CHOICE 0 (log 1). -/
  txSeq  : Nat := 0
  /-- Highest SEQ delivered from it and the delivered marks below; 15 R488; reset none. -/
  rxHigh : Option Nat := none
  /-- Delivered SEQs within the window of 256; 15 R488; reset empty. -/
  rxDone : List Nat := []
  deriving DecidableEq, Repr

/-- A record of a receive ring (15 R494). -/
structure PRec where
  /-- TIME, site time of the frame's end in ns; 64 bits; 15 R494; reset none. -/
  time : Nat := 0
  /-- SRC; 16 bits; 15 R494; reset none. -/
  src  : Nat := 0
  /-- KIND; 8 bits; 15 R494; reset none. -/
  kind : Nat := 0
  /-- Priority; 8 bits; 15 R494; reset none. -/
  prio : Nat := 0
  /-- Flags: bit 0 REPEATED, bit 1 ROBO; 8 bits; 15 R494; reset none. -/
  flags : Nat := 0
  /-- SEQ; 16 bits; 15 R494; reset none. -/
  seq  : Nat := 0
  /-- Data; 0 to 64 bytes; 15 R494; reset none. -/
  data : List Byte := []
  deriving DecidableEq, Repr

/-- RESULT of host data, coded 0b00 to 0b11 (15 R495). -/
inductive PResult where
  | idle | queued | delivered | failed
  deriving DecidableEq, Repr

/-- One coupler (15 R478 to R495). -/
structure PNet where
  /-- PLN_Ck_CFG.BAND: 0 A, 1 B, 2 BC, 3 W; 2 bits; 15 R495; reset 0b00. -/
  band    : Nat := 0
  /-- PLN_Ck_CFG.ZC_SRC; 3 bits; 15 R495; reset 0b000. -/
  zcSrc   : Nat := 0
  /-- PLN_Ck_CFG.NETWORK; 16 bits; 15 R495; reset 0x0000. -/
  network : Nat := 0
  /-- Node table (PLN_Ck_CFG.NODES is its length and 1 for the coordinator); 1,024; 15 R478; reset empty (0x000). -/
  table   : List PNodeCfg := []
  /-- Network configured by an image; 1 bit; 15 R478; reset false. -/
  cfgd    : Bool := false
  /-- PLN_Ck_CS.CS_LEVEL in dBµV; 8 bits; 15 R495; reset 0x56. -/
  cs      : Nat := 0x56
  /-- Supervisory cycles with the medium busy among the last 1,000, newest first (PLN_Ck_BUSY); 15 R495; reset 0x000. -/
  busyMs  : List Bool := []
  /-- Medium is held busy until this time; 15 R483; reset 0. -/
  busyTo  : Nat := 0
  /-- PLN_Ck_ERR.SEG_BAD; 8 bits; 15 R495; reset 0. -/
  segBad  : Nat := 0
  /-- PLN_Ck_ERR.IMPULSE; 8 bits; 15 R495; reset 0. -/
  impulse : Nat := 0
  /-- PLN_Ck_ERR.AUTH; 8 bits; 15 R495; reset 0. -/
  authErr : Nat := 0
  /-- PLN_Ck_ERR.DUP; 8 bits; 15 R495; reset 0. -/
  dup     : Nat := 0
  /-- PLN_Ck_RETX.RETX; 16 bits; 15 R495; reset 0. -/
  retx    : Nat := 0
  /-- PLN_Ck_RETX.RETX_FAIL; 8 bits; 15 R495; reset 0. -/
  retxFail : Nat := 0
  /-- PLN_Ck_RETX.TX_REFUSED; 8 bits; 15 R495; reset 0. -/
  txRef   : Nat := 0
  /-- Retained ring records, oldest first; 1,024; 15 R494; reset empty. -/
  ring    : List PRec := []
  /-- PLN_Ck_RING: index of the next record; 64 bits; 15 R495; reset 0. -/
  next    : Nat := 0
  /-- PLN_Ck_TX_CTRL.PRIO; 2 bits; 15 R495; reset 0b10. -/
  txPrio  : Nat := 2
  /-- PLN_Ck_TX_CTRL.RESULT; 2 bits; 15 R495; reset 0b00. -/
  txRes   : PResult := .idle
  /-- PLN_Ck_TX_CTRL.LEN; 5 bits; 15 R495; reset 0. -/
  txLen   : Nat := 0
  /-- PLN_Ck_TX_CTRL.DST; 10 bits; 15 R495; reset 0x000. -/
  txDst   : Nat := 0
  /-- PLN_Ck_TX_Di; 32 bits each; 15 R495; reset 0. -/
  txD     : List Nat := [0, 0, 0, 0]
  /-- PLN_Ck_HEALTH.FAIL_CNT: frames failed in the last and the present supervisory cycle; 8 bits; 15 R495; reset (0, 0). -/
  failCyc : Nat × Nat := (0, 0)
  /-- Nodes; 15 R495; reset empty. -/
  nodes   : List PNode := []
  /-- Frames waiting or unacknowledged, oldest first; 15 R479; reset empty. -/
  queue   : List PFrame := []
  /-- Frames being received; 15 R488; reset empty. -/
  holds   : List PHold := []
  /-- Next broadcast SEQ; 16 bits; 15 R488; reset DESIGN CHOICE 0 (log 1). -/
  bcSeq   : Nat := 0
  /-- Next CTR; 32 bits; 15 R487; reset DESIGN CHOICE 0 (log 11): from journal, 4,096 above it. -/
  ctr     : Nat := 0
  /-- Last journaled CTR; 32 bits; 15 R487; reset DESIGN CHOICE 0 (log 11): from journal. -/
  nvCtr   : Nat := 0
  /-- Route requests answered or forwarded, as (origin, request id, cost); 15 R491; reset empty. -/
  reqs    : List (Nat × Nat × Nat) := []
  /-- Next request id; 8 bits; 15 R491; reset DESIGN CHOICE 0 (log 1). -/
  reqId   : Nat := 0
  /-- Time of the last BEACON; 15 R490; reset none. -/
  beacon  : Option Nat := none
  /-- Time of the last STATUS and RSTATE it told, per LEGACY node; 15 R492; reset empty. -/
  status  : List (Nat × Nat × Nat) := []
  /-- Frames sent, newest first: the model's own record of its outputs; 15 R483; reset empty. -/
  tx      : List PSent := []
  /-- SACKs sent, newest first: the model's own record; 15 R485; reset empty. -/
  sacks   : List PSent := []
  deriving DecidableEq, Repr

/-- The power-line block of chapter 15. -/
structure Pln where
  /-- Couplers 0 to 3; 15 R478; reset as PNet. -/
  net : List PNet := List.replicate 4 {}
  deriving DecidableEq, Repr

end Sys2Proof.Machine
end

