-- ==== Sys2Proof/Machine/Blocks/Sys.lean ====
section
/-!
DEFINITION. The state of chapters 01 and 02: package mode and its context, life-cycle fuses, reset causes, service
grant, references and clocks, Hoop decoders, link and memory error counts. A default value is the reset value.
-/

namespace Sys2Proof.Machine

/-- The four fuse fields that give the life-cycle state (02 R70). -/
structure LcFuses where
  /-- SYS_LC.PROV, fuse: left BLANK at Quogus final test; 1 bit; 02 R70; reset DESIGN CHOICE true (log 10): from fuses. -/
  prov   : Bool := true
  /-- SYS_LC.SCRAP, fuse: scrapped; 1 bit; 02 R70; reset DESIGN CHOICE false (log 10): from fuses. -/
  scrap  : Bool := false
  /-- SYS_LC.SEALS, fuse: seals performed, 0 to 33; 6 bits; 02 R70; reset DESIGN CHOICE 0 (log 10): from fuses. -/
  seals  : Nat := 0
  /-- SYS_LC.BREAKS, fuse: seal breaks performed, 0 to 32; 6 bits; 02 R70; reset DESIGN CHOICE 0 (log 10): from fuses. -/
  breaks : Nat := 0
  deriving DecidableEq, Repr

/-- SYS_RESET_CAUSE, in the always-on domain (02 R74). -/
structure ResetCauses where
  /-- FIRST; 1 bit; 02 R74; reset 1 at first power-up. -/
  first   : Bool := true
  /-- POR; 1 bit; 02 R74; reset DESIGN CHOICE false (log 1): kept. -/
  por     : Bool := false
  /-- PIN; 1 bit; 02 R74; reset DESIGN CHOICE false (log 1): kept. -/
  pin     : Bool := false
  /-- CMD; 1 bit; 02 R74; reset DESIGN CHOICE false (log 1): kept. -/
  cmd     : Bool := false
  /-- THERMAL; 1 bit; 02 R74; reset DESIGN CHOICE false (log 1): kept. -/
  thermal : Bool := false
  /-- MEM; 1 bit; 02 R74; reset DESIGN CHOICE false (log 1): kept. -/
  mem     : Bool := false
  /-- LC; 1 bit; 02 R74; reset DESIGN CHOICE false (log 1): kept. -/
  lc      : Bool := false
  /-- DIE_A; 1 bit; 02 R74; reset DESIGN CHOICE false (log 1): kept. -/
  dieA    : Bool := false
  /-- DIE_B; 1 bit; 02 R74; reset DESIGN CHOICE false (log 1): kept. -/
  dieB    : Bool := false
  /-- RETRY; 1 bit; 02 R74; reset DESIGN CHOICE false (log 1): kept. -/
  retry   : Bool := false
  /-- RETRIES, recovery resets since the last write of 1 to RETRY, saturating at 255; 8 bits; 02 R74; reset DESIGN CHOICE 0 (log 1): kept. -/
  retries : Nat := 0
  deriving DecidableEq, Repr

/-- A service grant in force (02 R68). -/
structure Grant where
  /-- Granted region; 2 bits; 02 R68; reset none. -/
  region : Nat := 0
  /-- Power limit in kW; 32 bits; 02 R68; reset none. -/
  limit  : Nat := 0
  /-- Instant at which the grant ends, model clock in ns; 64 bits; 02 R68; reset none. -/
  until_ : Nat := 0
  deriving DecidableEq, Repr

/-- What an interval between successive Hoop edges is (01 R24). -/
inductive HoopIv where
  | code (d : Die) | bad
  deriving DecidableEq, Repr

/-- One Hoop decoder (01 R24, R25). -/
structure HoopDecoder where
  /-- Decoded owner: A, B or none; 2 bits; 01 R25; reset DESIGN CHOICE none (log 1). -/
  owner   : Option Die := none
  /-- Last valid owner; 2 bits; 11 R380; reset DESIGN CHOICE none (log 1). -/
  kind    : Option Die := none
  /-- Hoop error counter (DUO_HOOP_ERR); 8 bits; 01 R25, 11 R382; reset 0. -/
  errors  : Nat := 0
  /-- Model clock at which the decoded owner became valid, in ns; 64 bits; 02 R79; reset DESIGN CHOICE 0 (log 1). -/
  since   : Nat := 0
  /-- What the latest interval was; 01 R25; reset DESIGN CHOICE invalid (log 1). -/
  iv      : HoopIv := .bad
  /-- Consecutive intervals like the latest, up to 3; 2 bits; 01 R25; reset DESIGN CHOICE 0 (log 1). -/
  run     : Nat := 0
  deriving DecidableEq, Repr

/-- Package mode, life-cycle, resets, clocks and counts of chapters 01 and 02. -/
structure Sys where
  /-- SYS_MODE.MODE; 4 bits; 02 R63; reset 0x1 (BOOT). -/
  mode       : Mode := .boot
  /-- SYS_MODE.PREV, mode before the most recent transition; 4 bits; 02 R63; reset 0x0. -/
  prev       : Mode := .reset
  /-- Mode most recently journaled, with the die then active; 4 and 1 bits; 01 R55, 02 R78; reset none: DESIGN CHOICE (log 11),
  from journal: die A at first start. -/
  jMode      : Option (Mode × Option Die) := none
  /-- SYS_MODE.DEGRADED; 1 bit; 02 R63; reset 0. -/
  degraded   : Bool := false
  /-- SYS_MODE.GRANT and the grant's region, limit and end; 02 R63, R68; reset none (GRANT 0). -/
  grant      : Option Grant := none
  /-- SYS_MODE.LAST_GUARD; 8 bits; 02 R63; reset 0x00. -/
  lastGuard  : Nat := 0
  /-- Life-cycle fuses, in the Selvedge die; 02 R70; reset DESIGN CHOICE a delivered part, PROV set and nothing else (log 10). -/
  fuses      : LcFuses := {}
  /-- Life-cycle log, newest first: site time in ns, state before and after; 256 entries, journaled; 02 R71, R76; reset DESIGN CHOICE empty (log 11): from journal. -/
  lcLog      : List (Nat × Lc × Lc) := []
  /-- SYS_LC as presented: the fuse fields read at the latest reset; 32 bits; 02 R70, R71; reset as the fuses (log 10). -/
  lcRead     : LcFuses := {}
  /-- SYS_RESET_CAUSE; 32 bits; 02 R74; reset FIRST 1, other fields DESIGN CHOICE 0 (log 1). -/
  cause      : ResetCauses := {}
  /-- SYS_RESET_CAUSE bit number of the latest reset, as replay and restart records carry it; 4 bits; 09 R312, 10 R341; reset DESIGN CHOICE 0, FIRST (log 1). -/
  resetBit   : Nat := 0
  /-- Package resets requested and not yet asserted, oldest first; 02 R72; reset empty. -/
  pendingRst : List ResetCause := []
  /-- Model clock at which the pending reset's final save has run its 2 ms; 64 bits; 02 R72, 09 R309; reset none. -/
  rstSaveEnd : Option Nat := none
  /-- Package held in reset by the thermal hold of 19 R571; 1 bit; reset DESIGN CHOICE false (log 1). -/
  thermHold  : Bool := false
  /-- End of ARM_TIMEOUT, running only in ARMED with no session, model clock in ns; 02 R67; reset none. -/
  armUntil   : Option Nat := none
  /-- ARM_TIMEOUT in s, 1 to 3,600; 12 bits; 02 R67; reset 600. -/
  armTimeout : Nat := 600
  /-- Model clock at which the lease wait of 2 s in IDLE ends; 02 R69; reset none. -/
  leaseWait  : Option Nat := none
  /-- A lease expired in a mode without a row for it and awaits IDLE; 1 bit; 02 R69; reset false. -/
  leaseOwed  : Bool := false
  /-- A lease expired in this supervisory cycle; 1 bit; 02 R66; reset false. -/
  leaseCyc   : Bool := false
  /-- A fault whose action is safe-stop was recognised in this supervisory cycle; 1 bit; 02 R66; reset false. -/
  faultCyc   : Bool := false
  /-- Consecutive supervisory cycles in which no region was held below its request; 7 bits; 02 R65; reset 0. -/
  freeCycles : Nat := 0
  /-- Regions of which a cause of derating is recorded (BIND of 04 R156 at entry); 02 R65; reset empty. -/
  derateWhy  : List Nat := []
  /-- Recovery-retry interval in s, 10 doubling to 900; 10 bits; 02 R73; reset 10. -/
  retryIval  : Nat := 10
  /-- Model clock of the next recovery reset; 02 R73; reset none. -/
  retryDue   : Option Nat := none
  /-- Supervisory cycles counted; 64 bits; 01 R33; reset DESIGN CHOICE 0 (log 1). -/
  supCycles  : Nat := 0
  /-- A 10 ms boundary has been reached whose ledger cycle has not run; 1 bit; 01 R33; reset false. -/
  ldgDue     : Bool := false
  /-- Ledger cycles counted; 64 bits; 01 R33; reset DESIGN CHOICE 0 (log 1). -/
  ldgCycles  : Nat := 0
  /-- REFCLK_0 valid; 1 bit; 01 R32; reset DESIGN CHOICE true (log 1). -/
  ref0Ok     : Bool := true
  /-- REFCLK_1 valid; 1 bit; 01 R32; reset DESIGN CHOICE true (log 1). -/
  ref1Ok     : Bool := true
  /-- Reference in use, 0 or 1, none while both are lost; 01 R32; reset DESIGN CHOICE 0 (log 1). -/
  refUsed    : Option Nat := some 0
  /-- Domains of clock faults standing, per Stitch die as (die, domain); 01 R31; reset empty. -/
  clkFaults  : List (Die × Nat) := []
  /-- Corrected single-bit errors per memory: Stitch A, Stitch B, capture, secure, journal; 01 R35; reset DESIGN CHOICE 0 (log 1). -/
  eccCount   : List Nat := List.replicate 5 0
  /-- Frames discarded per link of 01 R19: Ground bridges A and B, Couching, spokes A, B, Ground, LS; 01 R21; reset DESIGN CHOICE 0 (log 1). -/
  linkDrops  : List Nat := List.replicate 7 0
  /-- The Ground die's Hoop decoder; 01 R24; reset as HoopDecoder. -/
  hoopG      : HoopDecoder := {}
  /-- Stitch A's Hoop decoder; 01 R24; reset as HoopDecoder. -/
  hoopA      : HoopDecoder := {}
  /-- Stitch B's Hoop decoder; 01 R24; reset as HoopDecoder. -/
  hoopB      : HoopDecoder := {}
  /-- The Ground die decoded none and accepts no owner until its safe-stop sequence is complete; 1 bit; 01 R27; reset false. -/
  noOwnerHold : Bool := false
  /-- Memory wiped and verified per die: Stitch A, Stitch B, Ground, Selvedge, LS; 02 R75; reset DESIGN CHOICE all wiped (log 1). -/
  wiped      : List Bool := List.replicate 5 true
  deriving DecidableEq, Repr

end Sys2Proof.Machine
end

