-- ==== Sys2Proof/Machine/Blocks/Tim.lean ====
section
/-!
DEFINITION. The state of chapter 19: the time counter, PPS and rate trim, the forty temperature sensors, and the
supply. A default value is the reset value. Times are the model clock in ns unless a field says otherwise.
-/

namespace Sys2Proof.Machine

/-- TIM_STAT.SYNC, coded 0x0 to 0x3 (19 R558). -/
inductive Sync where
  | unsync | holdover | fabric | pps
  deriving DecidableEq, Repr

/-- A bin of TIM_HOLDb (19 R564, R580). -/
structure HoldBin where
  /-- SAMPLES; 8 bits; 19 R580; reset DESIGN CHOICE 0 (log 11): from journal. -/
  n : Nat := 0
  /-- E in 10^−10; 24 bits signed; 19 R580; reset DESIGN CHOICE 0 (log 11): from journal. -/
  e : Int := 0
  deriving DecidableEq, Repr

/-- A pending TIME_STEP (19 R565). -/
structure Step_ where
  /-- EFFECTIVE, site time in ns; 64 bits; 19 R579; reset none. -/
  eff  : Nat := 0
  /-- NEW_TIME in ns; 64 bits; 19 R579; reset none. -/
  new  : Nat := 0
  /-- Work id; 64 bits; 19 R565; reset none. -/
  work : Nat := 0
  deriving DecidableEq, Repr

/-- TIM_EVT (19 R580). -/
structure TimEvt where
  /-- ACQUIRED; 1 bit; 19 R580; reset 0. -/
  acquired : Bool := false
  /-- ACQ_REFUSED; 1 bit; 19 R580; reset 0. -/
  acqRef   : Bool := false
  /-- STEP; 1 bit; 19 R580; reset 0. -/
  step     : Bool := false
  /-- OFFSET_LARGE; 1 bit; 19 R580; reset 0. -/
  offset   : Bool := false
  /-- PPS_LOST; 1 bit; 19 R580; reset 0. -/
  lost     : Bool := false
  /-- PPS_JUMP; 1 bit; 19 R580; reset 0. -/
  jump     : Bool := false
  deriving DecidableEq, Repr

/-- PPS input state (19 R559, R564). -/
structure Pps where
  /-- TIM_STAT.PPS_VALID; 1 bit; 19 R580; reset 0. -/
  valid   : Bool := false
  /-- TIM_STAT.ALIGNED apart from SYNC; 1 bit; 19 R580; reset 0. -/
  aligned : Bool := false
  /-- Reference cycles counted at the previous valid edge; 19 R559; reset none. -/
  last    : Option Nat := none
  /-- Model clock of the previous valid edge, in ns; 19 R559; reset none. -/
  lastClk : Option Nat := none
  /-- Consecutive valid edges, saturating at 8; 4 bits; 19 R559; reset 0. -/
  good    : Nat := 0
  /-- Consecutive valid edges with |φ| below 18 ns, saturating at 8; 4 bits; 19 R559; reset 0. -/
  close   : Nat := 0
  /-- Edges outside the window in a row; 2 bits; 19 R559; reset 0. -/
  bad     : Nat := 0
  /-- TIM_PHASE.PHI in ns; 32 bits signed; 19 R580; reset 0. -/
  phi     : Int := 0
  /-- Model clock of each expected edge missing or outside the window, newest first, at most 255; 19 R580; reset empty (0x00). -/
  missed  : List Nat := []
  /-- Edges since the start of the present 64 s span and the reference cycles at that start; 19 R564; reset none. -/
  span    : Option (Nat × Nat) := none
  deriving DecidableEq, Repr

/-- The TIM block (19 R580). -/
structure Tim where
  /-- TIM_NOW: time counter in ns; 64 bits; 19 R580; reset DESIGN CHOICE 0 (log 11): from journal. -/
  now     : Nat := 0
  /-- Last journaled counter; 64 bits; 19 R557; reset DESIGN CHOICE 0 (log 11): from journal. -/
  nvNow   : Nat := 0
  /-- TIM_STAT.SYNC; 4 bits; 19 R580; reset 0x0. -/
  sync    : Sync := .unsync
  /-- TIM_STAT.OFFSET_LARGE; 1 bit; 19 R580; reset 0. -/
  large   : Bool := false
  /-- PPS input; 19 R559; reset as Pps. -/
  pps     : Pps := {}
  /-- Pending TIME_STEP (STEP_PENDING); 19 R565; reset none (0). -/
  step_   : Option Step_ := none
  /-- f_est, kept exactly; 19 R560; reset 0. -/
  fEst    : Rat := 0
  /-- φ of the previous trim in ns, kept exactly; 19 R560; reset none. -/
  phiPrev : Option Rat := none
  /-- Without PPS in state FABRIC: seconds, reference cycles (kept exactly) and first offset in ns of the present 64 s span; 19 R564; reset none. -/
  fspan   : Option (Nat × Rat × Rat) := none
  /-- Rate trim a, kept exactly (TIM_RATE in 10^−12); 32 bits signed; 19 R580; reset 0. -/
  a       : Rat := 0
  /-- TIM_FREQ_ERR.E in 10^−12; 32 bits signed; 19 R580; reset DESIGN CHOICE 0 (log 11): from journal. -/
  e       : Int := 0
  /-- TIM_PPS_DELAY in ns; 32 bits signed; 19 R580; reset 0. -/
  delay   : Int := 0
  /-- TIM_STEP_SUM in ns; 64 bits signed; 19 R580; reset 0. -/
  stepSum : Int := 0
  /-- TIM_LAST_SET in ns; 64 bits; 19 R580; reset DESIGN CHOICE 0 (log 11): from journal. -/
  lastSet : Nat := 0
  /-- TIM_EVT; 19 R580; reset as TimEvt. -/
  evt     : TimEvt := {}
  /-- Acquisition refused: UNSYNC until a TIME_STEP; 1 bit; 19 R561; reset false. -/
  noAcq   : Bool := false
  /-- Acquisition waiting for the supervisory boundary, its offset in ns; 19 R561; reset none. -/
  acq     : Option Int := none
  /-- TIM_HOLDb; 24 bins; 19 R580; reset as HoldBin. -/
  hold    : List HoldBin := List.replicate 24 {}
  deriving DecidableEq, Repr

/-- One temperature sensor (19 R567, R568, R581). -/
structure Sensor where
  /-- Reading in 0.1 °C, none before its first sample; 16 bits signed; 19 R581; reset none (0x0000). -/
  t      : Option Int := none
  /-- DEV in 0.1 °C; 16 bits signed; 19 R581; reset 0x0000. -/
  dev    : Int := 0
  /-- REASON: 0 none, 1 range, 2 neighbours, 3 stuck (EXCLUDED); 2 bits; 19 R581; reset 0b00. -/
  reason : Nat := 0
  /-- Consecutive samples differing by more than 12 °C from the median; 7 bits; 19 R568; reset 0. -/
  off    : Nat := 0
  /-- Samples since its reading last changed; 19 R568; reset 0. -/
  same   : Nat := 0
  /-- Consecutive samples at 140 °C or above while valid, saturating at 3; 2 bits; 19 R571; reset 0. -/
  hot    : Nat := 0
  /-- Least and greatest median of its neighbours since then, in 0.05 °C; 19 R568; reset none. -/
  med    : Option (Int × Int) := none
  deriving DecidableEq, Repr

/-- THM_EVT (19 R581). -/
structure ThmEvt where
  /-- SHUTDOWN; 1 bit; 19 R581; reset 0. -/
  shutdown : Bool := false
  /-- STOP; 1 bit; 19 R581; reset 0. -/
  stop     : Bool := false
  /-- QUIET; 1 bit; 19 R581; reset 0. -/
  quiet    : Bool := false
  /-- WARN; 1 bit; 19 R581; reset 0. -/
  warn     : Bool := false
  /-- EXCLUDED; 1 bit; 19 R581; reset 0. -/
  excl     : Bool := false
  deriving DecidableEq, Repr

/-- The THM block (19 R581). -/
structure Thm where
  /-- Sensors 0 to 39; 19 R581; reset as Sensor. -/
  sens  : List Sensor := List.replicate 40 {}
  /-- T_WARN in 0.1 °C; 16 bits signed; 19 R581; reset 0x041A. -/
  tWarn  : Int := 1050
  /-- T_QUIET in 0.1 °C; 16 bits signed; 19 R581; reset 0x047E. -/
  tQuiet : Int := 1150
  /-- T_STOP in 0.1 °C; 16 bits signed; 19 R581; reset 0x0514. -/
  tStop  : Int := 1300
  /-- THM_STAT.WARN; 1 bit; 19 R581; reset 0. -/
  warn   : Bool := false
  /-- THM_STAT.QUIET; 1 bit; 19 R581; reset 0. -/
  quiet  : Bool := false
  /-- THM_STAT.STOP; 1 bit; 19 R581; reset 0. -/
  stop   : Bool := false
  /-- THM_MAX.T in 0.1 °C; 16 bits signed; 19 R581; reset 0x0000. -/
  max_   : Int := 0
  /-- Consecutive samples with every valid sensor below 110 °C, saturating at 100,000; 17 bits; 19 R571; reset 0. -/
  cool   : Nat := 0
  /-- THM_EVT; 19 R581; reset as ThmEvt. -/
  evt    : ThmEvt := {}
  /-- THM_SHUTDOWNS.COUNT; 16 bits; 19 R581; reset DESIGN CHOICE 0 (log 11): from journal. -/
  shutdowns : Nat := 0
  /-- Model clock since which the die temperatures have been below T_STOP less 5 °C; 19 R576; reset none. -/
  calm    : Option Nat := none
  deriving DecidableEq, Repr

/-- SUP_EVT (19 R582). -/
structure SupEvt where
  /-- AUTO_CLEAR; 1 bit; 19 R582; reset 0. -/
  autoClear : Bool := false
  /-- HOLD_SHORT; 1 bit; 19 R582; reset 0. -/
  short     : Bool := false
  /-- VIO_FAULT; 1 bit; 19 R582; reset 0. -/
  vio       : Bool := false
  /-- VANA_FAULT; 1 bit; 19 R582; reset 0. -/
  vana      : Bool := false
  /-- INHIBIT; 1 bit; 19 R582; reset 0. -/
  inhibit   : Bool := false
  /-- WARN; 1 bit; 19 R582; reset 0. -/
  warn      : Bool := false
  deriving DecidableEq, Repr

/-- The SUP block (19 R582). -/
structure Sup where
  /-- SUP_STAT.WARN; 1 bit; 19 R582; reset 0. -/
  warn    : Bool := false
  /-- SUP_STAT.INHIBIT; 1 bit; 19 R582; reset 0. -/
  inhibit : Bool := false
  /-- SUP_STAT.VANA_OK; 1 bit; 19 R582; reset 0. -/
  vanaOk  : Bool := false
  /-- SUP_STAT.VIO_OK, banks 0 to 7; 8 bits; 19 R582; reset 0x00. -/
  vioOk   : List Bool := List.replicate 8 false
  /-- Nominal level of each VIO bank in 10 mV, taken at start-up, 0 before; 20 R585; reset 0. -/
  vioNom  : List Nat := List.replicate 8 0
  /-- SUP_VMAIN.VHOLD in 10 mV; 16 bits; 19 R582; reset 0x0000. -/
  vhold   : Nat := 0
  /-- SUP_VMAIN.VMAIN in 10 mV; 16 bits; 19 R582; reset 0x0000. -/
  vmain   : Nat := 0
  /-- SUP_VANA.VANA in 10 mV; 16 bits; 19 R582; reset 0x0000. -/
  vana    : Nat := 0
  /-- SUP_EVT; 19 R582; reset as SupEvt. -/
  evt     : SupEvt := {}
  /-- SUP_HOLD.WARN_INH in µs; 16 bits; 19 R582; reset DESIGN CHOICE 0xFFFF (log 11): from journal. -/
  warnInh : Nat := 0xFFFF
  /-- SUP_HOLD.SAVE in µs; 16 bits; 19 R582; reset DESIGN CHOICE 0 (log 11): from journal. -/
  save    : Nat := 0
  /-- Time of the warn crossing in force; 19 R578; reset none. -/
  warnAt  : Option Nat := none
  /-- Model clock at which the node last rose above the warn rising level; 19 R576; reset none. -/
  warnOff : Option Nat := none
  /-- Model clock at which the node rose through the reset release level, none since it last fell through reset (step 1 of R78); 02 R78, 19 R575; reset none. -/
  upAt    : Option Nat := none
  /-- Start-up step 3 of R78 has been passed; 1 bit; 02 R78; reset false. -/
  started : Bool := false
  deriving DecidableEq, Repr

end Sys2Proof.Machine
end

