-- ==== Sys2Proof/Machine/Blocks/Vcmd.lean ====
section
/-!
DEFINITION. The state of chapter 06: regions' commands, sessions and transitions, and the eight Purl ports.
A default value is the reset value.
-/

namespace Sys2Proof.Machine

/-- VCMD_RGr_CFG.SRC, coded 0b00 to 0b11 (06 R217). -/
inductive CmdSrc where
  | purl | register | both | v2g
  deriving DecidableEq, Repr

/-- Who owns a session, or gave a command: a Purl port, the register path, a 10BASE-T1S port (06 R192, R217). -/
inductive Owner where
  | none
  | purl (port : Nat)
  | register
  | v2g (port : Nat)
  deriving DecidableEq, Repr

/-- Kinds of acknowledgement, coded 0b00 to 0b11 (06 R201). -/
inductive AckKind where
  | accepted | reached | superseded | refused
  deriving DecidableEq, Repr

/-- An acknowledgement frame (06 R201). -/
structure Ack where
  /-- KIND; 2 bits; 06 R201; reset none. -/
  kind     : AckKind := .accepted
  /-- VREF in 10 mV; 18 bits; 06 R201; reset none. -/
  vref     : Nat := 0
  /-- SEQ; 8 bits; 06 R201; reset none. -/
  seq      : Nat := 0
  /-- CAUSE; 8 bits; 06 R201; reset none. -/
  cause    : Nat := 0
  /-- BY_SEQ; 8 bits; 06 R201; reset none. -/
  bySeq    : Nat := 0
  /-- CLIMIT; 1 bit; 06 R201; reset none. -/
  climit   : Bool := false
  /-- Takeovers of the package when the transition was accepted, or, refused on arrival, when that was decided: FAILOVER is sent as 1
  once a later one has taken place; 06 R201, R212; reset none. -/
  turn     : Nat := 0
  /-- COMPAT; 1 bit; 06 R201; reset none. -/
  compat   : Bool := false
  deriving DecidableEq, Repr

/-- What a transition does: opens a session, changes its target, or closes it (06 R208, R209). -/
inductive TransKind where
  | open_ | command | close
  deriving DecidableEq, Repr

/-- A transition accepted and without its final acknowledgement (06 R204). -/
structure Transition where
  /-- Open, command or close; 06 R209; reset none. -/
  kind  : TransKind := .command
  /-- Its source; 06 R192; reset none. -/
  src   : Owner := .none
  /-- SEQ of a Purl transition; 8 bits; 06 R200; reset none. -/
  seq   : Nat := 0
  /-- Takeovers of the package when it was accepted; 06 R201 FAILOVER; reset none. -/
  turn  : Nat := 0
  deriving DecidableEq, Repr

/-- Commands and session of one region (06 R217). -/
structure VRegion where
  /-- SRC; 2 bits; 06 R217; reset 0b00 PURL. -/
  src      : CmdSrc := .purl
  /-- AUTO_OPEN; 1 bit; 06 R217; reset 0. -/
  autoOpen : Bool := false
  /-- VCMD_RGr_TARGET in 10 mV; 32 bits; 06 R217; reset 0. -/
  target   : Nat := 0
  /-- VCMD_RGr_SLEW in V/ms; 9 bits; 06 R217; reset 0x064. -/
  slew     : Nat := 0x64
  /-- VCMD_RGr_ILIM in 100 mA, none when absent; 32 bits; 06 R217; reset 0xFFFF_FFFF. -/
  ilim     : Option Nat := none
  /-- STAT.REACHED; 1 bit; 06 R217; reset 1. -/
  reached  : Bool := true
  /-- STAT.SLEWING; 1 bit; 06 R217; reset 0. -/
  slewing  : Bool := false
  /-- STAT.OWNER, source of the command in force; 2 bits; 06 R217; reset 0b00. -/
  cmdBy    : Owner := .none
  /-- STAT.SEQ; 8 bits; 06 R217; reset 0x00. -/
  seq      : Nat := 0
  /-- STAT.LAST_CAUSE; 8 bits; 06 R217; reset 0x00. -/
  lastCause : Nat := 0
  /-- STAT.WRITES; 8 bits; 06 R217; reset 0x00. -/
  writes   : Nat := 0
  /-- A register-path slew is in progress; 1 bit; 06 R213; reset false. -/
  regSlew  : Bool := false
  /-- A register-path target came into force in the present supervisory cycle, so VCMD_RGr_SLEW still sets its rate; 1 bit; 06 R213; reset false. -/
  regNew   : Bool := false
  /-- Owner of the open session (VCMD_RGr_SESSION.OPEN is its presence); 06 R217; reset none (0). -/
  session  : Option Owner := none
  /-- The session's open has been REACHED; 1 bit; 06 R201 RSTATE; reset false. -/
  started  : Bool := false
  /-- The region ramps down after its session closed; 1 bit; 06 R209; reset false. -/
  closing  : Bool := false
  /-- The transition without its final acknowledgement; 06 R204; reset none. -/
  trans    : Option Transition := none
  /-- Target of the command in force in 10 mV; 32 bits; 06 R193; reset 0. -/
  cmdTgt   : Nat := 0
  /-- Slew of the command in force in V/ms; 9 bits; 06 R193; reset 500. -/
  cmdSlew  : Nat := 500
  deriving DecidableEq, Repr

/-- A frame at a Purl receiver (06 R194, R195). -/
structure PurlIn where
  /-- The frame's 8 data bytes, [63:56] first on the line; 64 bits; 06 R194; reset none. -/
  bits  : Nat := 0
  /-- It had a wrong length; 1 bit; 06 R195; reset none. -/
  short : Bool := false
  /-- Code violations in it; 16 bits; 06 R195; reset none. -/
  viols : Nat := 0
  /-- Code violations on the line since the frame before it; 32 bits; 06 R195; reset none. -/
  line  : Nat := 0
  deriving DecidableEq, Repr

/-- One Purl port (06 R195 to R203, R217). -/
structure Purl where
  /-- VCMD_Pp_STAT.UP; 1 bit; 06 R217; reset 0. -/
  up       : Bool := false
  /-- Model clock at which the receiver became UP, in ns; 06 R195; reset 0. -/
  upAt     : Nat := 0
  /-- Consecutive valid K28.5 characters, 0 to 4; 3 bits; 06 R195; reset 0. -/
  idles    : Nat := 0
  /-- LINK_LOST; 1 bit; 06 R217; reset 0. -/
  linkLost : Bool := false
  /-- CRC_ERR; 8 bits; 06 R217; reset 0x00. -/
  crcErr   : Nat := 0
  /-- DISCARD; 8 bits; 06 R217; reset 0x00. -/
  discard  : Nat := 0
  /-- CODE_ERR; 8 bits; 06 R217; reset 0x00. -/
  codeErr  : Nat := 0
  /-- Code violations and CRC failures in the present supervisory cycle; 8 bits; 06 R217; reset 0. -/
  errNow   : Nat := 0
  /-- HEALTH.ERR_CNT; 8 bits; 06 R217; reset 0x00. -/
  errLast  : Nat := 0
  /-- NEWEST; 8 bits; 06 R203; reset 0x00. -/
  newest   : Nat := 0
  /-- The frame that set NEWEST, bits [63:8]; 56 bits; 06 R203; reset none. -/
  lastFrame : Option Nat := none
  /-- Latest acknowledgement of NEWEST; 06 R203; reset none. -/
  lastAck  : Option Ack := none
  /-- End of the previous COMMAND or SESSION frame accepted on the port, model clock in ns; 06 R199; reset none. -/
  lastEnd  : Option Nat := none
  /-- End of the latest valid frame, model clock in ns; 06 R197; reset 0. -/
  lastOk   : Nat := 0
  /-- Acknowledgements queued, oldest first (ACKQ is their number); 16 entries; 06 R217, R218; reset empty. -/
  queue    : List Ack := []
  /-- Acknowledgement being sent and not yet sent in full; 06 R212; reset none. -/
  sending  : Option Ack := none
  /-- A status frame that waits for the acknowledgements before it; 64 bits; 06 R202; reset none. -/
  status   : Option Nat := none
  /-- Acknowledgements that the standby's mirror does not show as sent in full, oldest first; 06 R212; reset empty. -/
  mir      : List Ack := []
  /-- The same for the mirror frame that the active die sent last; 06 R212; reset empty. -/
  mirNext  : List Ack := []
  /-- Frames sent, newest first, 64 bits each: the model's own record of its outputs; 06 R201; reset empty. -/
  tx       : List Nat := []
  deriving DecidableEq, Repr

/-- Voltage and current commands of chapter 06. -/
structure Vcmd where
  /-- Regions 0 to 3; 06 R217; reset as VRegion. -/
  rg   : List VRegion := List.replicate 4 {}
  /-- Purl ports 0 to 7; 06 R217; reset as Purl. -/
  port : List Purl := List.replicate 8 {}
  deriving DecidableEq, Repr

end Sys2Proof.Machine
end

