-- ==== Sys2Proof/Machine/Blocks/Veh.lean ====
section
/-!
DEFINITION. The state of the vehicle links of chapter 14: ports, TCP and TLS of each port, and the ISO 15118-20
session of each region. A default value is the reset value. Times are the model clock in ns.
-/

namespace Sys2Proof.Machine

/-- VLK_RGr_STATE.STAGE, coded 0x0 to 0xB (14 R476). -/
inductive VStage where
  | none_ | discovery | tls | setup | authorization | parameters | cableCheck | preCharge | chargeLoop
  | stopping | welding | stopped
  deriving DecidableEq, Repr

/-- ResponseCode of a response (14 R447, R449, R450). -/
inductive VCode where
  | ok | ongoing | finished | failed | noNegotiation
  deriving DecidableEq, Repr

/-- A response sent to a vehicle (14 R447 to R451). -/
structure VResp where
  /-- Response code; 14 R447; reset none. -/
  code   : VCode := .ok
  /-- EVSENotification Terminate; 1 bit; 14 R451; reset none. -/
  term   : Bool := false
  /-- Limits reported: maximum current in mA, power in kW, voltage in mV; 14 R451; reset none. -/
  limits : Option (Nat × Nat × Nat) := none
  /-- Present values: voltage in mV and current in mA; 14 R450; reset none. -/
  pres   : Option (Int × Int) := none
  /-- Services offered: 0 DC, 1 MCS; 14 R447; reset none. -/
  svcs   : List Nat := []
  /-- Schedule entry in kW, scheduled mode; 14 R447; reset none. -/
  sched  : Option Nat := none
  deriving DecidableEq, Repr

/-- A segment of a vehicle TCP connection, by the response it carries (14 R456; log 64). -/
structure VSeg where
  /-- Number of the segment on its connection; 14 R456; reset none. -/
  n    : Nat := 0
  /-- The response it carries; 14 R447; reset none. -/
  resp : VResp := {}
  /-- Supervisory mirror that carries its state, by its count; 14 R456; reset none. -/
  mir  : Nat := 0
  deriving DecidableEq, Repr

/-- An SECC discovery answer as sent (14 R445, R446). -/
structure SdpOut where
  /-- The port's own MAC address; 6 bytes; 14 R445; reset none. -/
  mac  : List Byte := []
  /-- Its link-local IPv6 address, named to the vehicle; 16 bytes; 14 R446; reset none. -/
  addr : List Byte := []
  /-- TCP port, with TLS; 16 bits; 14 R446; reset none. -/
  tcp  : Nat := 0
  deriving DecidableEq, Repr

/-- One 10BASE-T1S port (14 R443 to R448, R476). -/
structure VPort where
  /-- VLK_Pp_CFG.PLCA_EN; 1 bit; 14 R476; reset 0. -/
  plcaEn  : Bool := false
  /-- VLK_Pp_CFG.NODE_ID; 8 bits; 14 R476; reset 0x00. -/
  nodeId  : Nat := 0
  /-- VLK_Pp_CFG.NODE_CNT; 8 bits; 14 R476; reset 0x00. -/
  nodeCnt : Nat := 0
  /-- VLK_Pp_CFG.TO_TIMER; 8 bits; 14 R476; reset 0x00. -/
  toTimer : Nat := 0
  /-- VLK_Pp_BURST.MAX_BC; 8 bits; 14 R476; reset 0x00. -/
  maxBc   : Nat := 0
  /-- VLK_Pp_BURST.BTMR; 8 bits; 14 R476; reset 0x00. -/
  btmr    : Nat := 0
  /-- TCP port of the SECC discovery answer; 16 bits; 14 R446; reset 50,000. -/
  tcpPort : Nat := 50000
  /-- VLK_Pp_RX; 32 bits, wrapping; 14 R476; reset 0. -/
  rx      : Nat := 0
  /-- VLK_Pp_ERR.FCS; 16 bits; 14 R476; reset 0. -/
  fcs     : Nat := 0
  /-- VLK_Pp_ERR.COLL; 8 bits; 14 R476; reset 0. -/
  coll    : Nat := 0
  /-- VLK_Pp_ERR.BEACON; 8 bits; 14 R476; reset 0. -/
  beacon  : Nat := 0
  /-- VLK_STAT.PLCA; 1 bit; 14 R476; reset 0. -/
  plcaOk  : Bool := false
  /-- Arrival of the latest valid frame (VLK_STAT.ACTIVE); 14 R476; reset none (0). -/
  frameAt : Option Nat := none
  /-- A TCP connection exists; 1 bit; 14 R446; reset false. -/
  tcp     : Bool := false
  /-- VLK_STAT.TLS; 1 bit; 14 R476; reset 0. -/
  tls     : Bool := false
  /-- Vehicle's Ethernet source address at SessionSetup; 48 bits; 14 R455; reset 0. -/
  mac     : Nat := 0
  /-- supportedAppProtocol agreed; 1 bit; 14 R447; reset false. -/
  proto   : Bool := false
  /-- Number of the next segment of the connection; 14 R456; reset 0. -/
  seq     : Nat := 0
  /-- Segments waiting for the mirror's acknowledgement, oldest first; 14 R456; reset empty. -/
  heldSeg : List VSeg := []
  /-- Segments released to the MAC and not acknowledged by the vehicle, oldest first; 14 R456; reset empty. -/
  sent    : List VSeg := []
  /-- Segments released to the MAC, newest first: the model's own record of its outputs; 14 R456; reset empty. -/
  out     : List VSeg := []
  /-- TCP resets sent to second connections: the model's own count; 14 R446; reset 0. -/
  resets  : Nat := 0
  /-- UDP discovery answers sent, newest first: the model's own record; 14 R446; reset empty. -/
  sdp     : List SdpOut := []
  deriving DecidableEq, Repr

/-- AUTH_MODE, coded 0b00 to 0b10 (14 R476). -/
inductive VAuth where
  | none_ | eim | pnc
  deriving DecidableEq, Repr

/-- The vehicle session of one region (14 R449 to R455, R476). -/
structure VReg where
  /-- VLK_RGr_CFG.EIM_POLICY, true HOST; 2 bits; 14 R476; reset 0b00. -/
  eimHost : Bool := false
  /-- VLK_RGr_CFG.VID_PREF; 1 bit; 14 R476; reset 0. -/
  vidPref : Bool := false
  /-- VLK_RGr_CFG.CLIENT_AUTH; 1 bit; 14 R476; reset 0. -/
  cliAuth : Bool := false
  /-- VLK_RGr_CFG.SLEW; 9 bits; 14 R476; reset 0x064. -/
  slew    : Nat := 100
  /-- VLK_RGr_STATE.STAGE; 4 bits; 14 R476; reset 0x0. -/
  stage   : VStage := .none_
  /-- VLK_RGr_STATE.AUTH_MODE; 2 bits; 14 R476; reset 0b00. -/
  auth    : VAuth := .none_
  /-- VLK_RGr_STATE.PORT and VLK_STAT.OWNER: owning port, none without a session; 14 R454; reset none (0). -/
  owner   : Option Nat := none
  /-- Port whose vehicle is in conversation, from SessionSetup to the end of its connection; 14 R451; reset none. -/
  talk    : Option Nat := none
  /-- VLK_RGr_STATE.MCS; 1 bit; 14 R476; reset 0. -/
  mcs     : Bool := false
  /-- Dynamic control mode selected; 1 bit; 14 R447; reset false. -/
  dynamic : Bool := false
  /-- VLK_RGr_STATE.END_CAUSE; 8 bits; 14 R476; reset 0x00. -/
  endC    : Nat := 0
  /-- An EIM authorisation waits for the host: since when; 14 R449; reset none. -/
  authAt  : Option Nat := none
  /-- VLK_RGr_AUTH.AUTH; 2 bits; 14 R476; reset 0b00. -/
  authReg : Nat := 0
  /-- Vehicle is authorised; 1 bit; 14 R449; reset false. -/
  authOk  : Bool := false
  /-- Authorization or cable check has failed, told in the next answer; 1 bit; 14 R449, R450; reset false. -/
  authBad : Bool := false
  /-- Vehicle identity: VID_KIND and VID; 14 R455; reset (0x00, empty). -/
  vid     : Nat × List Byte := (0, [])
  /-- First DC_CableCheckReq of the session: when; 14 R450; reset none. -/
  cable   : Option Nat := none
  /-- A DC_WeldingDetectionReq has been received; 1 bit; 14 R450; reset false. -/
  weld    : Bool := false
  /-- Cause told in every later response (R451 second and third rows); 8 bits; 14 R451; reset none. -/
  told    : Option Nat := none
  /-- Cause of the open request's FAILED (R451 first row); 8 bits; 14 R451; reset none. -/
  openBad : Option Nat := none
  /-- Arrival of the owning port's latest valid request; 14 R452; reset 0. -/
  reqAt   : Nat := 0
  /-- Arrival of the latest IMD frame; 14 R470; reset none. -/
  imdAt   : Option Nat := none
  /-- Latest IMD frame reported valid: since when (VLK_RGr_STATE.IMD_OK); 14 R470; reset none (0). -/
  imdOk   : Option Nat := none
  deriving DecidableEq, Repr

/-- The vehicle links of chapter 14. -/
structure Vlk where
  /-- Ports 0 to 7; 14 R476; reset as VPort. -/
  port : List VPort := List.replicate 8 {}
  /-- Regions 0 to 3; 14 R476; reset as VReg. -/
  rg   : List VReg := List.replicate 4 {}
  deriving DecidableEq, Repr

end Sys2Proof.Machine
end

