-- ==== Sys2Proof/Machine/Blocks/Image.lean ====
section
/-!
DEFINITION. The decoded contents of a configuration image, and the image store (03 R114, 18 R543). The spec names
what an image holds block by block and leaves its byte layout to Joette (log 7): the contents travel decoded.
-/

namespace Sys2Proof.Machine

/-- The fuse section of a configuration image (07 R228, 09 R289). -/
structure FuseSec where
  /-- Port-to-cluster map; 07 R228; reset none. -/
  map  : List (Option Nat) := List.replicate 96 none
  /-- Dead times of the clusters that have one; 07 R228; reset none. -/
  dt   : List (Option Nat) := List.replicate 8 none
  /-- Calibration table; 09 R289; reset none. -/
  cal  : Option CalBank := none
  deriving DecidableEq, Repr

/-- One 10BASE-T1S port's configuration (14 R444, R446). -/
structure VPortCfg where
  /-- PLCA_EN; 1 bit; 14 R476; reset none. -/
  plcaEn  : Bool := false
  /-- NODE_ID; 8 bits; 14 R476; reset none. -/
  nodeId  : Nat := 0
  /-- NODE_CNT; 8 bits; 14 R476; reset none. -/
  nodeCnt : Nat := 0
  /-- TO_TIMER; 8 bits; 14 R476; reset none. -/
  toTimer : Nat := 0
  /-- MAX_BC; 8 bits; 14 R476; reset none. -/
  maxBc   : Nat := 0
  /-- BTMR; 8 bits; 14 R476; reset none. -/
  btmr    : Nat := 0
  /-- TCP port; 16 bits; 14 R446; reset 50,000. -/
  tcpPort : Nat := 50000
  deriving DecidableEq, Repr

/-- A region's command source and vehicle options (06 R192, 14 R476). -/
structure RegionCfg where
  /-- SRC; 2 bits; 06 R217; reset none. -/
  src      : CmdSrc := .purl
  /-- AUTO_OPEN; 1 bit; 06 R217; reset none. -/
  autoOpen : Bool := false
  /-- EIM_POLICY HOST; 1 bit; 14 R476; reset none. -/
  eimHost  : Bool := false
  /-- VID_PREF; 1 bit; 14 R476; reset none. -/
  vidPref  : Bool := false
  /-- CLIENT_AUTH; 1 bit; 14 R476; reset none. -/
  cliAuth  : Bool := false
  /-- SLEW; 9 bits; 14 R476; reset 0x064. -/
  slew     : Nat := 100
  deriving DecidableEq, Repr

/-- One CAN channel's configuration (14 R459, R470). -/
structure CanCfg where
  /-- Nominal rate in kbit/s; 14 R459; reset none. -/
  nom     : Nat := 0
  /-- Data rate in kbit/s; 14 R459; reset none. -/
  dat     : Nat := 0
  /-- Filters; up to 32; 14 R470; reset none. -/
  filters : List CanFilter := []
  deriving DecidableEq, Repr

/-- One power-line network's configuration (15 R478). -/
structure PNetCfg where
  /-- Band; 2 bits; 15 R478; reset none. -/
  band    : Nat := 0
  /-- Zero-crossing source; 3 bits; 15 R478; reset none. -/
  zcSrc   : Nat := 0
  /-- NETWORK; 16 bits; 15 R478; reset none. -/
  network : Nat := 0
  /-- Node table; 15 R478; reset none. -/
  table   : List PNodeCfg := []
  deriving DecidableEq, Repr

/-- One load-switch channel's configuration (16 R510). -/
structure LChCfg where
  /-- USE; 2 bits; 16 R510; reset none. -/
  use      : LUse := .unused
  /-- OL_MODE; 2 bits; 16 R510; reset none. -/
  olMode   : Nat := 0
  /-- OL_TH; 6 bits; 16 R510; reset none. -/
  olTh     : Nat := 0
  /-- BLANK; 6 bits; 16 R510; reset none. -/
  blank    : Nat := 0
  /-- RETRY_MAX; 4 bits; 16 R510; reset none. -/
  retryMax : Nat := 0
  /-- AUTO_RESTART; 1 bit; 16 R510; reset none. -/
  auto     : Bool := false
  /-- FAILSAFE; 2 bits; 16 R510; reset none. -/
  failsafe : LSafe := .off
  /-- FREQ; 16 bits; 16 R510; reset none. -/
  freq     : Nat := 0
  /-- FS_DUTY; 16 bits; 16 R510; reset none. -/
  fsDuty   : Nat := 0
  deriving DecidableEq, Repr

/-- The decoded contents of a configuration image (03 R114; log 7). -/
structure ConfigImage where
  /-- SHA-384 of the image; 48 bytes; 18 R550; reset none. -/
  digest   : List Byte := []
  /-- Clients; up to 32; 03 R87; reset none. -/
  clients  : List ClientCfg := []
  /-- DLMS client table; 10 R347; reset none. -/
  dlms     : List (Nat × DlmsRole) := []
  /-- SESSION_IDLE in s; 03 R89; reset 600. -/
  idleMax  : Nat := 600
  /-- MTU; 03 R81; reset 1,500. -/
  mtu      : Nat := 1500
  /-- ICMP echo enabled; 03 R81; reset none. -/
  echoOn   : Bool := false
  /-- Addresses of EP0 and EP1; 03 R80; reset none. -/
  addrs    : List (Option Nat) := [none, none]
  /-- ARM_TIMEOUT in s; 02 R67; reset 600. -/
  armTime  : Nat := 600
  /-- Clusters 0 to 7; 04 R120; reset none. -/
  clusters : List (ClusterCfg × ClusterRw) := List.replicate 8 ({}, {})
  /-- Ports 0 to 95; 04 R161, 07 R229; reset none. -/
  ports    : List PortCfg := List.replicate 96 {}
  /-- Carrier offset overrides in 1/1,024 period; 96 entries; 04 R120, R134; reset none. -/
  offsets  : List (Option Nat) := List.replicate 96 none
  /-- Fast channels 0 to 95; 04 R137; reset none. -/
  chans    : List ChanCfg := List.replicate 96 {}
  /-- Fuse section; 07 R228; reset none. -/
  fuse     : Option FuseSec := none
  /-- Lanes 0 to 127; 05 R162, R191; reset none. -/
  lanes    : List (LaneCfg × LaneRw) := List.replicate 128 ({}, {})
  /-- Regions 0 to 3; 06 R192, 14 R476; reset none. -/
  regions  : List RegionCfg := List.replicate 4 {}
  /-- SCALE and P_MAX for epoch 0; 09 R288; reset none. -/
  cal      : CalBank := {}
  /-- Demand period LENGTH in min; 10 R325; reset none. -/
  demLen   : Nat := 15
  /-- NPER; 10 R325; reset none. -/
  demN     : Nat := 1
  /-- Tamper thresholds and loss model; 10 R334; reset none. -/
  tmp      : TmpCfg := {}
  /-- SOAK in ms; 11 R374; reset 1,000. -/
  soak     : Nat := 1000
  /-- ASYM of lanes 0 to 7 in ps; 13 R442; reset none. -/
  asym     : List Int := List.replicate 8 0
  /-- 10BASE-T1S ports; 14 R444; reset none. -/
  vports   : List VPortCfg := List.replicate 8 {}
  /-- SHA-384 digests of the V2G root certificates; at most 8; 14 R448; reset none. -/
  v2gRoots : List (List Byte) := []
  /-- SHA-384 digests of revoked certificates; at most 256 of 48 bytes; 14 R449; reset none. -/
  revoked  : List (List Byte) := []
  /-- CAN channels; 14 R459; reset none. -/
  can      : List CanCfg := List.replicate 16 {}
  /-- Power-line networks, none where not configured; 15 R478; reset none. -/
  pln      : List (Option PNetCfg) := List.replicate 4 none
  /-- Load-switch channels; 16 R510; reset none. -/
  lsw      : List LChCfg := List.replicate 24 {}
  /-- Cooling sources 40 to 87; 16 R506; reset none. -/
  srcs     : List (Option SrcCfg) := List.replicate 48 none
  /-- CAN set-points of actuators 24 to 31: channel, buffer, offset, width; 16 R507; reset none. -/
  acts     : List (Option (Nat × Nat × Nat × Nat)) := List.replicate 8 none
  /-- Cable models of regions 0 to 3; 16 R508; reset none. -/
  cables   : List Cable := List.replicate 4 {}
  /-- Buffer strings, none where the image gives none; 17 R511, R527; reset none. -/
  bat      : List (Option BCfg) := List.replicate 16 none
  /-- TIM_PPS_DELAY in ns; 19 R580; reset none. -/
  delay    : Int := 0
  /-- T_WARN, T_QUIET and T_STOP in 0.1 °C; 19 R570; reset 105, 115 and 130 °C. -/
  limits   : Int × Int × Int := (1050, 1150, 1300)

  deriving DecidableEq, Repr

/-- What the end of a verification brings of an image besides its bytes: of a firmware image the version it reports, of a
configuration image and a site map the contents, whose layout the spec leaves to Joette (03 R114, 18 R544; log 7). -/
inductive ImageIn where
  | firmware (ver : Nat)
  | config (c : ConfigImage)
  | calendar
  | siteMap (m : SiteMap)
  deriving DecidableEq, Repr

/-- What an image's body turned out to hold when it verified (03 R114; log 7). -/
inductive ImageBody where
  | firmware (slot : FwSlot)
  | config (c : ConfigImage)
  | calendar (c : Calendar)
  | siteMap (m : SiteMap)
  deriving DecidableEq, Repr

/-- A verified image waiting for IMAGE_COMMIT, with the key id it was verified under (18 R544). -/
structure Verified where
  /-- Contents; 03 R114; reset none. -/
  body  : ImageBody := .config {}
  /-- Public key of the signer when it was verified; 18 R544; reset none. -/
  key   : List Byte := []
  deriving DecidableEq, Repr

/-- An image being loaded (03 R114). -/
structure ImgLoad where
  /-- KIND, 1 to 4; 8 bits; 03 R114; reset none. -/
  kind   : Nat := 1
  /-- TARGET; 8 bits; 03 R114; reset none. -/
  target : Nat := 0
  /-- TOTAL; 32 bits; 03 R114; reset none. -/
  total  : Nat := 0
  /-- Chunks received, as (offset, length); 03 R114; reset none. -/
  parts  : List (Nat × Nat) := []
  /-- Work id of the chunk that completed it, while verification runs; 64 bits; 03 R114; reset none. -/
  verify : Option Nat := none
  deriving DecidableEq, Repr

end Sys2Proof.Machine
end

