-- ==== Sys2Proof/Machine/Blocks/Events.lean ====
section
/-!
DEFINITION. The operands of commands that carry more than a number: what a measurement, a frame or an engine outside
the model hands to the block. They are inputs and no state. Fields cite the rule that says what they are.
-/

namespace Sys2Proof.Machine

/-- The journal's records: a slot of a meter, a transfer given or taken by its id, the receive window of a source, a copy
kept for another module or an item owed to it, an event by its index, a receipt by its number (01 R34, 21 R620). -/
inductive JournalRec where
  | energy (meter slot : Nat) | out (id : Nat) | taken (id : Nat) | window (src : Nat) | event (index : Nat) | receipt (no : Nat)
  deriving DecidableEq, Repr

/-- The memories whose errors 01 R35 tells apart. -/
inductive EccMem where
  | stitch (d : Die) | capture | secure | journal (r : JournalRec)
  deriving DecidableEq, Repr

/-- Results of the self-tests of SELF_TEST (11 R353, 02 R65). -/
structure SelfTest where
  /-- Stitch A passes; 11 R353. -/
  a        : Bool := true
  /-- Stitch B passes; 11 R353. -/
  b        : Bool := true
  /-- The Ground die and its bridges pass; 02 R65. -/
  ground   : Bool := true
  /-- The Selvedge die passes; 02 R65. -/
  selvedge : Bool := true
  /-- The LS die passes; 02 R65. -/
  ls       : Bool := true
  /-- Draws of the entropy source passed their health tests, one entry per draw made; 18 R530. -/
  draws    : List Bool := [true]
  /-- The burn of the root slot was not cut short; 18 R531. -/
  burnt    : Bool := true
  deriving DecidableEq, Repr

/-- What the supervisory boundary finds measured outside the model's own arithmetic (01 R33). -/
structure BoundaryIn where
  /-- Internal node in 10 mV; 19 R582. -/
  vhold : Nat := 1200
  /-- VMAIN pin in 10 mV; 19 R582. -/
  vmain : Nat := 1200
  /-- VANA in 10 mV; 19 R582. -/
  vana  : Nat := 500
  /-- Load-switch currents in mA; 24 values; 16 R510. -/
  li    : List Nat := []
  /-- Load-switch junction temperatures in 0.1 °C; 24 values; 16 R510. -/
  ltj   : List Int := []
  /-- Current limit acting per channel; 24 values; 16 R499. -/
  llim  : List Bool := []
  /-- Quad supplies in 10 mV; 6 values; 16 R510. -/
  lvs   : List Nat := []
  /-- Frames of each link of 01 R19 discarded in the cycle for their CRC or sequence, and sent again since; 7 values; 01 R21. -/
  drops : List Nat := []
  deriving DecidableEq, Repr

/-- What a fast cycle has sampled (04 R138). -/
structure FastIn where
  /-- Sample instant S, in fine ticks of the time counter; 04 R136. -/
  t       : Nat := 0
  /-- Raw 16-bit samples at S; 96 values, of which those of phase currents are not renewed; 04 R137, R138. -/
  raw     : List Int := []
  /-- The cycle's work exceeded its time; 04 R139. -/
  overrun : Bool := false
  /-- The frame with these samples fails its CRC or sequence on Ground bridge A, and on Ground bridge B; 01 R21. -/
  lost    : Bool × Bool := (false, false)
  deriving DecidableEq, Repr

/-- An item whose acceptance completes (13 R429). -/
inductive Item where
  | slot (ep : Fin 3) (i : Fin 64)
  | dlms (assoc : Nat)
  deriving DecidableEq, Repr

/-- A tamper condition and its scope (10 R334). -/
inductive TamperCond where
  | reverse (r : Fin 4) | bypassEnergy (a : Fin 2) | bypassCurrent (r : Fin 4) | neutral (a : Fin 2)
  deriving DecidableEq, Repr

/-- A DLMS association request (10 R347). -/
structure AarqIn where
  /-- Handle the association gets; 10 R346. -/
  id     : Nat
  /-- Endpoint, 0 or 1; 10 R345. -/
  ep     : Nat := 0
  /-- Wrapper, whose source wPort is the role's; 10 R345. -/
  wrap   : Wrapper := {}
  /-- Client key number; 10 R347. -/
  key    : Nat := 0
  /-- HLS mechanism 7 authenticates the client, and its signature on its ephemeral key holds; 10 R347. -/
  authOk : Bool := true
  /-- The client's ephemeral P-384 key; 97 bytes; 10 R347. -/
  eph    : List Byte := []
  /-- The client's maximum receive PDU in bytes, 0 for no limit; 10 R346. -/
  max    : Nat := 0
  deriving DecidableEq, Repr

/-- The background self-tests of a non-active die in the supervisory cycle that ends (11 R366). -/
structure TestIn where
  /-- The die; 11 R366. -/
  die     : Die := .a
  /-- Banks of main SRAM marched; 11 R366. -/
  banks   : Nat := 0
  /-- Every one of them passed; 11 R366. -/
  marchOk : Bool := true
  /-- Lane self-check of the cycle's 8 lanes: not run, or whether their vector sets gave the stored results; 11 R366. -/
  lanes   : Option Bool := some true
  deriving DecidableEq, Repr

/-- A loopback comparison of one port's gate-line edges in the two dies (11 R366). -/
structure LoopIn where
  /-- Port; 11 R366. -/
  port  : Fin 96
  /-- Difference of the edges in ps; 11 R366. -/
  ps    : Int := 0
  /-- The levels differ; 11 R366. -/
  level : Bool := false
  deriving DecidableEq, Repr

/-- What a non-active die finds in a fast cycle (11 R365, R366). -/
structure MirrorIn where
  /-- Its own results are those of the mirror frame; 11 R365. -/
  agree : Bool := true
  /-- What the loopback capture path shows of the cycle; 11 R366. -/
  loop  : List LoopIn := []
  deriving DecidableEq, Repr

/-- What a Purl receiver sees when it goes up or down (06 R195). -/
structure PurlRx where
  /-- Port; 06 R194. -/
  u     : Fin 8
  /-- Code violations on the line since the frame before; 06 R195. -/
  viols : Nat := 0
  deriving DecidableEq, Repr

/-- A level that EYE_FAULT_N takes (07 R237). -/
structure FaultPinIn where
  /-- Port; 07 R219. -/
  p   : Fin 96
  /-- The level is low; 07 R237. -/
  low : Bool := true
  deriving DecidableEq, Repr

/-- A command frame to the LS die (16 R497). -/
structure LsFrameIn where
  /-- The Stitch die that sends it; 01 R15. -/
  die   : Die := .a
  /-- Clamp energy in 0.1 mJ of each channel, for those that the frame switches off; 16 R502. -/
  clamp : List Nat := []
  deriving DecidableEq, Repr

/-- A start of a carrier, or its middle (04 R125, R136, R137). -/
structure CarrierIn where
  /-- Port; 04 R122. -/
  p   : Fin 96
  /-- The middle of the carrier; 04 R125. -/
  mid : Bool := false
  /-- Instant in fine ticks; 04 R123. -/
  t   : Nat := 0
  /-- The phase's sample at its own sampling point, where the carrier has one there; 04 R137. -/
  raw : Option Int := none
  deriving DecidableEq, Repr

/-- What ends at a Hoop decoder (01 R24, R25). -/
structure HoopIn where
  /-- Intervals in ps, oldest first; 01 R24. -/
  ivals  : List Nat := []
  /-- After them 120 ns without an edge; 01 R25. -/
  silent : Bool := false
  deriving DecidableEq, Repr

/-- A Hoop decoder (01 R24). -/
inductive HoopWho where
  | ground | stitch (d : Die)
  deriving DecidableEq, Repr

/-- A training frame as a lane's receiver sees it (12 R392, R393). -/
structure TrainIn where
  /-- Training marker found at the position of the previous one; 12 R396. -/
  marker : Bool := true
  /-- Control word with a valid CRC; 12 R393. -/
  word   : Option CtrlWord := none
  /-- Symbols of the test pattern compared; 12 R396. -/
  syms   : Nat := 0
  /-- Errored bits among them; 12 R396. -/
  errs   : Nat := 0
  /-- The receiver's requests to the far end, REQ_PRE and REQ_POST; 12 R393. -/
  req    : Nat × Nat := (0, 0)
  /-- The receiver asks for the preset; 12 R393. -/
  preset : Bool := false
  /-- The receiver requests no further change; 12 R393. -/
  done   : Bool := true
  /-- First decision-feedback tap above half the main cursor; 12 R409. -/
  bigTap : Bool := false
  deriving DecidableEq, Repr

/-- A SYNC packet with the receiver's stamps, in ps of the time counter (13 R438). -/
inductive SyncIn where
  | request (t1 t2 t3 : Nat)
  | reply (t1 t2 t3 t4 : Nat)
  deriving DecidableEq, Repr

/-- A TCP connection and TLS handshake of a vehicle (14 R446, R448). -/
structure TlsIn where
  /-- Cipher suite, group, signature scheme and full handshake are those of R448. -/
  paramsOk : Bool := true
  /-- The vehicle sent a certificate; 14 R448. -/
  cert     : Bool := false
  /-- Its chain verifies up to a root certificate; 14 R448. -/
  certOk   : Bool := false
  /-- SHA-384 digest of that root; 48 bytes; 14 R448. -/
  root     : List Byte := []
  deriving DecidableEq, Repr

/-- AuthorizationSetup and Authorization requests (14 R449). -/
inductive AuthIn where
  | setup
  | eim
  | pnc (chainOk : Bool) (root : List Byte) (notBefore notAfter : Nat) (emaid digest : List Byte)
  deriving DecidableEq, Repr

/-- ServiceDiscovery, ServiceDetail and ServiceSelection requests (14 R447): the service asked for, 0 DC, 1 MCS. -/
inductive ServiceIn where
  | discovery | detail (service : Nat) | selection (service : Nat) (dynamic : Bool)
  deriving DecidableEq, Repr

/-- What wakes a sleeping CAN channel (14 R473). -/
inductive WakeIn where
  | edge | frame (f : CanFrame) (t : Nat) | send
  deriving DecidableEq, Repr

/-- A power-line segment as received: the 52 bytes of its codeword, off the carriers (15 R482; log 9). -/
structure PSegIn where
  /-- Codeword; 52 bytes; 15 R482. -/
  code    : List Nat
  /-- Places of the bytes with bits of impulse-marked symbols; 15 R488. -/
  erased  : List Nat := []
  /-- Impulse-marked symbols; 15 R488. -/
  impulse : Nat := 0
  deriving DecidableEq, Repr

/-- A power-line frame as received (15 R483; log 9). -/
structure PlcIn where
  /-- Header segment; 15 R483. -/
  head   : PSegIn
  /-- Data segments; 15 R482. -/
  segs   : List PSegIn := []
  /-- Bytes of the payload, which no field of the frame gives; 15 R483, R492. -/
  len    : Nat := 0
  /-- SNR in 0.25 dB; 15 R483. -/
  snr    : Nat := 0
  /-- Start of the preamble, time counter in ns; 15 R489. -/
  t0     : Nat := 0
  /-- End of the frame, time counter in ns; 15 R494. -/
  t1     : Nat := 0
  deriving DecidableEq, Repr

/-- A SACK as received (15 R485; log 9). -/
structure SackIn where
  /-- Header segment; 15 R483. -/
  head : PSegIn
  /-- Its single data segment; 15 R485. -/
  seg  : PSegIn
  deriving DecidableEq, Repr

end Sys2Proof.Machine
end

