-- ==== Sys2Proof/Syntax.lean ====
section
/-!
DEFINITION. The commands: one constructor per row of spec/opcode_table.json, in the table's order, with the operands
the row's rule names. A mailbox command names the endpoint and slot that hold its bytes; a frame or message carries
its bytes; a measurement carries what was measured; a timer carries which of its kind has run out. What an engine
outside the model finds (a signature, a tag, an authentication) is an operand (log 5).
-/

namespace Sys2Proof
open Machine

/-- The commands of the block. -/
inductive Instr where
  /-- VMAIN_RELEASE; 02 R78. -/
  | vmainRelease (temps : List Int)
  /-- RESET_N_ASSERTED; 02 R72. -/
  | resetNAsserted
  /-- PACKAGE_RESET; 02 R72. -/
  | packageReset
  /-- SUPPLY_WARN; 19 R574. -/
  | supplyWarn (t : Nat)
  /-- SUPPLY_WARN_RECOVERED; 09 R310. -/
  | supplyWarnRecovered (t : Nat)
  /-- NV_WRITE_INHIBIT; 19 R574. -/
  | nvWriteInhibit (t : Nat)
  /-- POR_THRESHOLD; 19 R574. -/
  | porThreshold
  /-- SUPPLY_RAIL_INVALID; 19 R575. -/
  | supplyRailInvalid (rail : Option (Fin 8))
  /-- SUPPLY_RAIL_START_TIMEOUT; 19 R575. -/
  | supplyRailStartTimeout
  /-- AUTO_CLEAR; 19 R576. -/
  | autoClear
  /-- RECOVERY_RETRY; 02 R73. -/
  | recoveryRetry
  /-- THERMAL_HOLD_RELEASE; 19 R571. -/
  | thermalHoldRelease
  /-- SENSOR_SAMPLE; 19 R567. -/
  | sensorSample (temps : List Int)
  /-- CLOCK_FAULT; 01 R31. -/
  | clockFault (die : Die) (dom : Fin 12) (lane : Option (Fin 8))
  /-- REFCLK_LOSS; 01 R32. -/
  | refclkLoss (ref : Fin 2)
  /-- MEMORY_ECC_ERROR; 01 R35. -/
  | memoryEccError (mem : EccMem) (double : Bool)
  /-- FIRMWARE_AUTHENTICATED; 02 R65. -/
  | firmwareAuthenticated (slot0 : FwSlot) (slot1 : FwSlot)
  /-- BOOT_AUTH_FAILED; 02 R65. -/
  | bootAuthFailed
  /-- SELF_TEST_COMPLETE; 11 R353. -/
  | selfTestComplete (res : SelfTest)
  /-- SUPERVISORY_BOUNDARY; 01 R33. -/
  | supervisoryBoundary (b : BoundaryIn)
  /-- DERATE_RECOVERED; 02 R65. -/
  | derateRecovered
  /-- SUPERVISORY_MIRROR_RECEIVED; 11 R361. -/
  | supervisoryMirrorReceived (die : Die) (ok : Bool)
  /-- LEDGER_CYCLE; 08 R266. -/
  | ledgerCycle
  /-- FAST_CYCLE; 04 R138. -/
  | fastCycle (c : Fin 8) (f : FastIn)
  /-- FAST_MIRROR_RECEIVED; 11 R365. -/
  | fastMirrorReceived (c : Fin 8) (die : Die) (ok : Bool) (f : MirrorIn)
  /-- CLUSTER_START; 04 R142. -/
  | clusterStart (c : Fin 8)
  /-- PREBIAS_MEASURE_START; 04 R142. -/
  | prebiasMeasureStart (c : Fin 8)
  /-- PREBIAS_MEASUREMENT_COMPLETE; 04 R143. -/
  | prebiasMeasurementComplete (c : Fin 8) (grid : List Int)
  /-- CLUSTER_STOP; 04 R142. -/
  | clusterStop (c : Fin 8)
  /-- AFE_START_FAILED; 04 R142. -/
  | afeStartFailed (c : Fin 8)
  /-- MATCH_CONDITION_HELD; 04 R147. -/
  | matchConditionHeld (c : Fin 8)
  /-- MATCH_TIMEOUT; 04 R142. -/
  | matchTimeout (c : Fin 8)
  /-- ISO_SETTLE_EXPIRY; 04 R142. -/
  | isoSettleExpiry (c : Fin 8)
  /-- RAMP_DOWN_COMPLETE; 04 R148. -/
  | rampDownComplete (c : Fin 8)
  /-- FAULTED_RECOVERY; 04 R142. -/
  | faultedRecovery (c : Fin 8)
  /-- PHASE_SHED_COMPLETE; 04 R151. -/
  | phaseShedComplete (p : Fin 96)
  /-- PHASE_RETURN_COMPLETE; 04 R152. -/
  | phaseReturnComplete (p : Fin 96)
  /-- FREEZE_HOLD_EXPIRY; 04 R154. -/
  | freezeHoldExpiry (c : Fin 8)
  /-- REVERSE_BLOCK_END; 04 R144. -/
  | reverseBlockEnd (c : Fin 8)
  /-- SYNC_IN_EDGE; 04 R131. -/
  | syncInEdge (c : Fin 8) (t : Nat)
  /-- SYNC_IN_EDGES_MISSING; 04 R131. -/
  | syncInEdgesMissing (c : Fin 8)
  /-- CAPTURE_TRIGGER; 04 R160. -/
  | captureTrigger
  /-- CAPTURE_FULL; 04 R160. -/
  | captureFull (data : List Byte)
  /-- RC_LEARNING_STEP; 05 R181. -/
  | rcLearningStep (l : Fin 128)
  /-- RC_COAST; 05 R182. -/
  | rcCoast (l : Fin 128)
  /-- RC_RESUME; 05 R182. -/
  | rcResume (l : Fin 128)
  /-- MODE_REQUEST; 02 R65. -/
  | modeRequest (ep : Fin 3) (slot : Fin 64) (sigOk : Bool)
  /-- SERVICE_GRANT; 02 R68. -/
  | serviceGrant (ep : Fin 3) (slot : Fin 64)
  /-- GRANT_EXPIRY; 02 R68. -/
  | grantExpiry
  /-- FAULT_CLEAR; 02 R65. -/
  | faultClear (ep : Fin 3) (slot : Fin 64)
  /-- SYS_RESET; 02 R74. -/
  | sysReset (ep : Fin 3) (slot : Fin 64)
  /-- ARM_TIMEOUT; 02 R67. -/
  | armTimeout
  /-- LEASE_WAIT_TIMEOUT; 02 R69. -/
  | leaseWaitTimeout
  /-- LC_SEAL; 02 R71. -/
  | lcSeal (ep : Fin 3) (slot : Fin 64) (sigOk : Bool)
  /-- LC_BREAK; 02 R71. -/
  | lcBreak (ep : Fin 3) (slot : Fin 64) (sigOk : Bool)
  /-- LC_SCRAP; 02 R71. -/
  | lcScrap (ep : Fin 3) (slot : Fin 64) (sigOk : Bool)
  /-- COMMAND; 03 R94. -/
  | command (msg : MsgIn)
  /-- RESULT_READ; 03 R97. -/
  | resultRead (msg : MsgIn)
  /-- OPEN_REQUEST; 03 R88. -/
  | openRequest (msg : MsgIn) (sid : Nat) (nonce : List Byte)
  /-- CLOSE; 03 R85. -/
  | close (msg : MsgIn)
  /-- RECOVERY; 03 R92. -/
  | recovery (msg : MsgIn)
  /-- SESSION_IDLE_TIMEOUT; 03 R89. -/
  | sessionIdleTimeout (sid : Nat)
  /-- SPI_READ_TRANSACTION; 03 R82. -/
  | spiReadTransaction (len : Nat)
  /-- REASSEMBLY_TIMEOUT; 03 R81. -/
  | reassemblyTimeout (ep : Fin 2) (key : Nat)
  /-- WORK_ACCEPTED; 13 R429. -/
  | workAccepted (item : Item)
  /-- SYS_INFO; 03 R112. -/
  | sysInfo (ep : Fin 3) (slot : Fin 64)
  /-- IMAGE_LOAD; 03 R114. -/
  | imageLoad (ep : Fin 3) (slot : Fin 64)
  /-- IMAGE_VERIFICATION_COMPLETE; 18 R544. -/
  | imageVerificationComplete (kind : Nat) (sigOk : Bool) (body : ImageIn)
  /-- IMAGE_COMMIT; 04 R120. -/
  | imageCommit (ep : Fin 3) (slot : Fin 64)
  /-- VCMD_WRITE; 06 R216. -/
  | vcmdWrite (ep : Fin 3) (slot : Fin 64)
  /-- REGION_LIMIT; 04 R158. -/
  | regionLimit (ep : Fin 3) (slot : Fin 64)
  /-- PHASE_POLICY; 04 R159. -/
  | phasePolicy (ep : Fin 3) (slot : Fin 64)
  /-- CAPTURE_START; 04 R160. -/
  | captureStart (ep : Fin 3) (slot : Fin 64)
  /-- EYE_FAULT_CLEAR; 07 R238. -/
  | eyeFaultClear (ep : Fin 3) (slot : Fin 64)
  /-- EYE_CLEAR_PROGRESS; 07 R238. -/
  | eyeClearProgress (p : Fin 96)
  /-- EYE_CLEAR_TIMEOUT; 07 R239. -/
  | eyeClearTimeout (p : Fin 96)
  /-- CE_COEF_STAGE; 05 R176. -/
  | ceCoefStage (ep : Fin 3) (slot : Fin 64)
  /-- CE_COEF_SWAP; 05 R177. -/
  | ceCoefSwap (ep : Fin 3) (slot : Fin 64)
  /-- RC_CONTROL; 05 R182. -/
  | rcControl (ep : Fin 3) (slot : Fin 64)
  /-- LDG_POLICY; 08 R281. -/
  | ldgPolicy (ep : Fin 3) (slot : Fin 64)
  /-- LDG_JOIN; 08 R275. -/
  | ldgJoin (ep : Fin 3) (slot : Fin 64)
  /-- LDG_LEAVE; 08 R276. -/
  | ldgLeave (ep : Fin 3) (slot : Fin 64)
  /-- RECEIPT_FETCH; 10 R349. -/
  | receiptFetch (ep : Fin 3) (slot : Fin 64)
  /-- RECEIPT_ACK; 10 R344. -/
  | receiptAck (ep : Fin 3) (slot : Fin 64)
  /-- EVENT_FETCH; 10 R349. -/
  | eventFetch (ep : Fin 3) (slot : Fin 64)
  /-- DUO_SWITCH; 11 R373. -/
  | duoSwitch (ep : Fin 3) (slot : Fin 64)
  /-- PLANNED_FLIP; 11 R373. -/
  | plannedFlip
  /-- DUO_READMIT; 11 R376. -/
  | duoReadmit (ep : Fin 3) (slot : Fin 64)
  /-- DFL_EYE_SCAN; 12 R404. -/
  | dflEyeScan (ep : Fin 3) (slot : Fin 64)
  /-- EYE_SCAN_POINT; 12 R403. -/
  | eyeScanPoint (l : Fin 8) (errors : Nat)
  /-- DFL_FAULT_INJECT; 12 R407. -/
  | dflFaultInject (ep : Fin 3) (slot : Fin 64)
  /-- INJECTION_END; 12 R408. -/
  | injectionEnd (l : Fin 8)
  /-- INJ_WINDOW_TICK; 12 R406. -/
  | injWindowTick
  /-- CAN_SCHEDULE; 14 R475. -/
  | canSchedule (ep : Fin 3) (slot : Fin 64)
  /-- CAN_RING_READ; 14 R475. -/
  | canRingRead (ep : Fin 3) (slot : Fin 64)
  /-- CAN_SEND; 14 R475. -/
  | canSend (ep : Fin 3) (slot : Fin 64)
  /-- LSW_SET; 16 R505. -/
  | lswSet (ep : Fin 3) (slot : Fin 64)
  /-- LSW_FAULT_CLEAR; 16 R505. -/
  | lswFaultClear (ep : Fin 3) (slot : Fin 64)
  /-- BAT_STRING_CFG; 17 R527. -/
  | batStringCfg (ep : Fin 3) (slot : Fin 64)
  /-- BAT_RESERVE; 17 R523. -/
  | batReserve (ep : Fin 3) (slot : Fin 64)
  /-- NONCE_GET; 18 R547. -/
  | nonceGet (ep : Fin 3) (slot : Fin 64) (nonce : List Byte)
  /-- ATTEST; 18 R550. -/
  | attest (ep : Fin 3) (slot : Fin 64)
  /-- KEY_INSTALL; 18 R541. -/
  | keyInstall (ep : Fin 3) (slot : Fin 64) (pointOk : Bool) (sigOk : Bool)
  /-- TIME_STEP; 19 R566. -/
  | timeStep (ep : Fin 3) (slot : Fin 64) (sigOk : Bool)
  /-- TIME_STEP_EFFECTIVE; 19 R565. -/
  | timeStepEffective
  /-- THM_LIMITS; 19 R579. -/
  | thmLimits (ep : Fin 3) (slot : Fin 64)
  /-- STATE_READ; 03 R115. -/
  | stateRead (ep : Fin 3) (slot : Fin 64)
  /-- WORK_STATUS; 03 R116. -/
  | workStatus (ep : Fin 3) (slot : Fin 64)
  /-- WORK_LIST; 03 R116. -/
  | workList (ep : Fin 3) (slot : Fin 64)
  /-- SLOT_LIST; 03 R116. -/
  | slotList (ep : Fin 3) (slot : Fin 64)
  /-- PARAM_WRITE; 03 R117. -/
  | paramWrite (ep : Fin 3) (slot : Fin 64)
  /-- SYNC_OFFSET_WRITE; 04 R132. -/
  | syncOffsetWrite (c : Fin 8) (val : Nat) (mask : Nat)
  /-- VCMD_TARGET_WRITE; 06 R213. -/
  | vcmdTargetWrite (r : Fin 4) (val : Nat)
  /-- VCMD_SESSION_WRITE; 06 R215. -/
  | vcmdSessionWrite (r : Fin 4) (open_ : Bool)
  /-- EYE_FORCE_WRITE; 07 R235. -/
  | eyeForceWrite (p : Fin 96) (val : Nat) (client : Nat)
  /-- CAL_BURN; 09 R289. -/
  | calBurn
  /-- CAL_BURN_COMPLETE; 09 R290. -/
  | calBurnComplete (ok : Bool)
  /-- CAL_TRIAL_WRITE; 09 R292. -/
  | calTrialWrite (on : Bool)
  /-- PULSE_CFG_WRITE; 09 R314. -/
  | pulseCfgWrite (k : Fin 4) (val : Nat)
  /-- INJ_WINDOW_WRITE; 12 R406. -/
  | injWindowWrite (val : Nat) (client : Nat)
  /-- RETRAIN; 12 R396. -/
  | retrain (l : Fin 8)
  /-- LANE_ENABLE_WRITE; 12 R396. -/
  | laneEnableWrite (l : Fin 8) (on : Bool)
  /-- IDLE_REQ_WRITE; 12 R400. -/
  | idleReqWrite (l : Fin 8) (on : Bool)
  /-- CAN_SLEEP_WRITE; 14 R472. -/
  | canSleepWrite (c : Fin 16)
  /-- CAN_RECOVER; 14 R460. -/
  | canRecover (c : Fin 16)
  /-- PLN_TX_GO; 15 R493. -/
  | plnTxGo (k : Fin 4) (val : Nat)
  /-- VLK_AUTH_WRITE; 14 R449. -/
  | vlkAuthWrite (r : Fin 4) (val : Nat)
  /-- PURL_RECEIVER_UP; 06 R195. -/
  | purlReceiverUp (e : PurlRx)
  /-- PURL_RECEIVER_LOSS; 06 R195. -/
  | purlReceiverLoss (e : PurlRx)
  /-- PURL_COMMAND; 06 R205. -/
  | purlCommand (u : Fin 8) (frame : PurlIn) (t : Nat)
  /-- PURL_SESSION_OPEN; 06 R209. -/
  | purlSessionOpen (u : Fin 8) (frame : PurlIn) (t : Nat)
  /-- PURL_SESSION_CLOSE; 06 R209. -/
  | purlSessionClose (u : Fin 8) (frame : PurlIn) (t : Nat)
  /-- KEEPALIVE; 06 R200. -/
  | keepalive (u : Fin 8) (frame : PurlIn) (t : Nat)
  /-- PURL_LINK_LOST; 06 R197. -/
  | purlLinkLost (r : Fin 4)
  /-- PURL_ACK_TRANSMIT; 06 R218. -/
  | purlAckTransmit (u : Fin 8)
  /-- GATE_LINE_EDGE; 07 R224. -/
  | gateLineEdge (die : Die) (p : Fin 96) (tick : Nat) (fault : Option (Bool × Bool))
  /-- DEAD_TIME_EXPIRY; 07 R224. -/
  | deadTimeExpiry (p : Fin 96)
  /-- EYE_FAULT_LATCH; 07 R237. -/
  | eyeFaultLatch (e : FaultPinIn)
  /-- DRIVER_ACK; 07 R232. -/
  | driverAck (p : Fin 96)
  /-- CONFIG_WORD_NOACK; 07 R233. -/
  | configWordNoack (p : Fin 96)
  /-- PATTERN_HOLD_EXPIRY; 07 R234. -/
  | patternHoldExpiry (p : Fin 96)
  /-- LEASE_REQUEST_SEND; 08 R256. -/
  | leaseRequestSend
  /-- LEASE_REQ; 08 R256. -/
  | leaseReq (msg : List Byte)
  /-- LEASE_GRANT; 08 R257. -/
  | leaseGrant (msg : List Byte)
  /-- RENEW_LATE; 08 R257. -/
  | renewLate
  /-- LEASE_LOW; 08 R258. -/
  | leaseLow
  /-- LEASE_EXPIRY; 08 R258. -/
  | leaseExpiry
  /-- PREPARE; 08 R264. -/
  | prepare (msg : List Byte)
  /-- PREPARE_RESEND; 08 R264. -/
  | prepareResend (id : Nat)
  /-- NOTE; 08 R264. -/
  | note (msg : List Byte)
  /-- NOTE_DEFER_TIMEOUT; 08 R264. -/
  | noteDeferTimeout (id : Nat)
  /-- NOTE_ACK; 08 R264. -/
  | noteAck (msg : List Byte)
  /-- HELD; 08 R264. -/
  | held (msg : List Byte)
  /-- SUMMARY; 08 R266. -/
  | summary (msg : List Byte)
  /-- RECLAIM_START; 08 R268. -/
  | reclaimStart (target : Nat)
  /-- RECLAIM_REQ; 08 R269. -/
  | reclaimReq (msg : List Byte)
  /-- RECLAIM_VOTE; 08 R270. -/
  | reclaimVote (msg : List Byte)
  /-- RECLAIM_VOTE_TIMEOUT; 08 R269. -/
  | reclaimVoteTimeout (target : Nat)
  /-- RECLAIM_DONE; 08 R270. -/
  | reclaimDone (msg : List Byte)
  /-- REJOIN; 08 R271. -/
  | rejoin (msg : List Byte)
  /-- JOIN_REQ; 08 R275. -/
  | joinReq (msg : List Byte)
  /-- JOIN_ACK; 08 R275. -/
  | joinAck (msg : List Byte)
  /-- LEAVE_NOTE; 08 R276. -/
  | leaveNote (msg : List Byte)
  /-- SITE_MAP_ACTIVATION; 08 R247. -/
  | siteMapActivation
  /-- MAP_GRACE_EXPIRY; 08 R247. -/
  | mapGraceExpiry
  /-- METERING_SAMPLE; 09 R630. -/
  | meteringSample (t : Nat) (raw : List Int) (quad : List Int)
  /-- PHASE_LOST; 09 R301. -/
  | phaseLost (m : Fin 2) (ph : Fin 3)
  /-- INTEGRATION_INTERVAL_END; 09 R298. -/
  | integrationIntervalEnd
  /-- ENERGY_JOURNAL_RECORD; 09 R308. -/
  | energyJournalRecord (m : Fin 6) (ok : Bool)
  /-- FINAL_SAVE_RECORD; 09 R309. -/
  | finalSaveRecord
  /-- HARMONIC_WINDOW_END; 09 R300. -/
  | harmonicWindowEnd (m : Fin 2) (groups : List Nat)
  /-- METER_PULSE_END; 09 R313. -/
  | meterPulseEnd (k : Fin 4)
  /-- TARIFF_SWITCH; 10 R319. -/
  | tariffSwitch
  /-- DEMAND_PERIOD_CLOSE; 10 R326. -/
  | demandPeriodClose
  /-- BILLING_CLOSE; 10 R327. -/
  | billingClose
  /-- CALENDAR_ACTIVATION; 10 R323. -/
  | calendarActivation
  /-- POWER_FAIL_RECORD; 10 R329. -/
  | powerFailRecord
  /-- TAMPER_CONDITION_START; 10 R334. -/
  | tamperConditionStart (cond : TamperCond)
  /-- TAMPER_CONDITION_END; 10 R334. -/
  | tamperConditionEnd (cond : TamperCond)
  /-- DLMS_AARQ; 10 R347. -/
  | dlmsAarq (a : AarqIn)
  /-- DLMS_GET; 10 R346. -/
  | dlmsGet (r : DlmsReq) (objs : List Cosem)
  /-- DLMS_SET; 10 R347. -/
  | dlmsSet (r : DlmsReq) (obj : Cosem) (args : List Int) (cal : Option Calendar)
  /-- DLMS_ACTION; 10 R347. -/
  | dlmsAction (r : DlmsReq) (obj : Cosem) (args : List Int)
  /-- DLMS_ASSOCIATION_TIMEOUT; 10 R346. -/
  | dlmsAssociationTimeout (id : Nat)
  /-- HEARTBEAT; 11 R355. -/
  | heartbeat (die : Die) (src : Fin 9) (fast : Bool) (slot : Nat) (own : List Int)
  /-- HEARTBEAT_MISSED; 11 R356. -/
  | heartbeatMissed (die : Die) (src : Fin 9)
  /-- FAULT_FRAME; 11 R356. -/
  | faultFrame (die : Die) (crit : Crit)
  /-- WATCHDOG_EXPIRY; 11 R356. -/
  | watchdogExpiry (die : Die)
  /-- HOOP_DECODE_CHANGE; 01 R25. -/
  | hoopDecodeChange (who : HoopWho) (ivals : List Nat)
  /-- HOOP_TIMEOUT; 01 R25. -/
  | hoopTimeout (who : HoopWho) (h : HoopIn)
  /-- SAMPLER_REPORT; 11 R368. -/
  | samplerReport (t : TestIn)
  /-- SAMPLER_STALE; 11 R353. -/
  | samplerStale (die : Die)
  /-- SOAK_COMPLETE; 11 R374. -/
  | soakComplete (die : Die)
  /-- FULL_SYNC_COMPLETE; 11 R363. -/
  | fullSyncComplete (die : Die)
  /-- AUTO_READMISSION; 11 R376. -/
  | autoReadmission (die : Die)
  /-- DIE_TEST_COMPLETE; 11 R353. -/
  | dieTestComplete (die : Die) (ok : Bool)
  /-- SAFE_STOP_TRIGGER; 11 R377. -/
  | safeStopTrigger (trig : Fin 5)
  /-- SAFE_STOP_ISOLATOR_OPEN; 11 R378. -/
  | safeStopIsolatorOpen (r : Fin 4) (amps : Int) (t : Nat)
  /-- SAFE_STOP_BYPASS_OPEN; 11 R378. -/
  | safeStopBypassOpen (m : Fin 2) (t : Nat)
  /-- SAFE_STOP_FORCE_TIMEOUT; 11 R378. -/
  | safeStopForceTimeout
  /-- TRAINING_FRAME; 12 R396. -/
  | trainingFrame (l : Fin 8) (f : TrainIn)
  /-- SEARCH_TIMEOUT; 12 R396. -/
  | searchTimeout (l : Fin 8)
  /-- EQUALISE_TIMEOUT; 12 R396. -/
  | equaliseTimeout (l : Fin 8)
  /-- BLOCK_RECEIVED; 12 R391. -/
  | blockReceived (l : Fin 8) (levels : List Nat)
  /-- IDLE_ENTER; 12 R400. -/
  | idleEnter (l : Fin 8)
  /-- IDLE_EXIT; 12 R401. -/
  | idleExit (l : Fin 8)
  /-- ELECTRICAL_IDLE_DETECTED; 12 R399. -/
  | electricalIdleDetected (l : Fin 8)
  /-- PICOT_MARKER; 12 R402. -/
  | picotMarker (l : Fin 8)
  /-- PICOT_WAIT_TIMEOUT; 12 R399. -/
  | picotWaitTimeout (l : Fin 8)
  /-- HELLO_SEND; 13 R414. -/
  | helloSend
  /-- HELLO; 13 R414. -/
  | hello (l : Fin 8) (pkt : List Byte)
  /-- NEIGHBOUR_ABSENT; 13 R414. -/
  | neighbourAbsent (l : Fin 8)
  /-- LSA_SEND; 13 R415. -/
  | lsaSend
  /-- LSA; 13 R415. -/
  | lsa (l : Fin 8) (pkt : List Byte)
  /-- LSA_AGE_OUT; 13 R415. -/
  | lsaAgeOut (origin : Nat)
  /-- ROUTE_RECOMPUTE; 13 R421. -/
  | routeRecompute
  /-- DATA_PACKET; 13 R423. -/
  | dataPacket (l : Fin 8) (pkt : List Byte)
  /-- STREAM_ACK_SEND; 13 R424. -/
  | streamAckSend (src : Nat) (cls : Fin 16)
  /-- STREAM_ACK; 13 R425. -/
  | streamAck (l : Fin 8) (pkt : List Byte)
  /-- RTO_EXPIRY; 13 R425. -/
  | rtoExpiry (dst : Nat) (cls : Fin 16) (seq : Nat) (t : Nat)
  /-- PEER_LOST; 13 R425. -/
  | peerLost (dst : Nat) (cls : Fin 16)
  /-- FLOOD_PACKET; 13 R428. -/
  | floodPacket (l : Fin 8) (pkt : List Byte)
  /-- SYNC_EXCHANGE_SEND; 13 R438. -/
  | syncExchangeSend
  /-- SYNC_PACKET; 13 R438. -/
  | syncPacket (l : Fin 8) (f : SyncIn)
  /-- MIRROR; 13 R432. -/
  | mirror (src : Nat) (body : List Byte) (ok : Bool)
  /-- MIRROR_TARGET_TIMEOUT; 13 R431. -/
  | mirrorTargetTimeout
  /-- MIRROR_LOCAL_TIMEOUT; 13 R433. -/
  | mirrorLocalTimeout
  /-- MIRROR_CATCH_UP; 13 R434. -/
  | mirrorCatchUp
  /-- SECC_DISCOVERY; 14 R446. -/
  | seccDiscovery (u : Fin 8)
  /-- TLS_HANDSHAKE; 14 R448. -/
  | tlsHandshake (u : Fin 8) (h : TlsIn)
  /-- SUPPORTED_APP_PROTOCOL; 14 R447. -/
  | supportedAppProtocol (u : Fin 8) (dc20 : Bool)
  /-- SESSION_SETUP; 14 R454. -/
  | sessionSetup (u : Fin 8) (mac : Nat)
  /-- AUTHORIZATION; 14 R449. -/
  | authorization (u : Fin 8) (a : AuthIn)
  /-- EIM_HOST_TIMEOUT; 14 R449. -/
  | eimHostTimeout (r : Fin 4)
  /-- SERVICE_DISCOVERY; 14 R447. -/
  | serviceDiscovery (u : Fin 8) (q : ServiceIn)
  /-- DC_CHARGE_PARAMETER_DISCOVERY; 14 R451. -/
  | dcChargeParameterDiscovery (u : Fin 8)
  /-- SCHEDULE_EXCHANGE; 14 R447. -/
  | scheduleExchange (u : Fin 8) (dynamic : Bool)
  /-- DC_CABLE_CHECK; 14 R450. -/
  | dcCableCheck (u : Fin 8) (maxV : Nat)
  /-- CABLE_CHECK_TIMEOUT; 14 R450. -/
  | cableCheckTimeout (r : Fin 4)
  /-- DC_PRE_CHARGE; 14 R450. -/
  | dcPreCharge (u : Fin 8) (v : Nat)
  /-- POWER_DELIVERY; 14 R450. -/
  | powerDelivery (u : Fin 8) (start : Bool)
  /-- DC_CHARGE_LOOP; 14 R450. -/
  | dcChargeLoop (u : Fin 8) (dynamic : Bool) (v : Nat) (i : Nat)
  /-- DC_WELDING_DETECTION; 14 R450. -/
  | dcWeldingDetection (u : Fin 8)
  /-- SESSION_STOP; 14 R450. -/
  | sessionStop (u : Fin 8)
  /-- UNSUPPORTED_V2G_MESSAGE; 14 R447. -/
  | unsupportedV2gMessage (u : Fin 8)
  /-- V2G_LINK_LOST; 14 R452. -/
  | v2gLinkLost (r : Fin 4) (tcpClosed : Bool)
  /-- TCP_SEGMENT_RELEASE; 14 R456. -/
  | tcpSegmentRelease (u : Fin 8)
  /-- CAN_FRAME_RECEIVED; 14 R469. -/
  | canFrameReceived (c : Fin 16) (f : CanFrame) (len : Nat) (t : Nat)
  /-- BASIC_CYCLE_START; 14 R462. -/
  | basicCycleStart (c : Fin 16) (t : Nat)
  /-- PRICKING_SLOT; 14 R463. -/
  | prickingSlot (c : Fin 16) (slot : Fin 64) (t : Nat)
  /-- CAN_FRAME_SENT; 14 R475. -/
  | canFrameSent (c : Fin 16) (e : CanEnd) (t : Nat)
  /-- CAN_SEND_TIMEOUT; 14 R475. -/
  | canSendTimeout (c : Fin 16) (work : Nat)
  /-- BUS_OFF; 14 R460. -/
  | busOff (c : Fin 16)
  /-- BUS_OFF_RECOVERY; 14 R460. -/
  | busOffRecovery (c : Fin 16)
  /-- CAN_SLEEP_ENTRY; 14 R472. -/
  | canSleepEntry (c : Fin 16)
  /-- CAN_WAKE; 14 R473. -/
  | canWake (c : Fin 16) (w : WakeIn)
  /-- IMD_TIMEOUT; 14 R470. -/
  | imdTimeout (r : Fin 4)
  /-- PLC_FRAME_RECEIVED; 15 R483. -/
  | plcFrameReceived (k : Fin 4) (f : PlcIn)
  /-- SACK; 15 R488. -/
  | sack (k : Fin 4) (f : SackIn)
  /-- CONTENTION_SLOT; 15 R484. -/
  | contentionSlot (k : Fin 4) (i : Nat) (slot : Nat) (period : Nat)
  /-- SACK_TIMEOUT; 15 R488. -/
  | sackTimeout (k : Fin 4) (i : Nat)
  /-- SEGMENT_HOLD_EXPIRY; 15 R488. -/
  | segmentHoldExpiry (k : Fin 4) (src : Nat) (seq : Nat)
  /-- BEACON_SEND; 15 R490. -/
  | beaconSend (k : Fin 4)
  /-- PLC_STATUS_SEND; 15 R492. -/
  | plcStatusSend (k : Fin 4)
  /-- PLC_ROUTE_EXPIRY; 15 R491. -/
  | plcRouteExpiry (k : Fin 4) (node : Nat)
  /-- LS_COMMAND_FRAME; 16 R497. -/
  | lsCommandFrame (f : LsFrameIn)
  /-- LS_LINK_LOSS; 16 R498. -/
  | lsLinkLoss (clamp : List Nat)
  /-- LS_THERMAL_TRIP; 16 R499. -/
  | lsThermalTrip (c : Fin 24) (clamp : Nat)
  /-- LS_THERMAL_RESTART; 16 R499. -/
  | lsThermalRestart (c : Fin 24)
  /-- LS_BLANK_END; 16 R499. -/
  | lsBlankEnd (c : Fin 24)
  /-- QUAD_BUDGET_SHED; 16 R501. -/
  | quadBudgetShed (q : Fin 6) (meas : List (Nat × Int × Bool)) (clamp : Nat)
  /-- OPEN_LOAD_CHANGE; 16 R502. -/
  | openLoadChange (c : Fin 24) (on : Bool)
  /-- STRING_ID_SAMPLE; 17 R513. -/
  | stringIdSample (s : Fin 16) (r : Option Nat)
  /-- BMS_STATUS; 17 R512. -/
  | bmsStatus (s : Fin 16) (data : List Byte)
  /-- BMS_IDENT; 17 R513. -/
  | bmsIdent (s : Fin 16) (data : List Byte)
  /-- BMS_LOST_TIMEOUT; 17 R513. -/
  | bmsLostTimeout (s : Fin 16)
  /-- DRIFT_TIMER; 17 R517. -/
  | driftTimer (s : Fin 16)
  /-- BATTERY_JOURNAL; 17 R526. -/
  | batteryJournal
  /-- ENTROPY_HEALTH_FAIL; 18 R548. -/
  | entropyHealthFail
  /-- PPS_EDGE; 19 R559. -/
  | ppsEdge (stamp : Nat) (ref : Nat)
  /-- PPS_LOST; 19 R559. -/
  | ppsLost
  /-- TIME_RATE_TRIM; 19 R560. -/
  | timeRateTrim
  /-- TIME_JOURNAL; 19 R557. -/
  | timeJournal
  /-- TIME_ACQUISITION; 19 R561. -/
  | timeAcquisition
  /-- SUPPLY_RAIL_VALID; 19 R575. -/
  | supplyRailValid (vana : Nat) (vio : List Nat)
  /-- REFCLK_VALID; 01 R32. -/
  | refclkValid (ref : Fin 2)
  /-- NV_WRITE_INHIBIT_RELEASE; 19 R574. -/
  | nvWriteInhibitRelease
  /-- SGMII_LINK_UP; 03 R119. -/
  | sgmiiLinkUp (ep : Fin 2)
  /-- SGMII_LINK_DOWN; 03 R119. -/
  | sgmiiLinkDown (ep : Fin 2)
  /-- ARP_AND_NEIGHBOUR_SOLICITATION; 03 R81. -/
  | arpAndNeighbourSolicitation (ep : Fin 2) (forUs : Bool)
  /-- ICMP_ECHO; 03 R81. -/
  | icmpEcho (ep : Fin 2) (data : List Byte)
  /-- ENTROPY_SOURCE_PASS; 18 R548. -/
  | entropySourcePass
  /-- SEASON_START; 10 R320. -/
  | seasonStart
  /-- LANE_TRANSMIT_BLOCK; 12 R396. -/
  | laneTransmitBlock (l : Fin 8)
  /-- CARRIER_START; 04 R125. -/
  | carrierStart (c : CarrierIn)
  /-- WORK_RECORD_EXPIRY; 03 R116. -/
  | workRecordExpiry (id : Nat)
  /-- QUOGUS_FINAL_TEST; 02 R71. -/
  | quogusFinalTest
  deriving DecidableEq, Repr

end Sys2Proof
end

