-- ==== Sys2Proof/WellFormed.lean ====
section
/-!
DEFINITION. Well-formed commands: every number within the width its rule gives it, every list of the length that the
block's pins or frames can deliver. The meanings are total and do not rest on it.
-/

namespace Sys2Proof
open Machine

/-- A number of n bits. -/
def uint (n v : Nat) : Bool := decide (v < 2 ^ n)

/-- At most n bytes. -/
def bytesUpTo (n : Nat) (l : List Byte) : Bool := decide (l.length ≤ n)

/-- Exactly n bytes. -/
def bytesOf (n : Nat) (l : List Byte) : Bool := l.length == n

/-- At most n values. -/
def ints (n : Nat) (l : List Int) : Bool := decide (l.length ≤ n)

/-- At most the package's 40 sensors, each within their span of −55 °C to 200 °C in 0.1 °C (19 R567). -/
def temps40 (l : List Int) : Bool := decide (l.length ≤ 40) && l.all (fun t => decide (-550 ≤ t ∧ t ≤ 2000))

/-- n converter results of 24 bits, signed (09 R285). -/
def adc (n : Nat) (l : List Int) : Bool := l.length == n && l.all (fun x => decide (-(2 ^ 23) ≤ x ∧ x < 2 ^ 23))

/-- A frame as a Purl receiver hands it over: 64 bits, counts and its end (06 R194, R195). -/
def Machine.PurlIn.wf (f : PurlIn) : Bool := uint 64 f.bits && uint 16 f.viols && uint 32 f.line

/-- The 1,088 PAM4 levels of a block (12 R388). -/
def symbols (l : List Nat) : Bool := l.length == 1088 && l.all (fun x => decide (x < 4))

/-- A number lies in a range. -/
def inSpan (a b n : Nat) : Bool := decide (a ≤ n ∧ n ≤ b)

/-- A firmware slot's header fields (18 R540, R543). -/
def Machine.FwSlot.wf (f : FwSlot) : Bool := uint 8 f.secVer && inSpan 0 3 f.key && uint 32 f.ver && bytesUpTo 48 f.digest

/-- The measured values of a boundary (16 R510, 19 R582). -/
def Machine.BoundaryIn.wf (b : BoundaryIn) : Bool :=
  uint 16 b.vhold && uint 16 b.vmain && uint 16 b.vana && decide (b.drops.length ≤ 7) && decide (b.li.length ≤ 24 ∧ b.ltj.length ≤ 24 ∧ b.llim.length ≤ 24 ∧ b.lvs.length ≤ 6)

/-- A converter result of a fast channel, 16 bits signed (04 R138). -/
def raw16 (x : Int) : Bool := decide (-(2 ^ 15) ≤ x ∧ x < 2 ^ 15)

/-- The samples of a fast cycle (04 R137, R138). -/
def Machine.FastIn.wf (f : FastIn) : Bool :=
  uint 64 f.t && decide (f.raw.length ≤ 96) && f.raw.all raw16

/-- A mailbox message (03 R84, R85). -/
def Machine.MsgIn.wf (m : MsgIn) : Bool := inSpan 0 2 m.ep && bytesOf 16 m.header && bytesUpTo 8192 m.body && uint 16 m.spiLen && uint 16 m.spiL

/-- An item whose acceptance completes. -/
def Machine.Item.wf : Item → Bool
  | .slot _ _ => true
  | .dlms a => uint 32 a

/-- Kind number of an image (03 R114). -/
def Machine.ImageIn.code : ImageIn → Nat
  | .firmware _ => 1 | .config _ => 2 | .calendar => 3 | .siteMap _ => 4

/-- A wrapper of four 16-bit fields (10 R345). -/
def Machine.Wrapper.wf (w : Wrapper) : Bool := uint 16 w.ver && uint 16 w.src && uint 16 w.dst && uint 16 w.len

/-- A DLMS association request (10 R345). -/
def Machine.AarqIn.wf (a : AarqIn) : Bool :=
  uint 32 a.id && inSpan 0 1 a.ep && a.wrap.wf && uint 16 a.key && bytesUpTo 97 a.eph && uint 16 a.max

/-- A DLMS request (10 R345, R346). -/
def Machine.DlmsReq.wf (r : DlmsReq) : Bool :=
  uint 32 r.id && r.wrap.wf && uint 8 r.inv && (match r.next with
    | none => true
    | some n => uint 32 n)

/-- A COSEM attribute or method: six OBIS values (10 R348). -/
def Machine.Cosem.wf (o : Cosem) : Bool := o.obis.length == 6 && o.obis.all (uint 8) && uint 8 o.attr

/-- A Sampler cycle's work: at most all 32 banks of main SRAM (11 R366). -/
def Machine.TestIn.wf (t : TestIn) : Bool := uint 32 t.banks

/-- A training frame (12 R393). -/
def Machine.TrainIn.wf (f : TrainIn) : Bool := inSpan 0 3 f.req.1 && inSpan 0 3 f.req.2 && decide (f.errs ≤ 2 * f.syms)

/-- A SYNC packet with its stamps (13 R438). -/
def Machine.SyncIn.wf : SyncIn → Bool
  | .request a b c => uint 80 a && uint 80 b && uint 80 c
  | .reply a b c d => uint 80 a && uint 80 b && uint 80 c && uint 80 d

/-- An authorization message (14 R449). -/
def Machine.AuthIn.wf : AuthIn → Bool
  | .setup => true
  | .eim => true
  | .pnc _ r b a e d => bytesUpTo 48 r && uint 64 b && uint 64 a && bytesUpTo 20 e && bytesUpTo 48 d

/-- A service message: services 0 and 1 (14 R447). -/
def Machine.ServiceIn.wf : ServiceIn → Bool
  | .discovery => true
  | .detail n => uint 16 n
  | .selection n _ => uint 16 n

/-- A CAN FD frame: an identifier of 29 or 11 bits and at most 64 bytes, 8 in a classical frame (14 R469). -/
def Machine.CanFrame.wf (f : CanFrame) : Bool :=
  decide (f.id < if f.ide then 2 ^ 29 else 2 ^ 11) && bytesUpTo (if f.fdf then 64 else 8) f.data

/-- What wakes a channel (14 R473). -/
def Machine.WakeIn.wf : WakeIn → Bool
  | .edge => true
  | .frame f t => f.wf && uint 64 t
  | .send => true

/-- A power-line segment: a codeword of 52 bytes (15 R482). -/
def Machine.PSegIn.wf (g : PSegIn) : Bool := g.code.length == 52 && g.code.all (uint 8) && g.erased.all (inSpan 0 51) && inSpan 0 416 g.impulse

/-- A power-line frame: a header and at most 8 data segments (15 R482, R483). -/
def Machine.PlcIn.wf (f : PlcIn) : Bool :=
  f.head.wf && decide (f.segs.length ≤ 8) && f.segs.all (·.wf) && inSpan 0 240 f.len && uint 8 f.snr && uint 64 f.t0 && uint 64 f.t1

/-- A SACK (15 R485). -/
def Machine.SackIn.wf (f : SackIn) : Bool := f.head.wf && f.seg.wf

/-- A well-formed command. -/
def Instr.wf : Instr → Bool
  | .vmainRelease temps => temps40 temps
  | .resetNAsserted => true
  | .packageReset => true
  | .supplyWarn t => uint 64 t
  | .supplyWarnRecovered t => uint 64 t
  | .nvWriteInhibit t => uint 64 t
  | .porThreshold => true
  | .supplyRailInvalid _ => true
  | .supplyRailStartTimeout => true
  | .autoClear => true
  | .recoveryRetry => true
  | .thermalHoldRelease => true
  | .sensorSample temps => temps40 temps
  | .clockFault _ _ _ => true
  | .refclkLoss _ => true
  | .memoryEccError _ _ => true
  | .firmwareAuthenticated slot0 slot1 => slot0.wf && slot1.wf
  | .bootAuthFailed => true
  | .selfTestComplete _ => true
  | .supervisoryBoundary b => b.wf
  | .derateRecovered => true
  | .supervisoryMirrorReceived _ _ => true
  | .ledgerCycle => true
  | .fastCycle _ f => f.wf
  | .fastMirrorReceived _ _ _ f => decide (f.loop.length ≤ 96)
  | .clusterStart _ => true
  | .prebiasMeasureStart _ => true
  | .prebiasMeasurementComplete _ grid => ints 3 grid
  | .clusterStop _ => true
  | .afeStartFailed _ => true
  | .matchConditionHeld _ => true
  | .matchTimeout _ => true
  | .isoSettleExpiry _ => true
  | .rampDownComplete _ => true
  | .faultedRecovery _ => true
  | .phaseShedComplete _ => true
  | .phaseReturnComplete _ => true
  | .freezeHoldExpiry _ => true
  | .reverseBlockEnd _ => true
  | .syncInEdge _ t => uint 64 t
  | .syncInEdgesMissing _ => true
  | .captureTrigger => true
  | .captureFull data => bytesUpTo 4194304 data
  | .rcLearningStep _ => true
  | .rcCoast _ => true
  | .rcResume _ => true
  | .modeRequest _ _ _ => true
  | .serviceGrant _ _ => true
  | .grantExpiry => true
  | .faultClear _ _ => true
  | .sysReset _ _ => true
  | .armTimeout => true
  | .leaseWaitTimeout => true
  | .lcSeal _ _ _ => true
  | .lcBreak _ _ _ => true
  | .lcScrap _ _ _ => true
  | .command msg => msg.wf
  | .resultRead msg => msg.wf
  | .openRequest msg sid nonce => msg.wf && uint 32 sid && bytesUpTo 32 nonce
  | .close msg => msg.wf
  | .recovery msg => msg.wf
  | .sessionIdleTimeout sid => uint 32 sid
  | .spiReadTransaction len => uint 32 len
  | .reassemblyTimeout _ key => uint 64 key
  | .workAccepted item => item.wf
  | .sysInfo _ _ => true
  | .imageLoad _ _ => true
  | .imageVerificationComplete kind _ body => inSpan 1 4 kind && kind == body.code
  | .imageCommit _ _ => true
  | .vcmdWrite _ _ => true
  | .regionLimit _ _ => true
  | .phasePolicy _ _ => true
  | .captureStart _ _ => true
  | .eyeFaultClear _ _ => true
  | .eyeClearProgress _ => true
  | .eyeClearTimeout _ => true
  | .ceCoefStage _ _ => true
  | .ceCoefSwap _ _ => true
  | .rcControl _ _ => true
  | .ldgPolicy _ _ => true
  | .ldgJoin _ _ => true
  | .ldgLeave _ _ => true
  | .receiptFetch _ _ => true
  | .receiptAck _ _ => true
  | .eventFetch _ _ => true
  | .duoSwitch _ _ => true
  | .plannedFlip => true
  | .duoReadmit _ _ => true
  | .dflEyeScan _ _ => true
  | .eyeScanPoint _ errors => uint 64 errors
  | .dflFaultInject _ _ => true
  | .injectionEnd _ => true
  | .injWindowTick => true
  | .canSchedule _ _ => true
  | .canRingRead _ _ => true
  | .canSend _ _ => true
  | .lswSet _ _ => true
  | .lswFaultClear _ _ => true
  | .batStringCfg _ _ => true
  | .batReserve _ _ => true
  | .nonceGet _ _ nonce => bytesOf 32 nonce
  | .attest _ _ => true
  | .keyInstall _ _ _ _ => true
  | .timeStep _ _ _ => true
  | .timeStepEffective => true
  | .thmLimits _ _ => true
  | .stateRead _ _ => true
  | .workStatus _ _ => true
  | .workList _ _ => true
  | .slotList _ _ => true
  | .paramWrite _ _ => true
  | .syncOffsetWrite _ val mask => uint 32 val && uint 32 mask
  | .vcmdTargetWrite _ val => uint 32 val
  | .vcmdSessionWrite _ _ => true
  | .eyeForceWrite _ val client => uint 32 val && uint 32 client
  | .calBurn => true
  | .calBurnComplete _ => true
  | .calTrialWrite _ => true
  | .pulseCfgWrite _ val => uint 32 val
  | .injWindowWrite val client => uint 32 val && uint 32 client
  | .retrain _ => true
  | .laneEnableWrite _ _ => true
  | .idleReqWrite _ _ => true
  | .canSleepWrite _ => true
  | .canRecover _ => true
  | .plnTxGo _ val => uint 32 val
  | .vlkAuthWrite _ val => uint 32 val
  | .purlReceiverUp e => uint 32 e.viols
  | .purlReceiverLoss e => uint 32 e.viols
  | .purlCommand _ frame t => frame.wf && uint 64 t
  | .purlSessionOpen _ frame t => frame.wf && uint 64 t
  | .purlSessionClose _ frame t => frame.wf && uint 64 t
  | .keepalive _ frame t => frame.wf && uint 64 t
  | .purlLinkLost _ => true
  | .purlAckTransmit _ => true
  | .gateLineEdge _ _ tick _ => uint 20 tick
  | .deadTimeExpiry _ => true
  | .eyeFaultLatch _ => true
  | .driverAck _ => true
  | .configWordNoack _ => true
  | .patternHoldExpiry _ => true
  | .leaseRequestSend => true
  | .leaseReq msg => bytesUpTo 8192 msg
  | .leaseGrant msg => bytesUpTo 8192 msg
  | .renewLate => true
  | .leaseLow => true
  | .leaseExpiry => true
  | .prepare msg => bytesUpTo 8192 msg
  | .prepareResend id => uint 64 id
  | .note msg => bytesUpTo 8192 msg
  | .noteDeferTimeout id => uint 64 id
  | .noteAck msg => bytesUpTo 8192 msg
  | .held msg => bytesUpTo 8192 msg
  | .summary msg => bytesUpTo 8192 msg
  | .reclaimStart target => uint 16 target
  | .reclaimReq msg => bytesUpTo 8192 msg
  | .reclaimVote msg => bytesUpTo 8192 msg
  | .reclaimVoteTimeout target => uint 16 target
  | .reclaimDone msg => bytesUpTo 8192 msg
  | .rejoin msg => bytesUpTo 8192 msg
  | .joinReq msg => bytesUpTo 8192 msg
  | .joinAck msg => bytesUpTo 8192 msg
  | .leaveNote msg => bytesUpTo 8192 msg
  | .siteMapActivation => true
  | .mapGraceExpiry => true
  | .meteringSample t raw quad => uint 64 t && adc 22 raw && adc 6 quad
  | .phaseLost _ _ => true
  | .integrationIntervalEnd => true
  | .energyJournalRecord _ _ => true
  | .finalSaveRecord => true
  | .harmonicWindowEnd _ groups => groups.all (uint 128)
  | .meterPulseEnd _ => true
  | .tariffSwitch => true
  | .demandPeriodClose => true
  | .billingClose => true
  | .calendarActivation => true
  | .powerFailRecord => true
  | .tamperConditionStart _ => true
  | .tamperConditionEnd _ => true
  | .dlmsAarq a => a.wf
  | .dlmsGet r objs => r.wf && objs.all Cosem.wf
  | .dlmsSet r obj _ _ => r.wf && obj.wf
  | .dlmsAction r obj _ => r.wf && obj.wf
  | .dlmsAssociationTimeout id => uint 32 id
  | .heartbeat _ _ _ slot _ => uint 16 slot
  | .heartbeatMissed _ _ => true
  | .faultFrame _ _ => true
  | .watchdogExpiry _ => true
  | .hoopDecodeChange _ ivals => ivals.all (uint 16)
  | .hoopTimeout _ h => h.ivals.all (uint 16)
  | .samplerReport t => t.wf
  | .samplerStale _ => true
  | .soakComplete _ => true
  | .fullSyncComplete _ => true
  | .autoReadmission _ => true
  | .dieTestComplete _ _ => true
  | .safeStopTrigger _ => true
  | .safeStopIsolatorOpen _ _ t => uint 64 t
  | .safeStopBypassOpen _ t => uint 64 t
  | .safeStopForceTimeout => true
  | .trainingFrame _ f => f.wf
  | .searchTimeout _ => true
  | .equaliseTimeout _ => true
  | .blockReceived _ levels => symbols levels
  | .idleEnter _ => true
  | .idleExit _ => true
  | .electricalIdleDetected _ => true
  | .picotMarker _ => true
  | .picotWaitTimeout _ => true
  | .helloSend => true
  | .hello _ pkt => bytesUpTo 8192 pkt
  | .neighbourAbsent _ => true
  | .lsaSend => true
  | .lsa _ pkt => bytesUpTo 8192 pkt
  | .lsaAgeOut origin => uint 16 origin
  | .routeRecompute => true
  | .dataPacket _ pkt => bytesUpTo 8192 pkt
  | .streamAckSend src _ => uint 16 src
  | .streamAck _ pkt => bytesUpTo 8192 pkt
  | .rtoExpiry dst _ seq t => uint 16 dst && uint 32 seq && uint 64 t
  | .peerLost dst _ => uint 16 dst
  | .floodPacket _ pkt => bytesUpTo 8192 pkt
  | .syncExchangeSend => true
  | .syncPacket _ f => f.wf
  | .mirror src body _ => uint 16 src && bytesUpTo 8192 body
  | .mirrorTargetTimeout => true
  | .mirrorLocalTimeout => true
  | .mirrorCatchUp => true
  | .seccDiscovery _ => true
  | .tlsHandshake _ _ => true
  | .supportedAppProtocol _ _ => true
  | .sessionSetup _ mac => uint 48 mac
  | .authorization _ a => a.wf
  | .eimHostTimeout _ => true
  | .serviceDiscovery _ q => q.wf
  | .dcChargeParameterDiscovery _ => true
  | .scheduleExchange _ _ => true
  | .dcCableCheck _ maxV => uint 32 maxV
  | .cableCheckTimeout _ => true
  | .dcPreCharge _ v => uint 32 v
  | .powerDelivery _ _ => true
  | .dcChargeLoop _ _ v i => uint 32 v && uint 32 i
  | .dcWeldingDetection _ => true
  | .sessionStop _ => true
  | .unsupportedV2gMessage _ => true
  | .v2gLinkLost _ _ => true
  | .tcpSegmentRelease _ => true
  | .canFrameReceived _ f len t => f.wf && uint 32 len && uint 64 t
  | .basicCycleStart _ t => uint 64 t
  | .prickingSlot _ _ t => uint 64 t
  | .canFrameSent _ _ t => uint 64 t
  | .canSendTimeout _ work => uint 64 work
  | .busOff _ => true
  | .busOffRecovery _ => true
  | .canSleepEntry _ => true
  | .canWake _ w => w.wf
  | .imdTimeout _ => true
  | .plcFrameReceived _ f => f.wf
  | .sack _ f => f.wf
  | .contentionSlot _ i slot period => uint 32 i && uint 32 slot && uint 32 period
  | .sackTimeout _ i => uint 32 i
  | .segmentHoldExpiry _ src seq => uint 16 src && uint 16 seq
  | .beaconSend _ => true
  | .plcStatusSend _ => true
  | .plcRouteExpiry _ node => uint 16 node
  | .lsCommandFrame f => f.clamp.all (uint 32)
  | .lsLinkLoss clamp => clamp.all (uint 32)
  | .lsThermalTrip _ clamp => uint 32 clamp
  | .lsThermalRestart _ => true
  | .lsBlankEnd _ => true
  | .quadBudgetShed _ meas clamp => meas.length == 4 && uint 32 clamp
  | .openLoadChange _ _ => true
  | .stringIdSample _ r => r.all (uint 32)
  | .bmsStatus _ data => bytesUpTo 64 data
  | .bmsIdent _ data => bytesUpTo 64 data
  | .bmsLostTimeout _ => true
  | .driftTimer _ => true
  | .batteryJournal => true
  | .entropyHealthFail => true
  | .ppsEdge stamp ref => uint 64 stamp && uint 64 ref
  | .ppsLost => true
  | .timeRateTrim => true
  | .timeJournal => true
  | .timeAcquisition => true
  | .supplyRailValid vana vio => uint 16 vana && vio.length == 8 && vio.all (uint 16)
  | .refclkValid _ => true
  | .nvWriteInhibitRelease => true
  | .sgmiiLinkUp _ => true
  | .sgmiiLinkDown _ => true
  | .arpAndNeighbourSolicitation _ _ => true
  | .icmpEcho _ data => bytesUpTo 1500 data
  | .entropySourcePass => true
  | .seasonStart => true
  | .laneTransmitBlock _ => true
  | .carrierStart c => uint 64 c.t && c.raw.all raw16
  | .workRecordExpiry id => uint 64 id
  | .quogusFinalTest => true

end Sys2Proof
end

