-- ==== Sys2Proof/Decode.lean ====
section
/-!
DEFINITION. Reading a command from a word of the table. The table of spec/opcode_table.json gives no row any bits, so
no word spells a command.
-/

namespace Sys2Proof

/-- The command that a word spells by the table's bits: none, the table giving no bits. -/
def decodeTableWord (_nbits _w : Nat) : Option Instr := none

end Sys2Proof
end

