-- ==== Sys2Proof/Config.lean ====
section
/-!
DEFINITION. What the spec leaves to an engine, a standard it cites or to nobody: constants without a body, so that no
statement can rest on a value of theirs. Logs 5 and 6 say what each stands for.
-/

namespace Sys2Proof.Config

/-- Free values: the n-th value the spec leaves open (log 6). -/
opaque freeValue : Nat → BitVec 64

/-- SHA-384 (FIPS 180-4) of a message; 48 bytes (log 5). -/
opaque sha384 : List Byte → List Byte

/-- The seal that a record gets while the sealing unit has no key; 16 bytes (18 R536, R538; log 5). -/
opaque noSeal : List Byte → List Byte

/-- The P-384 public key of a private key, uncompressed; 97 bytes (log 5). -/
opaque ecPoint : Nat → List Byte

/-- An ECDSA P-384 signature of a message by a private key; 96 bytes (log 5). -/
opaque ecdsa : Nat → List Byte → List Byte

/-- The ECDH P-384 shared secret of a private and a public key (log 5). -/
opaque ecdh : Nat → List Byte → List Byte

/-- The key stream of AES-256-GCM for a key, a nonce and a length (log 5). -/
opaque gcmStream : List Byte → List Byte → Nat → List Byte

/-- The tag of AES-256-GCM for a key, a nonce, associated data and a ciphertext; 16 bytes (log 5). -/
opaque gcmTag : List Byte → List Byte → List Byte → List Byte → List Byte

/-- The key that IEC 62056-5-3 derives from the ECDH secret of an association (10 R347; log 9). -/
opaque dlmsKdf : List Byte → List Byte

/-- The ciphered APDU that IEC 62056-5-3 makes of a plain one with AES-256-GCM, by key and invocation counter (10 R347; log 9). -/
opaque dlmsCipher : List Byte → Nat → List Byte → List Byte

/-- The association response of IEC 62056-5-3: accepted, rejected-permanent, and the ephemeral key with its signature (10 R347;
log 9). -/
opaque dlmsAare : Bool → Bool → List Byte → List Byte

/-- KEY_ID of a Quogus firmware key 0 to 3, held in the boot ROM; 8 bytes (18 R540, R543; log 5). -/
opaque quogusKeyId : Nat → List Byte

/-- Part number, grade and firmware versions that SYS_INFO reports besides what the state holds (03 R112; log 6). -/
opaque sysInfo : Nat → Byte


/-- The longer wait, in ns, that EN 50065-1's access protocol for band C requires on band BC after the medium was busy until
an instant (15 R481; log 6). -/
opaque bandCWait : Nat → Nat

/-- The key of a power-line network's broadcasts, whose far end is no one node (15 R487; log 5). -/
opaque bcastKey : Nat → List Byte

/-- The nonce under which an imported key is wrapped, by its ephemeral key; 12 bytes (18 R542; log 5). -/
opaque wrapNonce : List Byte → List Byte

/-- Whether a unit is hit at a generator state with a RATE, and where in it (12 R407; log 6). -/
opaque injHit : Nat → Nat → Bool

/-- The n-th place an injection chooses at a generator state (12 R407; log 6). -/
opaque injPlace : Nat → Nat → Nat

/-- NLOG of a lane from the errored bits corrected in one second and the blocks received in it (12 R410; log 6). -/
opaque nlog : Nat → Nat → Nat

end Sys2Proof.Config
end

