-- ==== Sys2Proof/Machine/Crypto.lean ====
section
/-!
DEFINITION. The cryptographic constructions the spec uses, over the primitives of Config: HMAC and HKDF with SHA-384
(18 R533), labels (18 R534), P-384 private keys (18 R533), and AES-256-GCM (03 R86).
-/

namespace Sys2Proof.Machine

/-- A byte from a number. -/
def byte (n : Nat) : Byte := BitVec.ofNat 8 n

/-- Pad a field with zeros to n bytes, or cut it there. -/
def pad (n : Nat) (l : List Byte) : List Byte := (l ++ List.replicate n 0).take n

/-- Exclusive or, byte by byte. -/
def xorB (a b : List Byte) : List Byte := List.zipWith (· ^^^ ·) a b

/-- HMAC-SHA-384 (RFC 2104; 18 R533, R538). -/
def hmac384 (key msg : List Byte) : List Byte :=
  let k := pad 128 (if key.length > 128 then Config.sha384 key else key)
  Config.sha384 (k.map (· ^^^ 0x5C) ++ Config.sha384 (k.map (· ^^^ 0x36) ++ msg))

/-- HKDF-Extract (RFC 5869; 18 R533). -/
def hkdfExtract (salt ikm : List Byte) : List Byte := hmac384 salt ikm

/-- Blocks T(i), T(i + 1), … of HKDF-Expand (RFC 5869). -/
def hkdfBlocks (prk info : List Byte) : Nat → Nat → List Byte → List Byte
  | 0, _, _ => []
  | n + 1, i, prev =>
    let t := hmac384 prk (prev ++ info ++ [byte i])
    t ++ hkdfBlocks prk info n (i + 1) t

/-- HKDF-Expand to n bytes (RFC 5869; 18 R533). -/
def hkdfExpand (prk info : List Byte) (n : Nat) : List Byte := pad n (hkdfBlocks prk info ((n + 47) / 48) 1 [])

/-- A 32-byte label: NAME, ATTR, DEPTH (18 R534). -/
def keyLabel (name : List Nat) (attr depth : Nat) : List Byte :=
  pad 24 (name.map byte) ++ [byte attr, byte depth] ++ List.replicate 6 0

/-- Order n of the P-384 group. -/
def order384 : Nat :=
  0xFFFFFFFFFFFFFFFFFFFFFFFFFFFFFFFFFFFFFFFFFFFFFFFFC7634D81F4372DDF581A0DB248B0A77AECEC196ACCC52973

/-- The private key d that 56 bytes give (18 R533). -/
def privOf (c : List Byte) : Nat := beNat c % (order384 - 1) + 1

/-- The 16-byte tag of AES-256-GCM over associated data and ciphertext. -/
def gcmTag (key nonce aad ct : List Byte) : List Byte := pad 16 (Config.gcmTag key nonce aad ct)

/-- Counter-mode encryption and decryption of AES-256-GCM. -/
def gcmXor (key nonce d : List Byte) : List Byte := xorB d (pad d.length (Config.gcmStream key nonce d.length))

/-- AES-256-GCM encryption: ciphertext and tag (03 R86). -/
def gcmSeal (key nonce aad d : List Byte) : List Byte :=
  let ct := gcmXor key nonce d
  ct ++ gcmTag key nonce aad ct

/-- AES-256-GCM decryption: none where the tag fails (03 R86). -/
def gcmOpen (key nonce aad d : List Byte) : Option (List Byte) :=
  let ct := d.take (d.length - 16)
  if d.drop (d.length - 16) == gcmTag key nonce aad ct then some (gcmXor key nonce ct) else none

end Sys2Proof.Machine
end

