-- ==== Sys2Proof/Machine/State.lean ====
section
/-!
DEFINITION. The state of the block: the package `Pkg`, holding every chapter's registers, buffers, counters and
queues; the readback snapshot (03 R115); and the queue of waiting commands. Reasons a command can stop.
A default value is the reset value, so that the state after reset is the record of the defaults.
-/

namespace Sys2Proof.Machine

/-- The package: the model's clock, the blocks of chapters 01 to 19, and the image store (02 R76). -/
structure Pkg where
  /-- The model's clock: ns of measured time since power-up, steps and acquisitions excluded; 19 R556; reset DESIGN CHOICE 0 (log 2). -/
  clk    : Nat := 0
  /-- ns of the present supervisory cycle in which the mailbox held a command without a final result; 03 R118; reset 0. -/
  busyNs : Nat := 0
  /-- Chapters 01 and 02; reset as Sys. -/
  sys    : Sys := {}
  /-- Chapter 03; reset as Mbx. -/
  mbx    : Mbx := {}
  /-- Chapter 04; reset as Pwr. -/
  pwr    : Pwr := {}
  /-- Chapter 05; reset as Ce. -/
  ce     : Ce := {}
  /-- Chapter 06; reset as Vcmd. -/
  vcmd   : Vcmd := {}
  /-- Chapter 07; reset as Eye. -/
  eye    : Eye := {}
  /-- Chapter 08; reset as Ldg. -/
  ldg    : Ldg := {}
  /-- Chapter 09; reset as Mtr. -/
  mtr    : Mtr := {}
  /-- Chapter 10; reset as Bil. -/
  bil    : Bil := {}
  /-- Chapter 11; reset as Duo. -/
  duo    : Duo := {}
  /-- Chapter 12; reset as Dfl. -/
  dfl    : Dfl := {}
  /-- Chapter 13; reset as Dfn. -/
  dfn    : Dfn := {}
  /-- Chapter 14, vehicle links; reset as Vlk. -/
  vlk    : Vlk := {}
  /-- Chapter 14, CAN; reset as Can. -/
  can    : Can := {}
  /-- Chapter 15; reset as Pln. -/
  pln    : Pln := {}
  /-- Chapter 16; reset as Lsw. -/
  lsw    : Lsw := {}
  /-- Chapter 17; reset as Bat. -/
  bat    : Bat := {}
  /-- Chapter 18; reset as Key. -/
  key    : Key := {}
  /-- Chapter 19, time; reset as Tim. -/
  tim    : Tim := {}
  /-- Chapter 19, temperature; reset as Thm. -/
  thm    : Thm := {}
  /-- Chapter 19, supply; reset as Sup. -/
  sup    : Sup := {}
  /-- Images being loaded, one per kind and firmware slot; 03 R114; reset DESIGN CHOICE empty (log 11): from image store. -/
  loads  : List ImgLoad := []
  /-- Bytes of the images in the image store, in canonical form; 03 R114, 02 R76; reset DESIGN CHOICE nothing listed (log 11): from image store. -/
  store  : List Host.Cell := []
  /-- Images verified and not yet committed; 03 R114; reset DESIGN CHOICE empty (log 11): from image store. -/
  ready  : List Verified := []
  /-- Accepted configuration image, taken up again at every boot; 07 R233; reset DESIGN CHOICE none (log 11): from image store. -/
  config : Option ConfigImage := none
  /-- The model's own counter of free values drawn (log 6); reset DESIGN CHOICE 0. -/
  freeN  : Nat := 0
  deriving DecidableEq, Repr

/-- The block: the package now, the package at the latest supervisory boundary, from which readback is taken
(03 R115), and the commands waiting, first in, first out. -/
structure State where
  /-- The package. -/
  m       : Pkg := {}
  /-- The readback snapshot; 03 R115; reset as the package's reset state. -/
  snap    : Pkg := {}
  /-- Commands waiting, oldest first. -/
  pending : List Instr := []
  deriving DecidableEq, Repr

/-- Reasons for which a command could stop with a fault. There is none: the spec answers every command of the table,
be it by a status code, a counter or no change, and no meaning raises a fault (safe). -/
inductive Fault where
  deriving DecidableEq, Repr

/-- Reasons for which a command is refused. -/
inductive Refusal where
  /-- Raised by an arm of `exec` whose command has no meaning yet; safe, since nothing is claimed of it. -/
  | notModelled (mnemonic : String)
  deriving DecidableEq, Repr

/-- The block right after reset: every field at its default, the queue empty (02 R78; logs 1, 10, 11). -/
def State.reset : State := {}

end Sys2Proof.Machine
end

