-- ==== Sys2Proof/Machine/Trust.lean ====
section
/-!
DEFINITION. The root secret and the key tree (18 R529 to R538): how every working key follows from the root, the key
registers that hold it, and what the engines make with it. A name in ASCII is the list of its codes.
-/

namespace Sys2Proof.Machine

/-! ### The root (18 R530, R531) -/

/-- The slot is burnt with DONE. -/
def RootSlot.isDone : RootSlot → Bool
  | .done _ _ => true
  | _ => false

/-- The secret a slot holds: SHARE_A XOR SHARE_B (18 R530). -/
def RootSlot.secret : RootSlot → List Byte
  | .done a b => xorB a b
  | _ => []

/-- The root secret: that of the lowest slot whose DONE fuse is burnt; none is loaded once SCRAP is set (18 R531, R552). -/
def rootSecret (k : Key) : Option (List Byte) := if k.killed then none else (k.slots.find? (·.isDone)).map (·.secret)

/-! ### The key tree (18 R533 to R536) -/

/-- NAMEs and contexts of a tree key's path (18 R535): "ID", "ATTEST", "IMPORT", "METER", "RECEIPT", "JOURNAL", "LINK", "DLMS",
"TLS", "STORE", "WRAP", "BUS", "BOOT", "SPOKE". -/
def keyPath (boots : Nat) : KeyId → List (List Nat × List Byte)
  | .attest => [([73, 68], []), ([65, 84, 84, 69, 83, 84], [])]
  | .import_ => [([73, 68], []), ([73, 77, 80, 79, 82, 84], [])]
  | .receipt => [([77, 69, 84, 69, 82], []), ([82, 69, 67, 69, 73, 80, 84], [])]
  | .journal => [([77, 69, 84, 69, 82], []), ([74, 79, 85, 82, 78, 65, 76], [])]
  | .dlms => [([76, 73, 78, 75], []), ([68, 76, 77, 83], [])]
  | .secc => [([76, 73, 78, 75], []), ([84, 76, 83], [])]
  | .store => [([83, 84, 79, 82, 69], []), ([87, 82, 65, 80], [])]
  | .spoke n => [([66, 85, 83], []), ([66, 79, 79, 84], toLe 2 boots), ([83, 80, 79, 75, 69], [byte n])]
  | .session _ => []
  | .assoc _ => []
  | .node _ _ => []

/-- Engine attribute of a key (18 R535, R536). -/
def keyAttr : KeyId → Nat
  | .attest => 2 | .import_ => 3 | .receipt => 2 | .journal => 6 | .dlms => 2 | .secc => 5 | .store => 1 | .spoke _ => 7
  | .session _ => 1 | .assoc _ => 1 | .node _ _ => 1

/-- Length of a key: 56 bytes for a P-384 private key, else 48 (18 R533). -/
def keyLen (k : KeyId) : Nat := if keyAttr k = 2 ∨ keyAttr k = 3 ∨ keyAttr k = 5 then 56 else 48

/-- From a node at a depth down a path: inner nodes have ATTR 0 and 48 bytes, the leaf its engine's (18 R533, R534). -/
def descend (attr len : Nat) : List (List Nat × List Byte) → Nat → List Byte → List Byte
  | [], _, k => k
  | [x], d, k => hkdfExpand k (keyLabel x.1 attr d ++ x.2) len
  | x :: r, d, k => descend attr len r (d + 1) (hkdfExpand k (keyLabel x.1 0 d ++ x.2) 48)

/-- PRK0: the salt is the module serial (18 R533; log 109). -/
def prk0 (p : Pkg) (root : List Byte) : List Byte := hkdfExtract (toLe 8 p.dfn.serial) root

/-- A key of the tree; none without a root (18 R533, R535). -/
def treeKey (p : Pkg) (id : KeyId) : Option (List Byte) :=
  if (keyPath p.mbx.boots id).isEmpty then none
  else (rootSecret p.key).map (fun r => descend (keyAttr id) (keyLen id) (keyPath p.mbx.boots id) 1 (prk0 p r))

/-! ### Key registers (18 R537) -/

/-- Engines of a Stitch die hold it: the TLS record engine and the AES engines of sessions, associations and power-line nodes
(18 R536, R537, 03 R90, 10 R347, 15 R478). -/
def stitchKey : KeyId → Bool
  | .secc => true
  | .session _ => true
  | .assoc _ => true
  | .node _ _ => true
  | _ => false

/-- The register that holds a key: of a Stitch key, the active die's (18 R537). -/
def regOf (p : Pkg) (id : KeyId) : Option KeyReg :=
  p.key.regs.find? (fun r => r.id == id && r.die == (if stitchKey id then p.duo.hoop else none))

/-- The key that serves an engine: of the tree it is derived at its first use, any other must be in its register
(18 R536, R537). -/
def workKey (p : Pkg) (id : KeyId) : Option (List Byte) :=
  match regOf p id with
  | some r => some r.bytes
  | none => treeKey p id

/-- Put a key into the register of an engine. -/
def putReg (id : KeyId) (die : Option Die) (b : List Byte) (p : Pkg) : Pkg :=
  { p with key := { p.key with regs := { id := id, die := die, bytes := b } :: p.key.regs.filter (fun r => !(r.id == id && r.die == die)) } }

/-- Spoke of a die on the Selvedge bus: Stitch A, Stitch B (01 R19; log 109). -/
def spokeOf : Die → Nat
  | .a => 0
  | .b => 1

/-- A tree key at its first use after a package reset: derived, and held in the register of its engine (18 R537). -/
def loadTree (id : KeyId) (die : Option Die) (p : Pkg) : Pkg :=
  match treeKey p id with
  | some b => if p.key.regs.any (fun r => r.id == id && r.die == die) then p else putReg id die b p
  | none => p

/-- A key reaches an engine of a Stitch die over its spoke, wrapped under the spoke's key (01 R22, 18 R537). -/
def deliverKey (id : KeyId) (b : List Byte) (p : Pkg) : Pkg :=
  match p.duo.hoop with
  | some d => putReg id (some d) b (loadTree (.spoke (spokeOf d)) none p)
  | none => p

/-- The use of a tree key (18 R537). -/
def loadKey (id : KeyId) (p : Pkg) : Pkg :=
  if !stitchKey id then loadTree id none p
  else if (regOf p id).isSome then p
  else match treeKey p id with
    | some b => deliverKey id b p
    | none => p

/-- A session or node key that the Selvedge die has made: it keeps it, and delivers it to the active die's engine (03 R90,
18 R537, R539, R542). -/
def holdKey (id : KeyId) (b : List Byte) (p : Pkg) : Pkg := deliverKey id b (putReg id none b p)

/-- A key is removed from every register. -/
def dropKey (id : KeyId) (p : Pkg) : Pkg := { p with key := { p.key with regs := p.key.regs.filter (fun r => r.id != id) } }

/-- The engines of a Stitch die lose their keys with its reset (02 R72). -/
def dropDie (d : Die) (p : Pkg) : Pkg := { p with key := { p.key with regs := p.key.regs.filter (fun r => r.die != some d) } }

/-- After a switchover every key that an engine of the old active die served is delivered to the new one (18 R537, 03 R90,
11 R371). -/
def redeliver (p : Pkg) : Pkg :=
  let l := p.key.regs.filter (fun r => stitchKey r.id)
  let p1 := { p with key := { p.key with regs := p.key.regs.filter (fun r => r.die == none) } }
  l.foldl (fun p r => if (regOf p r.id).isSome then p else deliverKey r.id r.bytes p) p1

/-! ### What the engines make -/

/-- A signature of the device; none without the key (18 R535, R536). -/
def signWith (p : Pkg) (id : KeyId) (msg : List Byte) : List Byte :=
  match workKey p id with
  | some c => pad 96 (Config.ecdsa (privOf c) msg)
  | none => []

/-- The public part of a tree key (18 R549). -/
def publicOf (p : Pkg) (id : KeyId) : List Byte :=
  match treeKey p id with
  | some c => pad 97 (Config.ecPoint (privOf c))
  | none => List.replicate 97 0

/-- The seal of a record (18 R538). -/
def sealBytes (p : Pkg) (b : List Byte) : List Byte :=
  match workKey p .journal with
  | some k => pad 16 (hmac384 k b)
  | none => pad 16 (Config.noSeal b)

/-- The five keys whose public parts are readable, k = 0 to 4 (18 R549). -/
def pubKey (k : Nat) : KeyId := [KeyId.attest, .import_, .receipt, .dlms, .secc].getD k .attest

end Sys2Proof.Machine
end

