-- ==== Sys2Proof/Machine/Ops.lean ====
section
/-!
DEFINITION. The named operations that the meanings share: how a meaning changes the package, time, the life-cycle
state, free values, checksums, the event log, the completion of work, and the image store's memory.
-/

namespace Sys2Proof.Machine

/-- What a meaning answers. -/
abbrev Out := Host.Outcome State Fault Refusal

/-- A fuse once burnt stays burnt, and each count only grows (02 R70). -/
def LcFuses.burn (a b : LcFuses) : LcFuses :=
  { prov := a.prov || b.prov, scrap := a.scrap || b.scrap, seals := max a.seals b.seals, breaks := max a.breaks b.breaks }

/-- What holds of every change, whatever its cause: no event leaves RETIRED (02 R65), and no fuse is unburnt (02 R70). -/
def lasting (old new : Pkg) : Pkg :=
  { new with sys := { new.sys with mode := if old.sys.mode = .retired then .retired else new.sys.mode
                                   fuses := old.sys.fuses.burn new.sys.fuses } }

/-- A command whose effect is a change of the package: the snapshot and the queue stay. -/
def run1 (f : Pkg → Pkg) (s : State) : Out := .next { s with m := lasting s.m (f s.m) }

/-! ### Lists -/

/-- The element at an index, or a default. -/
def at_ {α : Type} [Inhabited α] (l : List α) (n : Nat) : α := l.getD n default

/-- Map with the index. -/
def mapI {α β : Type} (f : Nat → α → β) (l : List α) : List β := (l.zipIdx).map (fun x => f x.2 x.1)

/-- Whether any element with its index has a property. -/
def anyI {α : Type} (f : Nat → α → Bool) (l : List α) : Bool := (l.zipIdx).any (fun x => f x.2 x.1)

/-- The indices whose element has a property. -/
def idxs {α : Type} (f : α → Bool) (l : List α) : List Nat := ((l.zipIdx).filter (fun x => f x.1)).map (·.2)

/-- Keep at most n elements from the front. -/
def cap {α : Type} (n : Nat) (l : List α) : List α := l.take n

/-- Sum of naturals. -/
def sumN (l : List Nat) : Nat := l.foldl (· + ·) 0

/-- Sum of integers. -/
def sumI (l : List Int) : Int := l.foldl (· + ·) 0

/-- Bits as a number, element 0 in bit 0. -/
def bitsN : List Bool → Nat
  | [] => 0
  | b :: bs => bit b + 2 * bitsN bs

/-! ### Time (01 R33, 19 R554 to R556; log 2) -/

/-- Site time at a model clock. -/
def siteAt (p : Pkg) (t : Nat) : Nat := if t ≥ p.clk then p.tim.now + (t - p.clk) else p.tim.now - (p.clk - t)

/-- The mailbox holds a command without a final result (03 R118). -/
def mailboxBusy (p : Pkg) : Bool := p.mbx.slots.any (fun s => s.state == .pending)

/-- The model clock and site time move on to an instant; they never move back. The time in which the mailbox holds a command counts
(03 R118). -/
def advance (t : Nat) (p : Pkg) : Pkg :=
  if t > p.clk then
    { p with clk := t, busyNs := p.busyNs + (if mailboxBusy p then t - p.clk else 0), tim := { p.tim with now := p.tim.now + (t - p.clk) } }
  else p

/-- Model clock of the next supervisory boundary. -/
def nextBoundary (p : Pkg) : Nat := p.clk + (1000000 - p.tim.now % 1000000)

/-- A deadline falls before the next boundary, so its timer may run out now (log 4). -/
def due (p : Pkg) (d : Nat) : Bool := d < nextBoundary p

/-- An optional deadline is set and due. -/
def dueO (p : Pkg) : Option Nat → Bool
  | none => false
  | some d => due p d

/-! ### Life-cycle and mode (02 R62, R70) -/

/-- The life-cycle state of the fuse fields (02 R70). -/
def LcFuses.lc (f : LcFuses) : Lc :=
  if f.scrap then .scrapped else if !f.prov then .blank else if f.seals = 0 then .provisioned
  else if f.seals > f.breaks then .field else .service

/-- The life-cycle state the package presents. -/
def lcOf (p : Pkg) : Lc := p.sys.lcRead.lc

/-- The present mode is one of these. -/
def inMode (p : Pkg) (l : List Mode) : Bool := l.contains p.sys.mode

/-- Active Stitch die: the owner Hoop drives (01 R15, 11 R351). -/
def activeDie (p : Pkg) : Option Die := p.duo.hoop

/-- A Stitch die is active, so that the package's firmware acts (01 R15, R632, 11 R353). -/
def awake (p : Pkg) : Bool := (activeDie p).isSome

/-- The Hoop decoder of a Stitch die (01 R24). -/
def decoderOf (p : Pkg) : Die → HoopDecoder
  | .a => p.sys.hoopA
  | .b => p.sys.hoopB

/-- The active die's own decoder selects it: its transmitters are enabled, and it issues requests to the other dies
(01 R15, R17). -/
def drives (p : Pkg) : Bool := (activeDie p).any (fun d => (decoderOf p d).owner == some d)

/-- The active die's own decoder does not select it: it enables no transmitter on the pins that both dies share (01 R17). -/
def muted (p : Pkg) : Bool := (activeDie p).any (fun d => (decoderOf p d).owner != some d)

/-- The active die journals the mode, with itself as the die then active (01 R55, 02 R78). -/
def journalMode (p : Pkg) : Pkg :=
  if awake p && !p.mtr.nvBlock then { p with sys := { p.sys with jMode := some (p.sys.mode, activeDie p) } } else p

/-- Enter a mode: PREV keeps the mode left, and the change is journaled (02 R63, 01 R55). A mode that stays is no
transition. -/
def setMode (m : Mode) (p : Pkg) : Pkg :=
  if p.sys.mode = m then p else journalMode { p with sys := { p.sys with mode := m, prev := p.sys.mode } }

/-- The record of a Stitch die. -/
def dieOf (p : Pkg) : Die → DieRec
  | .a => p.duo.a
  | .b => p.duo.b

/-- Change the record of a Stitch die. -/
def updDie (d : Die) (f : DieRec → DieRec) (p : Pkg) : Pkg :=
  match d with
  | .a => { p with duo := { p.duo with a := f p.duo.a } }
  | .b => { p with duo := { p.duo with b := f p.duo.b } }

/-! ### Free values (log 6) -/

/-- The next free value, of n bits. -/
def drawFree (n : Nat) (p : Pkg) : Nat × Pkg :=
  ((Config.freeValue p.freeN).toNat % 2 ^ n, { p with freeN := p.freeN + 1 })

/-- Bytes of the entropy source: 8 of each free value (18 R530, R547; log 6). -/
def drawBytes (words : Nat) (p : Pkg) : List Byte × Pkg :=
  (((List.range words).map (fun i => toLe 8 (Config.freeValue (p.freeN + i)).toNat)).flatten, { p with freeN := p.freeN + words })

/-! ### Checksums -/

/-- One bit of a reflected CRC. -/
def crcBit (poly c : Nat) : Nat := if c % 2 = 1 then (c / 2) ^^^ poly else c / 2

/-- One byte of the CRC-32 of 21 R629. -/
def crc32Byte (c : Nat) (b : Byte) : Nat :=
  (List.range 8).foldl (fun c _ => crcBit 0xEDB88320 c) (c ^^^ b.toNat)

/-- The CRC-32 of a message (21 R629). -/
def crc32 (l : List Byte) : Nat := (l.foldl crc32Byte 0xFFFFFFFF) ^^^ 0xFFFFFFFF

/-- One byte of a CRC shifted most significant bit first. -/
def crcMsbByte (w poly c : Nat) (b : Byte) : Nat :=
  (List.range 8).foldl (fun c _ => if tb c (w - 1) then ((c * 2) ^^^ poly) % 2 ^ w else (c * 2) % 2 ^ w)
    (c ^^^ (b.toNat * 2 ^ (w - 8)))

/-! ### Event log (10 R336, R337) -/

/-- Write an event record at a site time; the ring keeps 7,936 (10 R336). -/
def logEventAt (time kind source client : Nat) (data : List Byte) (p : Pkg) : Pkg :=
  let e : EvRec := { index := p.bil.evIdx, time := time, kind := kind, source := source, client := client,
                     data := pad 20 data }
  { p with bil := { p.bil with events := cap 7936 (e :: p.bil.events), evIdx := (p.bil.evIdx + 1) % 2 ^ 64 } }

/-- Write an event record now. -/
def logEvent (kind source client : Nat) (data : List Byte) (p : Pkg) : Pkg :=
  logEventAt p.tim.now kind source client data p

/-! ### Work (03 R100 to R106, R116) -/

/-- Work complete: DONE with OK, FAILED with any other status; an item already ended keeps its end (03 R116). -/
def endItem (now clk : Nat) (st : Status) (w : WorkItem) : WorkItem :=
  if w.state = .done ∨ w.state = .failed then w
  else { w with state := if st = .ok then .done else .failed, status := st, endTime := now, endClk := clk }

/-- End the work item of an id (03 R116). -/
def finishWork (id : Nat) (st : Status) (p : Pkg) : Pkg :=
  { p with mbx := { p.mbx with work := p.mbx.work.map (fun w => if w.id = id then endItem p.tim.now p.clk st w else w) } }

/-- End the work item of an optional id. -/
def finishWork? (id : Option Nat) (st : Status) (p : Pkg) : Pkg :=
  match id with
  | none => p
  | some i => finishWork i st p

/-- Work applied and not complete: RUNNING (03 R116). -/
def runWork (id : Nat) (p : Pkg) : Pkg :=
  let f := fun w : WorkItem => if w.id = id ∧ w.state = .accepted then { w with state := .running } else w
  { p with mbx := { p.mbx with work := p.mbx.work.map f } }

/-- The module's node address. -/
def nodeAddr (p : Pkg) : Nat := p.dfn.nv.addr

/-- The next work id of this module, and its counter moved on (03 R101). -/
def newWorkId (p : Pkg) : Nat × Pkg :=
  (nodeAddr p * 2 ^ 48 + (p.mbx.workCtr + 1) % 2 ^ 48,
   { p with mbx := { p.mbx with workCtr := (p.mbx.workCtr + 1) % 2 ^ 48 } })

/-! ### The image store's memory (02 R76, 03 R114) -/

/-- What an unlisted address of the image store reads as (log 14). -/
def storeDefault : Byte := 0

/-- The canonical form: addresses strictly rising, and no entry equal to what an unlisted address reads as. -/
def memWf : List Host.Cell → Bool
  | [] => true
  | [c] => c.2 != storeDefault
  | c :: d :: r => c.2 != storeDefault && decide (c.1 < d.1) && memWf (d :: r)

/-- Read a byte. -/
def memRead (a : Nat) : List Host.Cell → Byte
  | [] => storeDefault
  | c :: r => if c.1 = a then c.2 else if c.1 > a then storeDefault else memRead a r

/-- Put a cell in front, unless it holds what an unlisted address reads as. -/
def memCons (a : Nat) (b : Byte) (r : List Host.Cell) : List Host.Cell :=
  if b = storeDefault then r else (a, b) :: r

/-- Write a byte, keeping the canonical form. -/
def memWrite (a : Nat) (b : Byte) : List Host.Cell → List Host.Cell
  | [] => memCons a b []
  | c :: r => if c.1 < a then c :: memWrite a b r else if c.1 = a then memCons a b r else memCons a b (c :: r)

/-- Write bytes at rising addresses. -/
def memWriteL (a : Nat) : List Byte → List Host.Cell → List Host.Cell
  | [], m => m
  | b :: bs, m => memWriteL (a + 1) bs (memWrite a b m)

/-- Read n bytes. -/
def memReadL (a n : Nat) (m : List Host.Cell) : List Byte := (List.range n).map (fun i => memRead (a + i) m)

/-- Erase a range. -/
def memErase (a n : Nat) (m : List Host.Cell) : List Host.Cell := m.filter (fun c => c.1 < a || c.1 ≥ a + n)

/-- Base of an image in the store's address space: firmware slots 0 and 1, configuration, calendar, site map
(03 R114; log 14). -/
def storeBase (kind target : Nat) : Nat :=
  if kind = 1 then (if target = 0 then 0 else 0x100000)
  else if kind = 2 then 0x200000 else if kind = 3 then 0x280000 else 0x2C0000

/-- Size of an image's place in the store (03 R114). -/
def storeSize (kind : Nat) : Nat := if kind = 1 then 0x100000 else if kind = 2 then 0x80000 else 0x40000

end Sys2Proof.Machine
end

