-- ==== Sys2Proof/Machine/Operands.lean ====
section
/-!
DEFINITION. Operand forms: the fields of a payload or frame body, at byte offsets, little-endian in mailbox payloads
and big-endian on the fabric (00 R9), and the reserved-field test of 03 R108.
-/

namespace Sys2Proof.Machine

/-- n bytes at an offset; zero beyond the end. -/
def slice (l : List Byte) (off n : Nat) : List Byte := pad n (l.drop off)

/-- A little-endian field. -/
def le (l : List Byte) (off n : Nat) : Nat := leNat (slice l off n)

/-- A big-endian field. -/
def be (l : List Byte) (off n : Nat) : Nat := beNat (slice l off n)

/-- A byte. -/
def u8 (l : List Byte) (off : Nat) : Nat := le l off 1
/-- A little-endian 16-bit field. -/
def u16 (l : List Byte) (off : Nat) : Nat := le l off 2
/-- A little-endian 32-bit field. -/
def u32 (l : List Byte) (off : Nat) : Nat := le l off 4
/-- A little-endian 64-bit field. -/
def u64 (l : List Byte) (off : Nat) : Nat := le l off 8

/-- A signed little-endian field of n bytes. -/
def sle (l : List Byte) (off n : Nat) : Int := sext (8 * n) (le l off n)

/-- A signed big-endian field of n bytes. -/
def sbe (l : List Byte) (off n : Nat) : Int := sext (8 * n) (be l off n)

/-- Reserved bytes are zero (03 R108 check 5). -/
def zeros (l : List Byte) (off n : Nat) : Bool := le l off n == 0

/-- A value lies in a range. -/
def inR (lo hi v : Nat) : Bool := lo ≤ v && v ≤ hi

/-- The CAN identifier word of 14 R469. -/
def canIdWord (f : CanFrame) : Nat := bit f.ide * 2 ^ 31 + bit f.fdf * 2 ^ 30 + bit f.brs * 2 ^ 29 + f.id % 2 ^ 29

/-- A CAN frame's flags and identifier from the word of 14 R469. -/
def canOfWord (w : Nat) (data : List Byte) : CanFrame :=
  { ide := tb w 31, fdf := tb w 30, brs := tb w 29, id := w % 2 ^ 29, data := data }

end Sys2Proof.Machine
end

