-- ==== Sys2Proof/Machine/Flags.lean ====
section
/-!
DEFINITION. Flag and status computations: saturating counters, write-1-to-clear fields (00 R11), the common upper
half of health words (01 R41), and the codes of enumerations as registers show them.
-/

namespace Sys2Proof.Machine

/-- Increment an 8-bit counter that saturates. -/
def inc8 (n : Nat) : Nat := satAdd 255 n 1
/-- Increment a 16-bit counter that saturates. -/
def inc16 (n : Nat) : Nat := satAdd 65535 n 1
/-- Increment a 32-bit counter that saturates. -/
def inc32 (n : Nat) : Nat := satAdd 0xFFFFFFFF n 1

/-- A single-bit RW1C field after bit n of a word is written under a mask (00 R11). -/
def w1c (v mask n : Nat) (b : Bool) : Bool := b && !(tb v n && tb mask n)

/-- A multi-bit RW1C field [msb:lsb]: cleared when every bit of it is written 1 (00 R11). -/
def w1cF (v mask msb lsb f : Nat) : Nat :=
  if fld v msb lsb = 2 ^ (msb + 1 - lsb) - 1 ∧ fld mask msb lsb = 2 ^ (msb + 1 - lsb) - 1 then 0 else f

/-- A RW field [msb:lsb] of a register after a masked write (03 R117). -/
def wr (v mask msb lsb old : Nat) : Nat :=
  let w := 2 ^ (msb + 1 - lsb)
  let m := fld mask msb lsb
  (old &&& (w - 1 - m)) ||| (fld v msb lsb &&& m)

/-- A single-bit RW field after a masked write. -/
def wrB (v mask n : Nat) (old : Bool) : Bool := if tb mask n then tb v n else old

/-- A signed RW field of a whole word after a masked write. -/
def wrI (v mask : Nat) (old : Int) : Int := sext 32 (wr v mask 31 0 (uns 32 old))

/-- STATE of a health word (01 R41), coded 0x0 to 0x5. -/
inductive UnitState where
  | unused | ready | active | derated | faulted | test
  deriving DecidableEq, Repr

/-- The code of a unit's state (01 R41). -/
def UnitState.code : UnitState → Nat
  | .unused => 0 | .ready => 1 | .active => 2 | .derated => 3 | .faulted => 4 | .test => 5

/-- The AGE of health words: 15 before the first boundary since the reset, 0 after it (01 R39, R41; log 15). -/
def ageOf (p : Pkg) : Nat := if p.sys.supCycles = 0 then 15 else 0

/-- The upper half of a health word in place (01 R41). -/
def health (p : Pkg) (kind : Nat) (st : UnitState) (latched static_ excluded : Bool) (low : Nat) : Nat :=
  kind * 2 ^ 28 + st.code * 2 ^ 24 + bit latched * 2 ^ 23 + bit static_ * 2 ^ 22 + bit excluded * 2 ^ 21
    + ageOf p * 2 ^ 16 + low % 65536

/-- The value of a status code (03 R628). -/
def Status.code : Status → Nat
  | .ok => 0 | .busy => 1 | .notReady => 2 | .duplicate => 3 | .badParameter => 4 | .stateConflict => 5
  | .badOpcode => 6 | .badLength => 7 | .notAuthorised => 8 | .faulted => 9

/-- The value of a slot state (03 R628). -/
def SlotState.code : SlotState → Nat
  | .free => 0 | .pending => 1 | .done => 2

/-- The value of a work state (03 R116). -/
def WorkState.code : WorkState → Nat
  | .accepted => 1 | .running => 2 | .done => 3 | .failed => 4

end Sys2Proof.Machine
end

