-- ==== Sys2Proof/Machine/Streams.lean ====
section
/-!
DEFINITION. Sending on the fabric network (13 R411, R416, R421 to R425, R428): packets and their flits, the choice of
a lane, streams and floods. A packet in bytes is bytes 1 to 16 of its first flit, its payload and its CRC trailer.
-/

namespace Sys2Proof.Machine

/-- A lane of the physical layer. -/
def flAt (p : Pkg) (l : Nat) : FLane := p.dfl.lane.getD l {}

/-- Change a lane of the physical layer. -/
def updFl (l : Nat) (f : FLane → FLane) (p : Pkg) : Pkg := { p with dfl := { p.dfl with lane := upd p.dfl.lane l f } }

/-- A lane of the network layer. -/
def nlAt (p : Pkg) (l : Nat) : NLane := p.dfn.lane.getD l {}

/-- Change a lane of the network layer. -/
def updNl (l : Nat) (f : NLane → NLane) (p : Pkg) : Pkg := { p with dfn := { p.dfn with lane := upd p.dfn.lane l f } }

/-- Change DFN_EVT. -/
def dfnEvt (f : DfnEvt → DfnEvt) (p : Pkg) : Pkg := { p with dfn := { p.dfn with evt := f p.dfn.evt } }

/-- The lane is in UP (12 R396). -/
def laneUp (p : Pkg) (l : Nat) : Bool := (flAt p l).st == .up

/-- Lanes in UP. -/
def upLanes (p : Pkg) : List Nat := (List.range 8).filter (laneUp p)

/-- The address a module sends from: its node address, else its discovery address (13 R413, R416). -/
def myAddr (p : Pkg) : Nat := if nodeAddr p ≠ 0 then nodeAddr p else p.dfn.disc

/-- EPOCH of packets sent: the low 16 bits of MBX_BOOT_COUNT (13 R416). -/
def myEpoch (p : Pkg) : Nat := p.mbx.boots % 65536

/-! ### Receive windows (13 R430) -/

/-- The receive window of a source. -/
def winOf (p : Pkg) (src : Nat) : WorkWin := (p.dfn.nv.wins.find? (fun w => w.src == src)).getD { src := src }

/-- A work-id counter lies below the window of its source, or below the mark a wipe has left (13 R430). -/
def winBelow (src ctr : Nat) (p : Pkg) : Bool :=
  let w := winOf p src
  decide (ctr + 65536 ≤ w.high) || decide (ctr ≤ w.wipedAt ∧ w.wipedAt ≠ 0)

/-- A work-id counter is marked applied (13 R430). -/
def winMark (src ctr : Nat) (p : Pkg) : Pkg :=
  let w := winOf p src
  let high := max w.high ctr
  let w1 := { w with high := high, done := (ctr, 0) :: w.done.filter (fun x => decide (x.1 + 65536 > high)) }
  { p with dfn := { p.dfn with nv := { p.dfn.nv with wins := w1 :: p.dfn.nv.wins.filter (fun x => x.src != src) } } }

/-! ### Tables under a site map (13 R413, R417, R419) -/

/-- The destination table and class weights of a map in force; no discovery address with it (13 R413, R417, R419). -/
def netMap (mods : List (Nat × Nat)) (cls : List (Nat × Nat × Nat × Nat)) (p : Pkg) : Pkg :=
  { p with dfn := { p.dfn with
      disc := 0, dirty := true, lsaDue := true
      dests := mods.map (fun m => { addr := m.1, serial := m.2 })
      cls := cls.map (fun c => ⟨c.1, c.2.1, c.2.2.1, c.2.2.2⟩) } }

/-! ### Packets and flits (13 R416) -/

/-- Bytes 1 to 16 of a packet's first flit (13 R416). -/
def pktHead (last : Bool) (k : NPkt) : List Byte :=
  [byte (1 + 2 * bit last), byte (k.cls % 16)] ++ toBe 2 k.src ++ toBe 2 k.dst ++ [byte k.ttl, byte k.kind]
    ++ toBe 2 k.data.length ++ toBe 4 k.seq ++ toBe 2 k.epoch

/-- The bytes over which the CRC of a packet is taken: its head but for TTL, and its payload (13 R416). -/
def pktCrc (head payload : List Byte) : Nat := crc32 (head.take 6 ++ head.drop 7 ++ payload)

/-- Continuation flits of packet data (13 R416). -/
def contFlits (cls : Nat) : Nat → List Byte → List (List Byte)
  | 0, _ => []
  | n + 1, d =>
    if d.isEmpty then []
    else ([1, byte (2 * bit (decide (d.length ≤ 29))), byte cls] ++ pad 29 d) :: contFlits cls n (d.drop 29)

/-- The flits of a packet (13 R416). -/
def pktFlits (k : NPkt) : List (List Byte) :=
  let last := decide (k.data.length + 4 ≤ 15)
  let h := pktHead last k
  let d := k.data ++ toBe 4 (pktCrc h k.data)
  (1 :: h ++ pad 15 d) :: contFlits (k.cls % 16) 142 (d.drop 15)

/-- A packet put in the queue of a lane. -/
def sendOn (l : Nat) (k : NPkt) (p : Pkg) : Pkg :=
  let k1 := { k with lane := l }
  updNl l (fun x => { x with txq := x.txq ++ [(k1, pktFlits k1)] }) { p with dfn := { p.dfn with tx := k1 :: p.dfn.tx } }

/-! ### The lane of a destination (13 R419, R422) -/

/-- The route entry of a destination and class (13 R419). -/
def routeTo (p : Pkg) (dst cls : Nat) : Route :=
  match p.dfn.dests.find? (fun d => d.addr == dst) with
  | none => {}
  | some d => d.routes.getD cls {}

/-- A lane is UP and its neighbour present (13 R414, R422). -/
def laneGood (p : Pkg) (l : Nat) : Bool := laneUp p l && (nlAt p l).nbr.isSome

/-- Send a packet towards its destination: on the primary lane, else on the alternate with REROUTE, else held
(13 R422). -/
def sendPkt (k : NPkt) (p : Pkg) : Pkg :=
  let r := routeTo p k.dst k.cls
  if r.valid ∧ laneGood p r.prim then sendOn r.prim k p
  else match (if r.valid then r.alt else none) with
    | some a => if laneGood p a then sendOn a k (dfnEvt (fun e => { e with reroute := true }) p)
                else { p with dfn := { p.dfn with held := p.dfn.held ++ [k] } }
    | none => { p with dfn := { p.dfn with held := p.dfn.held ++ [k] } }

/-- A link-local packet of class 0 on a lane (13 R414, R438). -/
def sendLocal (l : Nat) (kind : Nat) (data : List Byte) (p : Pkg) : Pkg :=
  sendOn l { cls := 0, src := myAddr p, dst := 0xFFFE, kind := kind, epoch := myEpoch p, data := data } p

/-! ### Streams and floods (13 R413, R423 to R428) -/

/-- RTO of a stream: the greater of 50 µs and four smoothed round trips (13 R425). -/
def rtoOf (s : TxStream) : Nat := min (max 50000 (4 * s.srtt)) 10000000

/-- Payloads move from the wait into the 64 places of a stream, and are sent (13 R423, R425). -/
def streamFill (dst cls : Nat) : Nat → Pkg → Pkg
  | 0, p => p
  | n + 1, p =>
    match p.dfn.txs.find? (fun s => s.dst == dst && s.cls == cls) with
    | none => p
    | some s =>
      match s.wait with
      | [] => p
      | d :: rest =>
        if s.out.length ≥ 64 then p
        else
          let s1 := { s with wait := rest, next := (s.next + 1) % 2 ^ 32
                             acked := if s.out.isEmpty then p.clk else s.acked
                             out := s.out ++ [{ seq := s.next, data := d, sent := p.clk, rto := rtoOf s }] }
          let p1 := { p with dfn := { p.dfn with txs := p.dfn.txs.map (fun x => if x.dst = dst ∧ x.cls = cls then s1 else x) } }
          streamFill dst cls n (sendPkt { cls := cls, src := nodeAddr p, dst := dst, kind := 1, seq := s.next
                                          epoch := myEpoch p, data := d } p1)

/-- Send a payload on the stream to a destination and class; a module without a node address sends none (13 R413,
R423). -/
def streamSend (dst cls : Nat) (data : List Byte) (p : Pkg) : Pkg :=
  if nodeAddr p = 0 ∨ dst = nodeAddr p then p
  else
    let l := if p.dfn.txs.any (fun s => s.dst == dst && s.cls == cls) then p.dfn.txs
      else p.dfn.txs ++ [{ dst := dst, cls := cls, acked := p.clk }]
    let l1 := l.map (fun s => if s.dst = dst ∧ s.cls = cls then { s with wait := s.wait ++ [data] } else s)
    streamFill dst cls 64 { p with dfn := { p.dfn with txs := l1 } }

/-! ### Journal records and their mirror (13 R429, R431 to R433) -/

/-- The record of an item as it is mirrored (13 R432). -/
def mirrorBody (r : MirRec) : List Byte := toBe 8 r.id ++ [byte r.kind, 0, 0, 0] ++ r.data

/-- Items are accepted on their local journal write alone (13 R433). -/
def acceptsLocal (p : Pkg) : Bool := p.ldg.nv.map_.isNone || p.dfn.mirState == .local_

/-- Change the records owed to the mirror target. -/
def updOwed (f : List MirRec → List MirRec) (p : Pkg) : Pkg :=
  { p with dfn := { p.dfn with nv := { p.dfn.nv with owed := f p.dfn.nv.owed } } }

/-- No mirror target has acknowledged a record of an item. -/
def owes (p : Pkg) (id kind : Nat) : Bool := p.dfn.nv.owed.any (fun r => r.id == id && r.kind == kind && !r.got)

/-- A record becomes owed, in place of an earlier one of the same item. -/
def putOwed (r : MirRec) (p : Pkg) : Pkg := updOwed (fun l => l.filter (fun x => !(x.id == r.id && x.kind == r.kind)) ++ [r]) p

/-- An item accepted without a mirror acknowledgement is LOCAL, and its record stays owed (13 R433). -/
def owe (id kind : Nat) (data : List Byte) (p : Pkg) : Pkg :=
  let r : MirRec := { id := id, kind := kind, data := data, sent := p.clk, local_ := true }
  dfnEvt (fun e => { e with localAcc := true }) (putOwed r p)

/-- A record goes to the mirror target, or is owed as LOCAL where none is reachable (13 R429, R432, R433). -/
def mirrorItem (id kind : Nat) (data : List Byte) (p : Pkg) : Pkg :=
  if acceptsLocal p then owe id kind data p
  else
    let r : MirRec := { id := id, kind := kind, data := data, sent := p.clk }
    streamSend p.dfn.target 2 (mirrorBody r) (putOwed r p)

/-- The journal record of an item not yet accepted is withdrawn. -/
def withdraw (id kind : Nat) (p : Pkg) : Pkg := updOwed (fun l => l.filter (fun x => !(x.id == id && x.kind == kind))) p

/-- The conditions of acceptance hold for a journaled item: LOCAL, or its record acknowledged (13 R429, R433). -/
def mayAccept (p : Pkg) (id kind : Nat) : Bool := acceptsLocal p || !owes p id kind

/-- An item whose record stands in the journal is accepted: it is LOCAL where no acknowledgement was needed (13 R429, R433). -/
def acceptRec (id kind : Nat) (data : List Byte) (p : Pkg) : Pkg :=
  if acceptsLocal p then owe id kind data p else p

/-- Send a flood packet on every UP lane (13 R413, R428). -/
def floodSend (cls : Nat) (data : List Byte) (p : Pkg) : Pkg :=
  if cls ≠ 0 ∧ nodeAddr p = 0 then p
  else
    let n := (p.dfn.floodSeq + 1) % 2 ^ 32
    let k : NPkt := { cls := cls, src := myAddr p, dst := 0xFFFF, kind := 3, seq := n, epoch := myEpoch p, data := data }
    (upLanes p).foldl (fun p l => sendOn l k p) { p with dfn := { p.dfn with floodSeq := n } }

end Sys2Proof.Machine
end

