-- ==== Sys2Proof/Machine/Slots.lean ====
section
/-!
DEFINITION. The mailbox pipeline of chapter 03 that every opcode shares: messages to the host, slots and results, the
checks of R108 in their order, nonces and signed trailers, and the rebuilding of slots after a switchover.
-/

namespace Sys2Proof.Machine

/-! ### Messages to the host (03 R81 to R85) -/

/-- Datagrams or fragments that n bytes of UDP payload take at an MTU (03 R81). -/
def fragments (mtu : Nat) (v6 : Bool) (n : Nat) : Nat :=
  let t := n + 8
  let h := if v6 then 40 else 20
  if t + h ≤ mtu then 1
  else
    let u := (mtu - h - bit v6 * 8) / 8 * 8
    if u = 0 then 0 else (t + u - 1) / u

/-- The oldest pushed message of a queue removed, if there is one (03 R83). -/
def dropPushed : List OutMsg → Option (List OutMsg)
  | [] => none
  | m :: r => if m.pushed then some r else (dropPushed r).map (m :: ·)

/-- Types of messages that carry no tag, as the device sends them: OPEN_REPLY and RECOVERY (03 R84). -/
def untagged (type : Nat) : Bool := type == 6 || type == 8

/-- The envelope header of a message of the device (03 R84). -/
def outHead (m : OutMsg) : List Byte :=
  [1, byte m.type] ++ toLe 2 m.body.length ++ toLe 4 m.session ++ toLe 8 (m.counter + (if m.session = 0 then 0 else 2 ^ 63))

/-- The key of a session in the active die's engine (18 R537, R539). -/
def sessionKey (p : Pkg) (sid : Nat) : Option (List Byte) := (regOf p (.session sid)).map (fun r => r.bytes)

/-- The envelope as it leaves: encrypted under the session key, with the header as associated data, SESSION_ID and COUNTER
as nonce (03 R84, R86). -/
def sealMsg (p : Pkg) (m : OutMsg) : List Byte :=
  let h := outHead m
  if untagged m.type then h ++ m.body
  else match sessionKey p m.session with
    | some k => h ++ gcmSeal k (slice h 4 12) h m.body
    | none => []

/-- A message is sent: queued on EP2 under R83, sent at once on EP0 and EP1 (03 R81). -/
def sendOut (m0 : OutMsg) (v6 : Bool) (p : Pkg) : Pkg :=
  let m := { m0 with bytes := sealMsg p m0 }
  if m.ep = 2 then
    if p.mbx.queue.length < 16 then { p with mbx := { p.mbx with queue := p.mbx.queue ++ [m] } }
    else if m.pushed then
      { p with mbx := { p.mbx with err := upd p.mbx.err 2 (fun e => { e with pushDrop := inc8 e.pushDrop }) } }
    else match dropPushed p.mbx.queue with
      | some q => { p with mbx := { p.mbx with queue := q ++ [m] } }
      | none => { p with mbx := { p.mbx with queue := p.mbx.queue ++ [m] } }
  else if muted p then p
  else
    let tag := if untagged m.type then 0 else 16
    { p with mbx := { p.mbx with tx := { m with frags := fragments p.mbx.mtu v6 (16 + m.body.length + tag) } :: p.mbx.tx } }

/-- The session of an id. -/
def sessionOf (p : Pkg) (id : Nat) : Option Session := p.mbx.sessions.find? (fun s => s.id == id)

/-- Change the session of an id. -/
def updSession (id : Nat) (f : Session → Session) (p : Pkg) : Pkg :=
  { p with mbx := { p.mbx with sessions := p.mbx.sessions.map (fun s => if s.id = id then f s else s) } }

/-- Send a message in a session, to the endpoint, address and port from which its last message came; nothing once it has
closed (03 R81, R98). -/
def sendIn (sid type : Nat) (body : List Byte) (pushed : Bool) (p : Pkg) : Pkg :=
  match sessionOf p sid with
  | none => p
  | some s =>
    sendOut { ep := s.ep, type := type, session := sid, counter := s.sent + 1, body := body, pushed := pushed, peer := s.peer } s.v6
      (updSession sid (fun s => { s with sent := s.sent + 1 }) p)

/-! ### Slots and results (03 R94 to R98) -/

/-- Position of slot i of endpoint ep among the 192. -/
def slotIx (ep : Fin 3) (i : Fin 64) : Nat := ep.val * 64 + i.val

/-- A slot. -/
def slotAt (p : Pkg) (ix : Nat) : Slot := p.mbx.slots.getD ix {}

/-- Change a slot. -/
def updSlot (ix : Nat) (f : Slot → Slot) (p : Pkg) : Pkg :=
  { p with mbx := { p.mbx with slots := upd p.mbx.slots ix f } }

/-- Generation of a slot (03 R95). -/
def generation (p : Pkg) (s : Slot) : Nat := p.mbx.boots % 65536 * 65536 + s.uses % 65536

/-- The next use count: it wraps from 0xFFFF to 0x0001 (03 R95). -/
def nextUse (n : Nat) : Nat := if n ≥ 0xFFFF then 1 else n + 1

/-- The bytes of a result: header and payload. The GENERATION is that of the slot that holds the result, also in a DUPLICATE,
whose other header fields are the original's (03 R96, R103; log 106). -/
def resultBytes (gen reads : Nat) (r : Result) : List Byte :=
  toLe 2 r.status.code ++ toLe 2 r.opcode ++ toLe 4 gen ++ toLe 4 r.client ++ toLe 4 r.seq ++ toLe 8 r.workId
    ++ toLe 2 r.payload.length ++ toLe 2 reads ++ [byte r.mode, byte r.guard, 0, 0] ++ r.payload

/-- What a RESULT_READ of the slot returns (03 R97). -/
def readSlot (p : Pkg) (s : Slot) : List Byte :=
  match s.state, s.result with
  | .done, some r => resultBytes (generation p s) s.reads r
  | _, _ => resultBytes (generation p s) 0
      { status := .notReady, opcode := s.opcode, client := s.client, seq := s.seq, mode := p.sys.mode.code }

/-- EXPORTED: a final result of ATTEST with KEYS set has been read or pushed in mode PROVISION (18 R551). -/
def exportMark (s : Slot) (r : Result) (p : Pkg) : Pkg :=
  if r.opcode = 0x0B05 ∧ r.status = .ok ∧ tb (u8 s.payload 32) 0 ∧ p.sys.mode = .provision then
    { p with key := { p.key with exported := true } } else p

/-- Make a slot's result final, keep a refused guard in LAST_GUARD, and push it where asked (03 R96, R98, R109). -/
def finaliseR (ix : Nat) (r : Result) (p : Pkg) : Pkg :=
  let s := slotAt p ix
  let p1 := updSlot ix (fun s => { s with state := .done, checked := false, work := none, waits := none, result := some r, reads := 0 }) p
  let p2 := if r.status = .stateConflict then { p1 with sys := { p1.sys with lastGuard := r.guard } } else p1
  if s.push then exportMark s r (sendIn s.session 4 (resultBytes (generation p2 s) 0 r) true p2) else p2

/-- Make a slot's result final with a status, guard, work id and payload. -/
def finalise (ix : Nat) (st : Status) (guard work : Nat) (payload : List Byte) (p : Pkg) : Pkg :=
  let s := slotAt p ix
  finaliseR ix { status := st, opcode := s.opcode, client := s.client, seq := s.seq, workId := work,
                 mode := p.sys.mode.code, guard := guard, payload := payload } p

/-! ### Clients and sequences (03 R87, R91, R102, R103) -/

/-- Client 0 is served: life-cycle PROVISIONED, and no configuration image accepted (03 R91). -/
def zeroClient (p : Pkg) (id : Nat) : Bool := p.config.isNone && lcOf p == .provisioned && id == 0

/-- The client entry of an id; client 0 while PROVISIONED without configuration. Its flow of chapter 18 has it attest, a query
of role MONITOR (03 R91, R112; log 16). -/
def clientOf (p : Pkg) (id : Nat) : Option ClientCfg :=
  if zeroClient p id then
    some { id := 0, roles := { mon := true, opr := true, met := true },
           slots := List.replicate 3 (List.range 64) }
  else p.mbx.clients.find? (fun c => c.id == id)

/-- Sequence state of a client. -/
def seqOf (p : Pkg) (id : Nat) : ClientSeq := (p.mbx.seqs.find? (fun c => c.id == id)).getD { id := id }

/-- s is newer than h in 32-bit serial arithmetic (03 R102). -/
def newer (s h : Nat) : Bool := let d := (s + 2 ^ 32 - h) % 2 ^ 32; 1 ≤ d && d ≤ 2 ^ 31 - 1

/-- Digest of a command: first 8 bytes of SHA-384 over OPCODE, LENGTH and payload (03 R103). -/
def digest (op : Nat) (payload : List Byte) : Nat :=
  leNat ((Config.sha384 (toLe 2 op ++ toLe 2 payload.length ++ payload)).take 8)

/-- Outcome of check 4. -/
inductive SeqChk where
  | fresh | dup (r : Result) | bad
  deriving DecidableEq, Repr

/-- Check 4 of R108 for a mutating command (03 R102, R103). -/
def seqCheck (p : Pkg) (s : Slot) : SeqChk :=
  let c := seqOf p s.client
  if !c.any || newer s.seq c.high then .fresh
  else match c.acc.find? (fun a => a.seq == s.seq) with
    | some a => if a.digest = digest s.opcode s.payload then .dup { a.result with status := .duplicate } else .bad
    | none => .bad

/-- Keep the record of an accepted command: marks for 65,536 sequences, full results for the 256 newest (03 R102,
R103). -/
def accepted (s : Slot) (r : Result) (c : ClientSeq) : ClientSeq :=
  let strip := fun (x : Accepted × Nat) =>
    if x.2 < 256 then x.1 else { x.1 with result := { x.1.result with workId := 0, payload := [] } }
  let high := if c.any && !newer s.seq c.high then c.high else s.seq
  let all := ({ seq := s.seq, digest := digest s.opcode s.payload, result := r } : Accepted) :: c.acc
  { c with any := true, high := high
           acc := (all.zipIdx.map strip).filter (fun a => (high + 2 ^ 32 - a.seq) % 2 ^ 32 ≤ 65536) }

/-- Change the sequence state of a client, making it if it is new. -/
def updSeq (id : Nat) (f : ClientSeq → ClientSeq) (p : Pkg) : Pkg :=
  if p.mbx.seqs.any (fun c => c.id == id) then
    { p with mbx := { p.mbx with seqs := p.mbx.seqs.map (fun c => if c.id = id then f c else c) } }
  else { p with mbx := { p.mbx with seqs := p.mbx.seqs ++ [f { id := id }] } }

/-- Items of a client not yet DONE or FAILED (03 R106). -/
def openItems (p : Pkg) (client : Nat) : List WorkItem :=
  p.mbx.work.filter (fun w => decide (w.origin = .client client) && !(w.state = .done || w.state = .failed))

/-! ### Nonces and signed trailers (03 R111, 18 R546, R547) -/

/-- Installed keys that sign requests (18 R546). -/
inductive Signer where
  | operator | metrology
  deriving DecidableEq, Repr

/-- The installed key of a signer. -/
def signerKey (p : Pkg) : Signer → InstKey
  | .operator => p.key.opr
  | .metrology => p.key.met

/-- The nonce of a client's signed payload: 32 bytes, 128 bytes from the end (03 R111). -/
def trailerNonce (payload : List Byte) : List Byte := slice payload (payload.length - 128) 32

/-- The nonce is outstanding for the client and not older than 60 s (03 R111). -/
def nonceOk (p : Pkg) (client : Nat) (n : List Byte) : Bool :=
  p.mbx.nonces.any (fun x => x.client == client && x.bytes == n && decide (p.clk ≤ x.issued + 60000000000))

/-- A request presents a nonce: it is consumed if it is that client's (18 R547). -/
def useNonce (client : Nat) (n : List Byte) (p : Pkg) : Pkg :=
  { p with mbx := { p.mbx with nonces := p.mbx.nonces.filter (fun x => !(x.client == client && x.bytes == n)) } }

/-- Counts of a signed request that fails guard 0x0B (18 R547, R553). -/
def authFailed (nonceBad : Bool) (p : Pkg) : Pkg :=
  let k := p.key
  let e := { k.evt with sig := true, nonce := k.evt.nonce || nonceBad }
  { p with key := { k with evt := e
                           sigFail := if nonceBad then k.sigFail else inc8 k.sigFail
                           nonceFail := if nonceBad then inc8 k.nonceFail else k.nonceFail } }

/-! ### The checks of R108 -/

/-- What an opcode's chapter says of it: class, length, role, modes, and the checks that are its own. -/
structure OpSpec where
  /-- OPCODE; 03 R112. -/
  op     : Nat
  /-- Query class; 03 R99. -/
  query  : Bool := false
  /-- LENGTH fits the layout; check 2. -/
  lenOk  : List Byte → Bool
  /-- The role set holds the role required; check 3. -/
  role   : Roles → List Byte → Bool
  /-- Fields in range and reserved fields zero; check 5. -/
  params : Pkg → List Byte → Bool := fun _ _ => true
  /-- Key that must have signed the trailer; check 5. -/
  signed : Pkg → List Byte → Option Signer := fun _ _ => none
  /-- Modes of the catalogue; check 6. -/
  modes  : Mode → Bool
  /-- Guard code that fails, 0 for none; check 6. -/
  guard  : Pkg → List Byte → Nat := fun _ _ => 0
  /-- An engine or transfer is occupied; check 7. -/
  busy   : Pkg → List Byte → Bool := fun _ _ => false

/-- Roles of the catalogue (03 R112). -/
def needMon (r : Roles) (_ : List Byte) : Bool := r.mon
/-- OPERATOR. -/
def needOpr (r : Roles) (_ : List Byte) : Bool := r.opr
/-- METROLOGY. -/
def needMet (r : Roles) (_ : List Byte) : Bool := r.met

/-- Mode set "Any" (03 R112). -/
def anyMode (_ : Mode) : Bool := true
/-- Mode set "Not RETIRED" (03 R112). -/
def notRetired (m : Mode) : Bool := m != .retired && m != .reset
/-- Mode set "IDLE". -/
def onlyIdle (m : Mode) : Bool := m == .idle
/-- Mode set "IDLE to ISOLATED", SAFE_STOP left out (03 R112). -/
def idleToIsolated (m : Mode) : Bool := [Mode.idle, .armed, .deliver, .derate, .isolated].contains m

/-- Check 5's signature: key installed, nonce valid, signature good (18 R546, R547). -/
def sigFails (o : OpSpec) (p : Pkg) (s : Slot) (sigOk : Bool) : Option Bool :=
  match o.signed p s.payload with
  | none => none
  | some k =>
    if !nonceOk p s.client (trailerNonce s.payload) then some true
    else if (signerKey p k).pub = [] || !sigOk then some false
    else none

/-- Consume the nonce of a signed request at check 5 (18 R547). -/
def takeNonce (o : OpSpec) (s : Slot) (p : Pkg) : Pkg :=
  match o.signed p s.payload with
  | none => p
  | some _ => useNonce s.client (trailerNonce s.payload) p

/-- Checks 6 and 7 of R108: status and guard of the first that fails. -/
def check67 (o : OpSpec) (p : Pkg) (s : Slot) : Option (Status × Nat) :=
  if !o.modes p.sys.mode then some (.stateConflict, 8)
  else if o.guard p s.payload ≠ 0 then some (.stateConflict, o.guard p s.payload)
  else if o.busy p s.payload then some (.busy, 0)
  else if !o.query && decide ((openItems p s.client).length ≥ 256) then some (.busy, 0)
  else none

/-- The result payload of a mutating command: ids and window addresses (03 R100, 04 R159, 12 R404, 21 R617, R618). -/
def workPayload (op id : Nat) (d : List Byte) : List Byte :=
  if op = 0x0204 then toLe 4 id ++ toLe 4 0x10000000
  else if op = 0x0701 then toLe 4 id ++ toLe 4 (0x11080000 + 0x10000 * u8 d 0)
  else []

/-- The result of an accepted command (03 R96, R100). -/
def workResult (p : Pkg) (id : Nat) (s : Slot) : Result :=
  { status := .ok, opcode := s.opcode, client := s.client, seq := s.seq, workId := id, mode := p.sys.mode.code
    payload := workPayload s.opcode id s.payload }

/-- The journal record of a command: its work id and result, and its payload (03 R100, 13 R429; log 105). -/
def workRecord (p : Pkg) (id : Nat) (s : Slot) : List Byte :=
  resultBytes (generation p s) 0 (workResult p id s) ++ toLe 2 s.payload.length ++ s.payload

/-- The active die gives a checked command its work id, journals it with its result, and sends the record to the mirror target,
unless items are accepted LOCAL (03 R100, 13 R429, R432, R433; log 105). -/
def journalSlot (ix : Nat) (p : Pkg) : Pkg :=
  if !drives p ∨ p.mtr.nvBlock then p
  else
    let (id, p1) := newWorkId p
    let p2 := updSlot ix (fun s => { s with work := some id }) p1
    if acceptsLocal p2 then p2 else mirrorItem id 1 (workRecord p2 id (slotAt p2 ix)) p2

/-- Checks 5 to 7, then a query's answer, or the journal record of a mutating command that waits for its acceptance. -/
def submit5 (o : OpSpec) (sigOk : Bool) (ix : Nat) (ans : Pkg → List Byte → List Byte × Pkg) (p : Pkg) : Pkg :=
  let s := slotAt p ix
  let p1 := takeNonce o s p
  if !s.rsvOk || !o.params p s.payload then finalise ix .badParameter 0 0 [] p1
  else match sigFails o p s sigOk with
    | some bad => finalise ix .stateConflict 0x0B 0 [] (authFailed bad p1)
    | none => match check67 o p1 s with
      | some (st, g) => finalise ix st g 0 [] p1
      | none =>
        if o.query then
          let (pl, p2) := ans p1 s.payload
          finalise ix .ok 0 0 pl p2
        else journalSlot ix (updSlot ix (fun s => { s with checked := true }) p1)

/-- A placed command goes through checks 2 to 7 of R108; a slot that does not hold the opcode, or whose command has
been checked, is left alone. -/
def submit (o : OpSpec) (sigOk : Bool) (ix : Nat) (ans : Pkg → List Byte → List Byte × Pkg) (p : Pkg) : Pkg :=
  let s := slotAt p ix
  if s.state ≠ .pending ∨ s.opcode ≠ o.op ∨ s.checked ∨ s.waits.isSome then p
  else if !o.lenOk s.payload then finalise ix .badLength 0 0 [] p
  else if !o.role ((clientOf p s.client).getD {}).roles s.payload then finalise ix .notAuthorised 0 0 [] p
  else if o.query then submit5 o sigOk ix ans p
  else match seqCheck p s with
    | .dup r => finaliseR ix r p
    | .bad => finalise ix .badParameter 0 0 [] p
    | .fresh => submit5 o sigOk ix ans p

/-- No answer: the commands whose class is mutating. -/
def noAns (p : Pkg) (_ : List Byte) : List Byte × Pkg := ([], p)

/-- The snapshot that a read is answered from: that of the latest boundary since the reset; before the first, the package as it
stands (03 R115; log 80). -/
def snapOf (s : State) : Pkg := if s.m.sys.supCycles = 0 then s.m else s.snap

/-! ### Switchover (03 R107) -/

/-- Opcodes of the catalogue whose class is query (03 R112). -/
def isQuery (op : Nat) : Bool :=
  [0x0101, 0x0501, 0x0503, 0x0802, 0x0B04, 0x0B05, 0x0F01, 0x0F02, 0x0F03, 0x0F04].contains op

/-- Opcodes of the catalogue (03 R112). -/
def isOpcode (op : Nat) : Bool :=
  isQuery op || [0x0102, 0x0103, 0x0104, 0x0105, 0x0106, 0x0107, 0x0201, 0x0202, 0x0203, 0x0204, 0x0205, 0x0301, 0x0302,
    0x0303, 0x0401, 0x0402, 0x0403, 0x0502, 0x0601, 0x0602, 0x0701, 0x0702, 0x0801, 0x0803, 0x0901, 0x0902, 0x0A01,
    0x0A02, 0x0B01, 0x0B02, 0x0B03, 0x0B06, 0x0C01, 0x0C02, 0x0F05].contains op

/-- The item whose acceptance a slot waits on was placed from that slot. -/
def placedHere (p : Pkg) (ix id : Nat) : Bool := p.mbx.work.any (fun w => w.id == id && w.place == some (ix / 64, ix % 64))

/-- The journaled result of the command in a slot, if it was accepted (03 R100, R104, R107). -/
def journaled (p : Pkg) (ix : Nat) (s : Slot) : Option Result :=
  match s.waits with
  | none => none
  | some id => ((seqOf p s.client).acc.find? (fun a => a.seq == s.seq)).map (fun a =>
      if placedHere p ix id then a.result else { a.result with status := .duplicate })

/-- A slot as the new active die rebuilds it: an accepted command's result is final with the journaled result, one not accepted
never took effect, and a query is repeated by the host. A result that becomes final by this is pushed where asked
(03 R98, R107). -/
def rebuildSlot (ix : Nat) (p : Pkg) : Pkg :=
  let s := slotAt p ix
  let bad : Result := { status := .faulted, opcode := s.opcode, client := s.client, seq := s.seq, mode := p.sys.mode.code }
  match s.state with
  | .free => p
  | .pending =>
    let p1 := match s.work with
      | some id => if s.waits.isSome then p else withdraw id 1 p
      | none => p
    finaliseR ix ((journaled p ix s).getD bad) p1
  | .done => if isQuery s.opcode then updSlot ix (fun s => { s with result := some bad, reads := 0 }) p else p

/-- The slots after a switchover (03 R107). -/
def rebuildSlots (p : Pkg) : Pkg := (List.range 192).foldl (fun p ix => rebuildSlot ix p) p

end Sys2Proof.Machine
end

