-- ==== Sys2Proof/Machine/Cosem.lean ====
section
/-!
DEFINITION. DLMS/COSEM on the wire (10 R345 to R347): A-XDR data, the wrapper of UDP port 4059, ciphered APDUs, and
responses in one piece or in blocks. Tags and codes of A-XDR and of the APDUs are the standard's (log 58).
-/

namespace Sys2Proof.Machine

/-! ### A-XDR (00 R9) -/

/-- A length or count: one byte below 128, else the number of its bytes first. -/
def axLen (n : Nat) : List Byte :=
  if n < 128 then [byte n] else if n < 256 then [0x81, byte n] else if n < 65536 then 0x82 :: toBe 2 n else 0x84 :: toBe 4 n

/-- An array. -/
def axArray (l : List (List Byte)) : List Byte := 1 :: (axLen l.length ++ l.flatten)
/-- A structure. -/
def axStruct (l : List (List Byte)) : List Byte := 2 :: (axLen l.length ++ l.flatten)
/-- An octet string. -/
def axOctets (b : List Byte) : List Byte := 9 :: (axLen b.length ++ b)
/-- A Boolean. -/
def axBool (b : Bool) : List Byte := [3, byte (bit b)]
/-- Unsigned numbers of 1, 2, 4 and 8 bytes. -/
def axU8 (n : Nat) : List Byte := [17, byte n]
/-- Two bytes, unsigned. -/
def axU16 (n : Nat) : List Byte := 18 :: toBe 2 n
/-- Four bytes, unsigned. -/
def axU32 (n : Nat) : List Byte := 6 :: toBe 4 n
/-- Eight bytes, unsigned. -/
def axU64 (n : Nat) : List Byte := 21 :: toBe 8 n
/-- One byte, signed. -/
def axI8 (z : Int) : List Byte := [15, byte (z % 256).toNat]
/-- Two bytes, signed. -/
def axI16 (z : Int) : List Byte := 16 :: toBe 2 (z % 65536).toNat
/-- Four bytes, signed. -/
def axI32 (z : Int) : List Byte := 5 :: toBe 4 (z % 2 ^ 32).toNat
/-- An enumeration. -/
def axEnum (n : Nat) : List Byte := [22, byte n]
/-- Scaler and unit. -/
def axUnit (scaler : Int) (u : Nat) : List Byte := axStruct [axI8 scaler, axEnum u]

/-! ### The wrapper (10 R345) -/

/-- The wPort of a role. -/
def wPort : DlmsRole → Nat
  | .public_ => 0x0010 | .reader => 0x0020 | .operator => 0x0030 | .metrology => 0x0040 | .vendor => 0x0050

/-- The role of a client wPort. -/
def roleOfPort (n : Nat) : Option DlmsRole :=
  [DlmsRole.public_, .reader, .operator, .metrology, .vendor].find? (fun r => wPort r == n)

/-- A wrapper for the server, with an APDU of at most the 2,048 bytes it takes (10 R345, R346). -/
def Wrapper.ok (w : Wrapper) : Bool := w.ver == 1 && w.dst == 1 && decide (w.len ≤ 2048)

/-- An APDU of the server behind its wrapper. -/
def wrapped (r : DlmsRole) (apdu : List Byte) : List Byte := toBe 2 1 ++ toBe 2 1 ++ toBe 2 (wPort r) ++ toBe 2 apdu.length ++ apdu

/-! ### Sending (10 R346, R347) -/

/-- An APDU as it leaves in an association: ciphered, but for Public; none where the engine has no key (10 R347, 18 R536). -/
def ciphered (p : Pkg) (x : Assoc) (apdu : List Byte) : Option (List Byte) :=
  if x.role = .public_ then some apdu else (workKey p (.assoc x.id)).map (fun k => Config.dlmsCipher k x.sent apdu)

/-- Change an association. -/
def updAssoc (id : Nat) (f : Assoc → Assoc) (p : Pkg) : Pkg :=
  { p with bil := { p.bil with assoc := p.bil.assoc.map (fun x => if x.id = id then f x else x) } }

/-- Send a datagram. -/
def dlmsOut (id : Nat) (r : DlmsRole) (apdu : List Byte) (p : Pkg) : Pkg :=
  { p with bil := { p.bil with dlmsTx := { id := id, bytes := wrapped r apdu } :: p.bil.dlmsTx } }

/-- Send an APDU in an association, if it still stands (10 R346, R347). -/
def dlmsSend (id : Nat) (apdu : List Byte) (p : Pkg) : Pkg :=
  match p.bil.assoc.find? (fun x => x.id == id) with
  | none => p
  | some x => match ciphered p x apdu with
    | none => p
    | some b => dlmsOut id x.role b (updAssoc id (fun x => { x with sent := x.sent + 1 }) p)

/-- The response to a SET or an ACTION: success, or read-write-denied. -/
def workApdu (isSet ok : Bool) (inv : Nat) : List Byte :=
  (if isSet then [0xC5, 1, byte inv] else [0xC7, 1, byte inv]) ++ [if ok then 0 else 3] ++ (if isSet then [] else [0])

/-- A result of GET. -/
def DlmsAns.bytes : DlmsAns → List Byte
  | .result c => [1, byte c]
  | .data b => 0 :: b

/-- The response to a GET, normal or with-list. -/
def getApdu (inv : Nat) (l : List DlmsAns) : List Byte :=
  match l with
  | [a] => [0xC4, 1, byte inv] ++ a.bytes
  | l => [0xC4, 3, byte inv] ++ axLen l.length ++ (l.map (·.bytes)).flatten

/-- What a response in blocks carries: the value, or the list of results. -/
def getRaw : List DlmsAns → List Byte
  | [.data b] => b
  | l => axLen l.length ++ (l.map (·.bytes)).flatten

/-- The next block of a GET response: as much as the client takes beside the block's own 12 bytes (10 R346). -/
def getBlock (inv id : Nat) (p : Pkg) : Pkg :=
  match p.bil.assoc.find? (fun x => x.id == id) with
  | none => p
  | some x =>
    let n := max 1 (x.max - 12)
    let apdu := [0xC4, 2, byte inv, byte (bit (decide (x.rest.length ≤ n)))] ++ toBe 4 (x.blk + 1) ++ [0]
      ++ axLen (min n x.rest.length) ++ x.rest.take n
    updAssoc id (fun x => { x with rest := x.rest.drop n, blk := x.blk + 1 }) (dlmsSend id apdu p)

/-- Answer a GET: in one piece, or in blocks where it is longer than the client takes (10 R346). -/
def sendGet (inv id : Nat) (l : List DlmsAns) (p : Pkg) : Pkg :=
  match p.bil.assoc.find? (fun x => x.id == id) with
  | none => p
  | some x =>
    if x.max = 0 ∨ (getApdu inv l).length ≤ x.max then dlmsSend id (getApdu inv l) p
    else getBlock inv id (updAssoc id (fun x => { x with rest := getRaw l, blk := 0 }) p)

end Sys2Proof.Machine
end

