-- ==== Sys2Proof/Machine/Keys.lean ====
section
/-!
DEFINITION. Keys, attestation and trust (18 R529 to R553): the root's generation, nonces, installed keys, the image
trailer, the rollback counter, attestation, and the entropy source. What an engine finds of a signature that comes from
outside is an operand (log 5).
-/

namespace Sys2Proof.Machine

/-- KEY_STAT.ROOT (18 R531, R552, R553). -/
def rootOf (k : Key) : Root :=
  if k.killed then .destroyed else if k.slots.any (·.isDone) then .ready else if k.failed then .failed else .none_

/-- Root slot in use: the lowest whose DONE fuse is burnt (18 R531). -/
def rootSlot (k : Key) : Nat := if (k.slots.getD 0 .empty).isDone then 0 else 1

/-- KEY_ID: the first 8 bytes of SHA-384 of a public key; zero where none is installed (18 R543, R553). -/
def keyId (pub : List Byte) : List Byte := if pub.isEmpty then List.replicate 8 0 else pad 8 (Config.sha384 pub)

/-! ### The root (18 R529 to R531) -/

/-- The shares of a new root secret: 1,024 bits of the entropy source conditioned with SHA-384, and a 384-bit mask (18 R530). -/
def drawShares (p : Pkg) : List Byte × List Byte × Pkg :=
  let (bits, p1) := drawBytes 16 p
  let (a, p2) := drawBytes 6 p1
  (a, xorB (pad 48 (Config.sha384 bits)) a, p2)

/-- Generation of the root at the first start in PROVISIONED: three draws at most, then the burn of the lowest empty slot,
which a cut spoils: the bits it leaves burnt are free values. With the root the keys of the tree have their first uses
from here on, the journal seal's at once (18 R529 to R531, R537). -/
def rootGenerate (draws : List Bool) (burnt : Bool) (p : Pkg) : Pkg :=
  let k := p.key
  if rootOf k ≠ .none_ ∨ lcOf p ≠ .provisioned then p
  else if !(draws.take 3).contains true ∨ !k.slots.contains .empty then { p with key := { k with failed := true } }
  else
    let i := if k.slots.getD 0 (.done [] []) = .empty then 0 else 1
    let (a, b, q) := drawShares p
    if burnt ∧ !p.mtr.nvBlock then loadKey .journal { q with key := { k with slots := upd k.slots i (fun _ => .done a b), failed := false } }
    else
      let (a1, q1) := drawBytes 6 q
      let (b1, q2) := drawBytes 6 q1
      { q2 with key := { k with slots := upd k.slots i (fun _ => .spoiled a1 b1), failed := true } }

/-- Every unburnt bit of SHARE_A in the slot in use is burnt (18 R552). -/
def killSlot : RootSlot → RootSlot
  | .done _ b => .done (List.replicate 48 0xFF) b
  | s => s

/-- The root, the key registers and the installed keys go at scrapping (18 R552). -/
def rootDestroy (p : Pkg) : Pkg :=
  { p with key := { p.key with killed := true, slots := upd p.key.slots (rootSlot p.key) killSlot, regs := [], opr := {}, met := {} } }

/-! ### Rollback (18 R545) -/

/-- At the first entry to IDLE after a boot the rollback counter rises to the smaller SEC_VER of the slots that
verify, and lower Quogus keys are revoked where the image in force says so (18 R545). -/
def rollbackRaise (p : Pkg) : Pkg :=
  let k := p.key
  if k.idled ∨ p.sys.mode ≠ .idle then p
  else
    let vers := ((List.zip k.fw k.fwOk).filter (·.2)).map (·.1.secVer)
    let low := match vers with
      | [] => 0
      | v :: r => r.foldl min v
    let f := k.fw.getD k.bootSlot {}
    if p.mtr.nvBlock then { p with key := { k with idled := true } }
    else
      { p with key := { k with
          idled := true, rollback := max k.rollback low
          evt := { k.evt with raised := k.evt.raised || decide (low > k.rollback) }
          revoked := mapI (fun i r => r || (f.revoke && decide (i < f.key))) k.revoked } }

/-! ### Images (18 R543, R544) -/

/-- The 128 bytes that end an image in the store (03 R114, 18 R543). -/
def trailerOf (p : Pkg) (kind target total : Nat) : List Byte :=
  memReadL (storeBase kind target + (total - 128)) 128 p.store

/-- The Quogus key a KEY_ID names, if it is usable (18 R540, R543). -/
def quogusKey (p : Pkg) (id : List Byte) : Option Nat :=
  (List.range 4).find? (fun k => pad 8 (Config.quogusKeyId k) == id && !p.key.revoked.getD k true)

/-- The checks of an image's trailer, but for the signature (18 R543, R544). -/
def trailerOk (p : Pkg) (kind : Nat) (t : List Byte) : Bool :=
  u32 t 0 == 0x4E474951 && u8 t 4 == kind && zeros t 7 1 && zeros t 20 4 && (u64 t 8 == 0 || u64 t 8 == p.dfn.serial) &&
    (if kind = 1 then
      u8 t 5 == 0 && decide (u8 t 6 ≤ 1) && inR 1 64 (u32 t 16) && decide (u32 t 16 ≥ p.key.rollback)
        && (quogusKey p (slice t 24 8)).isSome
     else u8 t 5 == 1 && u8 t 6 == 0 && u32 t 16 == 0 && !p.key.opr.pub.isEmpty && slice t 24 8 == keyId p.key.opr.pub)

/-- A refused image counts (18 R544). -/
def imageRefused (p : Pkg) : Pkg :=
  { p with key := { p.key with imgFail := inc8 p.key.imgFail, evt := { p.key.evt with image := true } } }

/-! ### KEY_INSTALL (18 R541) -/

/-- KEY_INSTALL in the catalogue, with what the engine found of PUBLIC and ENDORSE (03 R112, 18 R541). -/
def specKeyInstall (pointOk sigOk : Bool) : OpSpec where
  op := 0x0B06
  lenOk d := d.length == 200
  role := needOpr
  params p d := inR 1 2 (u8 d 0) && zeros d 1 3 && zeros d 101 3 && pointOk && (lcOf p != .provisioned || zeros d 104 96)
  modes m := m == .provision || m == .service
  guard p d := match lcOf p with
    | .provisioned => 0
    | .service => if sigOk ∧ !(if u8 d 0 = 1 then p.key.opr.pub else p.key.met.pub).isEmpty then 0 else 0x0B
    | _ => 8

/-- KEY_INSTALL (18 R541). -/
def execKeyInstall (ep : Fin 3) (slot : Fin 64) (pointOk sigOk : Bool) (s : State) : Out :=
  run1 (submit (specKeyInstall pointOk sigOk) true (slotIx ep slot) noAns) s

/-- KEY_INSTALL applied: the role's key is replaced and counted (18 R541). -/
def applyKeyInstall (d : List Byte) (p : Pkg) : Pkg :=
  let n := fun k : InstKey => { k with pub := slice d 4 97, count := (k.count + 1) % 65536 }
  let k := { p.key with evt := { p.key.evt with installed := true } }
  if u8 d 0 = 1 then { p with key := { k with opr := n k.opr } } else { p with key := { k with met := n k.met } }

/-! ### Nonces (18 R547, R548) -/

/-- Nonces not yet expired and unused of every client (18 R547). -/
def nonceCount (p : Pkg) : Nat := (p.mbx.nonces.filter (fun x => decide (p.clk ≤ x.issued + 60000000000))).length

/-- NONCE_GET in the catalogue (03 R112, 18 R547, R548). -/
def specNonceGet : OpSpec where
  op := 0x0B04
  query := true
  lenOk d := d.isEmpty
  role := needMon
  modes := anyMode
  busy p _ := !p.key.entropy

/-- A nonce issued to a client; a fifth evicts that client's oldest (18 R547). -/
def issueNonce (client : Nat) (n : List Byte) (p : Pkg) : Pkg :=
  let own := p.mbx.nonces.filter (fun x => x.client == client)
  let keep := if own.length ≥ 4 then (match own.getLast? with
    | some o => p.mbx.nonces.erase o
    | none => p.mbx.nonces) else p.mbx.nonces
  { p with mbx := { p.mbx with nonces := { client := client, bytes := n, issued := p.clk } :: keep } }

/-- The answer of NONCE_GET (18 R547). -/
def nonceAns (ix : Nat) (n : List Byte) (p : Pkg) (_ : List Byte) : List Byte × Pkg :=
  (pad 32 n ++ toLe 8 (p.tim.now + 60000000000), issueNonce (slotAt p ix).client (pad 32 n) p)

/-- NONCE_GET (18 R547). -/
def execNonceGet (ep : Fin 3) (slot : Fin 64) (nonce : List Byte) (s : State) : Out :=
  run1 (submit specNonceGet true (slotIx ep slot) (nonceAns (slotIx ep slot) nonce)) s

/-! ### Attestation (18 R549, R550) -/


/-- The report of a snapshot before its signature (18 R550). -/
def attestBody (q : Pkg) (d : List Byte) : List Byte :=
  let keys := tb (u8 d 32) 0
  let f := q.key.fw.getD q.key.bootSlot {}
  let fl := bit keys + 2 * bit q.sys.degraded + 4 * bit (rootSlot q.key == 1)
  [1, byte (lcOf q).code, byte q.sys.mode.code, byte fl, byte q.sys.lcRead.seals, byte q.sys.lcRead.breaks, byte q.mtr.epoch
    , byte q.key.rollback] ++ toLe 8 q.dfn.serial ++ toLe 8 q.tim.now ++ toLe 2 q.mbx.boots ++ toLe 2 (nodeAddr q)
    ++ List.replicate 4 0 ++ slice d 0 32 ++ pad 48 f.digest ++ toLe 4 f.secVer ++ [byte q.key.bootSlot, 0, 0, 0]
    ++ pad 48 ((q.config.map (·.digest)).getD []) ++ toLe 4 ((q.ldg.nv.map_.map (·.ver)).getD 0)
    ++ toLe 4 ((q.bil.cal.map (·.id)).getD 0) ++ pad 48 ((q.ldg.nv.map_.map (·.digest)).getD []) ++ keyId q.key.opr.pub ++ keyId q.key.met.pub
    ++ [byte (if keys then 5 else 0)] ++ List.replicate 7 0
    ++ (if keys then ((List.range 5).map (fun k => [byte k, byte (keyAttr (pubKey k)), 0] ++ publicOf q (pubKey k))).flatten else [])

/-- ATTEST in the catalogue; without a root its engine has no key and refuses service (03 R112, 18 R536, R550; log 48). -/
def specAttest : OpSpec where
  op := 0x0B05
  query := true
  lenOk d := d.length == 36
  role := needMon
  params _ d := decide (u8 d 32 ≤ 1) && zeros d 33 3
  modes := anyMode
  busy p _ := rootOf p.key != .ready

/-- The answer of ATTEST from the snapshot, signed by the attestation key (18 R537, R550). -/
def attestAns (q : Pkg) (p : Pkg) (d : List Byte) : List Byte × Pkg :=
  let b := attestBody q d
  (b ++ signWith p .attest b, loadKey .attest p)

/-- ATTEST (18 R550): the report is taken from the snapshot of 03 R115. -/
def execAttest (ep : Fin 3) (slot : Fin 64) (s : State) : Out :=
  run1 (submit specAttest true (slotIx ep slot) (attestAns (snapOf s))) s

/-! ### The entropy source (18 R548) -/

/-- The health tests fail: each period of failure counts once (18 R548). -/
def entropyFail (p : Pkg) : Pkg :=
  if !p.key.entropy then p
  else { p with key := { p.key with entropy := false, entFail := inc8 p.key.entFail, evt := { p.key.evt with entropy := true } } }

/-- ENTROPY_HEALTH_FAIL (18 R548). -/
def execEntropyHealthFail (s : State) : Out := run1 entropyFail s

/-- The health tests pass again (18 R548). -/
def entropyPass (p : Pkg) : Pkg := { p with key := { p.key with entropy := true } }

/-- ENTROPY_SOURCE_PASS (18 R548). -/
def execEntropySourcePass (s : State) : Out := run1 entropyPass s

end Sys2Proof.Machine
end

