-- ==== Sys2Proof/Machine/Fabric.lean ====
section
/-!
DEFINITION. The Dital fabric lanes (12 R383 to R410): symbols and their Gray and precoding maps, scrambling, the
Reed-Solomon code, training frames and the lane state machine, electrical idle and Picot bursts, eye scan and fault
injection. A packet of the network layer reaches its rows reassembled (log 41).
-/

namespace Sys2Proof.Machine

/-! ### Symbols (12 R385 to R387) -/

/-- Gray value of a bit pair (12 R386). -/
def grayOf (b : Nat) : Nat := if b = 2 then 3 else if b = 3 then 2 else b

/-- The four symbols of a byte, most significant pair first (12 R385). -/
def byteSyms (b : Nat) : List Nat := [grayOf (b / 64 % 4), grayOf (b / 16 % 4), grayOf (b / 4 % 4), grayOf (b % 4)]

/-- Gray values of bytes (12 R386). -/
def symsOf (l : List Nat) : List Nat := (l.map byteSyms).flatten

/-- Bytes of Gray values. -/
def bytesOfSyms : List Nat → List Nat
  | a :: b :: c :: d :: r => (grayOf a * 64 + grayOf b * 16 + grayOf c * 4 + grayOf d) :: bytesOfSyms r
  | _ => []

/-- Precoded levels from a state, and the state after them (12 R387). -/
def precode (st : Nat) : List Nat → List Nat × Nat
  | [] => ([], st)
  | g :: r => let p := (g + 4 - st) % 4
              let x := precode p r
              (p :: x.1, x.2)

/-- Gray values recovered from precoded levels, and the state after them (12 R387). -/
def unprecode (st : Nat) : List Nat → List Nat × Nat
  | [] => ([], st)
  | l :: r => let x := unprecode l r
              ((l + st) % 4 :: x.1, x.2)

/-! ### Generators (12 R389, R392) -/

/-- One bit of the scrambler x^31 + x^28 + 1 and its next state (12 R389). -/
def scrBit (s : Nat) : Nat × Nat :=
  let b := (s / 2 ^ 30 + s / 2 ^ 27) % 2
  (b, (s * 2 + b) % 2 ^ 31)

/-- One bit of PRBS13, x^13 + x^12 + x^2 + x + 1, and its next state (12 R392). -/
def prbsBit (s : Nat) : Nat × Nat :=
  let b := (s / 2 ^ 12 + s / 2 ^ 11 + s / 2 + s) % 2
  (b, (s * 2 + b) % 2 ^ 13)

/-- n bits of a generator as a number, the first bit the most significant, and the state after them. -/
def genBits (g : Nat → Nat × Nat) : Nat → Nat → Nat × Nat
  | 0, s => (0, s)
  | n + 1, s => let x := g s
                let y := genBits g n x.2
                (x.1 * 2 ^ n + y.1, y.2)

/-- Bytes scrambled or descrambled in transmission order, and the state after them (12 R389). -/
def scramble (s : Nat) : List Nat → List Nat × Nat
  | [] => ([], s)
  | b :: r => let x := genBits scrBit 8 s
              let y := scramble x.2 r
              ((b ^^^ x.1) :: y.1, y.2)

/-- n symbols of a training frame's PRBS13 field, and the state after them (12 R392). -/
def prbsSyms : Nat → Nat → List Nat × Nat
  | 0, s => ([], s)
  | n + 1, s => let x := genBits prbsBit 2 s
                let y := prbsSyms n x.2
                (grayOf x.1 :: y.1, y.2)

/-! ### Reed-Solomon RS(136,128) over GF(2^8) (12 R388) -/

/-- Product in GF(2^8) with x^8 + x^4 + x^3 + x^2 + 1 (12 R388). -/
def gfMul (a b : Nat) : Nat :=
  ((List.range 8).foldl (fun (x : Nat × Nat) i =>
    (if tb b i then x.1 ^^^ x.2 else x.1, if x.2 ≥ 128 then (x.2 * 2) ^^^ 0x11D else x.2 * 2)) (0, a)).1

/-- Power of α in GF(2^8). -/
def gfExp (n : Nat) : Nat := (List.range (n % 255)).foldl (fun x _ => gfMul x 2) 1

/-- Inverse in GF(2^8): the 254th power. -/
def gfInv (a : Nat) : Nat :=
  let sq := fun x => gfMul x x
  ((List.range 6).foldl (fun (x : Nat × Nat) _ => let t := sq x.2
                                                  (gfMul x.1 t, t)) (sq a, sq a)).1

/-- The value of a polynomial, coefficients in descending degree, at a point. -/
def gfEval (l : List Nat) (x : Nat) : Nat := l.foldl (fun a c => gfMul a x ^^^ c) 0

/-- Coefficients of the generator polynomial ∏(x − α^i) of n roots below its leading 1, in descending degree (12 R388,
15 R482). -/
def rsGen (n : Nat) : List Nat :=
  ((List.range n).foldl (fun (g : List Nat) i =>
    let r := gfExp i
    List.zipWith (fun a b => a ^^^ b) (g ++ [0]) (0 :: g.map (gfMul r))) [1]).drop 1

/-- The n parity bytes of data bytes (12 R388, 15 R482). -/
def rsParity (n : Nat) (d : List Nat) : List Nat :=
  d.foldl (fun reg x =>
    let f := x ^^^ reg.headD 0
    List.zipWith (fun a g => a ^^^ gfMul f g) (reg.drop 1 ++ [0]) (rsGen n)) (List.replicate n 0)

/-- The n syndromes of a codeword. -/
def syndromes (n : Nat) (c : List Nat) : List Nat := (List.range n).map (fun i => gfEval c (gfExp i))

/-- A polynomial in ascending degree at a point. -/
def gfEvalUp (l : List Nat) (x : Nat) : Nat := gfEval l.reverse x

/-- Sum of polynomials in ascending degree. -/
def gfAdd : List Nat → List Nat → List Nat
  | [], b => b
  | a, [] => a
  | x :: a, y :: b => (x ^^^ y) :: gfAdd a b

/-- The locator of errors and of f erasures at given powers from np syndromes, by Berlekamp and Massey started from the
erasures' own: Λ, its degree. -/
def locator (np : Nat) (er : List Nat) (s : List Nat) : List Nat × Nat :=
  let f := er.length
  let g := er.foldl (fun g k => gfAdd g (0 :: g.map (gfMul (gfExp k)))) [1]
  let r := (List.range (np - f)).foldl (fun (x : List Nat × List Nat × Nat × Nat × Nat) i =>
    let (c, b, l, m, bb) := x
    let n := f + i
    let d := (List.range (l + 1)).foldl (fun a i => a ^^^ gfMul (c.getD i 0) (if i ≤ n then s.getD (n - i) 0 else 0)) 0
    if d = 0 then (c, b, l, m + 1, bb)
    else
      let k := gfMul d (gfInv bb)
      let c1 := gfAdd c (List.replicate m 0 ++ b.map (gfMul k))
      if 2 * l ≤ n + f then (c1, c, n + 1 + f - l, 1, d) else (c1, b, l, m + 1, bb)) (g, g, f, 1, 1)
  (r.1, r.2.2.1)

/-- A codeword with np parity bytes and f erased places corrected, with the number of bytes and of bits changed; none where its e
other bytes in error have 2e + f > np, or no codeword is that near (12 R388, R391, 15 R482). -/
def rsDecode (np : Nat) (erased : List Nat) (c : List Nat) : Option (List Nat × Nat × Nat) :=
  let s := syndromes np c
  if s.all (· == 0) then some (c, 0, 0)
  else
    let n := c.length
    let er := (erased.filter (· < n)).eraseDups.map (n - 1 - ·)
    let (lam, deg) := locator np er s
    let places := (List.range n).filter (fun k => gfEvalUp lam (gfInv (gfExp k)) == 0)
    if 2 * deg > np + er.length ∨ places.length ≠ deg then none
    else
      let omega := (List.range np).map (fun k =>
        (List.range (k + 1)).foldl (fun a i => a ^^^ gfMul (lam.getD i 0) (s.getD (k - i) 0)) 0)
      let der := (lam.drop 1).zipIdx.map (fun x => if x.2 % 2 = 0 then x.1 else 0)
      let errs := places.map (fun k =>
        let xi := gfInv (gfExp k)
        (k, gfMul (gfExp k) (gfMul (gfEvalUp omega xi) (gfInv (gfEvalUp der xi)))))
      let c1 := errs.foldl (fun c e => upd c (n - 1 - e.1) (fun b => b ^^^ e.2)) c
      if (syndromes np c1).all (· == 0) then
        some (c1, deg, sumN (errs.map (fun e => sumN ((List.range 8).map (fun i => e.2 / 2 ^ i % 2)))))
      else none

/-- The bytes of a codeword in a 272-byte block (12 R388). -/
def codeword (j : Nat) (b : List Nat) : List Nat :=
  (List.range 128).map (fun m => b.getD (2 * m + j) 0) ++ (List.range 8).map (fun m => b.getD (256 + 2 * m + j) 0)

/-- A block of 272 bytes from 256 scrambled payload bytes (12 R388). -/
def rsBlock (d : List Nat) : List Nat :=
  let q := fun j => rsParity 8 ((List.range 128).map (fun m => d.getD (2 * m + j) 0))
  d ++ ((List.zip (q 0) (q 1)).map (fun x => [x.1, x.2])).flatten

/-- The payload of a block, with corrected bytes and bits; none where a codeword does not decode (12 R388, R391). -/
def rsUnblock (b : List Nat) : Option (List Nat) × Nat × Nat :=
  let r0 := rsDecode 8 [] (codeword 0 b)
  let r1 := rsDecode 8 [] (codeword 1 b)
  let n := fun (r : Option (List Nat × Nat × Nat)) => (r.map (·.2)).getD (0, 0)
  let pay := match r0, r1 with
    | some x, some y => some (((List.zip (x.1.take 128) (y.1.take 128)).map (fun z => [z.1, z.2])).flatten)
    | _, _ => none
  (pay, (n r0).1 + (n r1).1, (n r0).2 + (n r1).2)

/-! ### Training frames (12 R392 to R394) -/

/-- CRC-16 of a control word (12 R393). -/
def crc16 (l : List Byte) : Nat := l.foldl (crcMsbByte 16 0x1021) 0xFFFF

/-- The 16 bytes of a control word (12 R393). -/
def ctrlBytes (c : CtrlWord) : List Byte :=
  let b := [1, byte c.state, byte c.count,
    byte (bit c.die * 128 + bit c.preReq * 64 + bit c.preOn * 32 + c.lane),
    byte (bit c.done * 32 + bit c.preset * 16 + c.reqPost * 4 + c.reqPre),
    byte (c.statPost * 4 + c.statPre), byte c.pre, byte c.post] ++ List.replicate 6 0
  b ++ toBe 2 (crc16 b)

/-- The 32 levels of the marker (12 R392). -/
def marker : List Nat := (List.replicate 4 [3, 3, 3, 3, 0, 0, 0, 0]).flatten

/-- The code of a lane's state in a control word and in STAT (12 R393, R410). -/
def LnState.code : LnState → Nat
  | .down => 0 | .search => 1 | .locked => 2 | .equalise => 3 | .ready => 4 | .countdown => 5 | .up => 6 | .disabled => 7

/-- The control word a lane sends (12 R393). -/
def ctrlWord (p : Pkg) (l : Nat) : CtrlWord :=
  let x := flAt p l
  let eq := x.st == .equalise
  { state := x.st.code, count := if x.st = .countdown then x.train.count else 0, die := activeDie p == some .b
    preReq := x.train.preReq, preOn := x.data.preTx, lane := l
    done := x.train.content && !(x.st == .search || x.st == .locked)
    preset := eq && x.train.req.2.2, reqPost := if eq then x.train.req.2.1 else 0, reqPre := if eq then x.train.req.1 else 0
    statPost := x.train.stat.2, statPre := x.train.stat.1, pre := x.pre, post := x.post }

/-- One tap after a request: its magnitude and the reply (12 R394; log 41). -/
def tapStep (top req v : Nat) : Nat × Nat :=
  if req = 1 then (if v ≥ top then (v, 3) else (v + 1, 1))
  else if req = 2 then (if v = 0 then (v, 2) else (v - 1, 1)) else (v, 0)

/-- A valid control word of the far end: its requests are applied and what it says is kept (12 R387, R393, R394). -/
def takeWord (w : CtrlWord) (x : FLane) : FLane :=
  let a := if w.preset then (1, 1) else tapStep 7 w.reqPre x.pre
  let b := if w.preset then (4, 1) else tapStep 15 w.reqPost x.post
  { x with pre := a.1, post := b.1, peerDie := w.die, peerLane := w.lane
           data := { x.data with preTx := w.preReq, preRx := w.preOn }
           train := { x.train with stat := (a.2, b.2), far := some w } }

/-! ### The choice of a time source (13 R439, 19 R558, R562) -/

/-- PPS alignment is valid (19 R559). -/
def ppsRoot (p : Pkg) : Bool := p.tim.pps.aligned && p.tim.sync != .unsync

/-- DFN_TIME bits [31:16]; DEPTH reads 0xF while the module offers no time (13 R442, 19 R561, R562; log 45). -/
def timeWord (p : Pkg) : Nat :=
  let t := p.dfn.time
  let d := if p.tim.sync = .unsync ∨ p.tim.large then 15 else t.depth
  bit t.locked * 2 ^ 15 + bit t.pps * 2 ^ 14 + bit t.root * 2 ^ 13 + d * 2 ^ 9 + t.up.getD 0 * 2 ^ 6

/-- What a neighbour's HELLO says of its time: PPS-rooted, depth, address (13 R414, R439). -/
def nbrTuple (l : Nat) (n : Nbr) : Nat × Nat × Nat × Nat :=
  (1 - n.time / 2 ^ 14 % 2, n.time / 2 ^ 9 % 16, if n.node ≠ 0 then n.node else n.disc, l)

/-- Lexicographic order of tuples (13 R439). -/
def tupleLt (a b : Nat × Nat × Nat × Nat) : Bool :=
  if a.1 ≠ b.1 then decide (a.1 < b.1)
  else if a.2.1 ≠ b.2.1 then decide (a.2.1 < b.2.1)
  else if a.2.2.1 ≠ b.2.2.1 then decide (a.2.2.1 < b.2.2.1)
  else decide (a.2.2.2 < b.2.2.2)

/-- Present neighbours that offer time, with their tuples (13 R439). -/
def timeNbrs (p : Pkg) : List (Nat × Nat × Nat × Nat) :=
  (upLanes p).filterMap (fun l => match (nlAt p l).nbr with
    | some n => if n.time / 2 ^ 9 % 16 < 15 then some (nbrTuple l n) else none
    | none => none)

/-- The least tuple of a list. -/
def leastTuple (l : List (Nat × Nat × Nat × Nat)) : Option (Nat × Nat × Nat × Nat) :=
  l.foldl (fun a b => match a with
    | none => some b
    | some x => if tupleLt b x then some b else some x) none

/-- Addresses of the module's part of the mesh (13 R415, R439). -/
def meshAddrs (p : Pkg) : List Nat :=
  (p.dfn.lsas.map (·.origin) ++ (upLanes p).filterMap (fun l => (nlAt p l).nbr.map (fun n => if n.node ≠ 0 then n.node else n.disc))).eraseDups

/-- A time source taken: a new upstream starts its count of good exchanges again (13 R439, R440). -/
def setSource (root pps : Bool) (depth : Nat) (up : Option Nat) (src : Nat) (p : Pkg) : Pkg :=
  let t := p.dfn.time
  let moved := decide (t.up ≠ up ∨ t.root ≠ root)
  let t1 := { t with root := root, pps := pps, depth := depth, up := up, src := src }
  let t2 := if moved then { t1 with good := 0, locked := false, offset := 0 } else t1
  dfnEvt (fun e => { e with rootChg := e.rootChg || moved, unlocked := e.unlocked || (t.locked && !t2.locked) })
    { p with dfn := { p.dfn with time := t2 } }

/-- The present upstream's tuple, while it is present. -/
def upTuple (p : Pkg) : Option (Nat × Nat × Nat × Nat) :=
  match p.dfn.time.up with
  | none => none
  | some l => (timeNbrs p).find? (fun t => t.2.2.2 == l)

/-- The upstream to follow: the least tuple, but the present one unless the new is better by a depth (13 R439). -/
def pickUp (p : Pkg) : Option (Nat × Nat × Nat × Nat) :=
  match leastTuple (timeNbrs p), upTuple p with
  | some b, some o => if b.1 < o.1 ∨ (b.1 = o.1 ∧ b.2.1 < o.2.1) then some b else some o
  | some b, none => some b
  | none, _ => none

/-- The module's choice of its time source (13 R439). -/
def timeSource (p : Pkg) : Pkg :=
  if ppsRoot p then setSource true true 0 none (myAddr p) p
  else
    let lowest := decide (myAddr p ≠ 0) && (meshAddrs p).all (fun a => decide (myAddr p ≤ a))
    match pickUp p with
    | none => if lowest then setSource true false 0 none (myAddr p) p else setSource false false 15 none 0 p
    | some t =>
      if t.1 = 1 ∧ lowest then setSource true false 0 none (myAddr p) p
      else setSource false (t.1 == 0) (min 15 (t.2.1 + 1)) (some t.2.2.2) t.2.2.1 p

/-- TIM_STAT.SYNC after its causes change (19 R558, R562). -/
def timeState (p : Pkg) : Pkg :=
  let s := if p.tim.sync = .unsync then .unsync
    else if p.tim.large then .holdover
    else if p.tim.pps.aligned then .pps
    else if p.dfn.time.locked ∧ p.dfn.time.pps then .fabric else .holdover
  { p with tim := { p.tim with sync := s } }

/-! ### Leaving and entering states (12 R396) -/

/-- A running scan of a lane ends FAULTED and leaves no window (12 R404). -/
def scanLost (l : Nat) (p : Pkg) : Pkg :=
  match (flAt p l).scan with
  | none => p
  | some s => if s.on then finishWork s.work .faulted (updFl l (fun x => { x with scan := none }) p) else p

/-- Packets waiting for a lane that has failed move to another lane; link-local and flooded ones go with the lane
(13 R422). -/
def reroute (l : Nat) (p : Pkg) : Pkg :=
  let ks := (nlAt p l).txq.map (·.1)
  let p1 := updNl l (fun x => { x with txq := [] }) p
  (ks.filter (fun k => k.dst < 0xF000)).foldl (fun p k => sendPkt k p) p1

/-- The network layer is told that a lane is down: its neighbour is absent at once, and with it an upstream of time
(13 R414, R415, R422, R439). -/
def laneLost (l : Nat) (p : Pkg) : Pkg :=
  let had := (nlAt p l).nbr.isSome
  let p1 := updNl l (fun x => { x with nbr := none, exs := [], t1 := none, recent := [] }) p
  timeState (timeSource (reroute l (if had then { p1 with dfn := { p1.dfn with lsaDue := true, dirty := true } } else p1)))

/-- A lane enters SEARCH, with training sent (12 R396). -/
def toSearch (l : Nat) (preset count : Bool) (p : Pkg) : Pkg :=
  let up := laneUp p l
  let p1 := updFl l (fun x =>
    { x with st := .search, train := { since := p.clk, prbs := x.train.prbs }
             pre := if preset then 1 else x.pre, post := if preset then 4 else x.post
             retrains := if count then inc16 x.retrains else x.retrains
             data := { x.data with txIdle := false, rxIdle := false, wait := none
                                   preTx := x.data.preTx && !preset, preRx := x.data.preRx && !preset } }) p
  if up then laneLost l (scanLost l p1) else p1

/-- A lane's logic starts as its die leaves reset (12 R395, R396). -/
def laneStart (l : Nat) (p : Pkg) : Pkg :=
  let x := flAt p l
  if x.st = .down then
    if x.enable then toSearch l true false p else updFl l (fun x => { x with st := .disabled }) p
  else p

/-- A lane whose countdown is complete and that has decoded a first block is UP (12 R396). -/
def toUp (l : Nat) (p : Pkg) : Pkg :=
  let x := flAt p l
  if x.st = .countdown ∧ x.train.counted ∧ x.train.firstBlk then
    updFl l (fun x => { x with st := .up, train := { x.train with upMarks := 0, unc := 0 } }) p
  else p

/-- A lane in UP or training falls back (12 R396). -/
def laneFall (l : Nat) (p : Pkg) : Pkg := toSearch l false true p

/-! ### Reception of training frames (12 R396) -/

/-- A lane moves to the next state of training. -/
def lnGo (st : LnState) (now : Nat) (x : FLane) : FLane :=
  { x with st := st, train := { x.train with since := now, words := (0, 0), count := 15 } }

/-- Quality test: errored bits are summed over 2^24 symbols, and the test repeats until it passes (12 R396). -/
def qualityStep (f : TrainIn) (t : LnTrain) : LnTrain :=
  let s := t.qTest.1 + f.syms
  let e := t.qTest.2 + f.errs
  if s ≥ 2 ^ 24 then { t with qTest := (0, 0), quality := t.quality || decide (e ≤ 16) } else { t with qTest := (s, e) }

/-- The receiver asks the far end to precode (12 R409). -/
def wantsPrecode (x : FLane) : Bool := if x.rxPre = 0 then x.train.bigTap else x.rxPre == 2

/-- EQUALISE ends once the own DONE is sent and the quality test is passed (12 R396). -/
def equaliseDone (now : Nat) (x : FLane) : FLane :=
  if x.st = .equalise ∧ x.train.doneSent ∧ x.train.quality then
    let y := lnGo .ready now x
    { y with train := { y.train with preReq := wantsPrecode x } }
  else x

/-- A training frame while a lane trains (12 R396). -/
def trainStep (now : Nat) (f : TrainIn) (x0 : FLane) : FLane :=
  let x := match f.word with
    | some w => takeWord w x0
    | none => x0
  let x := { x with train := { x.train with req := (f.req.1, f.req.2, f.preset), content := f.done, bigTap := f.bigTap
                                            bad := if f.marker then 0 else x.train.bad + 1
                                            markers := if f.marker then x.train.markers + 1 else 0 } }
  match x.st with
  | .search => if x.train.markers ≥ 8 then lnGo .locked now x else x
  | .locked =>
    let ws := match f.word with
      | some w => if x.train.words.2 ≠ 0 ∧ x.train.words.1 = w.state then (w.state, x.train.words.2 + 1) else (w.state, 1)
      | none => (0, 0)
    let y := { x with train := { x.train with words := ws } }
    if ws.2 ≥ 3 then lnGo .equalise now y else y
  | .equalise => equaliseDone now { x with train := qualityStep f x.train }
  | .ready =>
    match f.word with
    | some w => if w.state = 4 ∨ w.state = 5 then lnGo .countdown now x else x
    | none => x
  | _ => x

/-- A frame position in UP: two training markers in a row take the lane down (12 R396). -/
def upFrame (l : Nat) (f : TrainIn) (p : Pkg) : Pkg :=
  let n := if f.marker then (flAt p l).train.upMarks + 1 else 0
  if n ≥ 2 then laneFall l p else updFl l (fun x => { x with train := { x.train with upMarks := n } }) p

/-- A training frame at a lane's receiver (12 R396). -/
def trainingFrame (l : Nat) (f : TrainIn) (p : Pkg) : Pkg :=
  let x := flAt p l
  if x.st = .down ∨ x.st = .disabled ∨ !awake p then p
  else if x.st = .up then upFrame l f p
  else
    let p1 := updFl l (trainStep p.clk f) p
    if (flAt p1 l).st ≠ .search ∧ (flAt p1 l).train.bad ≥ 16 then laneFall l p1 else p1

/-- TRAINING_FRAME (12 R396). -/
def execTrainingFrame (l : Fin 8) (f : TrainIn) (s : State) : Out := run1 (trainingFrame l.val f) s

/-- 10 ms in SEARCH: clock recovery restarts (12 R396). -/
def searchTimeout (l : Nat) (p : Pkg) : Pkg :=
  let x := flAt p l
  if x.st = .search ∧ due p (x.train.since + 10000000) then
    updFl l (fun x => { x with train := { x.train with since := p.clk, markers := 0, bad := 0 } }) p
  else p

/-- SEARCH_TIMEOUT (12 R396). -/
def execSearchTimeout (l : Fin 8) (s : State) : Out := run1 (searchTimeout l.val) s

/-- 50 ms in EQUALISE: back to SEARCH (12 R396). -/
def equaliseTimeout (l : Nat) (p : Pkg) : Pkg :=
  let x := flAt p l
  if x.st = .equalise ∧ due p (x.train.since + 50000000) then toSearch l true true p else p

/-- EQUALISE_TIMEOUT (12 R396). -/
def execEqualiseTimeout (l : Fin 8) (s : State) : Out := run1 (equaliseTimeout l.val) s

/-! ### Fault injection (12 R405 to R408) -/

/-- An injection of a lane ends with a status (12 R408). -/
def injEnd (l : Nat) (st : Status) (p : Pkg) : Pkg :=
  match (flAt p l).run with
  | none => p
  | some i => finishWork i.work st (updFl l (fun x => { x with run := none }) p)

/-- The next unit's turn: whether it is hit, and the injection after it (12 R407; log 42). -/
def injUnit (i : Injection) (events : Nat) : Bool × Injection :=
  let n := i.units
  let hit := match i.pattern with
    | 0 => n == 0
    | 1 => (n + 1) % i.rate == 0
    | 2 => Config.injHit i.lfsr i.rate
    | _ => decide (n % i.rate < i.burst)
  let on := hit && (i.maxEv == 0 || decide (events < i.maxEv))
  (on, { i with units := n + 1, lfsr := (genBits scrBit 31 i.lfsr).2 })

/-- Places chosen without repetition among a list (12 R407; log 42). -/
def choose (g : Nat) : Nat → List Nat → List Nat
  | 0, _ => []
  | n + 1, l =>
    if l.isEmpty then [] else
      let k := l.getD (Config.injPlace g n % l.length) 0
      k :: choose g n (l.filter (· != k))

/-- A flit with PARAM bits of its bytes 1 to 31 flipped (12 R407). -/
def flipBits (g n : Nat) (f : List Byte) : List Byte :=
  (choose g n (List.range 248)).foldl (fun f k => upd f (1 + k / 8) (fun b => b ^^^ byte (2 ^ (k % 8)))) f

/-- Levels with PARAM consecutive symbols replaced from a byte boundary (12 R407; log 42). -/
def flipSyms (g n : Nat) (ls : List Nat) : List Nat :=
  let a := 4 * (Config.injPlace g 0 % 272)
  mapI (fun i v => if a ≤ i ∧ i < a + n then 3 - v else v) ls

/-- The injection of a lane acts in a direction on a kind. -/
def injOn (l : Nat) (tx : Bool) (p : Pkg) : Option Injection :=
  match (flAt p l).run with
  | some i => if i.tx = tx ∧ laneUp p l then some i else none
  | none => none

/-- A hit counts in DFL_LANEn_INJ (12 R407). -/
def injCount (l : Nat) (i : Injection) (hit : Bool) (p : Pkg) : Pkg :=
  updFl l (fun x => { x with run := some i, inj := if hit then inc32 x.inj else x.inj }) p

/-- MAX_EVENTS ends an injection (12 R408). -/
def injLimit (l : Nat) (p : Pkg) : Pkg :=
  match (flAt p l).run with
  | some i => if i.maxEv ≠ 0 ∧ (flAt p l).inj ≥ i.maxEv then injEnd l .ok p else p
  | none => p

/-- The line's levels under CORRUPT_SYMBOL (12 R407). -/
def injLine (l : Nat) (tx : Bool) (ls : List Nat) (p : Pkg) : List Nat × Pkg :=
  match injOn l tx p with
  | none => (ls, p)
  | some i =>
    if i.kind ≠ 3 then (ls, p)
    else
      let (hit, j) := injUnit i (flAt p l).inj
      (if hit then flipSyms i.lfsr i.param ls else ls, injLimit l (injCount l j hit p))

/-- Held flits that have let enough flits pass, or have been held 1 µs (12 R407). -/
def heldOut (now : Nat) (i : Injection) : List (List Byte) × Injection :=
  let out := i.held.filter (fun h => h.2.1 = 0 || decide (now ≥ h.2.2 + 1000))
  (out.map (·.1), { i with held := i.held.filter (fun h => !(h.2.1 = 0 || decide (now ≥ h.2.2 + 1000))) })

/-- One flit under an injection: the flits that pass (12 R407). -/
def injFlit (l : Nat) (tx : Bool) (f : List Byte) (p : Pkg) : List (List Byte) × Pkg :=
  match injOn l tx p with
  | none => ([f], p)
  | some i =>
    if i.kind = 3 ∨ u8 f 0 ≠ 1 ∨ !tb i.classes (u8 f 2 % 16) then ([f], p)
    else
      let (hit, j) := injUnit i (flAt p l).inj
      let j1 := { j with held := j.held.map (fun h => (h.1, h.2.1 - 1, h.2.2)) }
      let (own, j2) := if !hit then ([f], j1) else match i.kind with
        | 1 => ([], j1)
        | 2 => ([flipBits i.lfsr i.param f], j1)
        | _ => ([], { j1 with held := j1.held ++ [(f, i.param, p.clk)] })
      let (out, j3) := heldOut p.clk j2
      (own ++ out, injLimit l (injCount l j3 hit p))

/-- Flits under an injection, with those held past 1 µs passed on first (12 R407). -/
def injFlits (l : Nat) (tx : Bool) (fs : List (List Byte)) (p : Pkg) : List (List Byte) × Pkg :=
  let (old, p1) : List (List Byte) × Pkg := match injOn l tx p with
    | none => ([], p)
    | some i => let (o, j) := heldOut p.clk i
                (o, updFl l (fun x => { x with run := some j }) p)
  fs.foldl (fun (x : List (List Byte) × Pkg) f => let (o, q) := injFlit l tx f x.2
                                                  (x.1 ++ o, q)) (old, p1)

/-! ### Blocks received (12 R385, R389 to R391, R396) -/

/-- IDLE_ENTER from the far end: the receiver holds its clock (12 R400, R401). -/
def idleEnter (l : Nat) (p : Pkg) : Pkg :=
  if laneUp p l then
    updFl l (fun x => { x with data := { x.data with rxIdle := true, wait := some (p.clk, true) } }) p
  else p

/-- A block that no decoding corrects (12 R391, R396). -/
def blockBad (l : Nat) (p : Pkg) : Pkg :=
  let p1 := updFl l (fun x =>
    { x with uncorr := inc32 x.uncorr, drop := satAdd 0xFFFFFFFF x.drop 8, uncNow := inc8 x.uncNow
             train := { x.train with unc := x.train.unc + 1 } }) p
  let p2 := updNl l (fun x => { x with unc := x.unc + 1 }) p1
  if laneUp p2 l ∧ (flAt p2 l).train.unc ≥ 16 then laneFall l p2 else p2

/-- The flits of a decoded block (12 R390, R391). -/
def takeFlits (l : Nat) (fs : List (List Byte)) (p : Pkg) : Pkg :=
  let bad := (fs.filter (fun f => u8 f 0 > 2)).length
  let p1 := updFl l (fun x => { x with drop := satAdd 0xFFFFFFFF x.drop bad, train := { x.train with unc := 0, firstBlk := true } }) p
  let (ds, p2) := injFlits l false (fs.filter (fun f => u8 f 0 = 1)) p1
  let p3 := updFl l (fun x => { x with data := { x.data with rxq := ds } }) p2
  toUp l (if fs.any (fun f => u8 f 0 = 2 && u8 f 1 = 1) then idleEnter l p3 else p3)

/-- The receiver starts afresh at the first block after COUNTDOWN (12 R387, R389, R396). -/
def firstBlock (l : Nat) (p : Pkg) : Pkg :=
  if (flAt p l).st = .countdown ∧ !(flAt p l).train.firstBlk then
    updFl l (fun x => { x with data := { x.data with rxScr := 0x7FFFFFFF, rxP := 0 } }) p
  else p

/-- The levels of a block are unprecoded, corrected and descrambled (12 R387 to R391). -/
def takeBlock (l : Nat) (ls : List Nat) (p : Pkg) : Pkg :=
  let d := (flAt p l).data
  let g := if d.preRx then unprecode d.rxP ls else (ls, d.rxP)
  let u := rsUnblock (bytesOfSyms g.1)
  let c := scramble d.rxScr (u.1.getD (List.replicate 256 0))
  let p1 := updFl l (fun x =>
    { x with corr := satAdd 0xFFFFFFFF x.corr u.2.1, errNow := (x.errNow.1 + u.2.2, x.errNow.2 + 1)
             data := { x.data with rxP := g.2, rxScr := c.2 } }) p
  match u.1 with
  | none => blockBad l p1
  | some _ => takeFlits l ((List.range 8).map (fun k => ((c.1.drop (32 * k)).take 32).map byte)) p1

/-- A block at a lane's receiver, in COUNTDOWN or UP (12 R391). -/
def blockReceived (l : Nat) (levels : List Nat) (p : Pkg) : Pkg :=
  let x := flAt p l
  if !(x.st = .up ∨ x.st = .countdown) ∨ x.data.rxIdle ∨ x.data.wait.isSome then p
  else
    let y := injLine l false (((levels ++ List.replicate 1088 0).take 1088).map (· % 4)) (firstBlock l p)
    takeBlock l y.1 y.2

/-- BLOCK_RECEIVED (12 R391). -/
def execBlockReceived (l : Fin 8) (levels : List Nat) (s : State) : Out := run1 (blockReceived l.val levels) s

/-! ### Electrical idle at the receiver (12 R399 to R402) -/

/-- IDLE_ENTER (12 R400). -/
def execIdleEnter (l : Fin 8) (s : State) : Out := run1 (idleEnter l.val) s

/-- Electrical idle without IDLE_ENTER in UP: a Picot marker is awaited for 2 µs (12 R399). -/
def idleDetected (l : Nat) (p : Pkg) : Pkg :=
  let x := flAt p l
  if x.st = .up ∧ x.data.wait.isNone then updFl l (fun x => { x with data := { x.data with wait := some (p.clk, false) } }) p
  else p

/-- ELECTRICAL_IDLE_DETECTED (12 R399). -/
def execElectricalIdleDetected (l : Fin 8) (s : State) : Out := run1 (idleDetected l.val) s

/-- A Picot marker: the receiver resumes at it, with scrambler and precoder reset (12 R387, R389, R399, R402). -/
def picotMarker (l : Nat) (p : Pkg) : Pkg :=
  let x := flAt p l
  match x.data.wait with
  | none => p
  | some (_, asked) =>
    if x.st ≠ .up then p
    else updFl l (fun x =>
      { x with resyncs := if asked then x.resyncs else inc8 x.resyncs
               data := { x.data with wait := none, rxIdle := false, rxScr := 0x7FFFFFFF, rxP := 0 } }) p

/-- PICOT_MARKER (12 R402). -/
def execPicotMarker (l : Fin 8) (s : State) : Out := run1 (picotMarker l.val) s

/-- No Picot marker within 2 µs, or 2 ms after IDLE_ENTER: SEARCH (12 R399, R401). -/
def picotTimeout (l : Nat) (p : Pkg) : Pkg :=
  let x := flAt p l
  match x.data.wait with
  | none => p
  | some (t, asked) =>
    if x.st = .up ∧ due p (t + (if asked then 2000000 else 2000)) then laneFall l p else p

/-- PICOT_WAIT_TIMEOUT (12 R399, R401). -/
def execPicotWaitTimeout (l : Fin 8) (s : State) : Out := run1 (picotTimeout l.val) s

/-! ### The transmitter (12 R387 to R402, 13 R418) -/

/-- The class of the next flit slot of a lane (13 R418; log 43). -/
def nextClass (cls : List ClsCfg) (x : NLane) : Option Nat × NLane :=
  let waits := fun c => x.txq.any (fun q => q.1.cls == c)
  let others := fun c => x.txq.any (fun q => q.1.cls != c)
  let used := fun c n => decide (((x.recent.take n).filter (· == c)).length ≥ 1)
  if waits 0 ∧ !(used 0 16 && others 0) then (some 0, x)
  else if waits 1 ∧ !(used 1 4 && others 1) then (some 1, x)
  else
    (List.range 30).foldl (fun (r : Option Nat × NLane) _ =>
      if r.1.isSome then r
      else
        let c := r.2.turn
        let d := r.2.deficit.getD c 0
        if waits c ∧ d > 0 then (some c, { r.2 with deficit := upd r.2.deficit c (· - 1) })
        else
          let t := if c ≥ 15 then 2 else c + 1
          (none, { r.2 with turn := t
                            deficit := upd (if waits c then r.2.deficit else upd r.2.deficit c (fun _ => 0)) t
                              (· + (cls.getD t ⟨1, 1, 1, 1⟩).sched) })) (none, x)

/-- The first waiting packet of a class gives its next flit. -/
def takeFlit (c : Nat) : List (NPkt × List (List Byte)) → Option (List Byte) × List (NPkt × List (List Byte))
  | [] => (none, [])
  | (k, fs) :: r =>
    if k.cls = c then
      match fs with
      | [] => takeFlit c r
      | [f] => (some f, r)
      | f :: g => (some f, (k, g) :: r)
    else let x := takeFlit c r
         (x.1, (k, fs) :: x.2)

/-- The IDLE flit (12 R390). -/
def idleFlit : List Byte := List.replicate 32 0

/-- The flit of one slot (12 R390, 13 R418, R441). -/
def slotFlit (l : Nat) (p : Pkg) : List Byte × Pkg :=
  let (c, x) := nextClass p.dfn.cls (nlAt p l)
  match c with
  | none => (idleFlit, updNl l (fun _ => { x with recent := cap 16 (16 :: x.recent) }) p)
  | some c =>
    let (f, q) := takeFlit c x.txq
    (f.getD idleFlit, updNl l (fun _ => { x with txq := q, recent := cap 16 (c :: x.recent)
                                                 slots := (x.slots.1 + 1, x.slots.2) }) p)

/-- The eight flits of the next block: at once IDLE_ENTER where the lane is to go idle and no flit waits (12 R400). -/
def fillBlock (l : Nat) (p : Pkg) : List (List Byte) × Bool × Pkg :=
  let x := flAt p l
  let goIdle := decide (x.st = .up) && (x.idleReq || x.data.spare) && (nlAt p l).txq.isEmpty
  if goIdle then (([2, 1] ++ List.replicate 30 0) :: List.replicate 7 idleFlit, true, p)
  else
    let (fs, p1) := (List.range 8).foldl (fun (r : List (List Byte) × Pkg) _ =>
      let (f, q) := slotFlit l r.2
      (r.1 ++ [f], q)) ([], p)
    (fs, false, p1)

/-- A block put on the line (12 R385). -/
def sendBlock (l : Nat) (p : Pkg) : Pkg :=
  let (fs, idle, p1) := fillBlock l p
  let (ds, p2) := if laneUp p1 l then injFlits l true fs p1 else (fs, p1)
  let d := (flAt p2 l).data
  let bytes := ((ds ++ List.replicate 8 idleFlit).take 8).flatten.map BitVec.toNat
  let (sc, scr) := scramble d.txScr bytes
  let gs := symsOf (rsBlock sc)
  let (ls, st) := if d.preTx then precode d.txP gs else (gs, d.txP)
  let (line, p3) := injLine l true ls p2
  let late := ds.drop 8
  updFl l (fun x =>
    { x with data := { x.data with txScr := scr, txP := st, line := line, txIdle := idle, txIdleAt := p.clk }
             run := match x.run with
               | some i => some { i with held := late.map (fun f => (f, 0, p.clk)) ++ i.held }
               | none => none }) p3

/-- A training frame put on the line (12 R392, R396). -/
def sendTraining (l : Nat) (p : Pkg) : Pkg :=
  let w := ctrlWord p l
  let (ps, st) := prbsSyms 992 (flAt p l).train.prbs
  let line := marker ++ symsOf ((ctrlBytes w).map BitVec.toNat) ++ ps
  let p1 := updFl l (fun x =>
    let t : LnTrain := { x.train with prbs := st, stat := (0, 0), doneSent := x.train.doneSent || w.done }
    let t : LnTrain := if x.st = .countdown then
        (if t.count = 0 then { t with counted := true } else { t with count := t.count - 1 }) else t
    equaliseDone p.clk { x with train := t, data := { x.data with line := line, txScr := 0x7FFFFFFF, txP := 0 } }) p
  toUp l p1

/-- A block or frame position of a lane's transmitter, which is enabled while its die's decoder selects the die
(01 R17, 12 R385, R396, R400). -/
def laneTransmit (l : Nat) (p : Pkg) : Pkg :=
  let x := flAt p l
  if !drives p then p
  else match x.st with
  | .down | .disabled => p
  | .up => if x.data.txIdle then p else sendBlock l p
  | .countdown => if x.train.counted then sendBlock l p else sendTraining l p
  | _ => sendTraining l p

/-- LANE_TRANSMIT_BLOCK (12 R396). -/
def execLaneTransmitBlock (l : Fin 8) (s : State) : Out := run1 (laneTransmit l.val) s

/-- A Picot burst: scrambler and precoder start afresh and the exit counts (12 R387, R389, R402). -/
def picotBurst (l : Nat) (p : Pkg) : Pkg :=
  updFl l (fun x => { x with picot := inc32 x.picot
                             data := { x.data with txIdle := false, txScr := 0x7FFFFFFF, txP := 0
                                                   line := (List.range 512).map (fun i => i % 2 * 3) ++ marker } }) p

/-- An idle transmitter of a die that drives the pins exits once a flit waits, or at the latest 1 ms after entry, and not
before one block time (01 R17, 12 R400, R401). -/
def idleExit (l : Nat) (p : Pkg) : Pkg :=
  let x := flAt p l
  if x.st = .up ∧ x.data.txIdle ∧ drives p ∧ due p (x.data.txIdleAt + 205)
      ∧ (!(nlAt p l).txq.isEmpty ∨ due p (x.data.txIdleAt + 1000000)) then picotBurst l p else p

/-- IDLE_EXIT (12 R401). -/
def execIdleExit (l : Fin 8) (s : State) : Out := run1 (idleExit l.val) s

/-- The lanes under a new active die: a Picot burst on one that was UP, SEARCH on another (12 R398). -/
def lanesSwitch (p : Pkg) : Pkg :=
  (List.range 8).foldl (fun p l =>
    let x := flAt p l
    match x.st with
    | .down | .disabled => p
    | .up => picotBurst l p
    | _ => toSearch l false false p) p

/-! ### Lane registers (12 R396, R400, R406, R410) -/

/-- RETRAIN written: an UP lane goes back to SEARCH (12 R396). -/
def retrain (l : Nat) (p : Pkg) : Pkg := if laneUp p l then laneFall l p else p

/-- RETRAIN (12 R396). -/
def execRetrain (l : Fin 8) (s : State) : Out := run1 (retrain l.val) s

/-- CTRL.ENABLE written (12 R396). -/
def laneEnable (l : Nat) (on : Bool) (p : Pkg) : Pkg :=
  let up := laneUp p l
  let p1 := updFl l (fun x => { x with enable := on }) p
  if !on then
    if (flAt p l).st = .disabled then p1
    else
      let p2 := updFl l (fun x => { x with st := .disabled, train := { prbs := x.train.prbs }
                                           data := { x.data with txIdle := true, rxIdle := false, wait := none, line := [] } }) p1
      if up then laneLost l (scanLost l p2) else p2
  else if (flAt p l).st = .disabled then toSearch l true false p1 else p1

/-- LANE_ENABLE_WRITE (12 R396). -/
def execLaneEnableWrite (l : Fin 8) (on : Bool) (s : State) : Out := run1 (laneEnable l.val on) s

/-- CTRL.IDLE_REQ written (12 R400). -/
def idleReqWrite (l : Nat) (on : Bool) (p : Pkg) : Pkg := updFl l (fun x => { x with idleReq := on }) p

/-- IDLE_REQ_WRITE (12 R400). -/
def execIdleReqWrite (l : Fin 8) (on : Bool) (s : State) : Out := run1 (idleReqWrite l.val on) s

/-- Injections end with the window in FIELD (12 R408). -/
def windowClosed (p : Pkg) : Pkg :=
  if lcOf p = .field ∧ p.dfl.window = 0 then (List.range 8).foldl (fun p l => injEnd l .ok p) p else p

/-- DFL_INJ_WINDOW written: s from 1 to 3,600 opens, 0 closes; a greater value is not taken (12 R406). -/
def injWindowWrite (v client : Nat) (p : Pkg) : Pkg :=
  if v > 3600 ∨ p.sys.mode = .retired then p
  else windowClosed { p with dfl := { p.dfl with window := v, client := client } }

/-- INJ_WINDOW_WRITE (12 R406). -/
def execInjWindowWrite (val client : Nat) (s : State) : Out := run1 (injWindowWrite val client) s

/-- The window counts down once per second (12 R406). -/
def injWindowTick (p : Pkg) : Pkg := windowClosed { p with dfl := { p.dfl with window := p.dfl.window - 1 } }

/-- INJ_WINDOW_TICK (12 R406). -/
def execInjWindowTick (s : State) : Out := run1 injWindowTick s

/-! ### DFL_EYE_SCAN and DFL_FAULT_INJECT (12 R403 to R408) -/

/-- Signed values from lo to hi in steps (12 R403). -/
def gridN (lo hi : Int) (st : Nat) : Nat := if st = 0 ∨ lo > hi then 0 else ((hi - lo) / st).toNat + 1

/-- Eyes selected. -/
def eyeN (e : Nat) : Nat := e % 2 + e / 2 % 2 + e / 4 % 2

/-- Points of a scan (12 R404). -/
def scanPoints (s : EyeScan) : Nat := eyeN s.eyes * (gridN s.ph.1 s.ph.2.1 s.ph.2.2 * gridN s.v.1 s.v.2.1 s.v.2.2)

/-- Ranges of 0x0701 (12 R404). -/
def eyeParams (d : List Byte) : Bool :=
  let ph0 := sle d 2 1
  let ph1 := sle d 3 1
  let v0 := sle d 5 1
  let v1 := sle d 6 1
  inR 0 7 (u8 d 0) && inR 1 7 (u8 d 1) && decide (-32 ≤ ph0 ∧ ph0 ≤ ph1 ∧ ph1 ≤ 31) && inR 1 63 (u8 d 4)
    && decide (-127 ≤ v0 ∧ v0 ≤ v1 ∧ v1 ≤ 127) && inR 1 254 (u8 d 7) && inR 10 30 (u8 d 8) && zeros d 9 3
    && decide (gridN ph0 ph1 (u8 d 4) * gridN v0 v1 (u8 d 7) ≤ 4096)

/-- DFL_EYE_SCAN: a scan is running on the lane (12 R404). -/
def scanBusy (p : Pkg) (d : List Byte) : Bool :=
  match (flAt p (u8 d 0)).scan with
  | some s => s.on
  | none => false

/-- DFL_EYE_SCAN in the catalogue (03 R112, 12 R404). -/
def specEyeScan : OpSpec where
  op := 0x0701
  lenOk d := d.length == 12
  role := needOpr
  params _ d := eyeParams d
  modes := notRetired
  busy := scanBusy

/-- DFL_EYE_SCAN (12 R404). -/
def execDflEyeScan (ep : Fin 3) (slot : Fin 64) (s : State) : Out := run1 (submit specEyeScan true (slotIx ep slot) noAns) s

/-- A scan applied: it starts on a lane that is UP, and fails at once on another (12 R404; log 42). -/
def applyEyeScan (id : Nat) (d : List Byte) (p : Pkg) : Pkg :=
  let l := u8 d 0
  let e : EyeScan := { id := id % 2 ^ 32, eyes := u8 d 1, ph := (sle d 2 1, sle d 3 1, u8 d 4), v := (sle d 5 1, sle d 6 1, u8 d 7)
                       dwell := u8 d 8, t0 := p.tim.now, work := id }
  if laneUp p l then { updFl l (fun x => { x with scan := some e }) p with dfl := { (updFl l (fun x => { x with scan := some e }) p).dfl with scanId := id % 2 ^ 32 } }
  else finishWork id .faulted p

/-- A point counted: the last ends the scan (12 R403, R404). -/
def scanPoint (l errors : Nat) (p : Pkg) : Pkg :=
  match (flAt p l).scan with
  | none => p
  | some s =>
    if !s.on then p
    else
      let cs := s.counts ++ [min errors 0xFFFFFFFF]
      let fin_ := decide (cs.length ≥ scanPoints s)
      let s1 := { s with counts := cs, on := !fin_, t1 := if fin_ then p.tim.now else s.t1 }
      let p1 := updFl l (fun x => { x with scan := some s1 }) p
      if fin_ then finishWork s.work .ok p1 else p1

/-- EYE_SCAN_POINT (12 R403). -/
def execEyeScanPoint (l : Fin 8) (errors : Nat) (s : State) : Out := run1 (scanPoint l.val errors) s

/-- The bytes of a scan window (12 R404). -/
def scanWindow (l : Nat) (s : EyeScan) : List Byte :=
  toLe 4 s.id ++ [byte l, byte s.eyes] ++ toLe 2 (gridN s.ph.1 s.ph.2.1 s.ph.2.2) ++ toLe 2 (gridN s.v.1 s.v.2.1 s.v.2.2)
    ++ [byte s.dwell] ++ List.replicate 5 0 ++ toLe 8 s.t0 ++ toLe 8 s.t1 ++ (s.counts.map (toLe 4)).flatten

/-- Ranges of 0x0702 (12 R407). -/
def injParams (d : List Byte) : Bool :=
  let k := u8 d 1
  let pat := u8 d 3
  let par := u8 d 4
  let rate := u32 d 8
  let burst := u16 d 12
  inR 0 7 (u8 d 0) && inR 0 4 k && zeros d 5 1 && zeros d 14 2 &&
    (k == 0 || (inR 0 1 (u8 d 2) && inR 0 3 pat
      && (match k with
          | 1 => par == 0
          | 2 => inR 1 8 par
          | 3 => inR 1 255 par
          | _ => inR 1 7 par)
      && (k == 3 || u16 d 6 != 0)
      && (match pat with
          | 0 => rate == 0
          | 2 => inR 1 24 rate
          | _ => inR 1 (2 ^ 24) rate)
      && (if pat = 3 then inR 1 rate burst else burst == 0)
      && u32 d 16 != 0 && inR 1 3600000 (u32 d 20)))

/-- Lanes with an injection running. -/
def injLanes (p : Pkg) : List Nat := (List.range 8).filter (fun l => (flAt p l).run.isSome)

/-- Guard of 0x0702: life-cycle and window (12 R405). -/
def injGuard (p : Pkg) (d : List Byte) : Nat :=
  match lcOf p with
  | .provisioned | .service => 0
  | .field => if p.dfl.window > 0 ∧ (injLanes p).all (· == u8 d 0) then 0 else 8
  | _ => 8

/-- An injection runs on the lane already, or on four others (12 R405). -/
def injBusy (p : Pkg) (d : List Byte) : Bool :=
  u8 d 1 != 0 && ((injLanes p).contains (u8 d 0) || decide ((injLanes p).length ≥ 4))

/-- DFL_FAULT_INJECT in the catalogue (03 R112, 12 R405). -/
def specInject : OpSpec where
  op := 0x0702
  lenOk d := d.length == 28
  role r _ := r.ven
  params _ d := injParams d
  modes m := [Mode.provision, .idle, .armed, .deliver, .derate, .safeStop, .isolated, .service].contains m
  guard := injGuard
  busy := injBusy

/-- DFL_FAULT_INJECT (12 R407). -/
def execDflFaultInject (ep : Fin 3) (slot : Fin 64) (s : State) : Out := run1 (submit specInject true (slotIx ep slot) noAns) s

/-- An injection applied; KIND 0 stops the lane's (12 R407, R408). -/
def applyInject (id : Nat) (d : List Byte) (p : Pkg) : Pkg :=
  let l := u8 d 0
  if u8 d 1 = 0 then finishWork id .ok (injEnd l .ok p)
  else if injBusy p d then finishWork id .busy p
  else
    let i : Injection := { kind := u8 d 1, tx := u8 d 2 == 1, pattern := u8 d 3, param := u8 d 4, classes := u16 d 6, rate := u32 d 8
                           burst := u16 d 12, lfsr := u32 d 16 % 2 ^ 31, until_ := p.clk + u32 d 20 * 1000000, maxEv := u32 d 24
                           work := id }
    updFl l (fun x => { x with run := some i, inj := 0 }) p

/-- An injection's duration has elapsed, its events are spent or its window is closed (12 R408). -/
def injectionEnd (l : Nat) (p : Pkg) : Pkg :=
  match (flAt p l).run with
  | none => p
  | some i =>
    if due p i.until_ ∨ (i.maxEv ≠ 0 ∧ (flAt p l).inj ≥ i.maxEv) ∨ (lcOf p = .field ∧ p.dfl.window = 0) then injEnd l .ok p
    else p

/-- INJECTION_END (12 R408). -/
def execInjectionEnd (l : Fin 8) (s : State) : Out := run1 (injectionEnd l.val) s

/-- Scans and injections at a switchover or package reset: FAILED, and the windows are gone (12 R404, R408). -/
def lanesAbort (p : Pkg) : Pkg :=
  (List.range 8).foldl (fun p l => updFl l (fun x => { x with scan := none }) (scanLost l (injEnd l .faulted p))) p

/-- Loss of a lane's recovered clock (01 R31, 12 R396): not counted while the receiver is in idle (12 R400). -/
def laneClockLoss (l : Nat) (p : Pkg) : Pkg :=
  let x := flAt p l
  if x.st = .down ∨ x.st = .disabled ∨ x.data.rxIdle then p
  else
    let p1 := updFl l (fun x => { x with clkLoss := inc8 x.clkLoss }) p
    if x.st = .up then laneFall l p1 else p1

/-! ### The boundary's share (12 R410, 13 R420, R441) -/

/-- Counts of the supervisory cycle just over (12 R410). -/
def laneCounts (p : Pkg) : Pkg :=
  { p with dfl := { p.dfl with lane := p.dfl.lane.map (fun x =>
      let hist := cap 1000 (x.errNow :: x.errHist)
      let e := sumN (hist.map (·.1))
      let n := sumN (hist.map (·.2))
      { x with errHist := hist, errNow := (0, 0), uncLast := x.uncNow, uncNow := 0
               degraded := decide (x.errNow.1 * 1000000 > x.errNow.2 * 2176)
               nlog := if e = 0 then 0xFF else Config.nlog e n % 256 }) } }

end Sys2Proof.Machine
end

