-- ==== Sys2Proof/Machine/Battery.lean ====
section
/-!
DEFINITION. The meanings of chapter 17: presence of the buffer strings, the estimate, confidence, reserve, learning
and its journal, and the battery commands.
-/

namespace Sys2Proof.Machine

/-- Change a string. -/
def updStr (s : Nat) (f : BStr → BStr) (p : Pkg) : Pkg := { p with bat := { p.bat with str := upd p.bat.str s f } }

/-- A string. -/
def strAt (p : Pkg) (s : Nat) : BStr := p.bat.str.getD s {}

/-- Change BAT_EVT. -/
def batEvt (f : BEvt → BEvt) (p : Pkg) : Pkg := { p with bat := { p.bat with evt := f p.bat.evt } }

/-- Disqualify a string's open learning cycle with a reason (17 R525). -/
def disqualify (s reason : Nat) (p : Pkg) : Pkg :=
  if (strAt p s).est.learn.isNone then p
  else batEvt (fun e => { e with disq := true })
    (updStr s (fun x => { x with reason := reason, est := { x.est with learn := none } }) p)

/-- A string leaves ACTIVE for another state (17 R513, R525). -/
def leaveActive (s : Nat) (st : BState) (p : Pkg) : Pkg :=
  updStr s (fun x => { x with st := st, run := 0 }) (if (strAt p s).st = .active then disqualify s 5 p else p)

/-- Current of R514 in mA: the auxiliary channel's or the newest STATUS's. -/
def strCurrent (p : Pkg) (x : BStr) : Int :=
  if x.cfg.aux then (p.mtr.chan.getD x.cfg.auxCh {}).value else x.status.i

/-- The estimate restarts (17 R516). -/
def restartEst (p : Pkg) (x : BStr) : BStr :=
  { x with est := { x.est with v1 := 0, soc := none, socV := none, lastV := none, unc := 5, jump := none
                               i := strCurrent p x } }

/-- Hours between two site times. -/
def hours (a b : Nat) : Rat := ((b - a : Nat) : Rat) / 3600000000000

/-- The estimate taken up from the journal at the first return after a restart (17 R526). -/
def resumeEst (p : Pkg) (x : BStr) : BStr :=
  match x.resume, x.nv.soc with
  | true, some c =>
    { x with resume := false
             est := { (restartEst p x).est with soc := some c, unc := x.nv.unc + hours x.nv.at_ p.tim.now / 10 } }
  | _, _ => { restartEst p x with resume := false }

/-- A SEEN string with a valid IDENT and STATUS becomes ACTIVE (17 R513). -/
def tryActive (s : Nat) (p : Pkg) : Pkg :=
  let x := strAt p s
  match x.st, x.gotSt, x.ident with
  | .seen, true, some n =>
    if x.nv.serial = some n then updStr s (fun x => { resumeEst p x with st := .active, run := 0 }) p
    else batEvt (fun e => { e with swapped := true })
      (updStr s (fun x => { restartEst p x with st := .active, run := 0, resume := false
                                                cap := { x.cap with q := x.cfg.qNom, learned := false }
                                                nv := { serial := some n, cap := { x.cap with q := x.cfg.qNom, learned := false } } }) p)
  | _, _, _ => p

/-- A sample of a string's identity input (17 R513). -/
def strSample (s : Nat) (r : Option Nat) (p : Pkg) : Pkg :=
  let x := strAt p s
  let band := match r with
    | none => false
    | some v => inR x.cfg.rMin x.cfg.rMax v
  let p1 := updStr s (fun x => { x with r := r }) p
  match x.st with
  | .disabled => p1
  | .absent =>
    if !band then updStr s (fun x => { x with run := 0 }) p1
    else if x.run + 1 ≥ 20 then updStr s (fun x => { x with st := .seen, run := 0, gotSt := false, ident := none }) p1
    else updStr s (fun x => { x with run := x.run + 1 }) p1
  | _ =>
    if band then updStr s (fun x => { x with run := 0 }) p1
    else if x.run + 1 ≥ 5 then batEvt (fun e => { e with removed := true }) (leaveActive s .absent p1)
    else updStr s (fun x => { x with run := x.run + 1 }) p1

/-- STRING_ID_SAMPLE: the identity inputs are sampled every 1 ms (17 R513). -/
def execStringIdSample (s : Fin 16) (r : Option Nat) (st : State) : Out := run1 (strSample s.val r) st

/-- The fields of a STATUS frame (17 R512). -/
def parseStatus (now : Nat) (d : List Byte) : BStatus :=
  { v := be d 0 4, i := sbe d 4 4, t := sbe d 8 2, pDis := be d 10 2, pChg := be d 12 2
    closed := tb (be d 14 1) 0, fault := tb (be d 14 1) 1, count := some (be d 15 1), at_ := some now }

/-- A string goes LOST (17 R513). -/
def goLost (s : Nat) (p : Pkg) : Pkg :=
  batEvt (fun e => { e with lost := true }) (updStr s (fun x => { x with lostAt := p.clk }) (leaveActive s .lost p))

/-- What a fresh STATUS does to presence (17 R513). -/
def statusEvent (s : Nat) (p : Pkg) : Pkg :=
  let x := strAt p s
  match x.st with
  | .active => if x.status.fault || !x.status.closed then goLost s p else p
  | .lost =>
    if x.status.fault || !x.status.closed then p
    else if x.cfg.aux || decide (p.clk < x.lostAt + 1000000000) then updStr s (fun x => { x with st := .active, run := 0 }) p
    else updStr s (fun x => { restartEst p x with st := .active, run := 0 }) p
  | .seen => tryActive s (updStr s (fun x => { x with gotSt := true }) p)
  | _ => p

/-- A STATUS frame: of another length ignored, with the previous rolling counter stale (17 R512). -/
def bmsStatus (s : Nat) (d : List Byte) (p : Pkg) : Pkg :=
  if d.length ≠ 16 then p
  else
    let n := parseStatus p.clk d
    if (strAt p s).status.count = n.count then updStr s (fun x => { x with stale := inc8 x.stale }) p
    else statusEvent s (updStr s (fun x => { x with status := n }) p)

/-- BMS_STATUS: a STATUS frame reaches the BAT consumer (17 R512). -/
def execBmsStatus (s : Fin 16) (d : List Byte) (st : State) : Out := run1 (bmsStatus s.val d) st

/-- An IDENT frame (17 R512, R513). -/
def bmsIdent (s : Nat) (d : List Byte) (p : Pkg) : Pkg :=
  if d.length ≠ 8 then p
  else if (strAt p s).st = .seen then tryActive s (updStr s (fun x => { x with ident := some (be d 0 8) }) p)
  else p

/-- BMS_IDENT: an IDENT frame gives the string's serial (17 R513). -/
def execBmsIdent (s : Fin 16) (d : List Byte) (st : State) : Out := run1 (bmsIdent s.val d) st

/-- No valid STATUS for 300 ms (17 R513). -/
def bmsLost (s : Nat) (p : Pkg) : Pkg :=
  let x := strAt p s
  if x.st = .active ∧ due p ((x.status.at_.getD 0) + 300000000) then goLost s p else p

/-- BMS_LOST_TIMEOUT (17 R513). -/
def execBmsLostTimeout (s : Fin 16) (st : State) : Out := run1 (bmsLost s.val) st

/-! ### The estimate (17 R514 to R520) -/

/-- OCV at a temperature, in µV: interpolated between the two tables and held outside them (17 R514). -/
def ocvAt (c : BCfg) (t : Int) : List Rat :=
  let a : Rat := if t ≤ c.tLo then 0 else if t ≥ c.tHi then 1 else ((t - c.tLo : Int) : Rat) / ((c.tHi - c.tLo : Int) : Rat)
  (c.ocvLo.zip c.ocvHi).map (fun x => ((x.1 : Rat) + ((x.2 : Rat) - (x.1 : Rat)) * a) * 50000)

/-- The segment of an ascending table that holds a value: SoC in % and slope in µV per %; none outside the table. -/
def ocvInv (v : Rat) : Nat → List Rat → Option (Rat × Rat)
  | k, a :: b :: r =>
    if a ≤ v ∧ v ≤ b ∧ a < b then some ((5 * k : Nat) + (v - a) / (b - a) * 5, (b - a) / 5)
    else ocvInv v (k + 1) (b :: r)
  | _, _ => none

/-- Slope of the end segment nearest to a value outside the table (17 R515). -/
def ocvEnd (v : Rat) (l : List Rat) : Rat :=
  match l, l.reverse with
  | a :: b :: _, y :: x :: _ => if v < a then (b - a) / 5 else (y - x) / 5
  | _, _ => 0

/-- The conditions of R515 but the slope. -/
def validV (p : Pkg) (x : BStr) (i : Int) (jump : Option Nat) : Bool :=
  let hold := max (3 * x.cfg.tau1 * 1000000) 2000000000
  let jumped := match jump with
    | none => false
    | some t => decide (p.clk < t + hold)
  !jumped && decide (((i.natAbs : Nat) : Rat) ≤ x.cap.q * 200) && decide (x.cfg.tLo - 50 ≤ x.status.t) &&
    decide (x.status.t ≤ x.cfg.tHi + 50)

/-- Least and greatest of a rational and two bounds. -/
def clampQ (lo hi x : Rat) : Rat := if x < lo then lo else if x > hi then hi else x

/-- SoC_dis of R514, none before the first estimate. -/
def socDis (e : BEst) : Option Rat :=
  match e.soc, e.socV with
  | some c, some v => some (min c v)
  | c, none => c
  | none, _ => none

/-- SoC_chg of R514, none before the first estimate. -/
def socChg (e : BEst) : Option Rat :=
  match e.soc, e.socV with
  | some c, some v => some (max c v)
  | c, none => c
  | none, _ => none

/-- EOD and EOC of an ACTIVE string, with their hysteresis (17 R520). -/
def boundaries (res : Nat) (e : BEst) : BEst :=
  let eod := match socDis e with
    | none => e.eod
    | some d => if d ≤ res then true else if d ≥ (res : Rat) + 2 then false else e.eod
  let eoc := match socChg e with
    | none => e.eoc
    | some c => if c ≥ 100 - (res : Rat) then true else if c ≤ 98 - (res : Rat) then false else e.eoc
  { e with eod := eod, eoc := eoc }

/-- One step of an open learning cycle's counts, with 60 s spans of interruption (17 R524, R525). -/
def learnCount (clk : Nat) (i : Int) (dq : Rat) (valid : Bool) (l : BLearn) : BLearn :=
  let span := fun (on : Bool) (o : Option (Nat × Bool)) =>
    if !on then (none, 0)
    else match o with
      | none => (some (clk, false), 0)
      | some (t, false) => if clk ≥ t + 60000000000 then (some (t, true), 1) else (some (t, false), 0)
      | some x => (some x, 0)
  let ag := span (if l.up then decide (i > 0) else decide (i < 0)) l.against
  let bl := span (!valid) l.blind
  { l with ah := if l.up then l.ah - dq else l.ah + dq, sum := (l.sum.1 + i.natAbs, l.sum.2 + 1)
           against := ag.1, blind := bl.1, ints := l.ints + ag.2 + bl.2 }

/-- A learning cycle closes: mean current, then the band of R524 (17 R524, R525). -/
def learnClose (s : Nat) (res : Nat) (l : BLearn) (p : Pkg) : Pkg :=
  let x := strAt p s
  let qm : Rat := l.ah / 360000000 / ((100 - 2 * (res : Rat)) / 100)
  if ((l.sum.1 : Nat) : Rat) > x.cap.q * 50 * (l.sum.2 : Nat) then disqualify s 2 p
  else if qm - x.cap.q > x.cap.q / 5 ∨ x.cap.q - qm > x.cap.q / 5 then disqualify s 7 p
  else batEvt (fun e => { e with learned := true }) (updStr s (fun x =>
    { x with cap := { q := x.cap.q + (qm - x.cap.q) / 4, learned := true, learnAt := p.tim.now, lastQ := qm.floor.toNat }
             est := { x.est with learn := none } }) p)

/-- The learning cycle at a boundary: disqualified, closed, opened or counted on (17 R524, R525). -/
def learnStep (s : Nat) (i : Int) (dq : Rat) (prev : Option Rat) (p : Pkg) : Pkg :=
  let x := strAt p s
  let lo : Rat := p.bat.reserve
  let hi : Rat := 100 - (p.bat.reserve : Rat)
  match x.est.learn with
  | some l =>
    let l1 := learnCount p.clk i dq x.est.socV.isSome l
    let p1 := updStr s (fun x => { x with est := { x.est with learn := some l1 } }) p
    if x.status.t < 100 ∨ x.status.t > 400 then disqualify s 1 p1
    else if l1.ints ≥ 4 then disqualify s 3 p1
    else match x.est.socV with
      | some v => if (l.up && decide (v ≥ hi)) || (!l.up && decide (v ≤ lo)) then learnClose s p.bat.reserve l1 p1 else p1
      | none => p1
  | none =>
    match prev, x.est.socV with
    | some a, some v =>
      if a < lo ∧ v ≥ lo then updStr s (fun x => { x with est := { x.est with learn := some { up := true } } }) p
      else if a > hi ∧ v ≤ hi then updStr s (fun x => { x with est := { x.est with learn := some { up := false } } }) p
      else p
    | _, _ => p

/-- One boundary's estimate of one ACTIVE string (17 R514 to R520). -/
def estimate1 (p : Pkg) (s : Nat) : Pkg :=
  let x := strAt p s
  if x.st ≠ .active then p
  else
    let i := strCurrent p x
    let e := x.est
    let jump := if ((i - e.i).natAbs : Rat) > x.cap.q * 20 then some p.clk else e.jump
    let dq : Rat := if i < 0 then (i : Rat) * x.cfg.eta / 10000 else i
    let pct : Rat := if x.cap.q = 0 then 0 else 100 * dq / (x.cap.q * 360000000)
    let v1 : Rat := e.v1 + ((i * x.cfg.r1 : Int) / (1000 : Rat) - e.v1) / (max x.cfg.tau1 1 : Nat)
    let v : Rat := (x.status.v : Rat) * 1000 + (i * x.cfg.r0 : Int) / (1000 : Rat) + v1
    let tab := ocvAt x.cfg x.status.t
    let (free, p1) := if (ocvInv v 0 tab).isSome then (0, p) else drawFree 16 p
    let inv := (ocvInv v 0 tab).getD ((free : Rat) / 100, ocvEnd v tab)
    let valid := validV p x i jump && decide (inv.2 ≥ (x.cfg.slope : Rat) * 100)
    let c1 := e.soc.map (fun c => clampQ 0 100 (c - pct))
    let d : Rat := match c1 with
      | some c => inv.1 - c
      | none => 0
    let lim : Rat := 1 / 120000
    let c2 := match c1 with
      | some c => some (if valid then clampQ 0 100 (c + clampQ (-lim) lim d) else c)
      | none => if valid then some (clampQ 0 100 inv.1) else none
    let ad : Rat := if d < 0 then -d else d
    let unc0 := e.unc + (if pct < 0 then -pct else pct) * (if x.cfg.aux then 1 / 1000 else 5 / 1000)
    let unc := if valid then min unc0 (max 1 ad) else unc0
    let n := if !valid then e.driftN else if e.drift then (if ad ≤ 5 then e.driftN + 1 else 0)
      else (if ad > 5 then e.driftN + 1 else 0)
    let e1 : BEst := { e with soc := c2, socV := if valid then some inv.1 else none, v1 := v1, unc := unc, driftN := n
                              i := i, jump := jump, lastV := if valid then some inv.1 else e.lastV }
    let e2 := boundaries p.bat.reserve e1
    let p2 := updStr s (fun x => { x with est := e2 }) p1
    let p3 := batEvt (fun v => { v with eod := v.eod || (e2.eod && !e.eod), eoc := v.eoc || (e2.eoc && !e.eoc) }) p2
    learnStep s i dq e.lastV p3

/-- A string contributes to the temporary tokens (17 R522). -/
def qualifies (x : BStr) : Bool := x.st == .active && !x.est.eod && x.est.soc.isSome

/-- Power and energy the battery lends, and its charge limit (17 R522, R528). -/
def availability (p : Pkg) : Pkg :=
  let l := p.bat.str.filter qualifies
  let e := l.foldl (fun (a : Rat) x =>
    a + ((socDis x.est).getD 0 - p.bat.reserve) / 100 * x.cap.q / 10 * x.cfg.vNom / 10) 0
  let c := p.bat.str.filter (fun x => x.st == .active && !x.est.eoc)
  { p with bat := { p.bat with avail := e, pDis := sumN (l.map (fun x => min x.status.pDis x.cfg.pMax))
                               pChg := sumN (c.map (fun x => x.status.pChg)) } }

/-- BATTERY_ESTIMATE_UPDATE of the supervisory boundary (17 R514). -/
def estimateAll (p : Pkg) : Pkg := availability ((List.range 16).foldl estimate1 p)

/-- |D| above, or at or below, DRIFT_TH for 10 s sets or clears DRIFT (17 R517). -/
def driftTimer (s : Nat) (p : Pkg) : Pkg :=
  let x := strAt p s
  if x.est.driftN < 10000 then p
  else
    let p1 := updStr s (fun x => { x with est := { x.est with drift := !x.est.drift, driftN := 0 } }) p
    if x.est.drift then p1 else batEvt (fun e => { e with drift := true }) p1

/-- DRIFT_TIMER (17 R517). -/
def execDriftTimer (s : Fin 16) (st : State) : Out := run1 (driftTimer s.val) st

/-- What the journal takes of a string: its capacity, and its estimate from the first one on (17 R526). -/
def journalStr (now : Nat) (x : BStr) : BStr :=
  { x with nv := if x.est.soc.isNone then { x.nv with cap := x.cap }
                 else { x.nv with cap := x.cap, soc := x.est.soc, unc := x.est.unc, at_ := now } }

/-- Every string is journaled, unless NV writes are blocked (17 R526, 19 R574). -/
def journalBattery (p : Pkg) : Pkg :=
  if p.mtr.nvBlock then p
  else { p with bat := { p.bat with str := p.bat.str.map (journalStr p.tim.now), jrnAt := p.clk } }

/-- The strings are journaled every 10 s (17 R526). -/
def journalTick (p : Pkg) : Pkg := if due p (p.bat.jrnAt + 10000000000) then journalBattery p else p

/-- BATTERY_JOURNAL (17 R526). -/
def execBatteryJournal (st : State) : Out := run1 journalTick st

/-! ### Commands (17 R527) -/

/-- The configuration a BAT_STRING_CFG payload carries (17 R527). -/
def parseBCfg (d : List Byte) : BCfg :=
  { en := tb (u8 d 1) 0, aux := tb (u8 d 1) 1, can := u8 d 2, auxCh := u8 d 3, statusId := u32 d 4, identId := u32 d 8
    qNom := u16 d 12, vNom := u16 d 14, pMax := u16 d 16, eta := u16 d 18, rMin := u32 d 20, rMax := u32 d 24
    r0 := u32 d 28, r1 := u32 d 32, tau1 := u32 d 36, slope := u16 d 40, tLo := sle d 42 2, tHi := sle d 44 2
    ocvLo := (List.range 21).map (fun k => u16 d (48 + 2 * k)), ocvHi := (List.range 21).map (fun k => u16 d (90 + 2 * k)) }

/-- A table that rises strictly. -/
def ascending : List Nat → Bool
  | a :: b :: r => decide (a < b) && ascending (b :: r)
  | _ => true

/-- The refusals of BAT_STRING_CFG (17 R527). -/
def bcfgOk (p : Pkg) (c : BCfg) : Bool :=
  ascending c.ocvLo && ascending c.ocvHi && decide (c.rMin < c.rMax) && decide (c.tLo < c.tHi) &&
    (!c.aux || (inR 22 31 c.auxCh && (p.mtr.chan.getD c.auxCh {}).act.kind == 7))

/-- BAT_STRING_CFG's checks (17 R527). -/
def specBatStringCfg : OpSpec :=
  { op := 0x0A01, lenOk := (·.length == 132), role := needOpr, modes := onlyIdle
    params := fun p d =>
      let c := parseBCfg d
      inR 0 15 (u8 d 0) && inR 0 7 (u8 d 1) && inR 0 15 c.can && (c.auxCh == 0 || inR 22 31 c.auxCh) && inR 10 65535 c.qNom &&
        inR 100 15000 c.vNom && inR 1 8000 c.pMax && inR 9000 10000 c.eta && inR 100 1000000 c.rMin &&
        inR 100 1000000 c.rMax && inR 1 3600000 c.tau1 && zeros d 46 2 && bcfgOk p c }

/-- BAT_STRING_CFG: the command's checks (17 R527). -/
def execBatStringCfg (ep : Fin 3) (slot : Fin 64) (s : State) : Out :=
  run1 (submit specBatStringCfg true (slotIx ep slot) noAns) s

/-- BAT_STRING_CFG applied (17 R513, R527). -/
def applyBatCfg (d : List Byte) (p : Pkg) : Pkg :=
  let s := u8 d 0
  let c := parseBCfg d
  let p1 := leaveActive s (if c.en then .absent else .disabled) p
  updStr s (fun x => { x with cfg := c, run := 0, gotSt := false, ident := none
                              cap := if tb (u8 d 1) 2 then { x.cap with q := c.qNom, learned := false } else x.cap
                              nv := if tb (u8 d 1) 2 then { x.nv with cap := { x.cap with q := c.qNom, learned := false } } else x.nv }) p1

/-- BAT_RESERVE's checks (17 R527). -/
def specBatReserve : OpSpec :=
  { op := 0x0A02, lenOk := (·.length == 4), role := needOpr, modes := notRetired
    params := fun _ d => inR 5 30 (u8 d 0) && zeros d 1 3 }

/-- BAT_RESERVE: the command's checks (17 R527). -/
def execBatReserve (ep : Fin 3) (slot : Fin 64) (s : State) : Out :=
  run1 (submit specBatReserve true (slotIx ep slot) noAns) s

/-- BAT_RESERVE applied: it takes effect for EOD and EOC at this boundary, and disqualifies open learning cycles
where it changes the reserve (17 R523, R525). -/
def applyBatReserve (d : List Byte) (p : Pkg) : Pkg :=
  let r := u8 d 0
  let p1 := if r = p.bat.reserve then p else (List.range 16).foldl (fun p s => disqualify s 4 p) p
  let f := fun x : BStr => if x.st = .active then { x with est := boundaries r x.est } else x
  let anyNew := fun (g : BEst → Bool) => (p1.bat.str.any (fun x => g (f x).est && !g x.est))
  availability { p1 with bat := { p1.bat with reserve := r, str := p1.bat.str.map f
                                              evt := { p1.bat.evt with eod := p1.bat.evt.eod || anyNew (·.eod)
                                                                       eoc := p1.bat.evt.eoc || anyNew (·.eoc) } } }

end Sys2Proof.Machine
end

