-- ==== Sys2Proof/Machine/Cooling.lean ====
section
/-!
DEFINITION. The meanings of chapter 16: the load-switch channels and quads, open load, clamps, the load-switch
commands, cooling sources and actuators, and the cable models.
-/

namespace Sys2Proof.Machine

/-- Change a channel. -/
def updCh (c : Nat) (f : LCh → LCh) (p : Pkg) : Pkg := { p with lsw := { p.lsw with ch := upd p.lsw.ch c f } }

/-- A channel. -/
def lchAt (p : Pkg) (c : Nat) : LCh := p.lsw.ch.getD c {}

/-- Change LSW_EVT. -/
def lswEvt (f : LEvt → LEvt) (p : Pkg) : Pkg := { p with lsw := { p.lsw with evt := f p.lsw.evt } }

/-- A channel conducts. -/
def LCh.conducts (x : LCh) : Bool := x.st == .blank || x.st == .on

/-- A conducting channel is switched off into a state; the clamp's energy is entered (16 R499, R504). -/
def switchOff (c : Nat) (st : CState) (energy : Nat) (p : Pkg) : Pkg :=
  let big := decide (energy > 400)
  lswEvt (fun e => { e with clamp := e.clamp || big })
    (updCh c (fun x => { x with st := st, limit := false, eLast := min energy 65535
                                over40 := if big then inc16 x.over40 else x.over40 }) p)

/-- A channel that is off is switched on (16 R499). -/
def switchOn (c : Nat) (p : Pkg) : Pkg := updCh c (fun x => { x with st := .blank, blankAt := p.clk }) p

/-- A channel takes a commanded state (16 R499). -/
def takeCmd (energy : Nat → Nat) (cmd : LCmd) (duty c : Nat) (p : Pkg) : Pkg :=
  let x := lchAt p c
  let p1 := updCh c (fun x => { x with held := (cmd, duty) }) p
  match cmd with
  | .off => if x.conducts then switchOff c .off (energy c) p1
            else if x.st = .tripped then updCh c (fun x => { x with st := .off }) p1 else p1
  | _ => if x.st = .off then switchOn c p1 else p1

/-- A command frame that a die sends to the LS die: one of a die that Hoop does not select is dropped and counted; a die
sends none while its own decoder does not select it unless that decoder fails (01 R15). The LS die applies it and ends
FAILSAFE; the relay is stopped below the warn level and without an active die (16 R497, R498, 19 R574). -/
def lsFrame (d : Die) (clamp : List Nat) (p : Pkg) : Pkg :=
  if activeDie p ≠ some d then { p with duo := { p.duo with drops := inc32 p.duo.drops } }
  else if !p.lsw.up || p.sup.warn || !drives p then p
  else
    let p1 := (List.range 24).foldl (fun p c =>
      let x := lchAt p c
      takeCmd (fun c => clamp.getD c 0) x.cmd x.duty c (updCh c (fun x => { x with fs := false }) p)) p
    { p1 with lsw := { p1.lsw with cmdAt := some p.clk } }

/-- LS_COMMAND_FRAME (16 R497). -/
def execLsCommandFrame (f : LsFrameIn) (s : State) : Out := run1 (lsFrame f.die f.clamp) s

/-- No command frame for 10 ms after the first: every channel takes its FAILSAFE state (16 R498). -/
def lsLinkLoss (clamp : List Nat) (p : Pkg) : Pkg :=
  match p.lsw.cmdAt with
  | none => p
  | some t =>
    if !due p (t + 10000000) || p.lsw.ch.any (·.fs) then p
    else
      let p1 := (List.range 24).foldl (fun p c =>
        let x := lchAt p c
        let q := updCh c (fun x => { x with fs := true }) p
        let e := fun c => clamp.getD c 0
        match x.failsafe with
        | .off => takeCmd e .off 0 c q
        | .on => if x.use = .pwm then takeCmd e .pwm x.fsDuty c q else takeCmd e .on 0 c q
        | .hold => q) p
      lswEvt (fun e => { e with linkLoss := true }) p1

/-- LS_LINK_LOSS (16 R498). -/
def execLsLinkLoss (clamp : List Nat) (s : State) : Out := run1 (lsLinkLoss clamp) s

/-- A conducting channel's junction reaches 175 °C (16 R499). -/
def thermalTrip (c energy : Nat) (p : Pkg) : Pkg :=
  let x := lchAt p c
  if !x.conducts then p
  else
    let recent := x.trips.filter (fun t => p.clk < t + 1000000000)
    if x.auto && decide (recent.length < x.retryMax) then
      lswEvt (fun e => { e with thermal := true })
        (updCh c (fun x => { x with trips := p.clk :: recent }) (switchOff c .tripped energy p))
    else updCh c (fun x => { x with cause := .thermal, trips := recent }) (switchOff c .latched energy p)

/-- LS_THERMAL_TRIP (16 R499). -/
def execLsThermalTrip (c : Fin 24) (clamp : Nat) (s : State) : Out := run1 (thermalTrip c.val clamp) s

/-- A TRIPPED channel below 155 °C, 10 ms after its trip, its command still on (16 R499). -/
def thermalRestart (c : Nat) (p : Pkg) : Pkg :=
  let x := lchAt p c
  if x.st = .tripped ∧ x.held.1 ≠ .off ∧ due p (x.trips.headD 0 + 10000000) then switchOn c p else p

/-- LS_THERMAL_RESTART (16 R499). -/
def execLsThermalRestart (c : Fin 24) (s : State) : Out := run1 (thermalRestart c.val) s

/-- BLANK ms have elapsed (16 R499). -/
def blankEnd (c : Nat) (p : Pkg) : Pkg :=
  let x := lchAt p c
  if x.st = .blank ∧ due p (x.blankAt + x.blank * 1000000) then updCh c (fun x => { x with st := .on }) p else p

/-- LS_BLANK_END (16 R499). -/
def execLsBlankEnd (c : Fin 24) (s : State) : Out := run1 (blankEnd c.val) s

/-- The later of two channels wins a tie (16 R501). -/
def best (ge : Nat → Nat → Bool) : List Nat → Option Nat
  | [] => none
  | c :: r => match best ge r with
    | none => some c
    | some d => if ge d c then some d else some c

/-- The channel a quad sheds (16 R501). -/
def shedChoice (p : Pkg) (q : Nat) : Option Nat :=
  let on := ((List.range 4).map (4 * q + ·)).filter (fun c => (lchAt p c).st == .on)
  let lim := on.filter (fun c => (lchAt p c).limit)
  let hotter := fun a b => decide ((lchAt p a).tj ≥ (lchAt p b).tj)
  let more := fun a b =>
    let x := lchAt p a
    let y := lchAt p b
    decide (x.i > y.i) || (decide (x.i = y.i) && decide (x.tj ≥ y.tj))
  if lim ≠ [] then best hotter lim else best more on

/-- Measured current, junction temperature and limit of the quad's channels are taken. -/
def quadMeas (q : Nat) (meas : List (Nat × Int × Bool)) (p : Pkg) : Pkg :=
  (List.range 4).foldl (fun p k => match meas[k]? with
    | none => p
    | some m => updCh (4 * q + k) (fun x => { x with i := m.1, tj := m.2.1, limit := m.2.2 && x.conducts }) p) p

/-- A quad's sum has exceeded 16 A for 200 µs (16 R501). -/
def quadShed (q : Nat) (meas : List (Nat × Int × Bool)) (energy : Nat) (p : Pkg) : Pkg :=
  let p1 := quadMeas q meas p
  match shedChoice p1 q with
  | none => lswEvt (fun e => { e with budget := true }) p1
  | some c =>
    let cause := if (lchAt p1 c).limit then LCause.short else .budget
    let p2 := updCh c (fun x => { x with cause := cause }) (switchOff c .latched energy p1)
    let p3 := { p2 with lsw := { p2.lsw with quad := upd p2.lsw.quad q (fun x => { x with sheds := inc8 x.sheds }) } }
    lswEvt (fun e => { e with shed := true }) p3

/-- QUAD_BUDGET_SHED (16 R501). -/
def execQuadBudgetShed (q : Fin 6) (meas : List (Nat × Int × Bool)) (clamp : Nat) (s : State) : Out :=
  run1 (quadShed q.val meas clamp) s

/-- An open-load condition has held or failed for 20 ms; it never switches the channel (16 R502). -/
def openLoad (c : Nat) (on : Bool) (p : Pkg) : Pkg :=
  let x := lchAt p c
  let armed := (decide (x.olMode = 1 ∨ x.olMode = 2) && x.st == .on) || (x.olMode == 3 && x.st == .off)
  if !on then updCh c (fun x => { x with open_ := false }) p
  else if armed then lswEvt (fun e => { e with open_ := true }) (updCh c (fun x => { x with open_ := true }) p)
  else p

/-- OPEN_LOAD_CHANGE (16 R502). -/
def execOpenLoadChange (c : Fin 24) (on : Bool) (s : State) : Out := run1 (openLoad c.val on) s

/-! ### Commands (16 R505) -/

/-- LSW_SET's checks (16 R505). -/
def specLswSet : OpSpec :=
  { op := 0x0901, lenOk := (·.length == 4), role := needOpr, modes := notRetired
    params := fun p d =>
      let x := lchAt p (u8 d 0)
      inR 0 23 (u8 d 0) && inR 0 2 (u8 d 1) && x.use != .unused && !x.lane &&
        (if u8 d 1 = 2 then x.use == .pwm && inR 0 10000 (u16 d 2) else u16 d 2 == 0) }

/-- LSW_SET: the command's checks (16 R505). -/
def execLswSet (ep : Fin 3) (slot : Fin 64) (s : State) : Out := run1 (submit specLswSet true (slotIx ep slot) noAns) s

/-- LSW_SET applied (16 R505). -/
def applyLswSet (d : List Byte) (p : Pkg) : Pkg :=
  let cmd : LCmd := if u8 d 1 = 0 then .off else if u8 d 1 = 1 then .on else .pwm
  updCh (u8 d 0) (fun x => { x with cmd := cmd, duty := u16 d 2 }) p

/-- LSW_FAULT_CLEAR's checks (16 R505). -/
def specLswFaultClear : OpSpec :=
  { op := 0x0902, lenOk := (·.length == 4), role := needOpr, modes := notRetired
    params := fun _ d => inR 0 23 (u8 d 0) && zeros d 1 3 }

/-- LSW_FAULT_CLEAR: the command's checks (16 R505). -/
def execLswFaultClear (ep : Fin 3) (slot : Fin 64) (s : State) : Out :=
  run1 (submit specLswFaultClear true (slotIx ep slot) noAns) s

/-- LSW_FAULT_CLEAR applied: FAULTED at 155 °C or above, no effect on a channel that is not LATCHED (16 R505). -/
def applyLswClear (d : List Byte) (p : Pkg) : Status × Pkg :=
  let x := lchAt p (u8 d 0)
  if x.st ≠ .latched then (.ok, p)
  else if x.tj ≥ 1550 then (.faulted, p)
  else (.ok, updCh (u8 d 0) (fun x => { x with st := .off }) p)

/-! ### Sources and actuators (16 R506, R507) -/

/-- Change a source. -/
def updSrc (i : Nat) (f : LSrc → LSrc) (p : Pkg) : Pkg := { p with lsw := { p.lsw with src := upd p.lsw.src i f } }

/-- The value a source's description takes out of data bytes, most significant byte first; none where the data is too
short (16 R506; log 17). -/
def srcValue (c : SrcCfg) (d : List Byte) : Option Int :=
  let n := c.width / 8
  if c.off + n > d.length then none
  else
    let v : Int := if c.signed then sbe d c.off n else be d c.off n
    some (clampI (-(2 ^ 31)) (2 ^ 31 - 1) (v * c.scale + c.add))

/-- Data for the cooling consumer: every source it describes takes its value (16 R506). -/
def coolingData (lo hi chan id : Nat) (d : List Byte) (p : Pkg) : Pkg :=
  (List.range (hi + 1 - lo)).foldl (fun p k =>
    match (p.lsw.src.getD (lo + k) {}).cfg with
    | none => p
    | some c => if c.chan ≠ chan ∨ c.id ≠ id then p
      else match srcValue c d with
        | none => p
        | some v => updSrc (lo + k) (fun x => { x with value := v, valid := true, at_ := some p.clk }) p) p

/-- Output current of a region in mA: the loads of its DC/DC clusters (16 R506, 04 R149). -/
def regionAmps (p : Pkg) (r : Nat) : Int :=
  sumI ((p.pwr.cl.filter (fun c => c.cfg.type == .dcdc && c.cfg.region == r)).map (·.dyn.load))

/-- A source of R506 as it reads at a boundary. -/
def readSource (p : Pkg) (i : Nat) (x : LSrc) : LSrc :=
  if i < 40 then
    let t := p.thm.sens.getD i {}
    match t.t with
    | none => { x with valid := false }
    | some v => { x with value := v * 100, valid := t.reason == 0 }
  else if i < 72 then { x with valid := x.valid && decide (p.clk < x.at_.getD 0 + 1000000000) }
  else if i < 88 then { x with valid := x.valid && decide (p.clk < x.at_.getD 0 + 10000000000) }
  else if i < 92 then match (p.lsw.rg.getD (i - 88) {}).tEst with
    | none => { x with valid := false }
    | some t => { x with value := t.floor, valid := true }
  else if i < 96 then { x with value := regionAmps p (i - 92), valid := true }
  else { x with valid := false }

/-- Sources 0 to 127 at a boundary (16 R506). -/
def updSources (p : Pkg) : Pkg := { p with lsw := { p.lsw with src := mapI (readSource p) p.lsw.src } }

/-- A lane's output, Q8.40 of full scale, at an actuator: below 0 gives 0, above full scale gives full scale
(16 R507). -/
def driveActuator (a : Nat) (u : Int) (p : Pkg) : Pkg :=
  let o := clampI 0 (2 ^ 40) u
  let p1 := { p with lsw := { p.lsw with act := upd p.lsw.act a (fun x => { x with out := o }) } }
  if a < 24 then updCh a (fun x => if x.lane then { x with duty := (o * 10000 / 2 ^ 40).toNat } else x) p1 else p1

/-- Put bytes into data at an offset. -/
def patch (d : List Byte) (off : Nat) (b : List Byte) : List Byte :=
  if off + b.length ≤ d.length then d.take off ++ b ++ d.drop (off + b.length) else d

/-- The active die loads the CAN set-points into their transmit buffers at each boundary (16 R507; log 17). -/
def loadSetpoints (p : Pkg) : Pkg :=
  p.lsw.act.foldl (fun p a => match a.kind with
    | .can c b off w =>
      let v := (a.out * (2 ^ w - 1) / 2 ^ 40).toNat
      let f := fun t : TxBuf => { t with frame := { t.frame with data := patch t.frame.data off (toBe (w / 8) v) } }
      { p with can := { p.can with ch := upd p.can.ch c (fun x => { x with buf := upd x.buf b (Option.map f) }) } }
    | _ => p) p

/-! ### Cable models (16 R508, R509) -/

/-- Value of a source if it is valid. -/
def srcOk (p : Pkg) (i : Nat) : Option Int :=
  let x := p.lsw.src.getD i {}
  if x.valid then some x.value else none

/-- Highest of a list. -/
def maxI : List Int → Option Int
  | [] => none
  | a :: r => match maxI r with
    | none => some a
    | some b => some (max a b)

/-- One boundary of a region's cable model; temperatures in m°C, currents in mA (16 R508). -/
def cableStep (p : Pkg) (r : Nat) (x : Cable) : Cable :=
  if !x.on then x
  else
    let i := regionAmps p r
    let w : Rat := (x.rCable : Rat) * ((i * i : Int) : Rat) / 1000000000000
    let dt : Rat := x.dtCab + ((x.rTh : Rat) * w - x.dtCab) / ((max x.tau 1 : Nat) * 1000)
    let cool := match x.coolSrc with
      | none => none
      | some s => srcOk p s
    let conn := maxI (x.connSrc.filterMap (srcOk p))
    let est : Option Rat := match cool, conn with
      | some c, some k => some (max ((c : Rat) + dt) (k : Rat))
      | some c, none => some ((c : Rat) + dt)
      | none, some k => some (k : Rat)
      | none, none => none
    let rated : Rat := (x.iRated : Rat) * 100
    let lim : Rat := rated * x.failPct / 100
    let frac := fun (t : Rat) =>
      let span : Rat := ((x.tMax - x.tDerate : Int) : Rat) * 100
      if span ≤ 0 then (if t < (x.tMax : Rat) * 100 then (1 : Rat) else 0)
      else
        let q := ((x.tMax : Rat) * 100 - t) / span
        if q < 0 then 0 else if q > 1 then 1 else q
    let fail := est.isNone || x.pumps.any (fun c => (lchAt p c).st == .latched)
    let th : Rat := match est with
      | none => lim
      | some t => rated * frac t
    { x with dtCab := dt, tEst := est, tCool := cool.getD x.tCool, iTh := some (if fail then min th lim else th) }

/-- A region's model is held by FAIL_PCT (16 R508). -/
def cableFails (p : Pkg) (x : Cable) : Bool :=
  x.on && (x.tEst.isNone || x.pumps.any (fun c => (lchAt p c).st == .latched))

/-- CABLE_MODEL_UPDATE of the supervisory boundary (16 R508). -/
def cableModels (p : Pkg) : Pkg :=
  let p1 := { p with lsw := { p.lsw with rg := mapI (cableStep p) p.lsw.rg } }
  if p1.lsw.rg.any (cableFails p1) then lswEvt (fun e => { e with derate := true }) p1 else p1

/-- P_THERMAL of a region as a current in mA, none with no model (16 R509). -/
def thermalAmps (p : Pkg) (r : Nat) : Option Rat :=
  let x := p.lsw.rg.getD r {}
  if x.on then x.iTh else none

/-- What the LS die reports at a boundary: currents, temperatures, limits and supplies (16 R510). -/
def lsMeasure (b : BoundaryIn) (p : Pkg) : Pkg :=
  let f := fun (c : Nat) (x : LCh) => { x with i := b.li.getD c x.i, tj := b.ltj.getD c x.tj
                                               limit := b.llim.getD c x.limit && x.conducts
                                               trips := x.trips.filter (fun t => p.clk < t + 1000000000) }
  let g := fun (q : Nat) (x : LQuad) => { x with vs := b.lvs.getD q x.vs }
  { p with lsw := { p.lsw with ch := mapI f p.lsw.ch, quad := mapI g p.lsw.quad } }

end Sys2Proof.Machine
end

