-- ==== Sys2Proof/Machine/Regions.lean ====
section
/-!
DEFINITION. Regions, clusters and sessions as several chapters act on them: views of clusters, ports and regions, the
cluster state changes of 04 R142, acknowledgements and the end of transitions (06 R204 to R210), receipts at a
session's open and close (10 R338), and the session's end (02 R65).
-/

namespace Sys2Proof.Machine

/-! ### Views -/

/-- A cluster. -/
def clAt (p : Pkg) (n : Nat) : Cluster := p.pwr.cl.getD n {}
/-- Change a cluster. -/
def updCl (n : Nat) (f : Cluster → Cluster) (p : Pkg) : Pkg := { p with pwr := { p.pwr with cl := upd p.pwr.cl n f } }
/-- Change a cluster's state machine. -/
def updRun (n : Nat) (f : ClusterRun → ClusterRun) (p : Pkg) : Pkg := updCl n (fun c => { c with run := f c.run }) p
/-- Change a cluster's measurements and shedding state. -/
def updDyn (n : Nat) (f : ClusterDyn → ClusterDyn) (p : Pkg) : Pkg := updCl n (fun c => { c with dyn := f c.dyn }) p
/-- Add to a cluster's events. -/
def clEvt (n : Nat) (f : ClEvt → ClEvt) (p : Pkg) : Pkg := updDyn n (fun d => { d with evt := f d.evt }) p
/-- A port. -/
def ptAt (p : Pkg) (q : Nat) : Port := p.pwr.port.getD q {}
/-- Change a port. -/
def updPt (q : Nat) (f : PortRun → PortRun) (p : Pkg) : Pkg :=
  { p with pwr := { p.pwr with port := upd p.pwr.port q (fun x => { x with run := f x.run }) } }
/-- The Ground die's record of a port. -/
def eyAt (p : Pkg) (q : Nat) : EyePort := p.eye.port.getD q {}
/-- Change the Ground die's record of a port. -/
def updEy (q : Nat) (f : EyePort → EyePort) (p : Pkg) : Pkg := { p with eye := { p.eye with port := upd p.eye.port q f } }
/-- A region's limits. -/
def rgAt (p : Pkg) (r : Nat) : Region := p.pwr.rg.getD r {}
/-- Change a region's limits. -/
def updRg (r : Nat) (f : Region → Region) (p : Pkg) : Pkg := { p with pwr := { p.pwr with rg := upd p.pwr.rg r f } }
/-- A region's commands. -/
def vrAt (p : Pkg) (r : Nat) : VRegion := p.vcmd.rg.getD r {}
/-- Change a region's commands. -/
def updVr (r : Nat) (f : VRegion → VRegion) (p : Pkg) : Pkg := { p with vcmd := { p.vcmd with rg := upd p.vcmd.rg r f } }
/-- A Purl port. -/
def ppAt (p : Pkg) (u : Nat) : Purl := p.vcmd.port.getD u {}
/-- Change a Purl port. -/
def updPp (u : Nat) (f : Purl → Purl) (p : Pkg) : Pkg := { p with vcmd := { p.vcmd with port := upd p.vcmd.port u f } }
/-- A region's vehicle session. -/
def vgAt (p : Pkg) (r : Nat) : VReg := p.vlk.rg.getD r {}
/-- Change a region's vehicle session. -/
def updVg (r : Nat) (f : VReg → VReg) (p : Pkg) : Pkg := { p with vlk := { p.vlk with rg := upd p.vlk.rg r f } }

/-- Ports fused to a cluster, ascending (01 R46). -/
def fusedPorts (p : Pkg) (n : Nat) : List Nat := idxs (fun o => o == some n) p.eye.map
/-- Switching ports of a cluster (04 R120). -/
def swPorts (p : Pkg) (n : Nat) : List Nat := (fusedPorts p n).filter (fun q => (ptAt p q).cfg.use_ == .switching)
/-- Static ports of a cluster (04 R120). -/
def stPorts (p : Pkg) (n : Nat) : List Nat := (fusedPorts p n).filter (fun q => (ptAt p q).cfg.use_ == .static_)
/-- Static ports of a cluster with a function (07 R230). -/
def fnPorts (p : Pkg) (n : Nat) (f : StaticFn) : List Nat := (stPorts p n).filter (fun q => (ptAt p q).cfg.fn == f)
/-- A port is available (04 R155). -/
def portAvail (p : Pkg) (q : Nat) : Bool := !(eyAt p q).latched
/-- The phase groups of a cluster: one for DC/DC, a, b and c for AFE (04 R122). -/
def groups (p : Pkg) (n : Nat) : List (List Nat) :=
  let l := swPorts p n
  if (clAt p n).cfg.type = .afe then
    let k := l.length / 3
    [l.take k, (l.drop k).take k, l.drop (2 * k)]
  else [l]
/-- The phases of a cluster, each with its ports: a port, or a position across three groups (04 R122). -/
def phases (p : Pkg) (n : Nat) : List (List Nat) :=
  match groups p n with
  | [a, b, c] => (List.range a.length).map (fun k => [a.getD k 0, b.getD k 0, c.getD k 0])
  | l => (l.getD 0 []).map (fun q => [q])
/-- Available phases (04 R155). -/
def availPhases (p : Pkg) (n : Nat) : List (List Nat) := (phases p n).filter (fun l => l.all (portAvail p))
/-- State of a phase, as its first port's (04 R151). -/
def phaseSt (p : Pkg) (l : List Nat) : PhaseSt := (ptAt p (l.headD 0)).run.st
/-- Available phases that are ACTIVE, SHEDDING or RETURNING (04 R140). -/
def livePhases (p : Pkg) (n : Nat) : List (List Nat) := (availPhases p n).filter (fun l => phaseSt p l != .shed)

/-- Cluster and phase that a switching port belongs to (04 R122). -/
def phaseOf (p : Pkg) (q : Nat) : Option (Nat × List Nat) :=
  match p.eye.map.getD q none with
  | none => none
  | some n => ((phases p n).find? (fun l => l.contains q)).map (fun l => (n, l))
/-- A port's phase is available (04 R155). -/
def phaseAvail (p : Pkg) (q : Nat) : Bool := (phaseOf p q).any (fun x => x.2.all (portAvail p))
/-- A port switches: its phase is available and not SHED (04 R140, R155). -/
def portLive (p : Pkg) (q : Nat) : Bool := phaseAvail p q && (ptAt p q).run.st != .shed

/-- Rating of a cluster in 100 mA: DC/DC, or per grid phase for AFE (04 R122). -/
def rating (p : Pkg) (n : Nat) : Nat := (phases p n).length * (clAt p n).cfg.iPh
/-- Available rating in 100 mA (04 R155, R157). -/
def availRating (p : Pkg) (n : Nat) : Nat := (availPhases p n).length * (clAt p n).cfg.iPh
/-- DC/DC clusters of a region (01 R48). -/
def dcdcOf (p : Pkg) (r : Nat) : List Nat := idxs (fun c : Cluster => c.cfg.type == .dcdc && c.cfg.region == r) p.pwr.cl
/-- AFE clusters (04 R120). -/
def afes (p : Pkg) : List Nat := idxs (fun c : Cluster => c.cfg.type == .afe) p.pwr.cl
/-- DC link of a region (01 R48). -/
def linkOf (p : Pkg) (r : Nat) : Option Nat := ((dcdcOf p r).head?).map (fun n => (clAt p n).cfg.link)
/-- AFE clusters that feed a DC link (01 R48). -/
def feeders (p : Pkg) (k : Nat) : List Nat := (afes p).filter (fun n => (clAt p n).cfg.link == k)
/-- Cluster runs: PREBIAS to RAMP_DOWN (04 R161). -/
def ClState.running (s : ClState) : Bool := s != .off && s != .faulted
/-- Lowest V_RATED of the region's DC/DC clusters in 10 mV (06 R200). -/
def vLow (p : Pkg) (r : Nat) : Nat :=
  ((dcdcOf p r).map (fun n => (clAt p n).cfg.vRated)).foldl (fun a b => if a = 0 then b else min a b) 0
/-- Reference of a region in 10 mV: that of its first DC/DC cluster (06 R201; log 23). -/
def vrefOf (p : Pkg) (r : Nat) : Nat := ((clAt p ((dcdcOf p r).headD 8)).run.ref / 80000000).toNat
/-- Measured output voltage of a region in mV: that of its first DC/DC cluster (06 R201; log 23). -/
def voutOf (p : Pkg) (r : Nat) : Int := (clAt p ((dcdcOf p r).headD 8)).dyn.vout
/-- Measured output current of a region in mA: the loads of its DC/DC clusters (06 R201, 04 R149). -/
def ioutOf (p : Pkg) (r : Nat) : Int := sumI ((dcdcOf p r).map (fun n => (clAt p n).dyn.load))
/-- A session is open in some region (02 R64 guard 0x05). -/
def anySession (p : Pkg) : Bool := p.vcmd.rg.any (fun v => v.session.isSome)
/-- Region of a service grant in force (02 R68). -/
def grantFor (p : Pkg) (r : Nat) : Bool := match p.sys.grant with
  | some g => g.region == r
  | none => false

/-! ### When a port may switch (02 R79) -/

/-- Conditions two and three of 02 R79 for a cluster. -/
def ownerHeld (p : Pkg) (n : Nat) : Bool :=
  p.sys.hoopG.owner.isSome && decide (p.clk ≥ p.sys.hoopG.since + 1000000) && (clAt p n).dyn.cfgBoot

/-- 02 R79 holds for a cluster. -/
def r79 (p : Pkg) (n : Nat) : Bool :=
  (inMode p [.armed, .deliver, .derate, .isolated] || (inMode p [.service] && p.sys.grant.isSome)) && ownerHeld p n

/-! ### The output path to the pins (07 R221 to R226) -/

/-- Fused cluster of a port. -/
def clusterOf (p : Pkg) (q : Nat) : Option Nat := p.eye.map.getD q none

/-- Pin path of a port. -/
def pinAt (p : Pkg) (q : Nat) : EyePin := p.eye.pin.getD q {}

/-- Change a pin path. -/
def updPin (q : Nat) (f : EyePin → EyePin) (p : Pkg) : Pkg := { p with eye := { p.eye with pin := upd p.eye.pin q f } }

/-- An ENABLE of the gate lines passes: 02 R79 holds, or held when the cluster's ports were enabled (02 R79). -/
def linesPass (p : Pkg) (n : Nat) : Bool :=
  r79 p n || [ClState.ramp, .match_, .regulate, .rampDown].contains (clAt p n).run.st

/-- PULSE and ENABLE of a die's gate lines (01 R19). -/
def EyePin.lines (x : EyePin) : Die → Bool × Bool
  | .a => (x.pulseA, x.enA)
  | .b => (x.pulseB, x.enB)

/-- A die's gate lines take levels (01 R19). -/
def EyePin.setLines (d : Die) (b : Bool × Bool) (x : EyePin) : EyePin :=
  match d with
  | .a => { x with pulseA := b.1, enA := b.2 }
  | .b => { x with pulseB := b.1, enB := b.2 }

/-- Stage 1: PULSE and ENABLE of the selected die, of the sequencer, or of a force (07 R221, R222, R235, 02 R79). -/
def stage1 (p : Pkg) (q : Nat) : Bool × Bool :=
  let x := pinAt p q
  let e := eyAt p q
  match clusterOf p q with
  | none => (false, false)
  | some n =>
    if x.seqOn then (x.seqEn, x.seqEn && e.mode == .static_)
    else match e.force with
      | .off => (false, false)
      | .low => (false, ownerHeld p n)
      | .high => (true, ownerHeld p n)
      | .follow => match p.sys.hoopG.owner with
        | some d => ((x.lines d).1, (x.lines d).2 && linesPass p n)
        | none => (false, false)

/-- PULSE at the output of stage 2 (07 R221, R223). -/
def stage2 (p : Pkg) (q : Nat) : Bool :=
  (clusterOf p q).isSome && ((eyAt p q).mode == .static_ || (stage1 p q).1)

/-- EYE_EN_p as stages 3 to 6 permit it (07 R221, R224, R231, R237). -/
def pinEn (p : Pkg) (q : Nat) (dead : Bool) : Bool :=
  (stage1 p q).2 && !dead && !(eyAt p q).latched && !(eyAt p q).wordWait && (clusterOf p q).isSome

/-- The pins of a port take what the stages give: an edge of PULSE starts a dead-time interval (07 R224, R225). -/
def settle (q : Nat) (p : Pkg) : Pkg :=
  let x := pinAt p q
  let b := stage2 p q
  let dead := x.dead || b != x.pulse2
  let en := pinEn p q dead
  updPin q (fun x => { x with pulse2 := b, pulse := b, dead := dead, en := en }) p

/-- Every port's pins (07 R226). -/
def settleAll (p : Pkg) : Pkg := (List.range 96).foldl (fun p q => settle q p) p

/-- PULSE 0 on the owner's line of a STATIC port is overridden by stage 2 and counted (07 R234). -/
def staticZero (p : Pkg) (q : Nat) : Bool :=
  (clusterOf p q).isSome && (eyAt p q).mode == .static_ && p.sys.hoopG.owner.any (fun d => !((pinAt p q).lines d).1)

/-- The pins after a change of owner: a PULSE 0 that arrives on a STATIC port with it counts as one that falls
(07 R226, R234). -/
def ownerSettle (old p : Pkg) : Pkg :=
  let k := ((List.range 96).filter (fun q => staticZero p q && !staticZero old q)).length
  settleAll { p with eye := { p.eye with patErr := satAdd 65535 p.eye.patErr k } }

/-- A die computes every port's gate lines: the active die, and one that shadows it (01 R15, R19, 11 R367). -/
def drivesLines (p : Pkg) (d : Die) : Bool := [DieState.active, .standby, .candidate].contains (dieOf p d).st

/-- PULSE at a tick of a carrier with a duty: DUTY ticks from the start for a trailing edge, or about the middle
(04 R124). -/
def carrierPulse (c : ClusterCfg) (duty tick : Nat) : Bool :=
  let t0 := if c.centred then (c.period - duty) / 2 else 0
  decide (t0 ≤ tick ∧ tick < t0 + duty)

/-- PULSE that the port's carrier and duty give at a tick: 1 for a static port; 0 for a switching port before its first
duty takes effect and while its cluster is OFF or FAULTED (04 R124, R127, 07 R225). -/
def pulseAt (p : Pkg) (q tick : Nat) : Bool :=
  match (ptAt p q).cfg.use_, clusterOf p q with
  | .static_, some _ => true
  | .switching, some n => (clAt p n).run.st.running && (ptAt p q).run.inForce.any (fun d => carrierPulse (clAt p n).cfg d tick)
  | _, _ => false

/-- The lines of one die take a level of PULSE and the port's ENABLE (01 R19). -/
def driveLine (q : Nat) (pulse : Bool) (d : Die) (p : Pkg) : Pkg :=
  if drivesLines p d then updPin q (EyePin.setLines d (pulse, (ptAt p q).run.en)) p else p

/-- The gate lines at a tick of the port's carrier, and the pins (04 R124, 07 R225). -/
def linesAt (q tick : Nat) (p : Pkg) : Pkg :=
  let b := pulseAt p q tick
  settle q (driveLine q b .b (driveLine q b .a p))

/-- The gate lines after a change between the edges of the port's carrier: ENABLE as requested, and PULSE as it stands
where the port's duty goes on (07 R225). -/
def followLines (q : Nat) (p : Pkg) : Pkg :=
  let x := ptAt p q
  let lvl := fun d : Die =>
    x.cfg.use_ == .static_ || (x.cfg.use_ == .switching && x.run.inForce.isSome && ((pinAt p q).lines d).1)
  settle q (driveLine q (lvl .b) .b (driveLine q (lvl .a) .a p))

/-! ### Cluster state changes (04 R142) -/

/-- Enter a cluster state. -/
def goSt (n : Nat) (st : ClState) (p : Pkg) : Pkg := updRun n (fun r => { r with st := st, since := p.clk, ticks := 0 }) p

/-- Every ENABLE of the cluster low, its phases back to their start and its carriers without a duty; forces are left as
they are (04 R142, 07 R225). -/
def enablesLow (n : Nat) (p : Pkg) : Pkg :=
  (fusedPorts p n).foldl (fun p q => followLines q (updPt q (fun r =>
    { r with en := false, enPend := none, st := .active, periods := 0, lowI := false, revLeft := 0, revOff := false
             shadow := none, inForce := none }) p)) p

/-- Deratings of a cluster's lanes end when it enters OFF (05 R185). -/
def endDerate (n : Nat) (p : Pkg) : Pkg :=
  let f := fun l : Lane => if l.cfg.used && !l.cfg.slow && l.cfg.cluster == n then
    { l with run := { l.run with derated := false, feStop := false } } else l
  { p with ce := { p.ce with lane := p.ce.lane.map f } }

/-- Static port ENABLEs of a function. -/
def driveStatic (n : Nat) (f : StaticFn) (on : Bool) (p : Pkg) : Pkg :=
  (fnPorts p n f).foldl (fun p q => followLines q (updPt q (fun r => { r with en := on }) p)) p

/-- A cluster enters OFF: every ENABLE low (04 R142). -/
def clusterOff (n cause : Nat) (p : Pkg) : Pkg :=
  let p1 := updRun n (fun r => { r with cause := cause, isoOn := false, isoPend := false, settle := none, measuring := false
                                        watch := false, revStart := false, stopPend := false, clamp := 0 }) (enablesLow n p)
  let p2 := updDyn n (fun d => { d with frozen := false, holdEnd := none, dwellN := 0 }) p1
  endDerate n (goSt n .off p2)

/-! ### Acknowledgements (06 R201, R204) -/

/-- CLIMIT of a region (06 R201). -/
def climit (p : Pkg) (r : Nat) : Bool := (vrAt p r).session.isSome && (rgAt p r).bind != 1

/-- Queue an acknowledgement on a Purl port (06 R203, R218). -/
def pushAck (u : Nat) (a : Ack) (p : Pkg) : Pkg :=
  updPp u (fun x => { x with queue := cap 16 (x.queue ++ [a]), mir := x.mir ++ [a], mirNext := x.mirNext ++ [a]
                             lastAck := if a.seq = x.newest then some a else x.lastAck }) p

/-- The acknowledgement of a transition as decided now (06 R201). -/
def mkAck (p : Pkg) (r : Nat) (k : AckKind) (seq cause bySeq turn : Nat) (compat : Bool) : Ack :=
  { kind := k, vref := vrefOf p r % 2 ^ 18, seq := seq, cause := cause, bySeq := bySeq, climit := climit p r
    turn := turn, compat := compat }

/-- What the vehicle is told of a REFUSED (14 R451). -/
def tellVehicle (r : Nat) (k : TransKind) (cause : Nat) (p : Pkg) : Pkg :=
  updVg r (fun v =>
    { v with openBad := if k = .open_ ∧ (cause = 5 ∨ cause = 0xD ∨ cause = 0xE) then some cause else v.openBad
             told := if [6, 7, 8, 9, 0xB, 0xC].contains cause then some cause else v.told }) p

/-- The transition of a region ends with its final acknowledgement (06 R204). -/
def endTrans (r : Nat) (k : AckKind) (cause : Nat) (bySeq : Option Nat) (compat : Bool) (p : Pkg) : Pkg :=
  match (vrAt p r).trans with
  | none => p
  | some t =>
    let p1 := updVr r (fun v => { v with trans := none, lastCause := if k = .refused then cause else v.lastCause
                                         started := v.started || k == .reached }) p
    match t.src with
    | .purl u => pushAck u (mkAck p r k t.seq cause (bySeq.getD t.seq) t.turn compat) p1
    | .v2g _ => if k = .refused then tellVehicle r t.kind cause p1 else p1
    | _ => p1

/-! ### Receipts (10 R338 to R341) -/

/-- A receipt slot is unused or holds an acknowledged receipt (10 R338). -/
def receiptFree (p : Pkg) : Bool := p.bil.rcpts.length < 1024 || p.bil.rcpts.any (fun x => x.st == .acked)

/-- Drop the oldest acknowledged receipt. -/
def dropAcked : List Receipt → List Receipt
  | [] => []
  | x :: l => if x.st = .acked then l else x :: dropAcked l

/-- A region's meter, DC meter r (09 R283). -/
def dcMeter (p : Pkg) (r : Nat) : Meter := p.mtr.meter.getD r {}

/-- A session's receipt is opened (10 R338). -/
def openReceipt (r vidKind : Nat) (vid : List Byte) (p : Pkg) : Pkg :=
  let b := p.bil
  let m := dcMeter p r
  let no := nodeAddr p * 2 ^ 48 + b.rcptCtr
  let slot := if b.rcpts.length < 1024 then b.rcpts.length else ((b.rcpts.find? (fun y => y.st == .acked)).map (·.slot)).getD 0
  let x : Receipt := { slot := slot, no := no, region := r, vidKind := vidKind, vid := vid, t0 := p.tim.now, openReq := some p.tim.now
                       pos0 := m.acc.getD 0 0, neg0 := m.acc.getD 1 0, tar0 := (b.rg.getD r {}).tar
                       calId := (b.cal.map (·.id)).getD 0, ep0 := p.mtr.epoch }
  let l := (if b.rcpts.length < 1024 then b.rcpts else dropAcked b.rcpts) ++ [x]
  let high := decide ((l.filter (fun x => x.st != .acked)).length ≥ 960)
  { p with bil := { b with rcpts := l, rcptCtr := (b.rcptCtr + 1) % 2 ^ 48, rg := upd b.rg r (fun g => { g with rcpt := no })
                           evt := { b.evt with rcptHigh := b.evt.rcptHigh || high } } }

/-- A session's receipt is to close with a cause, on the sample that places the close; with Hoop at none it waits for
the replay (10 R317, R341; log 24). -/
def closeReceipt (r cause : Nat) (p : Pkg) : Pkg :=
  if (activeDie p).isNone then p
  else
    let f := fun x : Receipt => if x.st = .open_ ∧ x.region = r ∧ x.closeReq.isNone then
      { x with closeReq := some (p.tim.now, cause) } else x
    { p with bil := { p.bil with rcpts := p.bil.rcpts.map f } }

/-! ### The end of a session (02 R65, 06 R206, R209) -/

/-- The DC/DC clusters of a region that run are to stop; a start on its way is withdrawn (04 R142). -/
def stopRegion (r : Nat) (p : Pkg) : Pkg :=
  (dcdcOf p r).foldl (fun p n => updRun n (fun x =>
    { x with startPend := false, stopPend := x.st.running && x.st != .rampDown }) p) p

/-- The region's DC/DC clusters have all stopped. -/
def regionStopped (p : Pkg) (r : Nat) : Bool := (dcdcOf p r).all (fun n => !(clAt p n).run.st.running)

/-- The ramp-down of a closed session ends: a pending close is REACHED (06 R209). -/
def closingDone (r : Nat) (p : Pkg) : Pkg :=
  if (vrAt p r).closing ∧ regionStopped p r then
    let p1 := match (vrAt p r).trans with
      | some { kind := .close, .. } => endTrans r .reached 0 none false p
      | _ => p
    updVr r (fun v => { v with closing := false }) p1
  else p

/-- DELIVER and DERATE end with the last open session (02 R65, R67). -/
def lastClosed (p : Pkg) : Pkg :=
  if anySession p ∨ !inMode p [.deliver, .derate] then p
  else
    let p1 := setMode .armed p
    { p1 with sys := { p1.sys with armUntil := some (p.clk + p.sys.armTimeout * 1000000000), freeCycles := 0, derateWhy := [] } }

/-- The session of a region ends with a cause: its pending transition is REFUSED, its receipt closes, its clusters
stop (06 R206, R209, 10 R341). -/
def endSession (r cause : Nat) (p : Pkg) : Pkg :=
  match (vrAt p r).session with
  | none => p
  | some o =>
    let p1 := closeReceipt r cause (endTrans r .refused cause none false p)
    let p2 := match o with
      | .v2g _ => updVg r (fun v => { v with endC := cause, owner := none }) (tellVehicle r .close cause p1)
      | _ => p1
    let p3 := stopRegion r (updVr r (fun v =>
      { v with session := none, closing := true, regSlew := false, started := false, ilim := none, cmdBy := .none }) p2)
    lastClosed (closingDone r p3)

/-- A cluster enters FAULTED: every ENABLE low; a DC/DC cluster's session ends, with START_FAILED while the cluster
starts and CLUSTER_FAULT otherwise, and so does a close that is pending (04 R142, 06 R206; log 25). -/
def clusterFault (n cause : Nat) (p : Pkg) : Pkg :=
  let c := clAt p n
  if !c.run.st.running then p
  else
    let p1 := updRun n (fun r => { r with cause := cause, isoOn := false, isoPend := false, settle := none, watch := false
                                          measuring := false, revStart := false, stopPend := false, startPend := false
                                          clamp := 0 }) (enablesLow n p)
    let p2 := goSt n .faulted (updDyn n (fun d => { d with frozen := false, holdEnd := none, dwellN := 0 }) p1)
    if c.cfg.type ≠ .dcdc then p2
    else
      let start := c.run.st == .prebias || c.run.st == .match_ || c.run.st == .ramp
      let r := c.cfg.region
      let p3 := if (vrAt p2 r).session.isSome then endSession r (if start then 6 else 7) p2 else endTrans r .refused 7 none false p2
      closingDone r p3

/-- A start that fails without FAULTED fails the session start (04 R142, 06 R209). -/
def startFailed (n : Nat) (p : Pkg) : Pkg :=
  let c := clAt p n
  if c.cfg.type = .dcdc then closingDone c.cfg.region (endSession c.cfg.region 6 p) else p

/-- Available phases below MIN_PHASES send a running cluster to FAULTED (04 R155). -/
def tooFew (n : Nat) (p : Pkg) : Pkg :=
  let c := clAt p n
  if c.run.st.running ∧ (availPhases p n).length < c.rw.minPh then clusterFault n 3 p else p

/-! ### Starting clusters (02 R65, 04 R142) -/

/-- AFE clusters are to start: static pre-charge first, where 02 R79 lets a port switch (02 R65; log 22). -/
def startAfes (p : Pkg) : Pkg :=
  (afes p).foldl (fun p n =>
    if (clAt p n).run.st ≠ .off then p
    else
      let p1 := updRun n (fun r => { r with startPend := true, stopPend := false }) p
      if r79 p1 n then driveStatic n .precharge true p1 else p1) p

/-- AFE clusters are to stop; what has not started is withdrawn (02 R65). -/
def stopAfes (p : Pkg) : Pkg :=
  (afes p).foldl (fun p n =>
    let c := (clAt p n).run
    let p1 := updRun n (fun r => { r with startPend := false, stopPend := r.st.running && r.st != .rampDown }) p
    if c.st = .off then driveStatic n .bypass false (driveStatic n .precharge false p1) else p1) p

/-- The package enters ARMED: AFE clusters start; ARM_TIMEOUT runs while no session is open (02 R65, R67). -/
def arm (p : Pkg) : Pkg :=
  let p1 := setMode .armed p
  startAfes { p1 with sys := { p1.sys with armUntil := some (p.clk + p.sys.armTimeout * 1000000000) } }

/-- A session opens in a region: the mode moves on under 02 R65, the receipt is opened, the region's clusters are to
start (02 R65, 06 R209). -/
def openSession (r : Nat) (o : Owner) (vidKind : Nat) (vid : List Byte) (p : Pkg) : Pkg :=
  let p1 := if inMode p [.idle] then arm p else if inMode p [.isolated, .service] then startAfes p else p
  let p2 := if inMode p1 [.armed] then setMode .deliver p1 else p1
  let p3 := { p2 with sys := { p2.sys with armUntil := none } }
  let p4 := openReceipt r vidKind vid (updVr r (fun v => { v with session := some o, started := false, closing := false }) p3)
  (dcdcOf p4 r).foldl (fun p n => updRun n (fun x => { x with startPend := true, stopPend := false }) p) p4

/-- A command comes into force: the target of the region's clusters and the command rate (06 R193, 04 R146). -/
def setCommand (r : Nat) (o : Owner) (target : Nat) (ilim : Option Nat) (slew seq : Nat) (p : Pkg) : Pkg :=
  let p1 := updVr r (fun v => { v with cmdBy := o, cmdTgt := target, cmdSlew := slew, ilim := ilim, seq := seq }) p
  (dcdcOf p r).foldl (fun p n => updRun n (fun x => { x with cmdRate := slew, target := target }) p) p1

/-! ### Status frames (06 R201) -/

/-- RSTATE of a region (06 R201). -/
def rstate (p : Pkg) (r : Nat) : Nat :=
  let v := vrAt p r
  if v.session.isNone ∧ !v.closing then 0
  else if (dcdcOf p r).any (fun n => (clAt p n).run.st == .faulted) then 5
  else if v.closing then 4
  else if !v.started then 1
  else if inMode p [.isolated] then 6
  else if (rgAt p r).held then 3
  else 2

/-- The CRC-8 of a frame's bits [63:8] (06 R196). -/
def purlCrc (w : Nat) : Nat :=
  ((toBe 7 (w / 256)).foldl (crcMsbByte 8 0x2F) 0xFF) ^^^ 0xFF

/-- A frame with its CRC (06 R196). -/
def withCrc (w : Nat) : Nat := w / 256 * 256 + purlCrc w

/-- The target that a cluster's reference moves to, in 1/8 nV: the DC-link set-point of an AFE cluster, the outlet
voltage while the isolator is open, and otherwise the target of the command in force (04 R146). -/
def effTarget (p : Pkg) (n : Nat) : Int :=
  let c := clAt p n
  if c.cfg.type = .afe then c.cfg.setpoint * 80000000
  else if (c.run.st = .ramp ∨ c.run.st = .match_) ∧ !c.run.isoOn ∧ !(fnPorts p n .isolator).isEmpty then
    c.dyn.voutlet * 8000000
  else c.run.target * 80000000

/-- Some reference of the region is not at its target (06 R201). -/
def slewing (p : Pkg) (r : Nat) : Bool :=
  (dcdcOf p r).any (fun n => (clAt p n).run.st.running && (clAt p n).run.ref != effTarget p n)

/-- The status frame of a region (06 R201). -/
def statusFrame (p : Pkg) (r : Nat) : Nat :=
  withCrc (5 * 2 ^ 61 + rstate p r * 2 ^ 58 + (voutOf p r / 10).toNat % 2 ^ 18 * 2 ^ 40
    + (ioutOf p r / 100).toNat % 2 ^ 15 * 2 ^ 25 + min (rgAt p r).icap 32767 * 2 ^ 10 + bit (slewing p r) * 2 ^ 9
    + bit (climit p r) * 2 ^ 8)

end Sys2Proof.Machine
end

