-- ==== Sys2Proof/Machine/Gate.lean ====
section
/-!
DEFINITION. The Ground die's output path of the Eyelet ports (07 R219 to R242): the stages from the gate lines to the
pins, latches and their clearing, driver configuration words, and forced states. Delays within one edge's path
(07 R242) collapse to the instant of the command; the dead time ends with its own command.
-/

namespace Sys2Proof.Machine

/-- Levels of a die's gate lines at a tick of the port's carrier: those of a faulty die where it shows some, and those
of the carrier, the duty and the ENABLE requested where the die computes them (04 R124, 07 R225). -/
def edgeLevels (d : Die) (q tick : Nat) (fault : Option (Bool × Bool)) (p : Pkg) : Bool × Bool :=
  match fault with
  | some b => b
  | none => if drivesLines p d then (pulseAt p q tick, (ptAt p q).run.en) else (pinAt p q).lines d

/-- An edge of a die's gate lines (07 R221 to R226, R234). -/
def gateEdge (d : Die) (q tick : Nat) (fault : Option (Bool × Bool)) (p : Pkg) : Pkg :=
  let p1 := updPin q (EyePin.setLines d (edgeLevels d q tick fault p)) p
  settle q (if staticZero p1 q && !staticZero p q then { p1 with eye := { p1.eye with patErr := inc16 p1.eye.patErr } } else p1)

/-- GATE_LINE_EDGE (07 R224). -/
def execGateLineEdge (die : Die) (p : Fin 96) (tick : Nat) (fault : Option (Bool × Bool)) (s : State) : Out :=
  run1 (gateEdge die p.val tick fault) s

/-- DT has passed without an edge (07 R224). -/
def deadEnd (q : Nat) (p : Pkg) : Pkg := settle q (updPin q (fun x => { x with dead := false }) p)

/-- DEAD_TIME_EXPIRY (07 R224). -/
def execDeadTimeExpiry (p : Fin 96) (s : State) : Out := run1 (deadEnd p.val) s

/-! ### Latches (07 R237 to R241) -/

/-- What a latch does to the port's cluster: a static port's cluster enters FAULTED (07 R240). -/
def latchCluster (q : Nat) (p : Pkg) : Pkg :=
  match clusterOf p q with
  | none => p
  | some n => if (ptAt p q).cfg.use_ = .static_ then clusterFault n 6 p else p

/-- A port becomes LATCHED; every latch counts (07 R234, R237, R243). -/
def latchPort (q : Nat) (c : LatchCause) (p : Pkg) : Pkg :=
  let e := eyAt p q
  let p1 := updEy q (fun e => { e with latched := true, cause := c, faultCnt := if e.latched then e.faultCnt else inc8 e.faultCnt }) p
  settle q (if e.latched then p1 else latchCluster q p1)

/-- EYE_FAULT_N is low outside an acknowledgement window: the port latches, and a clear in progress starts again from
step 1 (07 R237, R239). -/
def faultLatch (q : Nat) (p : Pkg) : Pkg :=
  latchPort q .driver (updEy q (fun e => { e with faultN := false, wordWait := false
                                                  clr := if e.clr.isSome then some .enLow else none }) p)

/-- EYE_FAULT_N takes a level: low latches the port once the Ground die samples it, which it does from its release at
step 3 of 02 R78; high is the level alone (07 R237, R241, R243). -/
def faultLevel (q : Nat) (low : Bool) (p : Pkg) : Pkg :=
  if low ∧ p.sup.started then faultLatch q p else updEy q (fun e => { e with faultN := !low }) p

/-- EYE_FAULT_LATCH (07 R237). -/
def execEyeFaultLatch (e : FaultPinIn) (s : State) : Out := run1 (faultLevel e.p.val e.low) s

/-- The Ground die leaves reset: every port whose EYE_FAULT_N is low then latches (07 R241). -/
def faultsAtStart (p : Pkg) : Pkg :=
  (List.range 96).foldl (fun p q => if (eyAt p q).faultN then p else faultLatch q p) p

/-- A switching port's ENABLE has been high for HOLD_MAX without an edge (07 R234). -/
def patternHold (q : Nat) (p : Pkg) : Pkg :=
  if (eyAt p q).mode = .switching ∧ (pinAt p q).en then latchPort q .pattern p else p

/-- PATTERN_HOLD_EXPIRY (07 R234). -/
def execPatternHoldExpiry (p : Fin 96) (s : State) : Out := run1 (patternHold p.val) s

/-- The configuration word of a port (07 R231). -/
def configWord (m : PortUse) (q : Nat) : Nat :=
  let c := match m with
    | .unused => 0
    | .switching => 1
    | .static_ => 2
  let w := 0xA000 + c * 1024 + q % 128 * 2
  let ones := sumN ((List.range 16).map (fun i => bit (tb w i)))
  w + (if ones % 2 = 0 then 1 else 0)

/-- The Manchester code of a word: 32 half-bits of 500 ns, most significant bit first, a 1 high and then low (07 R231). -/
def manchester (w : Nat) : List Bool :=
  ((List.range 16).map (fun i => let b := tb w (15 - i); [b, !b])).flatten

/-- The configuration word of a port is sent on its PULSE pin; it awaits its acknowledgement (07 R231, R232). -/
def sendWord (q : Nat) (p : Pkg) : Pkg :=
  settle q (updEy q (fun e => { e with word := configWord e.mode q, code := manchester (configWord e.mode q)
                                       wordWait := true, ack := false }) p)

/-- A configuration image takes effect: the gate lines and pins of every port take its mode, and every assigned port
that is not latched gets its word (07 R221, R233, R241). -/
def sendWords (p : Pkg) : Pkg :=
  (List.range 96).foldl (fun p q =>
    let p1 := followLines q p
    if (clusterOf p1 q).isSome ∧ !(eyAt p1 q).latched then sendWord q p1 else p1) p

/-- A phase takes no part in its cluster: its ports are SHED with ENABLE low (04 R155, 07 R240). -/
def dropPhase (l : List Nat) (p : Pkg) : Pkg :=
  l.foldl (fun p q => followLines q (updPt q (fun r =>
    { r with st := .shed, en := false, enPend := none, revOff := false, trim := 0, trimSat := false }) p)) p

/-- A released switching port's phase waits as SHED (07 R240). -/
def releaseShed (q : Nat) (p : Pkg) : Pkg :=
  match clusterOf p q with
  | none => p
  | some n =>
    if (ptAt p q).cfg.use_ ≠ .switching ∨ !(clAt p n).run.st.running then p
    else ((phases p n).filter (fun l => l.contains q)).foldl (fun p l => dropPhase l p) p

/-- End every EYE_FAULT_CLEAR item of a port (07 R239). -/
def endClears (q : Nat) (st : Status) (p : Pkg) : Pkg :=
  let l := (eyAt p q).clrWork
  l.foldl (fun p i => finishWork i st p) (updEy q (fun e => { e with clr := none, clrWork := [] }) p)

/-- An acknowledgement: the word is acknowledged, and a clear that waits for it releases the latch (07 R232, R238). -/
def driverAck (q : Nat) (p : Pkg) : Pkg :=
  let e := eyAt p q
  if !e.wordWait then p
  else
    let p1 := updEy q (fun e => { e with wordWait := false, ack := true }) p
    if e.clr = some .ack then
      settle q (releaseShed q (endClears q .ok (updEy q (fun e => { e with latched := false }) p1)))
    else settle q p1

/-- DRIVER_ACK (07 R232). -/
def execDriverAck (p : Fin 96) (s : State) : Out := run1 (driverAck p.val) s

/-- No acknowledgement: the port latches with NOACK, and a clear in progress fails (07 R233, R239). -/
def wordNoack (q : Nat) (p : Pkg) : Pkg :=
  let e := eyAt p q
  if !e.wordWait then p
  else
    let p1 := latchPort q .noack (updEy q (fun e => { e with wordWait := false, ack := false }) p)
    if e.clr = some .ack then endClears q .faulted p1 else p1

/-- CONFIG_WORD_NOACK (07 R233). -/
def execConfigWordNoack (p : Fin 96) (s : State) : Out := run1 (wordNoack p.val) s

/-- Steps 1 and 2 of a clear are met: the configuration word is sent. A port fused to no cluster gets none, so its
acknowledgement is missing (07 R223, R238, R239). -/
def clearProgress (q : Nat) (p : Pkg) : Pkg :=
  let e := eyAt p q
  if (e.clr = some .enLow ∨ e.clr = some .faultHigh) ∧ e.faultN then
    if (clusterOf p q).isSome then sendWord q (updEy q (fun e => { e with clr := some .ack }) p)
    else endClears q .faulted (updEy q (fun e => { e with cause := .noack }) p)
  else p

/-- EYE_CLEAR_PROGRESS (07 R238). -/
def execEyeClearProgress (p : Fin 96) (s : State) : Out := run1 (clearProgress p.val) s

/-- Step 2 has not been met within 100 ms of arming: the clear fails and the latch stays (07 R239). -/
def clearTimeout (q : Nat) (p : Pkg) : Pkg :=
  let e := eyAt p q
  if (e.clr = some .enLow ∨ e.clr = some .faultHigh) ∧ due p (e.clrSince + 100000000) then endClears q .faulted p else p

/-- EYE_CLEAR_TIMEOUT (07 R239). -/
def execEyeClearTimeout (p : Fin 96) (s : State) : Out := run1 (clearTimeout p.val) s

/-- EYE_FAULT_CLEAR's checks (07 R239). -/
def specEyeFaultClear : OpSpec :=
  { op := 0x0205, lenOk := (·.length == 4), role := needOpr, modes := notRetired
    params := fun _ d => inR 0 95 (u8 d 0) && zeros d 1 3 }

/-- EYE_FAULT_CLEAR: the command's checks (07 R239). -/
def execEyeFaultClear (ep : Fin 3) (slot : Fin 64) (s : State) : Out :=
  run1 (submit specEyeFaultClear true (slotIx ep slot) noAns) s

/-- EYE_FAULT_CLEAR applied: the clear is armed; a port that is not latched is DONE (07 R238, R239). -/
def applyEyeClear (id : Nat) (d : List Byte) (p : Pkg) : Pkg :=
  let q := u8 d 0
  if !(eyAt p q).latched then finishWork id .ok p
  else runWork id (updEy q (fun e => { e with clr := some (e.clr.getD .enLow), clrWork := e.clrWork ++ [id]
                                              clrSince := if e.clr.isSome then e.clrSince else p.clk }) p)

/-! ### Forced states (07 R235, R236) -/

/-- A force write's refusal, if it has one (07 R235, R236). -/
def forceBad (p : Pkg) (q v : Nat) : Option (Status × Nat) :=
  if v % 8 > 3 then some (.badParameter, 0)
  else match clusterOf p q with
    | none => some (.badParameter, 0)
    | some n =>
      if v % 8 = 2 ∧ (eyAt p q).mode = .static_ then some (.badParameter, 0)
      else if lcOf p ≠ .service ∨ p.sys.mode ≠ .service ∨ (clAt p n).run.st ≠ .off then some (.stateConflict, 8)
      else none

/-- A refused code that would imply both switches on: counted and logged (07 R236). -/
def forceRefused (q v client : Nat) (p : Pkg) : Pkg :=
  if v % 8 > 3 then
    logEvent 0x20 q client [byte (v % 8)] { p with eye := { p.eye with bothRef := inc8 p.eye.bothRef } }
  else p

/-- Force of a code (07 R235). -/
def Force.ofCode : Nat → Force
  | 1 => .off | 2 => .low | 3 => .high | _ => .follow

/-- A force takes effect (07 R235). -/
def setForce (q v : Nat) (p : Pkg) : Pkg := settle q (updEy q (fun e => { e with force := Force.ofCode (v % 8) }) p)

/-- A write of EYE_Pp_FORCE (07 R235, R236). -/
def forceWrite (q v client : Nat) (p : Pkg) : Pkg :=
  match forceBad p q v with
  | some _ => forceRefused q v client p
  | none => setForce q v p

/-- EYE_FORCE_WRITE (07 R235). -/
def execEyeForceWrite (p : Fin 96) (val client : Nat) (s : State) : Out := run1 (forceWrite p.val val client) s

/-- Every force of a cluster's ports returns to FOLLOW when the cluster leaves OFF (07 R235). -/
def endForces (n : Nat) (p : Pkg) : Pkg :=
  (fusedPorts p n).foldl (fun p q => if (eyAt p q).force = .follow then p else setForce q 0 p) p

end Sys2Proof.Machine
end

