-- ==== Sys2Proof/Machine/Compensator.lean ====
section
/-!
DEFINITION. The compensator engine (05 R162 to R190): one lane's execution, coefficient swaps, presets, the
following-error supervisor, repetitive control, and the compensator commands.
-/

namespace Sys2Proof.Machine

/-! ### Number formats (05 R167, R168) -/

/-- Nearest integer to a ÷ b, ties away from zero, for b > 0. -/
def rdiv (a : Int) (b : Nat) : Int :=
  let q := (2 * a.natAbs + b) / (2 * b)
  if a < 0 then -(q : Int) else q

/-- Narrow by n fraction bits, ties away from zero (05 R168). -/
def rnd (n : Nat) (a : Int) : Int := rdiv a (2 ^ n)

/-- Saturate to Q8.40; the flag tells a saturation (05 R168). -/
def sat40 (a : Int) : Int × Bool :=
  let b := clampI (-(2 ^ 47)) (2 ^ 47 - 1) a
  (b, b != a)

/-- Q8.24 view of a Q8.40 value (05 R168). -/
def toQ24 (a : Int) : Int := clampI (-(2 ^ 31)) (2 ^ 31 - 1) (rnd 16 a)

/-! ### Stability of a coefficient set (05 R176) -/

/-- Both roots of z² + a·z + b lie in the closed unit disc. -/
def stable2 (a b : Rat) : Bool := decide (-1 ≤ b) && decide (b ≤ 1) && decide (-(1 + b) ≤ a) && decide (a ≤ 1 + b)

/-- Every root of z³ + a·z² + b·z + c lies in the closed unit disc. -/
def stable3 (a b c : Rat) : Bool :=
  if c * c = 1 then decide (b = a * c) && decide (-2 ≤ a - c) && decide (a - c ≤ 2)
  else if c * c > 1 then false
  else stable2 ((a - b * c) / (1 - c * c)) ((b - a * c) / (1 - c * c))

/-- No root of the denominator is above 1 + 2^−20 in magnitude, and unused coefficients are zero (05 R176). -/
def coefsOk (x : Lane) (c : Coefs) : Bool :=
  let rho : Rat := 1 + 1 / 2 ^ 20
  let q := fun (v : Int) => -((v : Rat) / 2 ^ 30)
  (x.cfg.order3 || (c.b3 == 0 && c.a3 == 0)) && (x.cfg.ffKind != .none || c.ff == 0) &&
    stable3 (q c.a1 / rho) (q c.a2 / (rho * rho)) (q c.a3 / (rho * rho * rho))

/-! ### Views -/

/-- A lane. -/
def laneAt (p : Pkg) (l : Nat) : Lane := p.ce.lane.getD l {}

/-- Change a lane. -/
def updLane (l : Nat) (f : Lane → Lane) (p : Pkg) : Pkg := { p with ce := { p.ce with lane := upd p.ce.lane l f } }

/-- Add to CE_EVT. -/
def ceEvt (f : CeEvt → CeEvt) (p : Pkg) : Pkg := { p with ce := { p.ce with evt := f p.ce.evt } }

/-- Lanes of a cluster, ascending (05 R162). -/
def lanesOf (p : Pkg) (n : Nat) : List Nat := idxs (fun x : Lane => x.cfg.used && !x.cfg.slow && x.cfg.cluster == n) p.ce.lane

/-- SLOW lanes, ascending (05 R162). -/
def slowLanes (p : Pkg) : List Nat := idxs (fun x : Lane => x.cfg.used && x.cfg.slow) p.ce.lane

/-- Calibrated value of a fast channel (04 R137). -/
def chanVal (p : Pkg) (k : Nat) : Int := p.pwr.samples.getD k 0

/-- Phase group, 0 to 2, of a port of an AFE cluster (04 R122). -/
def groupOf (p : Pkg) (n q : Nat) : Nat := ((idxs (fun l : List Nat => l.contains q) (groups p n)).head?).getD 0

/-- Sampled current of a port in mA: that of its phase-current channel (04 R137). -/
def phaseAmps (p : Pkg) (q : Nat) : Int :=
  sumI ((idxs (fun c : ChanCfg => c.use_ == .phaseI q) p.pwr.chan).map (chanVal p))

/-- The cosine of r × 2^−32 turns for r up to a quarter turn, in 2^−64: its Taylor series to the 24th power. -/
def cosQuarter (r : Nat) : Int :=
  let x : Int := (r * 28976077832308491370 / 2 ^ 30 : Nat)
  ((List.range 12).foldl (fun (a : Int × Int) (k : Nat) =>
    let t := -(a.1 * x / 2 ^ 64 * x / 2 ^ 64) / ((2 * k + 1) * (2 * k + 2) : Nat)
    (t, a.2 + t)) ((2 ^ 64 : Int), (2 ^ 64 : Int))).2

/-- The cosine of an angle in 2^−32 turns, in Q8.40 to the nearest (05 R165; log 26). -/
def cosQ (a : Nat) : Int :=
  let r := a % 2 ^ 30
  let c := match a % 2 ^ 32 / 2 ^ 30 with
    | 0 => cosQuarter r
    | 1 => -cosQuarter (2 ^ 30 - r)
    | 2 => -cosQuarter r
    | _ => cosQuarter (2 ^ 30 - r)
  rdiv c (2 ^ 24)

/-- The sine of an angle in 2^−32 turns, in Q8.40. -/
def sinQ (a : Nat) : Int := cosQ (a + 3 * 2 ^ 30)

/-- Reference phase of a meter: its first phase that is not lost (09 R301). -/
def refPhase (p : Pkg) (m : Nat) : Option Nat := (idxs (fun (x : PhaseTrk) => !x.lost) (p.mtr.meter.getD m {}).ph).head?

/-- The grid angle of an AFE cluster at an instant in fine ticks: its reference phase's part of a period since its latest
positive crossing, a quarter turn less, for phase a; free where no two crossings have been seen (05 R165; log 26). -/
def gridAngle (p : Pkg) (n t : Nat) : Nat × Pkg :=
  let m := 4 + (clAt p n).cfg.acMeter
  let k := (refPhase p m).getD 3
  let x := (p.mtr.meter.getD m {}).ph.getD k {}
  if x.period = 0 then drawFree 32 p
  else
    let a := ((5 * t : Nat) - (64 * x.zc : Nat) : Int) * 2 ^ 32 / (64 * x.period : Nat)
    (uns 32 (a + (k * (2 ^ 32 / 3) : Nat) - 2 ^ 30), p)

/-- d and q currents of an AFE cluster in mA: the Park transform of the currents of its three phase groups at the grid
angle, amplitude-invariant (05 R165, R191; log 26). -/
def dqAmps (p : Pkg) (n theta : Nat) : Int × Int :=
  let g := (groups p n).map (fun l => sumI (l.map (phaseAmps p)))
  let ang := fun k : Nat => theta + 2 ^ 32 * 3 - k * (2 ^ 32 / 3)
  let d := sumI ((List.range 3).map (fun k => g.getD k 0 * cosQ (ang k)))
  let q := sumI ((List.range 3).map (fun k => -(g.getD k 0 * sinQ (ang k))))
  (rdiv (2 * d) (3 * 2 ^ 40), rdiv (2 * q) (3 * 2 ^ 40))

/-- Share weight of a phase under 04 R140 and R151: a SHEDDING phase's falls linearly to zero over 16 periods and the
other weights rise equally. -/
def weightOf (p : Pkg) (n : Nat) (ph : List Nat) : Rat :=
  let live := livePhases p n
  let m := live.length
  if m = 0 then 0
  else
    let sh := fun l : List Nat => phaseSt p l == .shedding
    let own := fun l : List Nat => ((16 - min (ptAt p (l.headD 0)).run.periods 16 : Nat) : Rat) / (16 * m)
    let rest := live.filter (fun l => !sh l)
    if sh ph then (if rest.isEmpty then 1 / m else own ph)
    else
      let s := ((live.filter sh).map own).foldl (· + ·) 0
      (1 - s) / rest.length

/-- A per-unit value, with whether it saturated, of a rational quantity a ÷ b; over a base of 0 the spec states none and
it is free (05 R164, R168; log 6). -/
def perUnit (a : Int) (b : Nat) (p : Pkg) : (Int × Bool) × Pkg :=
  if b = 0 then
    let d := drawFree 48 p
    ((sext 48 d.1, false), d.2)
  else (sat40 (rdiv (a * 2 ^ 40) b), p)

/-! ### One execution (05 R169) -/

/-- The reference of a lane, with whether it saturated (05 R163 to R165, R168; log 102). -/
def laneRef (x : Lane) (p : Pkg) : (Int × Bool) × Pkg :=
  let c := x.cfg
  match c.refKind with
  | .zero => ((0, false), p)
  | .setpoint => ((x.rw.setpt * 2 ^ 16, false), p)
  | .cluster => perUnit (clAt p c.cluster).run.ref (c.base * 8000000) p
  | .lane =>
    let src := laneAt p c.refLane
    let w : Rat := if c.out = .duty ∧ !c.slow then
      weightOf p c.cluster (((phases p c.cluster).find? (fun l => l.contains c.outIdx)).getD [c.outIdx]) else 1
    perUnit (src.run.u * src.cfg.obase * w.num) (c.base * w.den * 2 ^ 40) p
  | .dq =>
    let d := laneAt p c.refLane
    let q := laneAt p (c.refLane + 1)
    let a := (clAt p c.cluster).dyn.theta + 2 ^ 32 - groupOf p c.cluster c.outIdx * (2 ^ 32 / 3)
    perUnit (d.run.u * d.cfg.obase * cosQ a - q.run.u * q.cfg.obase * sinQ a) (c.base * 2 ^ 80) p

/-- The measurement of a lane, with whether it saturated (05 R164, R168, R191). -/
def laneMeas (x : Lane) (p : Pkg) : (Int × Bool) × Pkg :=
  let c := x.cfg
  let dq := dqAmps p c.cluster (clAt p c.cluster).dyn.theta
  let v := if c.slow then (p.lsw.src.getD c.fb {}).value
    else if c.fb < 96 then chanVal p c.fb
    else if c.fb = 96 then dq.1 else dq.2
  perUnit v c.base p

/-- What the feed-forward term is: its value, whether its guard acted, whether it saturated. -/
structure FfTerm where
  /-- f, Q8.40; 05 R170. -/
  f     : Int := 0
  /-- FF_GUARD; 05 R170. -/
  guard : Bool := false
  /-- A narrowing saturated; 05 R168. -/
  sat   : Bool := false

/-- The gain of the feed-forward on a Q8.40 value (05 R168, R170). -/
def ffTimes (k : Int) (y : Int × Bool) : FfTerm :=
  let f := sat40 (rnd 30 (k * y.1))
  { f := f.1, sat := f.2 || y.2 }

/-- The feed-forward term (05 R170). -/
def laneFf (x : Lane) (p : Pkg) : FfTerm × Pkg :=
  let c := x.cfg
  let k := x.run.act.ff
  match c.ffKind with
  | .none => ({}, p)
  | .product =>
    let y := perUnit (chanVal p c.ffA) c.base p
    (ffTimes k y.1, y.2)
  | .ratio =>
    let b := chanVal p c.ffB
    if b ≤ 0 ∨ b * 100 < (p.pwr.chan.getD c.ffB {}).full then ({ guard := true }, p)
    else (ffTimes k (sat40 (rdiv (chanVal p c.ffA * 2 ^ 40) b.toNat)), p)
  | .lane => (ffTimes k ((laneAt p c.ffA).run.u, false), p)

/-- The repetitive correction, faded, in Q8.40; 0 unless the cluster is in REGULATE (05 R181, R182). -/
def laneCorr (x : Lane) (p : Pkg) : Int :=
  if !x.cfg.rc ∨ (clAt p x.cfg.cluster).run.st ≠ .regulate then 0 else rdiv (x.rc.c * 2 ^ 16 * x.rc.fade) 200

/-- Clamps of a lane; with OBASE 0 there is no cap to divide by it (05 R171; log 111). -/
def laneClamp (x : Lane) (p : Pkg) : Int × Int :=
  let h0 := x.rw.hi * 2 ^ 16
  let h1 := if x.run.derated then rdiv (h0 * x.rw.feDer) 100 else h0
  let hi := if x.cfg.caplink ∧ x.cfg.obase ≠ 0 then
    min h1 (rdiv ((clAt p x.cfg.cluster).run.clamp * 2 ^ 40) (x.cfg.obase * 1000)) else h1
  (min (x.rw.lo * 2 ^ 16) hi, hi)

/-- The following-error supervisor on e: it counts in every execution and acts while it is armed (05 R184, R185). -/
def followErr (l : Nat) (e : Int) (p : Pkg) : Pkg :=
  let x := laneAt p l
  let armed := x.cfg.slow || (clAt p x.cfg.cluster).run.st == .regulate
  if (e.natAbs : Int) ≤ x.rw.feLimit * 2 ^ 16 then updLane l (fun x => { x with run := { x.run with feCnt := 0 } }) p
  else
    let p1 := updLane l (fun x => { x with run := { x.run with feCnt := inc16 x.run.feCnt } }) p
    if !armed ∨ x.run.feCnt + 1 ≠ x.rw.feTime then p1
    else match x.rw.feAct with
      | .flag => ceEvt (fun v => { v with feFlag := true }) (updLane l (fun x => { x with run := { x.run with feTaken := 1 } }) p1)
      | .derate => ceEvt (fun v => { v with feDer := true })
          (updLane l (fun x => { x with run := { x.run with feTaken := 2, derated := true } }) p1)
      | .safeStop =>
        let p2 := ceEvt (fun v => { v with feStop := true })
          (updLane l (fun x => { x with run := { x.run with feTaken := 3, feStop := true } }) p1)
        let p3 := { p2 with ce := { p2.ce with stopOwed := true } }
        if x.cfg.slow then p3 else clusterFault x.cfg.cluster 7 p3

/-- A pending swap is performed, or refused if the staged set fails its check; a CE_COEF_SWAP is DONE with its last
lane (05 R176, R177, R190). -/
def doSwap (l : Nat) (p : Pkg) : Pkg :=
  let x := laneAt p l
  match x.run.swap with
  | none => p
  | some (bumpless, co) =>
    let ok := coefsOk x co
    let p1 := updLane l (fun x =>
      { x with run := { x.run with swap := none, act := if ok then co else x.run.act
                                   preset := if ok && bumpless then some (x.run.preset.getD x.run.u) else x.run.preset } }) p
    let p2 := if ok then p1 else ceEvt (fun v => { v with swapRef := true }) p1
    let ids := (p2.ce.swapWork.filter (fun w => w.1 == l)).map (·.2)
    let rest := p2.ce.swapWork.filter (fun w => w.1 != l)
    let p3 := { p2 with ce := { p2.ce with swapWork := rest } }
    ids.foldl (fun p i => if rest.any (fun w => w.2 == i) then p else finishWork i .ok p) p3

/-- Ports that a duty lane drives: its port, or every port of its port's AFE phase group (05 R166). -/
def dutyPorts (p : Pkg) (x : Lane) : List Nat :=
  let n := x.cfg.cluster
  if (clAt p n).cfg.type = .afe then (groups p n).getD (groupOf p n x.cfg.outIdx) [] else [x.cfg.outIdx]

/-- The duty lane of a SHED phase is HELD: none of the ports it drives switches (05 R174). -/
def laneHeld (x : Lane) (p : Pkg) : Bool :=
  x.cfg.out == .duty && !x.cfg.slow && !(dutyPorts p x).any (portLive p)

/-- A preset to u0 with the inputs f and c (05 R173). -/
def presetTo (a : Coefs) (u0 f c : Int) (y : LaneRun) : LaneRun :=
  let n := fun (v : Int) => sat40 (rnd 30 v)
  let v0 := sat40 (u0 - f - c)
  let t2 := n ((a.a2 + a.a3) * v0.1)
  let t3 := n (a.a3 * v0.1)
  { y with s1 := v0.1, s2 := t2.1, s3 := t3.1, u := u0, preset := none, preNow := true, sat := false
           asatNow := y.asatNow || v0.2 || t2.2 || t3.2 }

/-- Orders 4 to 8 of 05 R169 on e, with the inputs f and c and the clamps (05 R168, R169, R171). -/
def lawStep (x : Lane) (e f c lo hi : Int) (y : LaneRun) : LaneRun :=
  let a := x.run.act
  let n := fun (v : Int) => sat40 (rnd 30 v)
  let v := n (a.b0 * e + x.run.s1 * 2 ^ 30)
  let w := v.1 + f + c
  let u := clampI lo hi w
  let fb := if x.cfg.aw then sat40 (u - f - c) else (v.1, false)
  let b3 := if x.cfg.order3 then a.b3 else 0
  let a3 := if x.cfg.order3 then a.a3 else 0
  let t1 := n (a.b1 * e + a.a1 * fb.1 + x.run.s2 * 2 ^ 30)
  let t2 := n (a.b2 * e + a.a2 * fb.1 + x.run.s3 * 2 ^ 30)
  let t3 := n (b3 * e + a3 * fb.1)
  { y with s1 := t1.1, s2 := t2.1, s3 := t3.1, u := u, sat := u != w
           satNow := if u != w then inc8 y.satNow else y.satNow
           asatNow := y.asatNow || v.2 || fb.2 || t1.2 || t2.2 || t3.2 }

/-- One execution of a lane: orders 1 to 8 of 05 R169; a preset takes the place of orders 4 to 8 (05 R173). The clamp is
reduced by a derating from the execution after the one that takes it (05 R185). -/
def execLane (l : Nat) (p0 : Pkg) : Pkg :=
  let x := laneAt p0 l
  let (r, p1) := laneRef x p0
  let (y, p2) := laneMeas x p1
  let e := sat40 (r.1 - y.1)
  let p3 := followErr l e.1 p2
  let (ff, p4) := laneFf x p3
  let c := laneCorr x p4
  let (lo, hi) := laneClamp x p4
  let p5 := updLane l (fun x' =>
    let run := { x'.run with e := e.1, ffGuard := ff.guard, held := false
                             asatNow := x'.run.asatNow || r.2 || y.2 || e.2 || ff.sat }
    { x' with run := match x.run.preset with
                | some u0 => presetTo x.run.act u0 ff.f c run
                | none => lawStep x e.1 ff.f c lo hi run
              rc := { x'.rc with eSum := x'.rc.eSum + e.1, eN := x'.rc.eN + 1 } }) p4
  if !x.run.asatNow && (laneAt p5 l).run.asatNow then ceEvt (fun v => { v with asat := true }) p5 else p5

/-- A lane in a fast cycle: swap, then HELD or an execution (05 R169, R174, R177). -/
def fastLane (l : Nat) (p : Pkg) : Pkg :=
  let p1 := doSwap l p
  if laneHeld (laneAt p1 l) p1 then updLane l (fun x => { x with run := { x.run with held := true } }) p1 else execLane l p1

/-- Clocks a lane costs (05 R186). -/
def laneCost (x : Lane) : Nat :=
  (if x.cfg.order3 then 4 else 3) + (if x.cfg.rc then 2 else 0) + (if x.cfg.ffKind = .ratio then 2 else 0)

/-- Clocks a cluster costs (05 R186). -/
def clusterCost (p : Pkg) (n : Nat) : Nat := 12 + sumN ((lanesOf p n).map (fun l => laneCost (laneAt p l)))

/-- The lanes of a cluster run in ascending order (05 R163); PEAK keeps the most clocks used (05 R191). -/
def runLanes (n : Nat) (p : Pkg) : Pkg :=
  let p1 := (lanesOf p n).foldl (fun p l => fastLane l p) p
  { p1 with ce := { p1.ce with peak := max p1.ce.peak (clusterCost p1 n) } }

/-- Swaps of a cluster's lanes in a fast cycle in which the lanes do not run (05 R177). -/
def swapLanes (n : Nat) (p : Pkg) : Pkg := (lanesOf p n).foldl (fun p l => doSwap l p) p

/-- SLOW_LANE_EXECUTION of the boundary: a lane whose source is invalid does not execute, and keeps its output, its
state and a swap that waits; the engine stops at the warn crossing (05 R162, R177, 16 R506, 20 R606). -/
def runSlow (p : Pkg) : Pkg :=
  (if p.sup.warn then [] else slowLanes p).foldl (fun p l =>
    let x := laneAt p l
    let p2 := if (p.lsw.src.getD x.cfg.fb {}).valid then execLane l (doSwap l p) else p
    if x.cfg.out = .actuator then driveActuator x.cfg.outIdx (laneAt p2 l).run.u p2 else p2) p

/-- Per-cycle counts of every lane at a boundary (05 R191). -/
def laneCycle (p : Pkg) : Pkg :=
  let f := fun x : Lane => { x with run := { x.run with asat := x.run.asatNow, asatNow := false, preLast := x.run.preNow
                                                        preNow := false, satCnt := x.run.satNow, satNow := 0 } }
  { p with ce := { p.ce with lane := p.ce.lane.map f } }

/-- Lanes of a cluster are preset at the start of RAMP (05 R173). -/
def presetStart (n : Nat) (duty : Nat → Nat) (p : Pkg) : Pkg :=
  let period := (clAt p n).cfg.period
  (lanesOf p n).foldl (fun p l => updLane l (fun x =>
    let u := match x.cfg.out with
      | .duty => if period = 0 then some 0 else some (rdiv ((duty x.cfg.outIdx : Int) * 2 ^ 40) period)
      | .ref => some 0
      | _ => x.run.preset
    { x with run := { x.run with preset := u } }) p) p

/-- The duty lanes of a returning phase are preset (05 R173). -/
def presetPhase (n : Nat) (ph : List Nat) (duty : Nat) (p : Pkg) : Pkg :=
  let period := (clAt p n).cfg.period
  if period = 0 then p
  else (lanesOf p n).foldl (fun p l => updLane l (fun x =>
    if x.cfg.out = .duty ∧ (dutyPorts p x).any ph.contains then
      { x with run := { x.run with preset := some (rdiv ((duty : Int) * 2 ^ 40) period) } } else x) p) p

/-- The supervisory mirror carries the following-error counts (05 R184). -/
def mirrorFe (p : Pkg) : Pkg :=
  { p with ce := { p.ce with lane := p.ce.lane.map (fun x => { x with run := { x.run with feMir := x.run.feCnt } }) } }

/-- After a switchover the following-error counts resume from the mirrored values (05 R184). -/
def resumeFe (p : Pkg) : Pkg :=
  { p with ce := { p.ce with lane := p.ce.lane.map (fun x => { x with run := { x.run with feCnt := x.run.feMir } }) } }

/-- Following-error counts are cleared on entry to REGULATE (05 R184). -/
def clearFe (n : Nat) (p : Pkg) : Pkg :=
  (lanesOf p n).foldl (fun p l => updLane l (fun x => { x with run := { x.run with feCnt := 0 } }) p) p

/-! ### Repetitive control (05 R179 to R182) -/

/-- N is valid (05 R180). -/
def nValid (n : Nat) : Bool := inR 100 256 n

/-- The learning memory of a lane. -/
def rcmOf (p : Pkg) (x : Lane) : RcMem := p.ce.rcm.getD x.cfg.slot {}

/-- Change a learning memory. -/
def updRcm (k : Nat) (f : RcMem → RcMem) (p : Pkg) : Pkg := { p with ce := { p.ce with rcm := upd p.ce.rcm k f } }

/-- The learning law for entry i, Q8.24 (05 R181). -/
def learnEntry (w : LaneRw) (m : RcMem) (eD : Int) : Int :=
  let n := m.n
  let g := fun k => m.mem.getD (k % n) 0
  let i := m.index
  let q : Int := w.qfilt
  let a := w.forget_ * (q * g (i + n - 1) + (256 - 2 * q) * g i + q * g (i + 1)) * 2 ^ 8
  clampI (-w.rcClamp) w.rcClamp (rnd 46 (a + w.gain * eD))

/-- The end of a learning step: entry i is updated, then the next step's index and correction (05 R181, R182; log 27). -/
def rcStep (l : Nat) (p : Pkg) : Pkg :=
  let x := laneAt p l
  if !(x.cfg.used && x.cfg.rc && !x.cfg.slow) then p
  else
    let k := x.cfg.slot
    let p1 := if x.rc.clear then updRcm k (fun m => { m with mem := List.replicate 256 0 }) p else p
    let m := rcmOf p1 x
    let on := x.rc.st == .learn || x.rc.st == .hold
    let act := (clAt p1 x.cfg.cluster).run.st == .regulate && nValid m.n
    let p2 := if act && x.rc.st == .learn && x.rc.eN != 0 then
      updRcm k (fun m => { m with mem := upd m.mem m.index (fun _ => learnEntry x.rw m (rdiv x.rc.eSum x.rc.eN)) }) p1 else p1
    let p3 := if x.rc.st != .coast then
      updRcm k (fun m => { m with index := min (m.index + 1) (if nValid m.n then m.n - 1 else 511) }) p2 else p2
    let m3 := rcmOf p3 x
    let c := if nValid m3.n then m3.mem.getD ((m3.index + x.rw.lead) % m3.n) 0 else x.rc.c
    updLane l (fun x => { x with rc := { x.rc with clear := false, eSum := 0, eN := 0, c := c
                                                   fade := if on then min (x.rc.fade + 1) 200 else x.rc.fade - 1 } }) p3

/-- RC_LEARNING_STEP (05 R181). -/
def execRcLearningStep (l : Fin 128) (s : State) : Out := run1 (rcStep l.val) s

/-- The phase whose crossings a lane follows (05 R180). -/
def rcPhase (p : Pkg) (x : Lane) : PhaseTrk := (p.mtr.meter.getD (4 + x.cfg.zcSrc / 3) {}).ph.getD (x.cfg.zcSrc % 3) {}

/-- A deadline in site time falls before the next boundary (log 4). -/
def dueSite (p : Pkg) (d : Nat) : Bool := d < p.tim.now + (1000000 - p.tim.now % 1000000)

/-- No positive crossing for 40 ms, or N out of range (05 R182). -/
def rcCoast (l : Nat) (p : Pkg) : Pkg :=
  let x := laneAt p l
  let ph := rcPhase p x
  let lostZc : Bool := match ph.seen with
    | none => true
    | some t => due p (t + 40000000)
  if (x.rc.st = .learn ∨ x.rc.st = .hold) ∧ (lostZc ∨ !nValid (rcmOf p x).n) then
    ceEvt (fun v => { v with rcCoast := true }) (updLane l (fun x => { x with rc := { x.rc with st := .coast, good := 0 } }) p)
  else p

/-- RC_COAST (05 R182). -/
def execRcCoast (l : Fin 128) (s : State) : Out := run1 (rcCoast l.val) s

/-- Two consecutive crossings with N valid (05 R182). -/
def rcResume (l : Nat) (p : Pkg) : Pkg :=
  let x := laneAt p l
  if x.rc.st = .coast ∧ x.rc.good ≥ 2 ∧ (x.rc.req = .learn ∨ x.rc.req = .hold) then
    updRcm x.cfg.slot (fun m => { m with index := 0 }) (updLane l (fun x => { x with rc := { x.rc with st := x.rc.req } }) p)
  else p

/-- RC_RESUME (05 R182). -/
def execRcResume (l : Fin 128) (s : State) : Out := run1 (rcResume l.val) s

/-! ### Commands (05 R190) -/

/-- The coefficient set of a CE_COEF_STAGE payload (05 R190). -/
def parseCoefs (d : List Byte) : Coefs :=
  { b0 := sle d 4 4, b1 := sle d 8 4, b2 := sle d 12 4, b3 := sle d 16 4, a1 := sle d 20 4, a2 := sle d 24 4, a3 := sle d 28 4
    ff := sle d 32 4 }

/-- CE_COEF_STAGE's checks (05 R176, R190). -/
def specCeCoefStage : OpSpec :=
  { op := 0x0301, lenOk := (·.length == 36), role := needOpr, modes := notRetired
    params := fun p d => inR 0 127 (u8 d 0) && zeros d 1 3 && (laneAt p (u8 d 0)).cfg.used &&
      coefsOk (laneAt p (u8 d 0)) (parseCoefs d) }

/-- CE_COEF_STAGE: the command's checks (05 R176). -/
def execCeCoefStage (ep : Fin 3) (slot : Fin 64) (s : State) : Out :=
  run1 (submit specCeCoefStage true (slotIx ep slot) noAns) s

/-- CE_COEF_STAGE applied (05 R175). -/
def applyStage (d : List Byte) (p : Pkg) : Pkg :=
  updLane (u8 d 0) (fun x => { x with rw := { x.rw with staged := parseCoefs d } }) p

/-- Used lanes of a LANE_MASK (05 R190). -/
def maskLanes (p : Pkg) (d : List Byte) : List Nat :=
  (List.range 128).filter (fun l => tb (le d 0 16) l && (laneAt p l).cfg.used)

/-- CE_COEF_SWAP's checks (05 R190). -/
def specCeCoefSwap : OpSpec :=
  { op := 0x0302, lenOk := (·.length == 20), role := needOpr, modes := notRetired
    params := fun p d => !(maskLanes p d).isEmpty && inR 0 1 (u8 d 16) && zeros d 17 3 }

/-- CE_COEF_SWAP: the command's checks (05 R177). -/
def execCeCoefSwap (ep : Fin 3) (slot : Fin 64) (s : State) : Out :=
  run1 (submit specCeCoefSwap true (slotIx ep slot) noAns) s

/-- CE_COEF_SWAP applied: each lane's staged bank, as it stands, waits for the lane's next execution (05 R177, R178). -/
def applySwap (id : Nat) (d : List Byte) (p : Pkg) : Pkg :=
  let l := maskLanes p d
  if l.isEmpty then finishWork id .ok p
  else
    let p1 := l.foldl (fun p k => updLane k (fun x => { x with run := { x.run with swap := some (u8 d 16 == 1, x.rw.staged) } }) p) p
    runWork id { p1 with ce := { p1.ce with swapWork := p1.ce.swapWork ++ l.map (fun k => (k, id)) } }

/-- RC_CONTROL's checks (05 R190). -/
def specRcControl : OpSpec :=
  { op := 0x0303, lenOk := (·.length == 12), role := needOpr, modes := notRetired
    params := fun p d =>
      let x := laneAt p (u8 d 0)
      let g := u32 d 4
      let f := u32 d 8
      inR 0 127 (u8 d 0) && x.cfg.used && x.cfg.rc && inR 0 4 (u8 d 1) && (inR 0 31 (u8 d 2) || u8 d 2 == 0xFF) &&
        (inR 0 64 (u8 d 3) || u8 d 3 == 0xFF) && (inR 1 0x40000000 g || g == 0xFFFFFFFF) &&
        (inR 966367642 0x40000000 f || f == 0xFFFFFFFF) }

/-- RC_CONTROL: the command's checks (05 R182). -/
def execRcControl (ep : Fin 3) (slot : Fin 64) (s : State) : Out :=
  run1 (submit specRcControl true (slotIx ep slot) noAns) s

/-- The state machine of 05 R182 on RC_CONTROL. -/
def rcRequest (valid : Bool) (a : Nat) (r : LaneRc) : LaneRc :=
  let want := if a = 1 then RcState.learn else .hold
  if a = 1 ∨ a = 2 then
    match r.st with
    | .off => if valid then { r with st := want, req := want } else { r with st := .coast, req := want, good := 0 }
    | .coast => { r with req := want }
    | _ => { r with st := want, req := want }
  else if a = 3 then { r with clear := true }
  else if a = 4 then { r with st := .off, req := .off }
  else r

/-- RC_CONTROL applied (05 R182, R190). -/
def applyRc (d : List Byte) (p : Pkg) : Pkg :=
  updLane (u8 d 0) (fun x =>
    { x with rc := rcRequest (nValid (rcmOf p x).n) (u8 d 1) x.rc
             rw := { x.rw with lead := if u8 d 2 = 0xFF then x.rw.lead else u8 d 2
                               qfilt := if u8 d 3 = 0xFF then x.rw.qfilt else u8 d 3
                               gain := if u32 d 4 = 0xFFFFFFFF then x.rw.gain else sle d 4 4
                               forget_ := if u32 d 8 = 0xFFFFFFFF then x.rw.forget_ else sle d 8 4 } }) p

end Sys2Proof.Machine
end

