-- ==== Sys2Proof/Machine/PowerPath.lean ====
section
/-!
DEFINITION. Power paths (04 R120 to R160): the cluster state machine, carriers and synchronisation, phase shedding and
adding, region limits, captures and their commands. The fast cycle itself is in FastCycle.
-/

namespace Sys2Proof.Machine

/-! ### Ticks (04 R123, R136) -/

/-- Fine ticks in a millisecond. -/
def ticksMs : Nat := 12800000

/-- Fine ticks of the 1,200 ns from a sample instant to the first update point that may use its duty (04 R138). -/
def settleTicks : Nat := 15360

/-- Site time in fine ticks (04 R129). -/
def siteTicks (p : Pkg) : Nat := p.tim.now * 64 / 5

/-- Fine ticks between fast cycles of a cluster (04 R136). -/
def fastTicks (c : ClusterCfg) : Nat := if c.fcDiv = 0 then c.period / 2 else c.fcDiv * c.period

/-! ### START to RAMP (04 R142, R143) -/

/-- The guard of START in OFF: the cause of a refusal (04 R142). -/
def startCause (p : Pkg) (n : Nat) : Option Nat :=
  if (availPhases p n).length < (clAt p n).rw.minPh then some 3
  else if (stPorts p n).any (fun q => !portAvail p q) then some 6
  else if (fusedPorts p n).any (fun q => !portAvail p q) then some 9
  else none

/-- START reaches a cluster in OFF: refused with a cause, or PREBIAS with every switching ENABLE low; an AFE cluster's
bypass closes after its pre-charge (04 R142, 02 R65; log 22). -/
def clusterStart (n : Nat) (p : Pkg) : Pkg :=
  let c := clAt p n
  if !c.run.startPend ∨ c.run.st ≠ .off ∨ c.cfg.type = .unused then p
  else
    let p0 := updRun n (fun r => { r with startPend := false }) p
    match startCause p n with
    | some k => startFailed n (updRun n (fun r => { r with cause := k }) p0)
    | none =>
      let p1 := enablesLow n (endForces n p0)
      let p2 := if c.cfg.type = .afe ∧ r79 p1 n then driveStatic n .bypass true (driveStatic n .precharge true p1) else p1
      goSt n .prebias (updRun n (fun r =>
        { r with cause := 0, cold := false, measuring := false, meas := [], droop := 0, watch := false, isoPend := false
                 matchTk := none, below5 := false, settle := none
                 target := if c.cfg.type = .afe then c.cfg.setpoint else r.target }) p2)

/-- CLUSTER_START (04 R142). -/
def execClusterStart (c : Fin 8) (s : State) : Out := run1 (clusterStart c.val) s

/-- The wait in PREBIAS is over: 02 R79 holds, and every AFE cluster feeding a DC/DC cluster's link regulates (04 R142). -/
def measureStart (n : Nat) (p : Pkg) : Pkg :=
  let c := clAt p n
  let fed := c.cfg.type != .dcdc || (feeders p c.cfg.link).all (fun k => (clAt p k).run.st == .regulate)
  if c.run.st = .prebias ∧ !c.run.measuring ∧ r79 p n ∧ fed then
    updRun n (fun r => { r with measuring := true, meas := [] }) p
  else p

/-- PREBIAS_MEASURE_START (04 R142). -/
def execPrebiasMeasureStart (c : Fin 8) (s : State) : Out := run1 (measureStart c.val) s

/-- A start ended in PREBIAS without FAULTED (04 R142). -/
def abortStart (n cause : Nat) (p : Pkg) : Pkg := startFailed n (clusterOff n cause p)

/-- A cluster's share of its region's current cap, in µA: in proportion to the available ratings of the region's DC/DC
clusters (04 R157). -/
def capShare (p : Pkg) (n : Nat) : Nat :=
  let r := (clAt p n).cfg.region
  let tot := sumN ((dcdcOf p r).map (availRating p))
  if tot = 0 then 0 else (rgAt p r).icap * 100000 * availRating p n / tot

/-- The current clamp of a DC/DC cluster that runs: its share of the cap, and no more than PRECHG_ILIM from PREBIAS to
MATCH (04 R157, R161). -/
def shareClamp (p : Pkg) (n : Nat) : Nat :=
  let c := clAt p n
  if c.run.st = .regulate then capShare p n else min (c.cfg.prechg * 100000) (capShare p n)

/-- First duty of a port (04 R143). -/
def firstDuty (p : Pkg) (n q : Nat) (warm : Bool) (vpre8 : Int) (grid : List Int) : Nat :=
  let c := (clAt p n).cfg
  let d := clampI c.dmin c.dmax
  if !warm then c.dmin
  else if c.type = .dcdc then (d (vpre8 * c.period / (8 * (clAt p n).dyn.vin))).toNat
  else (d ((vpre8 + 16 * grid.getD (groupOf p n q) 0) * c.period / (2 * vpre8))).toNat

/-- The 8 measuring cycles end: the start is aborted, or the cluster enters RAMP warm or cold (04 R142, R143, 05 R173). -/
def measured (n : Nat) (grid : List Int) (p : Pkg) : Pkg :=
  let c := clAt p n
  if c.run.st ≠ .prebias ∨ !c.run.measuring ∨ c.run.meas.length < 8 then p
  else
    let s := sumI (c.run.meas.take 8)
    let warm := decide (s * 5 ≥ 8 * c.cfg.vRated)
    let lost := (p.mtr.meter.getD (4 + c.cfg.acMeter) {}).ph.any (·.lost)
    let p0 := updRun n (fun r => { r with vpre := (s / 80).toNat }) p
    if warm && c.cfg.type == .dcdc && decide (c.dyn.vin * 5 ≤ c.cfg.vRated) then abortStart n 0x0B p0
    else if warm && c.cfg.type == .afe && lost then abortStart n 0x0C p0
    else
      let duty := fun q => firstDuty p n q warm s grid
      let p1 := (availPhases p n).foldl (fun p l => l.foldl (fun p q => updPt q (fun r =>
        { r with st := .active, enPend := some true, enAt := c.dyn.sAt, raw := duty q, duty := duty q
                 shadow := some (duty q), shadowAt := c.dyn.sAt, trim := 0, trimSat := false, revLeft := 0, periods := 0 }) p) p) p0
      let ref : Int := if warm then s * 1000000 else 0
      presetStart n duty (goSt n .ramp (updRun n (fun r =>
        { r with measuring := false, cold := !warm, watch := decide (0 < s)
                 revStart := c.cfg.type == .dcdc, enTicks := 0, ref := ref, refStart := ref, matchTk := none
                 clamp := if c.cfg.type = .dcdc then shareClamp p1 n else c.cfg.prechg * 100000 }) p1))

/-- PREBIAS_MEASUREMENT_COMPLETE (04 R143). -/
def execPrebiasMeasurementComplete (c : Fin 8) (grid : List Int) (s : State) : Out := run1 (measured c.val grid) s

/-- An AFE cluster that a waiting DC/DC cluster needs has been refused START or has faulted (04 R142). -/
def feederFailed (p : Pkg) (n : Nat) : Bool :=
  (feeders p (clAt p n).cfg.link).any (fun k =>
    let r := (clAt p k).run
    r.st == .faulted || (r.st == .off && r.cause != 0 && !r.startPend))

/-- A DC/DC cluster that waits in PREBIAS ends its start with CAUSE 0x0A (04 R142). -/
def afeFailed1 (n : Nat) (p : Pkg) : Pkg :=
  let c := clAt p n
  if c.cfg.type = .dcdc ∧ c.run.st = .prebias ∧ !c.run.measuring ∧ feederFailed p n then abortStart n 0x0A p else p

/-- AFE_START_FAILED: named by the waiting cluster, or by the AFE cluster it waits for (04 R142). -/
def afeStartFailed (n : Nat) (p : Pkg) : Pkg :=
  if (clAt p n).cfg.type = .afe then
    (idxs (fun c : Cluster => c.cfg.type == .dcdc && c.cfg.link == (clAt p n).cfg.link) p.pwr.cl).foldl (fun p k => afeFailed1 k p) p
  else afeFailed1 n p

/-- AFE_START_FAILED (04 R142). -/
def execAfeStartFailed (c : Fin 8) (s : State) : Out := run1 (afeStartFailed c.val) s

/-! ### MATCH, REGULATE and the stop (04 R142, R147, R148) -/

/-- The cluster enters REGULATE (04 R142, 05 R184). -/
def toRegulate (n : Nat) (p : Pkg) : Pkg :=
  let c := clAt p n
  let tgt := if c.cfg.type = .afe then c.cfg.setpoint else (vrAt p c.cfg.region).cmdTgt
  clearFe n (goSt n .regulate (updRun n (fun r => { r with settle := none, isoPend := false, target := tgt }) p))

/-- Cluster and outlet voltages have matched for 1 ms (04 R147). -/
def matchHeld (n : Nat) (p : Pkg) : Pkg :=
  updRun n (fun r => if r.st = .match_ ∧ r.matchTk.getD 0 ≥ ticksMs ∧ !r.isoOn then { r with isoPend := true } else r) p

/-- MATCH_CONDITION_HELD (04 R147). -/
def execMatchConditionHeld (c : Fin 8) (s : State) : Out := run1 (matchHeld c.val) s

/-- The isolator closes at the boundary at which the condition has held for 1 ms, and ISO_SETTLE begins (04 R142, R147). -/
def closeIsolator (n : Nat) (p : Pkg) : Pkg :=
  let c := clAt p n
  if c.run.st = .match_ ∧ c.run.isoPend ∧ c.run.matchTk.any (· ≥ ticksMs) then
    driveStatic n .isolator true (updRun n (fun r =>
      { r with isoPend := false, isoOn := true, settle := some (p.clk + c.cfg.isoSettle * 1000000) }) p)
  else p

/-- 100 ms in MATCH (04 R142). -/
def matchTimeout (n : Nat) (p : Pkg) : Pkg :=
  let c := clAt p n
  if c.run.st = .match_ ∧ due p (c.run.since + 100000000) then abortStart n 2 p else p

/-- MATCH_TIMEOUT (04 R142). -/
def execMatchTimeout (c : Fin 8) (s : State) : Out := run1 (matchTimeout c.val) s

/-- ISO_SETTLE elapses (04 R142). -/
def isoSettled (n : Nat) (p : Pkg) : Pkg :=
  let c := clAt p n
  if c.run.st = .match_ ∧ c.run.isoOn ∧ dueO p c.run.settle then toRegulate n p else p

/-- ISO_SETTLE_EXPIRY (04 R142). -/
def execIsoSettleExpiry (c : Fin 8) (s : State) : Out := run1 (isoSettled c.val) s

/-- Present magnitude that an AFE cluster's ramp-down starts from; a DC/DC cluster's is its present clamp (04 R148). -/
def rampClamp (c : Cluster) : Nat :=
  if c.cfg.type = .afe then min c.run.clamp (c.dyn.load.natAbs * 1000) else c.run.clamp

/-- STOP reaches a cluster (04 R142, R148). -/
def clusterStop (n : Nat) (p : Pkg) : Pkg :=
  let c := clAt p n
  if !c.run.stopPend then p
  else
    let p1 := updRun n (fun r => { r with stopPend := false, startPend := false }) p
    match c.run.st with
    | .prebias => closingDone c.cfg.region (clusterOff n 0 p1)
    | .ramp | .match_ | .regulate =>
      goSt n .rampDown (updRun n (fun r =>
        { r with clamp := rampClamp c, clamp0 := rampClamp c, below5 := false, isoPend := false, watch := false
                 revStart := false, refStart := c.dyn.vout * 8000000 }) p1)
    | _ => p1

/-- CLUSTER_STOP (04 R142). -/
def execClusterStop (c : Fin 8) (s : State) : Out := run1 (clusterStop c.val) s

/-- The ramp-down ends: the isolator opens once the current is below 5 A, then the ports are disabled; an AFE cluster's
ports are disabled once its clamp is zero (04 R148). -/
def rampDownDone (n : Nat) (p : Pkg) : Pkg :=
  let c := clAt p n
  let fin := if c.cfg.type = .afe then c.run.clamp == 0 else c.run.below5
  if c.run.st = .rampDown ∧ fin then
    let p1 := clusterOff n 0 p
    if c.cfg.type = .dcdc then closingDone c.cfg.region p1 else p1
  else p

/-- RAMP_DOWN_COMPLETE (04 R148). -/
def execRampDownComplete (c : Fin 8) (s : State) : Out := run1 (rampDownDone c.val) s

/-- FAULTED for 1 s, no port LATCHED, not in SAFE_STOP (04 R142). -/
def faultedRecovery (n : Nat) (p : Pkg) : Pkg :=
  let c := clAt p n
  if c.run.st = .faulted ∧ p.sys.mode ≠ .safeStop ∧ (fusedPorts p n).all (portAvail p) ∧ due p (c.run.since + 1000000000) then
    endDerate n (goSt n .off p)
  else p

/-- FAULTED_RECOVERY (04 R142). -/
def execFaultedRecovery (c : Fin 8) (s : State) : Out := run1 (faultedRecovery c.val) s

/-- The start's reverse-current block ends after the reference has moved 1 % of V_pre or after 20 ms (04 R144). -/
def reverseEnd (n : Nat) (p : Pkg) : Pkg :=
  updRun n (fun r =>
    if r.revStart ∧ ((r.ref - r.refStart).natAbs * 100 ≥ r.vpre * 80000000 ∨ r.enTicks ≥ 20 * ticksMs) then
      { r with revStart := false } else r) p

/-- REVERSE_BLOCK_END (04 R144). -/
def execReverseBlockEnd (c : Fin 8) (s : State) : Out := run1 (reverseEnd c.val) s

/-! ### Shedding and adding (04 R150 to R154) -/


/-- Change every port of a phase. -/
def updPhase (l : List Nat) (f : PortRun → PortRun) (p : Pkg) : Pkg := l.foldl (fun p q => updPt q f p) p

/-- Mean untrimmed duty of the ACTIVE phases, over the ports of one phase group (04 R152). -/
def meanDuty (p : Pkg) (n g : Nat) : Nat :=
  let l := ((availPhases p n).filter (fun l => phaseSt p l == .active)).flatten.filter (fun q => groupOf p n q == g)
  if l.isEmpty then (clAt p n).cfg.dmin
  else (rdiv ((sumN (l.map (fun q => (ptAt p q).run.raw)) : Nat) : Int) l.length).toNat

/-- A phase becomes RETURNING on a decision of an instant in fine ticks; its shadow takes the mean duty where the cycle
writes duties (04 R139, R152, 05 R173). -/
def startReturn (n t : Nat) (write : Bool) (l : List Nat) (p : Pkg) : Pkg :=
  l.foldl (fun p' q =>
    let d := meanDuty p n (groupOf p n q)
    presetPhase n [q] d (updPt q (fun r =>
      { r with st := .returning, periods := 0, lowI := false, revLeft := 4, enPend := some true, enAt := t, raw := d
               duty := if write then d else r.duty, shadow := if write then some d else r.shadow
               shadowAt := if write then t else r.shadowAt, trim := 0, trimSat := false }) p')) p

/-- A phase becomes SHEDDING (04 R151). -/
def startShed (l : List Nat) (p : Pkg) : Pkg := updPhase l (fun r => { r with st := .shedding, periods := 0, lowI := false }) p

/-- A SHEDDING phase's current has fallen below 2 % of I_PH, or 32 periods have passed (04 R151). -/
def shedDone (q : Nat) (p : Pkg) : Pkg :=
  match phaseOf p q with
  | none => p
  | some (_, l) =>
    let r := (ptAt p q).run
    if r.st = .shedding ∧ (l.all (fun q => (ptAt p q).run.lowI) ∨ r.periods ≥ 32) then
      updPhase l (fun r => { r with st := .shed, enPend := some false, trim := 0, trimSat := false }) p
    else p

/-- PHASE_SHED_COMPLETE (04 R151). -/
def execPhaseShedComplete (p : Fin 96) (s : State) : Out := run1 (shedDone p.val) s

/-- A RETURNING phase has run 4 periods (04 R152). -/
def returnDone (q : Nat) (p : Pkg) : Pkg :=
  match phaseOf p q with
  | none => p
  | some (_, l) =>
    let r := (ptAt p q).run
    if r.st = .returning ∧ r.periods ≥ 4 then updPhase l (fun r => { r with st := .active }) p else p

/-- PHASE_RETURN_COMPLETE (04 R152). -/
def execPhaseReturnComplete (p : Fin 96) (s : State) : Out := run1 (returnDone p.val) s

/-- HOLD has passed since the most recent load step (04 R154). -/
def freezeEnd (n : Nat) (p : Pkg) : Pkg :=
  updDyn n (fun d => if d.frozen ∧ dueO p d.holdEnd then { d with frozen := false, holdEnd := none, dwellN := 0 } else d) p

/-- FREEZE_HOLD_EXPIRY (04 R154). -/
def execFreezeHoldExpiry (c : Fin 8) (s : State) : Out := run1 (freezeEnd c.val) s

/-- Place of a phase in the shed order, if it is listed (04 R150). -/
def orderOf (p : Pkg) (n : Nat) (l : List Nat) : Option Nat := ((clAt p n).cfg.order.findIdx? (fun q => l.contains q))

/-- The SHED phase to be added next: unlisted ones ascending, then listed ones in reverse shed order (04 R150). -/
def nextAdd (p : Pkg) (n : Nat) : Option (List Nat) :=
  let shed := (availPhases p n).filter (fun l => phaseSt p l == .shed)
  match shed.find? (fun l => (orderOf p n l).isNone) with
  | some l => some l
  | none => (clAt p n).cfg.order.reverse.findSome? (fun q => shed.find? (fun l => l.contains q))

/-- The ACTIVE phase to be shed next, in shed order (04 R150). -/
def nextShed (p : Pkg) (n : Nat) : Option (List Nat) :=
  let act := (availPhases p n).filter (fun l => phaseSt p l == .active)
  (clAt p n).cfg.order.findSome? (fun q => act.find? (fun l => l.contains q))

/-- ACTIVE phases of a cluster, n of 04 R150. -/
def activeCount (p : Pkg) (n : Nat) : Nat := ((availPhases p n).filter (fun l => phaseSt p l == .active)).length

/-- Load of a cluster in mA averaged over the supervisory cycle (04 R149). -/
def meanLoad (p : Pkg) (n : Nat) : Rat := ((clAt p n).dyn.loadSum : Rat) / (clAt p n).dyn.loadN

/-- How long the load has been below the shed level with the present count of ACTIVE phases (04 R150, R154). -/
def dwellTick (n : Nat) (p : Pkg) : Pkg :=
  let c := clAt p n
  let act := activeCount p n
  let below := decide (meanLoad p n < ((act : Rat) - 1) * c.rw.shedLvl * c.cfg.iPh)
  updDyn n (fun d =>
    if c.run.st ≠ .regulate then { d with dwellN := 0, dwellOf := 0 }
    else if d.loadN = 0 then d
    else { d with dwellN := if !below then 0 else if d.dwellOf = act then min 65535 (d.dwellN + 1) else 1, dwellOf := act }) p

/-- PHASE_SHED_DECISION of the boundary (04 R150). -/
def phaseDecide (n : Nat) (p0 : Pkg) : Pkg :=
  let p := dwellTick n p0
  let c := clAt p n
  if !c.rw.shedEn ∨ c.run.st ≠ .regulate ∨ c.dyn.loadN = 0 then p
  else
    let act := activeCount p n
    let step := clEvt n (fun e => { e with shedStep := true })
    match (if meanLoad p n > act * c.rw.addLvl * (c.cfg.iPh : Rat) then nextAdd p n else none) with
    | some l => step (startReturn n (siteTicks p) true l p)
    | none =>
      let busy := (availPhases p n).any (fun l => phaseSt p l == .shedding || phaseSt p l == .returning)
      match nextShed p n with
      | none => p
      | some l =>
        if act ≤ c.rw.minPh ∨ busy ∨ c.dyn.frozen ∨ c.dyn.dwellN < c.rw.dwell ∨ c.dyn.dwellN = 0 then p
        else step (startShed l p)

/-! ### Carriers and synchronisation (04 R125, R128 to R132) -/

/-- The shorter way round the period; exactly half is made by lengthening (04 R130). -/
def shortWay (period : Nat) (d : Int) : Int :=
  if period = 0 then 0
  else
    let m := d % period
    if 2 * m ≤ period then m else m - period

/-- LOCKED: every carrier start lies within ±5 ns, 64 fine ticks, of its due instant (04 R130). -/
def lockCheck (n : Nat) (p : Pkg) : Pkg :=
  updDyn n (fun x => { x with locked := (swPorts p n).all (fun q => (ptAt p q).run.shift.natAbs ≤ 64) }) p

/-- Every carrier of a cluster is to be shifted (04 R130). -/
def shiftCluster (n : Nat) (d : Int) (p : Pkg) : Pkg :=
  let period := (clAt p n).cfg.period
  lockCheck n ((swPorts p n).foldl (fun p q => updPt q (fun r => { r with shift := shortWay period (r.shift + d) }) p) p)

/-- A time step moves the due instants of the clusters that follow TIME; for those that follow SYNC_IN, the edge they
follow has moved in the counter's time (04 R130; called by 19 R565). -/
def timeShift (delta : Int) (p : Pkg) : Pkg :=
  let d := rdiv (delta * 64) 5
  (List.range 8).foldl (fun p n =>
    let p1 := updDyn n (fun x => { x with lastEdge := x.lastEdge.map (fun t => ((t : Int) + d).toNat) }) p
    if (clAt p n).cfg.type = .unused ∨ (clAt p n).dyn.srcSync then p1 else shiftCluster n (-d) p1) p

/-- The fast-cycle point that a carrier start or mid-point of the position-0 port is (04 R136). -/
def fastPoint (mid : Bool) (c : Cluster) : ClusterDyn :=
  if mid then { c.dyn with fcDue := c.dyn.fcDue || c.cfg.fcDiv == 0 }
  else if c.dyn.fcCount + 1 ≥ max c.cfg.fcDiv 1 then { c.dyn with fcCount := 0, fcDue := true }
  else { c.dyn with fcCount := c.dyn.fcCount + 1 }

/-- A raw sample with the channel's offset and gain applied, in mV or mA (04 R138; log 103). -/
def fastCal (c : ChanCfg) (raw : Int) : Int := rdiv ((raw - c.offset) * c.gain) 65536

/-- The channels of a port's phase current sample at the port's own point (04 R137). -/
def samplePhase (q : Nat) (raw : Option Int) (p : Pkg) : Pkg :=
  match raw with
  | none => p
  | some v =>
    let own := fun k => (p.pwr.chan.getD k {}).use_ == .phaseI q
    { p with pwr := { p.pwr with raw := mapI (fun k x => if own k then v else x) p.pwr.raw
                                 samples := mapI (fun k x => if own k then fastCal (p.pwr.chan.getD k {}) v else x) p.pwr.samples } }

/-- An update point at least 1,200 ns after the instant of the shadow duty: the duty takes effect (04 R125, R138). -/
def updatePoint (t : Nat) (r : PortRun) : PortRun :=
  if t < r.shadowAt + settleTicks then r
  else { r with inForce := match r.shadow with
                  | some d => some d
                  | none => r.inForce
                shadow := none }

/-- A carrier start of a port whose phase is available or not: a waiting ENABLE change at least 1,200 ns old is made,
the reverse-current block's period ends, the periods of a phase that is shed or returns count from the one in which it
is enabled, and the period is corrected by at most PERIOD ÷ 512 (04 R130, R143, R144, R151, R152, R155). -/
def periodStart (ok : Bool) (lim : Int) (t : Nat) (r : PortRun) : PortRun :=
  let now := match r.enPend with
    | some true => decide (t ≥ r.enAt + settleTicks)
    | some false => true
    | none => false
  let first := now && r.enPend == some true
  let count := !first && !(r.st == .returning && r.enPend.isSome)
  { r with en := if now then r.enPend == some true && ok else if r.revOff then ok && r.st != .shed else r.en
           enPend := if now then none else r.enPend, revOff := false
           revLeft := if count then r.revLeft - 1 else r.revLeft
           periods := if count && (r.st == .shedding || r.st == .returning) then min (r.periods + 1) 63 else r.periods
           shift := r.shift - clampI (-lim) lim r.shift }

/-- A carrier start, or the mid-point, of a port's carrier at an instant in fine ticks; the PWM
engine stops at the warn crossing (04 R124, R125, R136, R137, 20 R606). -/
def carrierStart (q : Nat) (mid : Bool) (t : Nat) (raw : Option Int) (p : Pkg) : Pkg :=
  match clusterOf p q with
  | none => p
  | some n =>
    let c := clAt p n
    if (ptAt p q).cfg.use_ ≠ .switching ∨ c.cfg.type = .unused ∨ p.sup.warn then p
    else
      let p0 := if mid && c.cfg.fcDiv != 0 then p else samplePhase q raw p
      let lim : Int := (c.cfg.period / 512 : Nat)
      let point := fun r => if mid && !c.cfg.centred then r else updatePoint t r
      let p1 := updPt q (fun r => if mid then point r else periodStart (phaseAvail p q) lim t (point r)) p0
      let p2 := lockCheck n (if (swPorts p n).head? = some q then updCl n (fun c => { c with dyn := fastPoint mid c }) p1 else p1)
      linesAt q (if mid then c.cfg.period / 2 else 0) p2

/-- CARRIER_START (04 R125). -/
def execCarrierStart (c : CarrierIn) (s : State) : Out := run1 (carrierStart c.p.val c.mid c.t c.raw) s

/-- Place of an instant in fine ticks in the TIME due sequence of a cluster, less its OFFSET (04 R129; log 104). -/
def duePhase (p : Pkg) (n t : Nat) : Int := (t % 12800000000 % max (clAt p n).cfg.period 1 : Nat)

/-- The carriers move to the due instants of the other source: from TIME to those of the edge just accepted, and from
the last accepted edge back to TIME (04 R129, R131). -/
def changeSource (n : Nat) (sync : Bool) (edge : Nat) (p : Pkg) : Pkg :=
  let d := duePhase p n edge
  shiftCluster n (if sync then d else -d) (updDyn n (fun x => { x with srcSync := sync }) p)

/-- A SYNC_IN edge at an instant in fine ticks: accepted within ±2 % of the period after the previous accepted edge;
the eighth in a row locks, and each further one is a due instant (04 R131). -/
def syncEdge (n t : Nat) (p : Pkg) : Pkg :=
  let c := clAt p n
  if !c.cfg.syncIn ∨ c.cfg.type = .unused ∨ !awake p then p
  else
    let per := c.cfg.period * c.cfg.syncMul
    let first := updDyn n (fun x => { x with lastEdge := some t, edges := 1 }) p
    match c.dyn.lastEdge with
    | none => first
    | some t0 =>
      let d := t - t0
      if t ≥ t0 ∧ d * 100 ≥ per * 98 ∧ d * 100 ≤ per * 102 then
        let p1 := updDyn n (fun x => { x with lastEdge := some t, edges := min (x.edges + 1) 8 }) p
        if c.dyn.srcSync then shiftCluster n ((t : Int) - t0) p1
        else if (clAt p1 n).dyn.edges ≥ 8 then changeSource n true t p1 else p1
      else if c.dyn.srcSync then p else first

/-- SYNC_IN_EDGE (04 R131). -/
def execSyncInEdge (c : Fin 8) (t : Nat) (s : State) : Out := run1 (syncEdge c.val t) s

/-- Three consecutive expected edges are missing: fallback to TIME (04 R131). -/
def syncMissing (n : Nat) (p : Pkg) : Pkg :=
  let c := clAt p n
  if !c.cfg.syncIn then p
  else
    let p1 := updDyn n (fun x => { x with edges := 0, lastEdge := none }) p
    if c.dyn.srcSync then changeSource n false (c.dyn.lastEdge.getD 0) (clEvt n (fun e => { e with syncFb := true }) p1) else p1

/-- SYNC_IN_EDGES_MISSING (04 R131). -/
def execSyncInEdgesMissing (c : Fin 8) (s : State) : Out := run1 (syncMissing c.val) s

/-! ### The cycle budget (05 R186 to R188) -/

/-- Offset of a cluster's lattice of instants in ticks, with an OFFSET (05 R187). -/
def latticeOff (c : Cluster) (offset : Nat) : Nat :=
  offset * c.cfg.period / 1024 + c.cfg.samplePt * c.cfg.period / 1024

/-- Ticks from a lattice of b's to the lattice of a's displaced by d, less than their common spacing g (05 R187). -/
def latticeGap (a : Cluster) (d : Int) (b : Cluster) (g : Nat) : Nat :=
  (((latticeOff a a.rw.offset : Int) + d - latticeOff b b.rw.offset) % g).toNat

/-- The lattice of a cluster, displaced by d ticks, comes within 610 ns of another's (05 R187). -/
def conflicts (a : Cluster) (d : Int) (b : Cluster) : Bool :=
  let g := Nat.gcd (fastTicks a.cfg) (fastTicks b.cfg)
  let r := latticeGap a d b g
  a.cfg.syncIn || b.cfg.syncIn || g == 0 || decide (r ≤ 7808) || decide (g - r ≤ 7808)

/-- Cluster k's cost with those that conflict with it, while the lattice of cluster n is displaced by d (05 R187, R188). -/
def budgetSum (p : Pkg) (n : Nat) (d : Int) (k : Nat) : Nat :=
  let meet := fun j => if j = n then conflicts (clAt p n) d (clAt p k) else conflicts (clAt p k) (if k = n then d else 0) (clAt p j)
  clusterCost p k + sumN ((List.range 8).map (fun j =>
    if j = k ∨ (clAt p j).cfg.type = .unused then 0 else if meet j then clusterCost p j else 0))

/-- Clusters that are used. -/
def usedClusters (p : Pkg) : List Nat := (List.range 8).filter (fun n => (clAt p n).cfg.type != .unused)

/-- Largest sum over the clusters used (05 R187). -/
def budgetWorst (p : Pkg) : Nat := ((usedClusters p).map (budgetSum p 8 0)).foldl max 0

/-- The way a carrier moves when OFFSET changes (04 R130). -/
def offsetWay (c : Cluster) (new : Nat) : Int :=
  shortWay c.cfg.period ((new * c.cfg.period / 1024 : Nat) - (c.rw.offset * c.cfg.period / 1024 : Nat))

/-- The displacements on a way at which a cluster's set of conflicts grows: its start, and where its lattice comes within
610 ns of another's from below; between them a sum of 05 R187 only falls (05 R188). -/
def wayPoints (p : Pkg) (n : Nat) (w : Int) : List Int :=
  let lo := min w 0
  let hi := max w 0
  let enter := fun k =>
    let g := Nat.gcd (fastTicks (clAt p n).cfg) (fastTicks (clAt p k).cfg)
    if g ≤ 15616 then []
    else
      let first := lo + ((g - 7808 - latticeGap (clAt p n) lo (clAt p k) g : Int) % g)
      (List.range (w.natAbs / g + 1)).map (fun i => first + ((i * g : Nat) : Int))
  lo :: (((usedClusters p).map enter).flatten.filter (fun d => decide (d ≤ hi)))

/-- At every lattice position on the way the budget is kept, for every cluster (05 R188). -/
def offsetOk (p : Pkg) (n new : Nat) : Bool :=
  (clAt p n).cfg.type == .unused ||
    (wayPoints p n (offsetWay (clAt p n) new)).all (fun d => (usedClusters p).all (fun k => decide (budgetSum p n d k ≤ 360)))

/-- A write of OFFSET that is in budget moves the carrier (04 R130, R132, 05 R188). -/
def setOffset (n new : Nat) (p : Pkg) : Pkg :=
  let w := offsetWay (clAt p n) new
  let p1 := updCl n (fun c => { c with rw := { c.rw with offset := new } }) p
  let p2 := if (clAt p n).cfg.type = .unused then p1 else shiftCluster n w p1
  { p2 with ce := { p2.ce with worst := budgetWorst p2 } }

/-- A masked write of PWR_CLn_SYNC waits for the boundary; one that breaks the budget is refused with no effect
(04 R132, 05 R188). -/
def offsetWrite (n v m : Nat) (p : Pkg) : Pkg :=
  let new := wr v m 9 0 (clAt p n).rw.offset
  if (clAt p n).cfg.type ≠ .unused ∧ offsetOk p n new then updDyn n (fun d => { d with offPend := some new }) p else p

/-- SYNC_OFFSET_WRITE (04 R132). -/
def execSyncOffsetWrite (c : Fin 8) (val mask : Nat) (s : State) : Out := run1 (offsetWrite c.val val mask) s

/-- The OFFSET of a cluster that waits takes effect, if it still keeps the budget (04 R132, 05 R188). -/
def offsetTake (n : Nat) (p : Pkg) : Pkg :=
  match (clAt p n).dyn.offPend with
  | none => p
  | some new =>
    let p1 := updDyn n (fun d => { d with offPend := none }) p
    if offsetOk p n new then setOffset n new p1 else p1

/-- The OFFSETs that wait take effect at the boundary (04 R132). -/
def offsetsApply (p : Pkg) : Pkg := (List.range 8).foldl (fun p n => offsetTake n p) p

/-! ### Region limits (04 R156 to R158) -/

/-- V_b of a region in mV: the greater of the output voltage and the reference at the end of the next supervisory
cycle (04 R156). -/
def vB (p : Pkg) (r : Nat) : Int :=
  let c := clAt p ((dcdcOf p r).headD 8)
  let step : Int := (min c.rw.rate c.run.cmdRate : Nat) * 8000000000
  let tgt : Int := c.run.target * 80000000
  let ref := if c.run.st.running then clampI (c.run.ref - step) (c.run.ref + step) tgt else c.run.ref
  max (voutOf p r) (ref / 8000000)

/-- Power in kW as a current in 100 mA at V_b; at 0 V a power bounds only when it is 0 (04 R156; log 28). -/
def powerAmps (kw vb : Int) : Option Nat :=
  if kw ≤ 0 then some 0 else if vb ≤ 0 then none else some (kw * 10000000 / vb).toNat

/-- Sum of available phases × I_PH over a region's clusters, in 100 mA (04 R156). -/
def phaseAmpsMax (p : Pkg) (r : Nat) : Nat := sumN ((dcdcOf p r).map (availRating p))

/-- The least of the deratings of R185 in force on a cluster's lanes, in %, 100 for none (05 R185). -/
def deratePct (p : Pkg) (n : Nat) : Nat :=
  ((lanesOf p n).filter (fun l => (laneAt p l).run.derated)).foldl (fun a l => min a (laneAt p l).rw.feDer) 100

/-- Power available from the AFE clusters that feed a link and switch, in kW, less their deratings (01 R51, 04 R156;
log 28). -/
def afePower (p : Pkg) (k : Nat) : Int :=
  sumI ((feeders p k).map (fun n =>
    let c := clAt p n
    let v := (p.mtr.chan.getD (8 + 7 * c.cfg.acMeter) {}).value
    if c.run.st = .ramp ∨ c.run.st = .regulate then 3 * v * availRating p n * deratePct p n / 1000000000 else 0))

/-- A region's share of the AFE power, in proportion to the requests (04 R156). -/
def afeShare (p : Pkg) (r : Nat) : Option Int :=
  match linkOf p r with
  | none => none
  | some k =>
    let on := (List.range 4).filter (fun j => linkOf p j == some k)
    let tot := sumN (on.map (fun j => p.ldg.demand.getD j 0))
    let d := p.ldg.demand.getD r 0
    if (feeders p k).isEmpty ∨ tot = 0 then none else some (afePower p k * d / tot)

/-- The terms of R156 in 100 mA, in the order of BIND's bits from 0: command, tokens, cap, thermal, AFE, phases
(04 R156, R161). -/
def capTerms (p : Pkg) (r : Nat) : List (Option Nat) :=
  let vb := vB p r
  let grant := match p.sys.grant with
    | some g => if g.region = r then some g.limit else none
    | none => none
  let capKw := match (rgAt p r).cap, grant with
    | some a, some b => some (min a b)
    | some a, none => some a
    | none, g => g
  [(vrAt p r).ilim, powerAmps (p.ldg.lent.getD r 0) vb, capKw.bind (fun k => powerAmps k vb),
   (thermalAmps p r).map (fun q => (q / 100).floor.toNat), (afeShare p r).bind (fun k => powerAmps k vb), some (phaseAmpsMax p r)]

/-- Least term and its place; among equal terms the lowest bit (04 R156; log 28). -/
def leastTerm : Nat → List (Option Nat) → Option (Nat × Nat)
  | _, [] => none
  | i, t :: l => match t, leastTerm (i + 1) l with
    | none, b => b
    | some v, none => some (v, i)
    | some v, some (w, j) => if v ≤ w then some (v, i) else some (w, j)

/-- Request of a region in 100 mA: the command's limit, or all its phases (04 R156). -/
def requestAmps (p : Pkg) (r : Nat) : Nat := ((vrAt p r).ilim).getD (phaseAmpsMax p r)

/-- What the deratings of R185 leave a region of its clusters' ratings, in 100 mA: a derated lane's upper clamp in its
OBASE bounds its cluster (05 R171, R185). -/
def deratedAmps (p : Pkg) (r : Nat) : Int :=
  let bound := fun n => ((lanesOf p n).filter (fun l =>
      let x := laneAt p l
      x.run.derated && x.cfg.out == .ref && x.cfg.obase != 0)).foldl (fun (a : Int) l =>
    let x := laneAt p l
    min a (x.rw.hi * x.rw.feDer * x.cfg.obase / (2 ^ 24 * 10000))) (availRating p n)
  sumI ((dcdcOf p r).map bound)

/-- REGION_CURRENT_CAP of the boundary: the cap, its binding term, and whether the region is held below its request, by
the cap or by a derating of its lanes (04 R156, 02 R65, 05 R185; log 28). -/
def regionCap (r : Nat) (p : Pkg) : Pkg :=
  match leastTerm 0 (capTerms p r) with
  | none => p
  | some (v, i) =>
    let past := (vrAt p r).session.isSome && (dcdcOf p r).any (fun n =>
      let s := (clAt p n).run.st
      s == .ramp || s == .match_ || s == .regulate)
    let pout := voutOf p r * ioutOf p r / 1000000
    let fe := (dcdcOf p r).any (fun n => deratePct p n < 100) && decide (deratedAmps p r < requestAmps p r)
    updRg r (fun g => { g with icap := v, bind := 2 ^ i, pout := pout
                               held := past && ((i != 0 && decide (v < requestAmps p r)) || fe) }) p

/-- Clamps of a region's DC/DC clusters that run: their shares of the cap, in µA (04 R157). -/
def regionClamps (r : Nat) (p : Pkg) : Pkg :=
  ((dcdcOf p r).filter (fun n => (clAt p n).run.st.running)).foldl (fun p n => updRun n (fun x =>
    if x.st = .rampDown then x else { x with clamp := shareClamp p n }) p) p

/-- Clamps of the AFE clusters: shares of the combined power clamp of 08 R249 in proportion to available ratings, as a
current per grid phase in µA (04 R148, 08 R249; log 28). -/
def afeClamps (p : Pkg) : Pkg :=
  let l := (afes p).filter (fun n => (clAt p n).run.st.running)
  let tot := sumN (l.map (availRating p))
  l.foldl (fun p n =>
    let c := clAt p n
    let v := (p.mtr.chan.getD (8 + 7 * c.cfg.acMeter) {}).value.natAbs
    updRun n (fun x =>
      if x.st = .rampDown then x
      else if tot = 0 then { x with clamp := 0 }
      else if v = 0 then { x with clamp := availRating p n * 100000 }
      else { x with clamp := p.ldg.afeClamp * 1000000000000 * availRating p n / (3 * v * tot) }) p) p

/-- REGION_LIMIT's checks (04 R159). -/
def specRegionLimit : OpSpec :=
  { op := 0x0202, lenOk := (·.length == 8), role := needOpr, modes := notRetired
    params := fun _ d => inR 0 3 (u8 d 0) && zeros d 1 3 && (inR 0 3750 (u32 d 4) || u32 d 4 == 0xFFFFFFFF) }

/-- REGION_LIMIT: the command's checks (04 R158). -/
def execRegionLimit (ep : Fin 3) (slot : Fin 64) (s : State) : Out :=
  run1 (submit specRegionLimit true (slotIx ep slot) noAns) s

/-- REGION_LIMIT applied (04 R158). -/
def applyRegionLimit (d : List Byte) (p : Pkg) : Pkg :=
  updRg (u8 d 0) (fun g => { g with cap := if u32 d 4 = 0xFFFFFFFF then none else some (u32 d 4) }) p

/-- PHASE_POLICY's checks (04 R159). -/
def specPhasePolicy : OpSpec :=
  { op := 0x0203, lenOk := (·.length == 12), role := needOpr, modes := idleToIsolated
    params := fun p d =>
      let n := u8 d 0
      inR 0 7 n && (clAt p n).cfg.type != .unused && inR 0 1 (u8 d 1) && inR 1 (phases p n).length (u8 d 2) && zeros d 3 1 &&
        inR 0 90 (u8 d 4) && inR (u8 d 4 + 10) 100 (u8 d 5) && zeros d 6 2 && inR 1 10000 (u16 d 8) && inR 10 60000 (u16 d 10) }

/-- PHASE_POLICY: the command's checks (04 R159). -/
def execPhasePolicy (ep : Fin 3) (slot : Fin 64) (s : State) : Out :=
  run1 (submit specPhasePolicy true (slotIx ep slot) noAns) s

/-- PHASE_POLICY applied (04 R159). -/
def applyPhasePolicy (d : List Byte) (p : Pkg) : Pkg :=
  updCl (u8 d 0) (fun c => { c with rw := { c.rw with shedEn := tb (u8 d 1) 0, minPh := u8 d 2, shedLvl := u8 d 4
                                                      addLvl := u8 d 5, dwell := u16 d 8, hold := u16 d 10 } }) p

/-! ### Captures (04 R159, R160) -/

/-- Selected channels (04 R159). -/
def captChans (d : List Byte) : List Nat := (List.range 96).filter (fun c => tb (le d 0 12) c)

/-- CAPTURE_START's checks (04 R159, R160). -/
def specCaptureStart : OpSpec :=
  { op := 0x0204, lenOk := (·.length == 28), role := needOpr, modes := notRetired
    params := fun p d =>
      let t := u8 d 12
      let k := u8 d 13
      let src := if t = 1 then inR 0 7 k && (clAt p k).cfg.type != .unused else if t = 3 ∨ t = 4 then inR 0 95 k else k == 0
      !(captChans d).isEmpty && inR 0 4 t && src && inR 1 4096 (u16 d 16) && zeros d 18 2 && inR 1 0xFFFFFFFF (u32 d 24) &&
        decide (u32 d 20 ≤ u32 d 24) && decide ((captChans d).length * u32 d 24 * 2 ≤ 4194304)
    busy := fun p _ => p.pwr.capt.st == .armed || p.pwr.capt.st == .filling }

/-- CAPTURE_START: the command's checks (04 R160). -/
def execCaptureStart (ep : Fin 3) (slot : Fin 64) (s : State) : Out :=
  run1 (submit specCaptureStart true (slotIx ep slot) noAns) s

/-- CAPTURE_START applied: the capture is armed, or fills at once; its id is the low word of its work id, and the index of the trigger
sample is PRE whatever the trigger (04 R160; logs 29, 110). -/
def applyCapture (id : Nat) (d : List Byte) (p : Pkg) : Pkg :=
  if p.pwr.capt.st = .armed ∨ p.pwr.capt.st = .filling then finishWork id .busy p
  else runWork id { p with pwr := { p.pwr with capt :=
    { st := if u8 d 12 = 0 then .filling else .armed, id := id % 2 ^ 32, chans := captChans d, trig := u8 d 12, source := u8 d 13
      level := sle d 14 2, decim := u16 d 16, pre := u32 d 20, length := u32 d 24, work := id, trigIdx := u32 d 20 } } }

/-- The trigger's condition holds; that of a cluster event, while its bit is set (04 R159; log 110). -/
def triggerOn (p : Pkg) : Bool :=
  let c := p.pwr.capt
  let e := (clAt p c.source).dyn.evt
  match c.trig with
  | 1 => e.loadstep || e.shedStep || e.preFail
  | 2 => p.duo.ss.running || p.duo.ss.latched
  | 3 => decide (p.pwr.raw.getD c.source 0 ≥ c.level)
  | 4 => decide (p.pwr.raw.getD c.source 0 ≤ c.level)
  | _ => true

/-- CAPTURE_TRIGGER: an armed capture's trigger occurs (04 R160). -/
def execCaptureTrigger (s : State) : Out :=
  run1 (fun p => if p.pwr.capt.st = .armed ∧ triggerOn p then
    { p with pwr := { p.pwr with capt := { p.pwr.capt with st := .filling } } } else p) s

/-- A capture has taken all its samples: the window holds its header and the samples, and the work is DONE. The data
are 8 bytes of the first sample's time and then the samples (04 R160). -/
def captureFull (data : List Byte) (p : Pkg) : Pkg :=
  let c := p.pwr.capt
  if c.st ≠ .filling then p
  else
    let w := pad 8 data ++ toLe 4 c.trigIdx ++ toLe 4 c.length ++ pad (c.chans.length * c.length * 2) (data.drop 8)
    finishWork c.work .ok { p with pwr := { p.pwr with capt := { c with st := .full, data := w } } }

/-- CAPTURE_FULL (04 R160). -/
def execCaptureFull (data : List Byte) (s : State) : Out := run1 (captureFull data) s

end Sys2Proof.Machine
end

