-- ==== Sys2Proof/Machine/Lending.lean ====
section
/-!
DEFINITION. Tokens and lending within a module (08 R244 to R252, R258, R273, R274): ranges, usable tokens, demands,
the recomputation of R251, ISOLATED, and temporary tokens.
-/

namespace Sys2Proof.Machine

/-! ### Ranges (08 R245, R248) -/

/-- Tokens in ranges. -/
def countR (l : List TRange) : Nat := sumN (l.map (·.count))

/-- Insert a range into an ascending list. -/
def insR (r : TRange) : List TRange → List TRange
  | [] => [r]
  | x :: l => if r.first ≤ x.first then r :: x :: l else x :: insR r l

/-- Merge adjacent ranges of an ascending list (08 R245). -/
def mergeR : List TRange → List TRange
  | [] => []
  | x :: l => match mergeR l with
    | [] => if x.count = 0 then [] else [x]
    | y :: m => if x.count = 0 then y :: m else if x.first + x.count ≥ y.first then
        { first := x.first, count := max (x.first + x.count) (y.first + y.count) - x.first } :: m else x :: y :: m

/-- Add a range. -/
def addR (r : TRange) (l : List TRange) : List TRange := mergeR (insR r l)

/-- The parts of a range outside another. -/
def cutR (x r : TRange) : List TRange :=
  let e := x.first + x.count
  let f := r.first + r.count
  if f ≤ x.first ∨ e ≤ r.first then [x]
  else (if x.first < r.first then [⟨x.first, r.first - x.first⟩] else []) ++ (if f < e then [⟨f, e - f⟩] else [])

/-- Remove a range. -/
def subR (r : TRange) (l : List TRange) : List TRange := (l.map (fun x => cutR x r)).flatten

/-- Remove ranges. -/
def subAll (rs l : List TRange) : List TRange := rs.foldl (fun l r => subR r l) l

/-- A range lies wholly in the ranges. -/
def hasR (r : TRange) (l : List TRange) : Bool := r.count != 0 && l.any (fun x => x.first ≤ r.first && r.first + r.count ≤ x.first + x.count)

/-- Two ranges share a token. -/
def meetR (a b : TRange) : Bool := a.first < b.first + b.count && b.first < a.first + a.count

/-- The first n tokens of ascending ranges. -/
def firstR : Nat → List TRange → List TRange
  | _, [] => []
  | n, x :: l => if n = 0 then [] else if x.count ≤ n then x :: firstR (n - x.count) l else [⟨x.first, n⟩]

/-! ### The map and the holding (08 R246 to R249) -/

/-- This module in the map in force. -/
def ownMod (p : Pkg) : Option MapModule := p.ldg.nv.map_.bind (fun m => m.mods.find? (fun x => x.node == nodeAddr p))

/-- FLOOR of a node in the map in force. -/
def floorOf (p : Pkg) (node : Nat) : Nat :=
  ((p.ldg.nv.map_.bind (fun m => m.mods.find? (fun x => x.node == node))).map (·.floor)).getD 0

/-- Grid tokens held, LEAVING ones included (08 R282). -/
def heldTok (p : Pkg) : Nat := countR p.ldg.nv.ranges

/-- Floor ranges: the first FLOOR tokens held, once FLOOR has been reached (08 R248; log 33). -/
def floorR (p : Pkg) : List TRange := if p.ldg.nv.floorSet then firstR (floorOf p (nodeAddr p)) p.ldg.nv.ranges else []


/-- The lease is valid (08 R257). -/
def leaseOk (p : Pkg) : Bool := match p.ldg.leaseTo with
  | some t => decide (p.tim.now < t)
  | none => false

/-- Usable grid tokens: the floor tokens, and under a valid lease every other held one; none that is LEAVING (08 R249, R263). -/
def usable (p : Pkg) : Nat := countR (subAll (p.ldg.nv.outs.map (·.range)) (if leaseOk p then p.ldg.nv.ranges else floorR p))

/-- Free ranges: held, usable, not floor, not LEAVING (08 R262). -/
def freeR (p : Pkg) : List TRange :=
  if leaseOk p then subAll (floorR p ++ p.ldg.nv.outs.map (·.range)) p.ldg.nv.ranges else []

/-- Temporary tokens usable: under a valid lease only (08 R273). -/
def tempTok (p : Pkg) : Nat := if leaseOk p then p.ldg.temp else 0

/-! ### Demand and lending (08 R250, R251) -/

/-- Lending is formed as in ISOLATED: in that mode, with 150 ms or less of lease left, and before the first quorum since
the reset (08 R251, R258, 02 R69; log 36). -/
def asIsolated (p : Pkg) : Bool := inMode p [.isolated] || p.ldg.low || !p.ldg.everQ

/-- Demand of a region for a target in 10 mV and a current limit in 100 mA, in kW rounded up (08 R250; log 37). -/
def demandFor (p : Pkg) (r target : Nat) (ilim : Option Nat) : Nat :=
  let v : Rat := (max ((target : Int) * 10) (voutOf p r) : Int)
  let vb : Rat := (vB p r : Int)
  let i0 : Rat := ((ilim.getD (phaseAmpsMax p r) * 100 : Nat) : Rat)
  let i1 : Rat := match (rgAt p r).cap with
    | none => i0
    | some k => if vb ≤ 0 then (if k = 0 then 0 else i0) else min i0 ((k : Rat) * 1000000000 / vb)
  let i2 : Rat := match thermalAmps p r with
    | none => i1
    | some a => min i1 a
  let kw : Rat := v * i2 / 1000000000
  (kw.ceil).toNat

/-- D_r (08 R250). -/
def demandNow (p : Pkg) (r : Nat) : Nat :=
  let v := vrAt p r
  if v.session.isNone ∧ !grantFor p r then 0 else demandFor p r v.cmdTgt v.ilim

/-- Fill level of R251 and R266 for demands with weights: the largest level whose fills stay within b, found by taking
out, round by round, whoever needs less than the level. None where everyone's demand fits. -/
def fillLevel : Nat → Rat → List (Nat × Nat) → Option Rat
  | 0, _, _ => none
  | n + 1, b, l =>
    let w := sumN (l.map (·.2))
    if w = 0 then none
    else
      let lv := b / w
      let small := l.filter (fun x => decide ((x.1 : Rat) ≤ lv * x.2))
      if small.isEmpty then some lv
      else fillLevel n (b - sumN (small.map (·.1))) (l.filter (fun x => !decide ((x.1 : Rat) ≤ lv * x.2)))

/-- What each of the demands gets of b (08 R251, R266). -/
def fill (b : Nat) (l : List (Nat × Nat)) : List Nat :=
  match fillLevel (l.length + 1) b l with
  | none => l.map (·.1)
  | some lv => l.map (fun x => min x.1 (lv * x.2).floor.toNat)

/-- Tokens a lower P_SITE takes away, from its ACTIVATION on until each of them is destroyed (08 R278). -/
def doomedR (p : Pkg) : Option TRange :=
  match p.ldg.nv.map_, p.ldg.nv.pendMap with
  | some m, some w => if w.n < m.n ∧ w.act ≤ p.tim.now then some ⟨w.n, m.n - w.n⟩ else none
  | _, _ => none

/-- Usable grid tokens that may be lent: those a lower P_SITE takes away are made free first (08 R251, R278). -/
def lendable (p : Pkg) : Nat := match doomedR p with
  | none => usable p
  | some r => min (usable p) (countR (subR r p.ldg.nv.ranges))

/-- B of R251. -/
def budgetTok (p : Pkg) : Nat :=
  let b := if asIsolated p then countR (floorR p)
    else (if p.ldg.surplus then min (lendable p) p.ldg.target else lendable p) + tempTok p
  b - p.ldg.loss

/-- The tokens lent for given demands (08 R251). -/
def lendFor (p : Pkg) (d : List Nat) : List Nat :=
  let e := mapI (fun r x => if asIsolated p && !(p.ldg.floorUse.getD r false) then 0 else x) d
  fill (budgetTok p) (mapI (fun r x => (x, p.ldg.weight.getD r 16)) e)

/-- Guard 0x03: the recomputation would lend the region a token (02 R64). -/
def wouldLend (p : Pkg) (r target : Nat) (ilim : Option Nat) : Bool :=
  decide ((lendFor p (upd p.ldg.demand r (fun _ => demandFor p r target ilim))).getD r 0 > 0)

/-- REGION_LENDING of the boundary (08 R249 to R251). -/
def lendAll (p : Pkg) : Pkg :=
  let d := (List.range 4).map (demandNow p)
  let p1 := { p with ldg := { p.ldg with demand := d } }
  { p1 with ldg := { p1.ldg with lent := lendFor p1 d, afeClamp := usable p1 } }

/-- Module demand in tokens (08 R250). -/
def moduleDemand (p : Pkg) : Nat :=
  let s := sumN p.ldg.demand
  if s = 0 then 0 else s + p.ldg.loss

/-! ### Temporary tokens (08 R273, R274, 17 R522, R523) -/

/-- T as the battery's values give it (08 R273). -/
def tempFor (p : Pkg) : Nat :=
  let h := (p.ldg.nv.map_.map (·.horizon)).getD 10
  min p.bat.pDis (p.bat.avail / 1000 * 60 / h).floor.toNat

/-- A fall of T acts at the boundary; end of discharge of the whole battery withdraws it (08 R274, 17 R523). -/
def withdrawTemp (p0 : Pkg) : Pkg :=
  let p := availability p0
  let t := min p.ldg.temp (tempFor p)
  let wd := decide (p.ldg.temp > 0) && !(p.bat.str.any qualifies)
  { p with ldg := { p.ldg with temp := t, evt := { p.ldg.evt with tempWd := p.ldg.evt.tempWd || wd } } }

/-! ### ISOLATED (02 R65, 08 R252, R258, R261) -/

/-- The lease-expiry row of 02 R65: ISOLATED, with the sessions of regions outside FLOOR_USE ramped down; in a mode
without the row the expiry is owed until IDLE (02 R65, R69, 08 R252; log 38). -/
def isolate (p : Pkg) : Pkg :=
  if inMode p [.idle, .armed, .deliver, .derate] then
    let p1 := setMode .isolated p
    let p2 := { p1 with sys := { p1.sys with armUntil := none, leaseWait := none, leaseOwed := false, freeCycles := 0 } }
    (List.range 4).foldl (fun p r => if p.ldg.floorUse.getD r false then p else endSession r 0xB p) p2
  else { p with sys := { p.sys with leaseOwed := true } }

/-- The lease expires: a fault of the same supervisory cycle is taken before it, so the cycle keeps it (02 R65, R66). -/
def leaseOut (p : Pkg) : Pkg := isolate { p with sys := { p.sys with leaseCyc := true } }

/-- The quorum renews a lease: ISOLATED ends in DERATE or IDLE (02 R65). -/
def unIsolate (p0 : Pkg) : Pkg :=
  let p := { p0 with sys := { p0.sys with leaseOwed := false, leaseWait := none } }
  if p.sys.mode ≠ .isolated then p
  else if anySession p then setMode .derate { p with sys := { p.sys with freeCycles := 0 } }
  else stopAfes (setMode .idle p)

/-- The wait for the first quorum after entry to IDLE is over, or an owed expiry is taken in IDLE (02 R69). -/
def leaseWaitOver (p : Pkg) : Pkg :=
  if dueO p p.sys.leaseWait ∧ !p.ldg.everQ then leaseOut { p with sys := { p.sys with leaseWait := none } }
  else if p.sys.leaseOwed ∧ p.sys.mode = .idle ∧ !leaseOk p then isolate p
  else p

/-- LEASE_WAIT_TIMEOUT (02 R69). -/
def execLeaseWaitTimeout (s : State) : Out := run1 leaseWaitOver s

end Sys2Proof.Machine
end

