-- ==== Sys2Proof/Machine/Ledger.lean ====
section
/-!
DEFINITION. The site power ledger between modules (08 R253 to R281): voices and their holding tables, leases,
transfers, allocation, reclaim, joining, leaving and map changes, and the ledger's commands. A ledger message is the
whole message of 08 R279, header and body. A ledger record is journaled and mirrored first; its effect follows once it is
accepted (ledgerRun; log 32). Messages a module sends to its own voice are handled within the same command.
-/

namespace Sys2Proof.Machine

/-! ### Messages (08 R279, R280) -/

/-- Send a ledger message (08 R279). -/
def ldgSend (type dst : Nat) (body : List Byte) (p : Pkg) : Pkg :=
  let head := [byte type, 1] ++ toBe 2 body.length ++ toBe 2 (nodeAddr p) ++ toBe 2 dst
    ++ toBe 4 ((p.ldg.nv.map_.map (·.ver)).getD 0) ++ toBe 4 (p.tim.now / 10000000 % 2 ^ 32)
  let p1 := { p with ldg := { p.ldg with tx := { dst := dst, bytes := head ++ body } :: p.ldg.tx } }
  if dst = 0xFFFF then floodSend 1 (head ++ body) p1 else streamSend dst 1 (head ++ body) p1

/-- The 8 bytes of a range, with the mark of floor (08 R280). -/
def rangeBytes (floor : Bool) (r : TRange) : List Byte := toBe 4 (r.first % 2 ^ 24 + bit floor * 2 ^ 31) ++ toBe 4 r.count

/-- Ranges at an offset of a body, with their marks of floor. -/
def rangesAt (d : List Byte) (off n : Nat) : List (TRange × Bool) :=
  (List.range n).map (fun i =>
    let w := be d (off + 8 * i) 4
    (⟨w % 2 ^ 24, be d (off + 8 * i + 4) 4⟩, tb w 31))

/-- A peer record, or a new one. -/
def peerAt (p : Pkg) (n : Nat) : Peer := (p.ldg.peers.find? (fun x => x.node == n)).getD { node := n, age := 2 }

/-- Change a peer record. -/
def updPeer (n : Nat) (f : Peer → Peer) (p : Pkg) : Pkg :=
  let x := f (peerAt p n)
  { p with ldg := { p.ldg with peers := x :: p.ldg.peers.filter (fun y => y.node != n) } }

/-! ### Pairs, voices and quorum (08 R253, R254) -/

/-- Modules of the map in force. -/
def mapMods (p : Pkg) : List MapModule := (p.ldg.nv.map_.map (·.mods)).getD []

/-- Lowest of node addresses, 0 for none. -/
def lowest (l : List Nat) : Nat := l.foldl (fun a b => if a = 0 then b else min a b) 0

/-- Buddy groups of the map. -/
def groupsOf (p : Pkg) : List Nat := ((mapMods p).map (·.group)).eraseDups

/-- Voice of a group, 0 for none (08 R253, R270). -/
def voiceOf (p : Pkg) (g : Nat) : Nat :=
  match p.ldg.nv.moved.find? (fun x => x.1 == g) with
  | some x => x.2
  | none => lowest (((mapMods p).filter (fun m => m.group == g)).map (·.node))

/-- The voices (08 R253). -/
def voices (p : Pkg) : List Nat := ((groupsOf p).map (voiceOf p)).filter (fun v => v != 0)

/-- This module is a voice. -/
def isVoice (p : Pkg) : Bool := (voices p).contains (nodeAddr p)

/-- P and Q (08 R254). -/
def pairs (p : Pkg) : Nat := (groupsOf p).length
/-- The quorum (08 R254). -/
def quorum (p : Pkg) : Nat := pairs p / 2 + 1

/-- Next of a list in ascending order, wrapping; 0 for none. -/
def nextIn (l : List Nat) (n : Nat) : Nat :=
  let up := lowest (l.filter (fun x => decide (x > n)))
  if up ≠ 0 then up else lowest (l.filter (fun x => x != n))

/-- Buddy of a module: the other of its pair, the next of a group of three, whose cycle runs in ascending node address and wraps
(01 R60; log 112). -/
def buddyOf (p : Pkg) (n : Nat) : Nat :=
  match (mapMods p).find? (fun m => m.node == n) with
  | none => 0
  | some m => nextIn (((mapMods p).filter (fun x => x.group == m.group)).map (·.node)) n

/-- What this module knows of another's lease: valid unless the other is silent or tells that it is isolated (log 35). -/
def knownLease (p : Pkg) (n : Nat) : Bool :=
  if n = nodeAddr p then leaseOk p else n != 0 && decide ((peerAt p n).age < 2) && !(peerAt p n).isolated

/-- The lowest-addressed voice with a valid lease; where none is known, the lowest-addressed voice (08 R276, R278; log 35). -/
def leaseVoice (p : Pkg) : Nat :=
  let v := lowest ((voices p).filter (knownLease p))
  if v ≠ 0 then v else lowest (voices p)

/-- RECLAIM_WAIT in ns (08 R260). -/
def reclaimWait (p : Pkg) : Nat := (600 + (p.ldg.nv.map_.map (·.skew)).getD 5) * 1000000

/-- Send to every voice but this module (08 R256). -/
def toVoices (type : Nat) (body : List Byte) (p : Pkg) : Pkg :=
  ((voices p).filter (fun v => v != nodeAddr p)).foldl (fun p v => ldgSend type v body p) p

/-! ### Holding tables (08 R255)

Every module keeps the table: a voice as the table it answers from, its pair's other members as their mirror of it, so that the
member a voice passes to has it (08 R253, R270, R272; log 32). -/

/-- Entry of a module in the table. -/
def holdAt (p : Pkg) (n : Nat) : Option Holding := p.ldg.nv.table.find? (fun h => h.node == n)

/-- Change an entry. -/
def updHold (n : Nat) (f : Holding → Holding) (p : Pkg) : Pkg :=
  { p with ldg := { p.ldg with nv := { p.ldg.nv with table := p.ldg.nv.table.map (fun h => if h.node = n then f h else h) } } }

/-- Change the journaled records. -/
def updNv (f : LdgNv → LdgNv) (p : Pkg) : Pkg := { p with ldg := { p.ldg with nv := f p.ldg.nv } }

/-- A module has an entry, an empty one where it had none (08 R255, R275). -/
def enterHold (n : Nat) (p : Pkg) : Pkg :=
  if (holdAt p n).isSome then p else updNv (fun v => { v with table := v.table ++ [{ node := n }] }) p

/-- An entry is removed (08 R276). -/
def dropHold (n : Nat) (p : Pkg) : Pkg := updNv (fun v => { v with table := v.table.filter (fun h => h.node != n) }) p

/-- The ranges of an entry change, and with them its floor ranges (08 R248, R255). -/
def setHold (p : Pkg) (r : List TRange) (h : Holding) : Holding :=
  let fl := floorOf p h.node
  { h with ranges := r, floors := if countR r ≥ fl ∨ !h.floors.isEmpty then firstR fl r else [] }

/-- A range moves between two entries. -/
def moveHold (a b : Nat) (r : TRange) (p : Pkg) : Pkg :=
  updHold b (fun h => setHold p (addR r h.ranges) h) (enterHold b (updHold a (fun h => setHold p (subR r h.ranges) h) p))

/-- A NOTE is entered: the range moves to the receiver, or back (08 R264). -/
def enterNote (src giver : Nat) (r : TRange) (undo : Bool) (p : Pkg) : Pkg :=
  if undo then (if hasR r (((holdAt p src).map (·.ranges)).getD []) then moveHold src giver r p else p)
  else moveHold giver src r p

/-- A yes vote fences its target (08 R269). -/
def enterFence (src target : Nat) (p : Pkg) : Pkg :=
  updHold target (fun h => { h with fenced := true, open_ := true, vote := some (src, p.clk) }) p

/-- A completed reclaim is entered: the ranges move to the reclaimer (08 R270). -/
def enterDone (src target : Nat) (rs : List TRange) (p : Pkg) : Pkg :=
  updHold target (fun h => { h with open_ := false, fenced := true, taken := h.taken ++ rs })
    (rs.foldl (fun p r => moveHold target src r p) p)

/-- A fence is lifted (08 R271). -/
def enterRejoin (src : Nat) (p : Pkg) : Pkg :=
  updHold src (fun h => { h with fenced := false, open_ := false, taken := [], vote := none }) p

/-- A voice passes: to the buddy of the member that held it, unless that buddy is fenced as well (08 R270). -/
def passVoice (target : Nat) (p : Pkg) : Pkg :=
  match ((mapMods p).find? (fun m => m.node == target)).map (·.group) with
  | none => p
  | some g =>
    if voiceOf p g ≠ target then p
    else
      let b := buddyOf p target
      let dead := ((holdAt p b).map (·.fenced)).getD false
      updNv (fun n => { n with moved := (g, if dead then 0 else b) :: n.moved.filter (fun x => x.1 != g) }) p

/-- A voice passes back to the member it had (08 R271). -/
def returnVoice (src : Nat) (p : Pkg) : Pkg :=
  let g := ((mapMods p).find? (fun m => m.node == src)).map (·.group)
  updNv (fun n => { n with moved := n.moved.filter (fun x => some x.1 != g) }) p

/-! ### Journal records (08 R253, R263; 01 R56, 13 R429; log 32) -/

/-- Add to LDG_EVT. -/
def ldgEvt (f : LdgEvt → LdgEvt) (p : Pkg) : Pkg := { p with ldg := { p.ldg with evt := f p.ldg.evt } }

/-- A record of this kind has been journaled and is not yet acknowledged by the mirror target. -/
def waits (p : Pkg) (a : LdgAct) : Bool := p.ldg.nv.recs.any (fun r => r.act == a)

/-- A ledger record is journaled and goes to the mirror target; its effect waits until it is accepted (01 R56, 13 R429, R433).
While journal writes are blocked none is written. -/
def journal (no : Nat) (a : LdgAct) (data : List Byte) (p : Pkg) : Pkg :=
  if p.mtr.nvBlock ∨ waits p a then p
  else
    let q := updNv (fun n => { n with recs := n.recs ++ [{ no := no, act := a, data := data }] }) p
    if acceptsLocal q then q else mirrorItem no 2 data q

/-- A record under a work id of its own: of a voice, of a reclaim or of a fenced module. -/
def journalNew (a : LdgAct) (data : List Byte) (p : Pkg) : Pkg :=
  if p.mtr.nvBlock ∨ waits p a then p
  else
    let (no, q) := newWorkId p
    journal no a data q

/-- The record of a message entered in a table, as it is journaled: its type, its sender and its body (log 32). -/
def msgRecord (type src : Nat) (body : List Byte) : List Byte := [byte type, 0] ++ toBe 2 src ++ body

/-- End the waiting LDG_JOIN or LDG_LEAVE items (08 R275, R276). -/
def ldgDone (st : Status) (p : Pkg) : Pkg :=
  p.ldg.work.foldl (fun p i => finishWork i st p) { p with ldg := { p.ldg with work := [] } }

/-- The holding has reached FLOOR: floor tokens are set and LDG_JOIN is DONE (08 R248, R275). -/
def floorCheck (p : Pkg) : Pkg :=
  let joined := p.ldg.nv.st == .joined
  if joined ∧ heldTok p ≥ floorOf p (nodeAddr p) then ldgDone .ok (updNv (fun n => { n with floorSet := true }) p) else p

/-- A transfer is completed either way (08 R282). -/
def xferEnd (refused : Bool) (p : Pkg) : Pkg :=
  ldgEvt (fun e => { e with xferRef := e.xferRef || refused })
    { p with ldg := { p.ldg with xferDone := (p.ldg.xferDone + 1) % 65536 } }

/-! ### Transfers (08 R263, R264, R276) -/

/-- A row of the transfer table is of a transfer in flight, or of one that ended within the last ledger cycle (21 R624). -/
def xferShown (p : Pkg) (x : XferRec) : Bool := x.st == 1 || x.st == 2 || decide (p.clk ≤ x.clk + 10000000)

/-- The bytes of a range with its marks, least significant first (08 R280, 21 R624). -/
def rangeWords (floor leaving : Bool) (r : TRange) : List Byte :=
  toLe 4 (r.first % 2 ^ 24 + bit floor * 2 ^ 31 + bit leaving * 2 ^ 30) ++ toLe 4 r.count

/-- A row of the transfer table (21 R624). -/
def xferBytes (x : XferRec) : List Byte :=
  toLe 8 x.id ++ rangeWords false false x.range ++ toLe 2 x.peer ++ [byte (bit (!x.giver)), byte x.st] ++ List.replicate 4 0 ++ toLe 8 x.time

/-- A record of a transfer is journaled: its row of the table of transfers (08 R263, 21 R624). -/
def journalXfer (id peer : Nat) (r : TRange) (giver : Bool) (st : Nat) (a : LdgAct) (p : Pkg) : Pkg :=
  if p.mtr.nvBlock ∨ waits p a then p
  else
    let x : XferRec := { id := id, range := r, peer := peer, giver := giver, st := st, time := p.tim.now, clk := p.clk }
    let l := p.ldg.nv.xlog.filter (xferShown p)
    let hit := fun (y : XferRec) => y.id == id && y.giver == giver
    let q := updNv (fun n => { n with xlog := if l.any hit then l.map (fun y => if hit y then x else y) else l ++ [x] }) p
    journal id a (byte 0x10 :: 0 :: toBe 2 (nodeAddr p) ++ xferBytes x) q

/-- Ranges this module may come to hold with what is PENDING: those held, and one for each range that joins none of them
(08 R245). -/
def loadR (p : Pkg) : Nat :=
  let h := p.ldg.nv.ranges
  h.length + (p.ldg.nv.ins.filter (fun x => x.st == .pending && decide ((addR x.range h).length > h.length))).length

/-- The range may be added: the module holds at most 64 ranges then (08 R245). -/
def fitsIn (r : TRange) (p : Pkg) : Bool :=
  decide (loadR p + ((addR r p.ldg.nv.ranges).length - p.ldg.nv.ranges.length) ≤ 64)

/-- The range may be given: what stays is at most 64 ranges, each LEAVING one counted as a cut (08 R245). -/
def fitsOut (r : TRange) (p : Pkg) : Bool :=
  let h := p.ldg.nv.ranges
  decide ((subR r h).length ≤ h.length) || decide (loadR p + p.ldg.nv.outs.length + 1 ≤ 64)

/-- Of the ranges, in order, those that keep a holding at 64 ranges (08 R245, R270). -/
def fitR : List TRange → List TRange → List TRange
  | _, [] => []
  | l, r :: rs => if (addR r l).length ≤ 64 then r :: fitR (addR r l) rs else fitR l rs

/-- PREPARE for a transfer. -/
def sendPrepare (x : XferOut) (p : Pkg) : Pkg := ldgSend 0x10 x.dst (toBe 8 x.id ++ rangeBytes false x.range) p

/-- The giver journals LEAVING; PREPARE follows (08 R264). -/
def offer (dst : Nat) (r : TRange) (p : Pkg) : Pkg :=
  if p.mtr.nvBlock then p
  else
    let n := newWorkId p
    let x : XferOut := { id := n.1, dst := dst, range := r, sent := p.clk }
    journalXfer x.id dst r true 1 (.offer x.id) (updNv (fun v => { v with outs := v.outs ++ [x] }) n.2)

/-- LEAVE_NOTE reaches a voice, or is this module's own: the entry goes (08 R276). -/
def leaveNote (src : Nat) (p : Pkg) : Pkg :=
  if isVoice p then journalNew (.leave src) (msgRecord 0x53 src (toBe 4 0)) p else p

/-- A leaving module hands its ranges over one by one, then takes its leave (08 R276); without a command, once every session has
ramped down (08 R277). -/
def leaveStep (p : Pkg) : Pkg :=
  if p.ldg.nv.st ≠ .leaving ∨ !p.ldg.nv.outs.isEmpty ∨
      (p.ldg.autoLeave ∧ p.vcmd.rg.any (fun v => v.session.isSome || v.closing)) then p
  else match p.ldg.nv.ranges with
    | r :: _ =>
      let b := buddyOf p (nodeAddr p)
      let d := if knownLease p b then b else leaseVoice p
      if d = 0 ∨ d = nodeAddr p then p else offer d r p
    | [] =>
      let p1 := leaveNote (nodeAddr p) (toVoices 0x53 (toBe 4 0) p)
      let p2 := updNv (fun n => { n with st := .left_, floorSet := false }) p1
      ldgDone .ok { p2 with ldg := { p2.ldg with leaseTo := none, autoLeave := false } }

/-- HELD reaches the giver, which journals GONE, or the range as held again (08 R264). -/
def heldAnswer (src id st : Nat) (p : Pkg) : Pkg :=
  match p.ldg.nv.outs.find? (fun x => x.id == id && x.dst == src) with
  | none => p
  | some x => if st = 0 then journalXfer id src x.range true 4 (.gone id) p else journalXfer id src x.range true 5 (.back id) p

/-- A transfer out ends: the range is GONE, or held again (08 R264). -/
def outEnds (id : Nat) (gone : Bool) (p : Pkg) : Pkg :=
  match p.ldg.nv.outs.find? (fun x => x.id == id) with
  | none => p
  | some x =>
    let q := updNv (fun n => { n with outs := n.outs.filter (fun y => y.id != id) }) p
    if gone then leaveStep (xferEnd false (updNv (fun n => { n with ranges := subR x.range n.ranges }) q))
    else leaveStep (xferEnd true q)

/-- A voice decides a NOTE(add): the status, or none while it defers its answer (08 R264, R269). -/
def noteDecide (p : Pkg) (giver : Nat) (r : TRange) : Option Nat :=
  match holdAt p giver with
  | none => some 1
  | some h =>
    if h.fenced ∧ h.open_ then none
    else if !h.fenced ∧ hasR r h.ranges ∧ !h.taken.any (meetR r) then some 0 else some 1

/-- The body of a NOTE (08 R280). -/
def noteBody (id giver : Nat) (undo : Bool) (r : TRange) : List Byte := toBe 8 id ++ toBe 2 giver ++ [byte (bit undo), 0] ++ rangeBytes false r

/-- A voice journals what a NOTE moves (08 R253, R264). -/
def noteRecord (src giver id : Nat) (r : TRange) (undo : Bool) (p : Pkg) : Pkg :=
  journalNew (.note src giver id r undo) (msgRecord 0x12 src (noteBody id giver undo r)) p

/-- A transfer in is changed. -/
def putIn (y : XferIn) (p : Pkg) : Pkg := updNv (fun n => { n with ins := n.ins.map (fun z => if z.id = y.id then y else z) }) p

/-- HELD with a status to the giver of a transfer. -/
def sendHeld (dst id st : Nat) (p : Pkg) : Pkg := ldgSend 0x11 dst (toBe 8 id ++ [byte st, 0, 0, 0]) p

/-- NOTE(undo) to voices, this module's own among them (08 R264). -/
def sendUndo (x : XferIn) (l : List Nat) (p : Pkg) : Pkg :=
  l.foldl (fun p v => if v = nodeAddr p then noteRecord v x.src x.id x.range true p
    else ldgSend 0x12 v (noteBody x.id x.src true x.range) p) p

/-- A PENDING receiver with Q acceptances journals HELD, with too many refusals ABORTED (08 R264). -/
def inDecide (x : XferIn) (p : Pkg) : Pkg :=
  if x.oks.length ≥ quorum p then journalXfer x.id x.src x.range false 3 (.held x.id) p
  else if x.nos.length > pairs p - quorum p then journalXfer x.id x.src x.range false 5 (.aborted x.id) p
  else p

/-- A transfer in is HELD: the range is this module's, and the giver hears of it (08 R264). -/
def inHeld (id : Nat) (p : Pkg) : Pkg :=
  match p.ldg.nv.ins.find? (fun x => x.id == id && x.st == .pending) with
  | none => p
  | some x =>
    floorCheck (sendHeld x.src id 0 (xferEnd false
      (updNv (fun n => { n with ranges := addR x.range n.ranges }) (putIn { x with st := .held, answer := 0 } p))))

/-- A transfer in is ABORTED: the voices that accepted undo it, and the giver hears of it (08 R264). -/
def inAborted (id : Nat) (p : Pkg) : Pkg :=
  match p.ldg.nv.ins.find? (fun x => x.id == id && x.st == .pending) with
  | none => p
  | some x =>
    sendUndo x x.oks (sendHeld x.src id 1 (xferEnd true
      (putIn { x with st := .aborted, answer := 1, undo := !x.oks.isEmpty } p)))

/-- NOTE_ACK reaches the receiver (08 R264; log 34). -/
def noteAck (voice id st : Nat) (p : Pkg) : Pkg :=
  match p.ldg.nv.ins.find? (fun x => x.id == id) with
  | none => p
  | some x =>
    match x.st with
    | .pending =>
      if x.oks.contains voice ∨ x.nos.contains voice then p
      else
        let y := if st = 0 then { x with oks := voice :: x.oks } else { x with nos := voice :: x.nos }
        inDecide y (putIn y p)
    | .aborted =>
      if st ≠ 0 then p
      else if x.oks.contains voice then
        let rest := x.oks.filter (fun v => v != voice)
        putIn { x with oks := rest, undo := !rest.isEmpty } p
      else sendUndo x [voice] (putIn { x with oks := voice :: x.oks, undo := true } p)
    | _ => p

/-- A voice answers a NOTE (08 R264). -/
def noteReply (src id st : Nat) (p : Pkg) : Pkg :=
  if src = nodeAddr p then noteAck src id st p else ldgSend 0x13 src (toBe 8 id ++ [byte st, 0, 0, 0]) p

/-- The answer to a NOTE is deferred: until RECLAIM_DONE arrives or 50 ms pass (08 R264). -/
def noteDefer (src giver id : Nat) (r : TRange) (p : Pkg) : Pkg :=
  { p with ldg := { p.ldg with defer_ :=
      { id := id, src := src, giver := giver, range := r, due := p.clk + 50000000 } :: p.ldg.defer_.filter (fun x => x.id != id) } }

/-- NOTE reaches a voice (08 R264). -/
def noteAt (src : Nat) (d : List Byte) (p : Pkg) : Pkg :=
  let id := be d 0 8
  let giver := be d 8 2
  let r : TRange := ⟨be d 12 4 % 2 ^ 24, be d 16 4⟩
  if !isVoice p then p
  else if be d 10 1 = 1 then noteRecord src giver id r true p
  else match noteDecide p giver r with
    | some 0 => noteRecord src giver id r false p
    | some st => noteReply src id st p
    | none => noteDefer src giver id r p

/-- The journaled entry of a NOTE takes effect; a reclaim voted in the meantime decides it anew (08 R264). -/
def noteDone (src giver id : Nat) (r : TRange) (undo : Bool) (p : Pkg) : Pkg :=
  if undo then noteReply src id 0 (enterNote src giver r true p)
  else match noteDecide p giver r with
    | some 0 => noteReply src id 0 (enterNote src giver r false p)
    | some st => noteReply src id st p
    | none => noteDefer src giver id r p

/-- A deferred answer is given: the reclaim is done, or 50 ms have passed (08 R264). -/
def noteLate (x : Deferred) (p : Pkg) : Pkg :=
  let q := { p with ldg := { p.ldg with defer_ := p.ldg.defer_.filter (fun y => y.id != x.id) } }
  match (noteDecide p x.giver x.range).getD 1 with
  | 0 => noteRecord x.src x.giver x.id x.range false q
  | st => noteReply x.src x.id st q

/-- Reason for which a PREPARE is refused, 0 for none (08 R245, R264; log 34). -/
def prepareBad (ver : Nat) (r : TRange) (p : Pkg) : Nat :=
  if p.ldg.nv.st = .fenced then 2
  else if p.ldg.nv.st ≠ .joined then 3
  else if (p.ldg.nv.map_.map (·.ver)) ≠ some ver then 4
  else if !fitsIn r p then 5
  else 0

/-- PREPARE reaches the receiver (08 R264). -/
def prepareAt (src ver : Nat) (d : List Byte) (p : Pkg) : Pkg :=
  let id := be d 0 8
  let r : TRange := ⟨be d 8 4 % 2 ^ 24, be d 12 4⟩
  match p.ldg.nv.ins.find? (fun x => x.id == id) with
  | some x =>
    let p1 := { p with dfn := { p.dfn with dups := inc32 p.dfn.dups } }
    if x.st = .pending then p1 else sendHeld src id (if p.ldg.nv.st = .fenced then 1 else x.answer) p1
  | none =>
    let bad := prepareBad ver r p
    if winBelow src (id % 2 ^ 48) p then sendHeld src id 1 (dfnEvt (fun e => { e with stale := true }) p)
    else if p.mtr.nvBlock then p
    else
      let p := winMark src (id % 2 ^ 48) p
      if bad ≠ 0 then sendHeld src id bad (updNv (fun n => { n with ins := { id := id, src := src, range := r, st := .refused, answer := bad } :: n.ins }) p)
      else journalXfer id src r false 2 (.pend id) (updNv (fun n => { n with ins := { id := id, src := src, range := r } :: n.ins }) p)

/-- A transfer in is PENDING: NOTE(add) to the voices that have not answered (08 R264, R265). -/
def inPending (id : Nat) (p : Pkg) : Pkg :=
  match p.ldg.nv.ins.find? (fun x => x.id == id && x.st == .pending) with
  | none => p
  | some x =>
    let note := noteBody id x.src false x.range
    let q := toVoices 0x12 note p
    if (x.oks ++ x.nos).contains (nodeAddr q) then q else noteAt (nodeAddr q) note q

/-- PREPARE leaves for a transfer that is LEAVING (08 R264). -/
def outLeaving (id : Nat) (p : Pkg) : Pkg :=
  match p.ldg.nv.outs.find? (fun x => x.id == id) with
  | none => p
  | some x => sendPrepare x (updNv (fun n => { n with outs := n.outs.map (fun y => if y.id = id then { y with sent := p.clk } else y) }) p)

/-- A LEAVING giver resends PREPARE after 2 ms without an answer (08 R264). -/
def prepareAgain (id : Nat) (p : Pkg) : Pkg :=
  match p.ldg.nv.outs.find? (fun x => x.id == id) with
  | none => p
  | some x => if awake p ∧ due p (x.sent + 2000000) ∧ !([.offer id, .gone id, .back id].any (waits p)) then outLeaving id p else p

/-- 50 ms have passed since a NOTE was deferred (08 R264). -/
def noteTimeout (id : Nat) (p : Pkg) : Pkg :=
  match p.ldg.defer_.find? (fun x => x.id == id) with
  | some x => if due p x.due then noteLate x p else p
  | none => p

/-! ### Leases (08 R256 to R258, R261, R271) -/

/-- A voice answers a lease request: the status, and for FENCED the reclaimed ranges; none if this module is no voice
(08 R247, R256, R271). -/
def leaseAnswer (src ver : Nat) (p : Pkg) : Option (Nat × List TRange) × Pkg :=
  if !isVoice p then (none, p)
  else
    let h := (holdAt p src).getD {}
    let old := p.ldg.nv.graceTo.isNone && decide (ver < (p.ldg.nv.map_.map (·.ver)).getD 0)
    if h.fenced then (some (2, h.taken), p)
    else if !(mapMods p).any (fun m => m.node == src) then (some (3, []), p)
    else if old then (some (4, []), p)
    else (some (0, []), updHold src (fun h => { h with granted := some p.clk, grantAt := p.tim.now }) (enterHold src p))

/-- A module that is no longer a member ends its sessions and leaves without a command (08 R277). -/
def expelled (p : Pkg) : Pkg :=
  if p.ldg.nv.st = .leaving ∨ p.ldg.nv.st = .left_ ∨ p.ldg.nv.st = .unjoined then p
  else
    let p1 := (List.range 4).foldl (fun p r => endSession r 0xB p) p
    let p2 := updNv (fun n => { n with st := .leaving }) p1
    leaveStep { p2 with ldg := { p2.ldg with autoLeave := true } }

/-- REJOIN reaches a voice, which journals it (08 R271). -/
def rejoinAt (src : Nat) (p : Pkg) : Pkg :=
  if isVoice p then journalNew (.rejoin src) (msgRecord 0x52 src (toBe 4 0)) p else p

/-- A FENCED refusal: the reclaimed ranges are journaled GONE (08 R271). -/
def fencedAt (rs : List TRange) (p : Pkg) : Pkg :=
  journalNew (.fenced rs) (msgRecord 0x21 (nodeAddr p) ((rs.map (rangeBytes false)).flatten)) p

/-- The reclaimed ranges are GONE: the module is FENCED, and sends REJOIN to every voice, to the one that took its pair's over
among them (08 R271). -/
def fencedDone (rs : List TRange) (p : Pkg) : Pkg :=
  let hit := fun (x : XferOut) => rs.any (meetR x.range)
  let ends := fun (y : XferRec) => y.giver && (p.ldg.nv.outs.filter hit).any (fun x => x.id == y.id)
  let p1 := ldgEvt (fun e => { e with fenced := true }) (updNv (fun n =>
    { n with st := if n.st = .leaving then .leaving else .fenced, ranges := subAll rs n.ranges, outs := n.outs.filter (fun x => !hit x)
             xlog := n.xlog.map (fun y => if ends y then { y with st := 4, time := p.tim.now, clk := p.clk } else y) }) p)
  let p2 := toVoices 0x52 (toBe 4 0) (passVoice (nodeAddr p) p1)
  leaveStep (rejoinAt (nodeAddr p) (returnVoice (nodeAddr p) p2))

/-- A lease request gathers its grants (08 R257, R261). -/
def grantAt (src id st : Nat) (rs : List TRange) (p : Pkg) : Pkg :=
  match p.ldg.reqs.find? (fun q => q.id == id) with
  | none => p
  | some q =>
    if st = 2 then (if [.joined, .fenced, .leaving].contains p.ldg.nv.st then fencedAt rs p else p)
    else if st = 3 then expelled p
    else if st = 4 then ldgEvt (fun e => { e with mapOld := true }) p
    else if st ≠ 0 ∨ q.grants.contains src ∨ !(voices p).contains src then p
    else
      let q1 := { q with grants := src :: q.grants, done := decide (q.grants.length + 1 ≥ quorum p) }
      let p1 := { p with ldg := { p.ldg with reqs := p.ldg.reqs.map (fun x => if x.id = id then q1 else x) } }
      if q.done ∨ !q1.done then p1
      else
        let to_ := max (q.at_ + 500000000) (p.ldg.leaseTo.getD 0)
        let ok := decide (p.tim.now < to_)
        let p2 := updNv (fun n => { n with st := if n.st = .fenced then .joined else n.st })
          { p1 with ldg := { p1.ldg with leaseTo := some to_, granted := some q.clk, everQ := true, low := p1.ldg.low && !ok } }
        if ok then unIsolate p2 else p2

/-- This module's own voice handles a message for it. -/
def ownGrant (ver id : Nat) (p : Pkg) : Pkg :=
  match leaseAnswer (nodeAddr p) ver p with
  | (some (st, rs), p1) => grantAt (nodeAddr p) id st rs p1
  | (none, p1) => p1

/-- JOIN_ACK reaches a joining module (08 R275). -/
def joinAck (src st : Nat) (p : Pkg) : Pkg :=
  if p.ldg.nv.st ≠ .joining ∨ st ≠ 0 ∨ p.ldg.joinAcks.contains src then p
  else
    let l := src :: p.ldg.joinAcks
    let p1 := { p with ldg := { p.ldg with joinAcks := l } }
    if l.length ≥ quorum p then floorCheck (updNv (fun n => { n with st := .joined }) p1) else p1

/-- JOIN_REQ reaches a voice: an empty holding is journaled, if it has none (08 R275); the status of an answer given at once. -/
def joinReq (src : Nat) (p : Pkg) : Option Nat × Pkg :=
  if !isVoice p then (none, p)
  else if !(mapMods p).any (fun m => m.node == src) then (some 3, p)
  else match holdAt p src with
    | some h => (some (if h.fenced then 2 else 0), p)
    | none => (none, journalNew (.join src) (msgRecord 0x50 src (toBe 4 0)) p)

/-- A voice answers JOIN_REQ (08 R275). -/
def joinReply (src st : Nat) (p : Pkg) : Pkg :=
  if src = nodeAddr p then joinAck src st p else ldgSend 0x51 src [byte st, 0, 0, 0] p

/-- JOIN_REQ reaches a voice (08 R275). -/
def joinAt (src : Nat) (p : Pkg) : Pkg :=
  match joinReq src p with
  | (some st, q) => joinReply src st q
  | (none, q) => q

/-- JOIN_REQ goes to every voice (08 R275). -/
def sendJoin (p : Pkg) : Pkg :=
  let p1 := toVoices 0x50 (toBe 4 0) p
  joinAt (nodeAddr p) p1

/-- The module's instant of every 100 ms of site time, at which no request has been sent yet (08 R256). -/
def leaseInstant (p : Pkg) : Bool :=
  p.tim.now / 1000000 % 100 == nodeAddr p % 100 && !p.ldg.reqs.any (fun q => q.at_ / 1000000 == p.tim.now / 1000000)

/-- At that instant: LEASE_REQ to every voice; while the module joins, JOIN_REQ again (08 R256, R275). -/
def leaseSend (p : Pkg) : Pkg :=
  if !awake p ∨ p.ldg.nv.map_.isNone ∨ !leaseInstant p then p
  else match p.ldg.nv.st with
    | .unjoined => p
    | .left_ => p
    | .joining => sendJoin p
    | _ =>
      let id := (p.ldg.reqCtr + 1) % 2 ^ 32
      let body := toBe 4 id ++ toBe 4 (heldTok p) ++ toBe 4 (countR (floorR p)) ++ toBe 4 p.ldg.temp
      let p1 := { p with ldg := { p.ldg with reqCtr := id, reqs := cap 8 ({ id := id, at_ := p.tim.now, clk := p.clk } :: p.ldg.reqs) } }
      ownGrant ((p.ldg.nv.map_.map (·.ver)).getD 0) id (toVoices 0x20 body p1)

/-- LEASE_REQ reaches a voice, which answers it (08 R256). -/
def leaseReqAt (src ver : Nat) (d : List Byte) (p : Pkg) : Pkg :=
  match leaseAnswer src ver p with
  | (none, p1) => p1
  | (some (st, rs), p1) =>
    ldgSend 0x21 src (be d 0 4 |> fun id => toBe 4 id ++ [byte st, byte rs.length, 0, 0] ++ (rs.map (rangeBytes false)).flatten) p1

/-- A request has fewer than Q grants 20 ms after it was sent (08 R257). -/
def renewLate (p : Pkg) : Pkg :=
  let l := fun (q : LeaseReq) => !q.done && !q.late && due p (q.clk + 20000000)
  if p.ldg.reqs.any l then ldgEvt (fun e => { e with renewLate := true })
    { p with ldg := { p.ldg with reqs := p.ldg.reqs.map (fun q => { q with late := q.late || l q }) } }
  else p

/-- 150 ms or less of the lease remains (08 R258). -/
def leaseLow (p : Pkg) : Pkg :=
  match p.ldg.leaseTo with
  | some t => if dueSite p (t - 150000000) then { p with ldg := { p.ldg with low := true } } else p
  | none => p

/-- The lease expires (08 R258, 02 R65). -/
def leaseExpire (p : Pkg) : Pkg :=
  match p.ldg.leaseTo with
  | some t =>
    if dueSite p t then
      leaseOut (ldgEvt (fun e => { e with expired := true }) { p with ldg := { p.ldg with leaseTo := none, low := true } })
    else p
  | none => p

/-! ### The ledger cycle (08 R266, R267, R273, R278) -/

/-- What R266 takes of a module: silent or isolated, and its held, floor, want and weight. -/
structure Share where
  /-- Node address. -/
  node  : Nat
  /-- Silent or isolated. -/
  fixed : Bool
  /-- Held. -/
  held  : Nat
  /-- Floor. -/
  floor : Nat
  /-- Want. -/
  want  : Nat
  /-- Weight. -/
  w     : Nat

/-- The modules of the map as the summaries of the previous cycle show them (08 R266). -/
def shares (p : Pkg) : List Share :=
  (mapMods p).map (fun m =>
    let x := peerAt p m.node
    { node := m.node, fixed := decide (x.age ≥ 2) || x.isolated, held := x.held, floor := m.floor
      want := x.demand - x.temp - m.floor, w := x.weight })

/-- The targets of R266. -/
def targets (n : Nat) (l : List Share) : List (Share × Nat) :=
  let fix := sumN ((l.filter (·.fixed)).map (·.held))
  let oth := l.filter (fun x => !x.fixed)
  let shared := n - fix - sumN (oth.map (·.floor))
  let got := fill shared (oth.map (fun x => (x.want, x.w)))
  (l.filter (·.fixed)).map (fun x => (x, x.held)) ++ oth.zip ((oth.zip got).map (fun y => y.1.floor + y.2))

/-- Sort by node address. -/
def insNode (x : Nat × Nat) : List (Nat × Nat) → List (Nat × Nat)
  | [] => [x]
  | y :: l => if x.1 ≤ y.1 then x :: y :: l else y :: insNode x l

/-- Greedy matching of givers to receivers: (giver, receiver, amount) (08 R267). -/
def matchUp : Nat → List (Nat × Nat) → List (Nat × Nat) → List (Nat × Nat × Nat)
  | 0, _, _ => []
  | _, [], _ => []
  | _, _, [] => []
  | k + 1, (g, a) :: gs, (r, b) :: rs =>
    let m := min a b
    (g, r, m) :: matchUp k (if a > m then (g, a - m) :: gs else gs) (if b > m then (r, b - m) :: rs else rs)

/-- This module's matches (08 R267). -/
def ownMatches (p : Pkg) (t : List (Share × Nat)) : List (Nat × Nat) :=
  let min_ := (p.ldg.nv.map_.map (·.minXfer)).getD 10
  let gs := (t.filter (fun x => decide (x.1.held ≥ x.2 + min_))).map (fun x => (x.1.node, x.1.held - x.2))
  let rs := (t.filter (fun x => decide (x.2 ≥ x.1.held + min_))).map (fun x => (x.1.node, x.2 - x.1.held))
  let sort := fun l : List (Nat × Nat) => l.foldl (fun a x => insNode x a) []
  ((matchUp (gs.length + rs.length) (sort gs) (sort rs)).filter (fun x => x.1 == nodeAddr p)).map (·.2)

/-- Free tokens that an offer may take: usable grid tokens not lent, within the import of the last two cycles (08 R262;
log 39). -/
def offerable (p : Pkg) : Nat :=
  let lentGrid := sumN p.ldg.lent - tempTok p
  let free := usable p - max (countR (floorR p)) lentGrid
  let imp := if p.ldg.import_.length < 2 then usable p else (sumI p.ldg.import_ / 2).toNat
  min free (usable p - imp)

/-- One offer of a match, from the lowest-indexed free tokens (08 R262, R267). -/
def tryOffer (m : Nat × Nat) (p : Pkg) : Pkg :=
  let n := min m.2 (offerable p)
  match freeR p with
  | r :: _ =>
    let g : TRange := ⟨r.first, min r.count n⟩
    if n = 0 ∨ p.ldg.nv.outs.length ≥ 16 ∨ p.ldg.nv.outs.any (fun x => x.dst == m.1) ∨ !fitsOut g p then p
    else offer m.1 g p
  | [] => p

/-- Tokens at or above the N of a pending map that lowers P_SITE: offered to the lowest voice with a lease, which
destroys them (08 R278; log 35). -/
def shrink (p : Pkg) : Pkg :=
  match doomedR p with
  | none => p
  | some top =>
    if p.ldg.nv.st ≠ .joined then p
    else if leaseVoice p = nodeAddr p then
      let p1 := updNv (fun n => { n with ranges := subR top n.ranges }) p
      updHold (nodeAddr p) (fun h => setHold p1 (subR top h.ranges) h) p1
    else match (freeR p).filter (meetR top) with
      | r :: _ =>
        let f := max r.first top.first
        let g : TRange := ⟨f, min (r.first + r.count - f) (offerable p)⟩
        if g.count = 0 ∨ p.ldg.nv.outs.any (fun x => x.dst == leaseVoice p) ∨ p.ldg.nv.outs.length ≥ 16 ∨ !fitsOut g p then p
        else offer (leaseVoice p) g p
      | [] => p

/-- Steps whose record could not be journaled when they fell due are taken up again: decisions of PENDING transfers, and a
leave (08 R264, R276; 19 R580). -/
def ledgerRetry (p : Pkg) : Pkg :=
  leaveStep ((p.ldg.nv.ins.filter (fun x => x.st == .pending && !waits p (.pend x.id))).foldl (fun p x => inDecide x p) p)

/-- The 10 ms boundary: temporary tokens, allocation, offers, and the SUMMARY flooded to all modules (08 R266, R267,
R273; 01 R33). -/
def ledgerCycle (p : Pkg) : Pkg :=
  if !awake p ∨ p.ldg.nv.map_.isNone ∨ p.ldg.nv.st = .unjoined ∨ p.ldg.nv.st = .left_ then p
  else
    let t := targets ((p.ldg.nv.map_.map (·.n)).getD 0) (shares p)
    let own := ((t.find? (fun x => x.1.node == nodeAddr p)).map (·.2)).getD (heldTok p)
    let p1 := { p with ldg := { p.ldg with target := own, surplus := decide (heldTok p > own)
                                           peers := p.ldg.peers.map (fun x => { x with age := x.age + 1 }) } }
    let p2 := if own < moduleDemand p then ldgEvt (fun e => { e with unmet := true }) p1 else p1
    let p3 := shrink p2
    let p4 := if p3.ldg.nv.st = .joined ∧ leaseOk p3 then (ownMatches p3 t).foldl (fun p m => tryOffer m p) p3 else p3
    let w := ((ownMod p4).map (·.w)).getD 16
    let iso := inMode p4 [.isolated]
    let lv := p4.ldg.nv.st == .leaving
    let fl := countR (floorR p4)
    let p5 := updPeer (nodeAddr p4) (fun x => { x with held := heldTok p4, floor := fl, temp := p4.ldg.temp, weight := w
                                                       demand := moduleDemand p4, isolated := iso, leaving := lv, age := 0
                                                       heard := p4.clk }) p4
    floorCheck (ledgerRetry (ldgSend 0x30 0xFFFF (toBe 4 (heldTok p5) ++ toBe 4 fl ++ toBe 4 p5.ldg.temp ++ toBe 4 (moduleDemand p5)
      ++ [byte w, byte (bit iso + 2 * bit lv), 0, 0]) p5))

/-- A SUMMARY is kept for the next allocation (08 R266). -/
def summaryAt (src : Nat) (d : List Byte) (p : Pkg) : Pkg :=
  let f := be d 17 1
  updPeer src (fun x => { x with held := be d 0 4, floor := be d 4 4, temp := be d 8 4, demand := be d 12 4, weight := be d 16 1
                                 isolated := tb f 0, leaving := tb f 1, age := 0 }) p

/-! ### Reclaim (08 R268 to R270) -/

/-- The body of RECLAIM_DONE (08 R280). -/
def doneBody (target id : Nat) (rs : List TRange) : List Byte :=
  toBe 2 target ++ [0, byte rs.length] ++ toBe 4 id ++ (rs.map (rangeBytes false)).flatten

/-- RECLAIM_DONE: a voice that the target held passes on, and a voice journals the ranges (08 R264, R270). -/
def reclaimDone (src target : Nat) (rs : List TRange) (p : Pkg) : Pkg :=
  if p.mtr.nvBlock then p
  else
    let q := updPeer target (fun x => { x with held := x.held - countR rs }) (passVoice target p)
    if isVoice q then
      journalNew (.done_ src target rs) (msgRecord 0x42 src (doneBody target 0 rs)) q
    else q

/-- The journaled reclaim takes effect at a voice: the ranges move to the reclaimer, and deferred answers are given
(08 R264, R270). -/
def doneDone (src target : Nat) (rs : List TRange) (p : Pkg) : Pkg :=
  let q := enterDone src target rs p
  (q.ldg.defer_.filter (fun x => x.giver == target)).foldl (fun p x => noteLate x p) q

/-- Ranges every voting voice shows with the target and not as floor (08 R270). -/
def takeable (votes : List (Nat × List TRange × List TRange)) : List TRange :=
  match votes with
  | [] => []
  | v :: l =>
    let clear := fun (x : Nat × List TRange × List TRange) => subAll x.2.2 x.2.1
    l.foldl (fun a x => (a.map (fun r => subAll (subAll (clear x) [r]) [r])).flatten) (clear v)

/-- A vote reaches the reclaimer; with Q yes votes the reclaim is journaled, of as many ranges as the holding takes
(08 R245, R270). -/
def reclaimVote (voice target st id : Nat) (rs : List (TRange × Bool)) (p : Pkg) : Pkg :=
  match p.ldg.recl.find? (fun x => x.target == target && x.id == id) with
  | none => p
  | some x =>
    if st ≠ 0 ∨ x.votes.any (fun v => v.1 == voice) then p
    else
      let v := (voice, rs.map (·.1), (rs.filter (·.2)).map (·.1)) :: x.votes
      let p1 := { p with ldg := { p.ldg with recl := p.ldg.recl.map (fun y => if y.target = target then { y with votes := v } else y) } }
      if v.length < quorum p ∨ p.mtr.nvBlock then p1
      else
        let t := fitR p.ldg.nv.ranges (takeable v)
        journalNew (.reclaim target id t) (msgRecord 0x42 (nodeAddr p) (doneBody target id t))
          { p1 with ldg := { p1.ldg with recl := p1.ldg.recl.filter (fun y => y.target != target) } }

/-- The journaled reclaim takes effect at the reclaimer: the ranges are its own, and RECLAIM_DONE goes to every voice
(08 R270). -/
def reclaimTaken (target id : Nat) (t : List TRange) (p : Pkg) : Pkg :=
  let q := updNv (fun n => { n with ranges := t.foldl (fun l r => addR r l) n.ranges }) (ldgEvt (fun e => { e with reclBy := true }) p)
  floorCheck (reclaimDone (nodeAddr p) target t (toVoices 0x42 (doneBody target id t) (passVoice target q)))

/-- The ranges of a vote, floor ranges marked, with their bytes (08 R280). -/
def voteRanges (h : Holding) : List (TRange × Bool) :=
  h.floors.map (fun r => (r, true)) ++ (subAll h.floors h.ranges).map (fun r => (r, false))

/-- The body of RECLAIM_VOTE (08 R280). -/
def voteBody (target st id : Nat) (rs : List (TRange × Bool)) : List Byte :=
  toBe 2 target ++ [byte st, byte rs.length] ++ toBe 4 id ++ (rs.map (fun x => rangeBytes x.2 x.1)).flatten

/-- A voice's vote with its entry of the target reaches the reclaimer (08 R269). -/
def voteReply (src target st id : Nat) (p : Pkg) : Pkg :=
  let rs := if st = 0 then voteRanges ((holdAt p target).getD {}) else []
  if src = nodeAddr p then reclaimVote src target st id rs p else ldgSend 0x41 src (voteBody target st id rs) p

/-- A voice votes on a RECLAIM_REQ: a yes fences the target at once, and leaves once its record is accepted (08 R253, R269). -/
def reclaimAsk (src target id : Nat) (p : Pkg) : Pkg :=
  if !isVoice p then p
  else
    let h := holdAt p target
    let w := reclaimWait p
    let old : Bool := match h.bind (·.granted) with
      | some t => decide (t + w ≤ p.clk)
      | none => true
    let other : Bool := match h.bind (·.vote) with
      | some (n, t) => n != src && decide (p.clk < t + w)
      | none => false
    if h.isSome ∧ old ∧ p.ldg.upSince + w ≤ p.clk ∧ !other then
      if p.mtr.nvBlock then p
      else journalNew (.vote src target id) (msgRecord 0x41 src (voteBody target 0 id [])) (enterFence src target p)
    else voteReply src target 1 id p

/-- This module reclaims a silent one (08 R268). -/
def reclaimStart (target : Nat) (p : Pkg) : Pkg :=
  let b := buddyOf p target
  let me := nodeAddr p
  let who := if knownLease p b then b else lowest (((mapMods p).map (·.node)).filter (fun n => n != target && knownLease p n))
  let silent := due p (max (peerAt p target).heard p.ldg.upSince + reclaimWait p)
  if awake p ∧ leaseOk p ∧ who = me ∧ target ≠ me ∧ silent ∧ (mapMods p).any (fun m => m.node == target) ∧
      !p.ldg.recl.any (fun x => x.target == target) then
    let id := (p.ldg.reqCtr + 1) % 2 ^ 32
    let p1 := { p with ldg := { p.ldg with reqCtr := id, recl := { target := target, id := id, sent := p.clk } :: p.ldg.recl } }
    reclaimAsk me target id (toVoices 0x40 (toBe 2 target ++ [0, 0] ++ toBe 4 id) p1)
  else p

/-- A reclaimer lacks Q yes votes 20 ms after its request, and releases them (08 R269). -/
def voteTimeout (target : Nat) (p : Pkg) : Pkg :=
  match p.ldg.recl.find? (fun x => x.target == target) with
  | some x => if due p (x.sent + 20000000) then { p with ldg := { p.ldg with recl := p.ldg.recl.filter (fun y => y.target != target) } } else p
  | none => p

/-! ### Joining, leaving, maps (08 R247, R275 to R278) -/

/-- Every token that a lower P_SITE takes away has been offered to the lowest voice with a lease, which destroys it, as far as this
module knows (08 R278; log 35). -/
def shrunk (p : Pkg) (n : Nat) : Bool :=
  let low := fun l : List TRange => l.all (fun r => decide (r.first + r.count ≤ n))
  low p.ldg.nv.ranges && p.ldg.nv.table.all (fun h => h.node == leaseVoice p || low h.ranges)

/-- The table under a map that takes effect: an entry for each of its modules, no token that a lower P_SITE took away, and new
tokens with the lowest voice with a lease (08 R255, R278). -/
def tableMap (w : SiteMap) (old : Nat) (p : Pkg) : Pkg :=
  let p1 := w.mods.foldl (fun p m => enterHold m.node p) p
  let top : TRange := ⟨w.n, old - w.n⟩
  let p2 := updNv (fun n => { n with ranges := subR top n.ranges, table := n.table.map (fun h => { h with ranges := subR top h.ranges, floors := subR top h.floors }) }) p1
  let v := leaseVoice p2
  if w.n ≤ old ∨ v = 0 then p2
  else
    let r : TRange := ⟨old, w.n - old⟩
    let p3 := updHold v (fun h => setHold p2 (addR r h.ranges) h) (enterHold v p2)
    if v = nodeAddr p3 then updNv (fun n => { n with ranges := addR r n.ranges }) p3 else p3

/-- A site map takes effect: the module takes its node address, the table follows, and older maps are refused after 60 s
(08 R247, R278, 13 R412). -/
def takeMap (w : SiteMap) (p : Pkg) : Pkg :=
  let old := (p.ldg.nv.map_.map (·.n)).getD 0
  let p1 := updNv (fun n => { n with map_ := some w, pendMap := none, moved := [], graceTo := some (w.act + 60000000000) }) p
  let p1 := netMap (w.mods.map (fun m => (m.node, m.serial))) w.cls p1
  tableMap w old (match w.mods.find? (fun m => m.serial == p.dfn.serial) with
    | some m => { p1 with dfn := { p1.dfn with nv := { p1.dfn.nv with addr := m.node
                                                                      held := (m.node :: p1.dfn.nv.held).eraseDups } } }
    | none => p1)

/-- A pending site map reaches ACTIVATION (08 R247, R278). -/
def mapActivate (p : Pkg) : Pkg :=
  match p.ldg.nv.pendMap with
  | some w =>
    let less := decide (w.n < (p.ldg.nv.map_.map (·.n)).getD 0)
    if dueSite p w.act ∧ (!less ∨ shrunk p w.n) then takeMap w p else p
  | none => p

/-- 60 s after ACTIVATION, lease requests of older maps are refused (08 R247). -/
def graceOver (p : Pkg) : Pkg :=
  match p.ldg.nv.graceTo with
  | some t => if dueSite p t then updNv (fun n => { n with graceTo := none }) p else p
  | none => p

/-- A site map that IMAGE_COMMIT accepts (08 R246, 01 R60, R61, 13 R412). -/
def mapOk (p : Pkg) (w : SiteMap) : Bool :=
  let nodes := w.mods.map (·.node)
  let sizes := ((w.mods.map (·.group)).eraseDups).map (fun g => (w.mods.filter (fun m => m.group == g)).length)
  let odd := (sizes.filter (fun k => k == 3)).length
  decide (sumN (w.mods.map (·.floor)) ≤ w.n) && nodes.eraseDups.length == nodes.length &&
    sizes.all (fun k => k == 2 || k == 3) && odd == w.mods.length % 2 && decide (w.mods.length ≥ 2) &&
    decide (w.ver > (p.ldg.nv.map_.map (·.ver)).getD 0) && inR 2 16777216 w.n && inR 3 50 w.skew && inR 1 1000 w.minXfer &&
    inR 1 60 w.horizon && w.mods.all (fun m => decide (m.floor ≤ w.n) && inR 1 255 m.w && inR 1 0xDFFF m.node
      && (!p.dfn.nv.held.contains m.node || m.serial == p.dfn.serial)) &&
    w.cls.all (fun c => inR 0 15 c.1 && inR 0 15 c.2.1 && inR 0 15 c.2.2.1 && inR 0 15 c.2.2.2)

/-! ### Accepted records take effect (08 R253, R263; 13 R429; log 32) -/

/-- The effect of a ledger record, once it is accepted (08 R253, R263, R264, R269 to R271, R275, R276). -/
def ledgerAct : LdgAct → Pkg → Pkg
  | .offer id, p => outLeaving id p
  | .pend id, p => inPending id p
  | .held id, p => inHeld id p
  | .aborted id, p => inAborted id p
  | .gone id, p => outEnds id true p
  | .back id, p => outEnds id false p
  | .note src giver id r undo, p => noteDone src giver id r undo p
  | .vote src target id, p => voteReply src target 0 id p
  | .reclaim target id rs, p => reclaimTaken target id rs p
  | .done_ src target rs, p => doneDone src target rs p
  | .fenced rs, p => fencedDone rs p
  | .join src, p => joinReply src 0 (enterHold src p)
  | .leave src, p => dropHold src p
  | .rejoin src, p => returnVoice src (enterRejoin src p)

/-- Records that are accepted take effect, oldest first, with those that follow from them (13 R429, R433). -/
def ledgerRun : Nat → Pkg → Pkg
  | 0, p => p
  | n + 1, p =>
    match p.ldg.nv.recs.find? (fun r => mayAccept p r.no 2) with
    | none => p
    | some r => ledgerRun n (ledgerAct r.act (acceptRec r.no 2 r.data (updNv (fun v => { v with recs := v.recs.erase r }) p)))

/-- An operation of the ledger, and the records accepted with it: at most as many as its own steps and those waiting can
bring about. -/
def ledgerSettle (p : Pkg) : Pkg := ledgerRun (64 + 16 * (p.ldg.nv.recs.length + p.ldg.defer_.length)) p

/-- A copy of the voice's records keeps the table of its pair's other members (08 R253, R270, R272; 13 R432, R435; log 32). -/
def mirrorTable (src : Nat) (d : List Byte) (p : Pkg) : Pkg :=
  let from_ := be d 2 2
  let b := d.drop 4
  let grp := fun n => ((mapMods p).find? (fun m => m.node == n)).map (·.group)
  if src = nodeAddr p ∨ (grp src).isNone ∨ grp src ≠ grp (nodeAddr p) then p
  else match be d 0 1 with
    | 0x12 => enterNote from_ (be b 8 2) ⟨be b 12 4 % 2 ^ 24, be b 16 4⟩ (be b 10 1 == 1) p
    | 0x41 => enterFence from_ (be b 0 2) p
    | 0x42 => enterDone from_ (be b 0 2) ((rangesAt b 8 (be b 3 1)).map (·.1)) (passVoice (be b 0 2) p)
    | 0x50 => enterHold from_ p
    | 0x52 => returnVoice from_ (enterRejoin from_ p)
    | 0x53 => dropHold from_ p
    | _ => p

/-! ### Messages and timers of the ledger -/

/-- Take a ledger message of a type: it is heard from its sender, and its meaning is applied to sender, MAP_VER and body;
any other message is discarded (08 R268, R279, R280). -/
def ldgTake (type : Nat) (msg : List Byte) (f : Nat → Nat → List Byte → Pkg → Pkg) (p : Pkg) : Pkg :=
  let src := be msg 4 2
  let dst := be msg 6 2
  if awake p ∧ be msg 0 1 = type ∧ (dst = nodeAddr p ∨ dst = 0xFFFF) then
    ledgerSettle (f src (be msg 8 4) ((msg.drop 16).take (be msg 2 2)) (updPeer src (fun x => { x with heard := p.clk }) p))
  else p

/-- PREPARE (08 R264). -/
def execPrepare (msg : List Byte) (s : State) : Out := run1 (ldgTake 0x10 msg prepareAt) s

/-- PREPARE_RESEND (08 R264). -/
def execPrepareResend (id : Nat) (s : State) : Out := run1 (prepareAgain id) s

/-- NOTE (08 R264). -/
def execNote (msg : List Byte) (s : State) : Out := run1 (ldgTake 0x12 msg (fun src _ d => noteAt src d)) s

/-- NOTE_DEFER_TIMEOUT (08 R264). -/
def execNoteDeferTimeout (id : Nat) (s : State) : Out := run1 (fun p => ledgerSettle (noteTimeout id p)) s

/-- NOTE_ACK (08 R264). -/
def execNoteAck (msg : List Byte) (s : State) : Out :=
  run1 (ldgTake 0x13 msg (fun src _ d => noteAck src (be d 0 8) (be d 8 1))) s

/-- HELD (08 R264). -/
def execHeld (msg : List Byte) (s : State) : Out :=
  run1 (ldgTake 0x11 msg (fun src _ d => heldAnswer src (be d 0 8) (be d 8 1))) s

/-- LEASE_REQUEST_SEND (08 R256). -/
def execLeaseRequestSend (s : State) : Out := run1 (fun p => ledgerSettle (leaseSend p)) s

/-- LEASE_REQ (08 R256). -/
def execLeaseReq (msg : List Byte) (s : State) : Out := run1 (ldgTake 0x20 msg leaseReqAt) s

/-- LEASE_GRANT (08 R257). -/
def execLeaseGrant (msg : List Byte) (s : State) : Out :=
  run1 (ldgTake 0x21 msg (fun src _ d =>
    grantAt src (be d 0 4) (be d 4 1) ((rangesAt d 8 (be d 5 1)).map (·.1)))) s

/-- RENEW_LATE (08 R257). -/
def execRenewLate (s : State) : Out := run1 renewLate s

/-- LEASE_LOW (08 R258). -/
def execLeaseLow (s : State) : Out := run1 leaseLow s

/-- LEASE_EXPIRY (08 R258). -/
def execLeaseExpiry (s : State) : Out := run1 leaseExpire s

/-- SUMMARY (08 R266). -/
def execSummary (msg : List Byte) (s : State) : Out := run1 (ldgTake 0x30 msg (fun src _ d => summaryAt src d)) s

/-- RECLAIM_START (08 R268). -/
def execReclaimStart (target : Nat) (s : State) : Out := run1 (fun p => ledgerSettle (reclaimStart target p)) s

/-- RECLAIM_REQ (08 R269). -/
def execReclaimReq (msg : List Byte) (s : State) : Out := run1 (ldgTake 0x40 msg (fun src _ d => reclaimAsk src (be d 0 2) (be d 4 4))) s

/-- RECLAIM_VOTE (08 R270). -/
def execReclaimVote (msg : List Byte) (s : State) : Out :=
  run1 (ldgTake 0x41 msg (fun src _ d =>
    reclaimVote src (be d 0 2) (be d 2 1) (be d 4 4)
      ((rangesAt d 8 (be d 3 1)).map (fun x => ((⟨x.1.first, x.1.count⟩ : TRange), x.2))))) s

/-- RECLAIM_VOTE_TIMEOUT (08 R269). -/
def execReclaimVoteTimeout (target : Nat) (s : State) : Out := run1 (voteTimeout target) s

/-- RECLAIM_DONE (08 R270). -/
def execReclaimDone (msg : List Byte) (s : State) : Out :=
  run1 (ldgTake 0x42 msg (fun src _ d => reclaimDone src (be d 0 2) ((rangesAt d 8 (be d 3 1)).map (·.1)))) s

/-- REJOIN (08 R271). -/
def execRejoin (msg : List Byte) (s : State) : Out := run1 (ldgTake 0x52 msg (fun src _ _ => rejoinAt src)) s

/-- JOIN_REQ (08 R275). -/
def execJoinReq (msg : List Byte) (s : State) : Out :=
  run1 (ldgTake 0x50 msg (fun src _ _ => joinAt src)) s

/-- JOIN_ACK (08 R275). -/
def execJoinAck (msg : List Byte) (s : State) : Out := run1 (ldgTake 0x51 msg (fun src _ d => joinAck src (be d 0 1))) s

/-- LEAVE_NOTE (08 R276). -/
def execLeaveNote (msg : List Byte) (s : State) : Out := run1 (ldgTake 0x53 msg (fun src _ _ => leaveNote src)) s

/-- SITE_MAP_ACTIVATION (08 R247). -/
def execSiteMapActivation (s : State) : Out := run1 mapActivate s

/-- MAP_GRACE_EXPIRY (08 R247). -/
def execMapGraceExpiry (s : State) : Out := run1 graceOver s

/-! ### Commands (08 R281) -/

/-- Guard 0x01: no accepted configuration image and site map (02 R64). -/
def noConfig (p : Pkg) : Bool := p.config.isNone || (p.ldg.nv.map_.isNone && p.ldg.nv.pendMap.isNone)

/-- LDG_POLICY's checks (08 R281). -/
def specLdgPolicy : OpSpec :=
  { op := 0x0401, lenOk := (·.length == 8), role := needOpr, modes := notRetired
    params := fun _ d => (List.range 4).all (fun r => inR 1 255 (u8 d r)) && inR 0 15 (u8 d 4) && zeros d 5 1 && inR 0 2000 (u16 d 6) }

/-- LDG_POLICY: the command's checks (08 R281). -/
def execLdgPolicy (ep : Fin 3) (slot : Fin 64) (s : State) : Out := run1 (submit specLdgPolicy true (slotIx ep slot) noAns) s

/-- LDG_POLICY applied (08 R281). -/
def applyLdgPolicy (d : List Byte) (p : Pkg) : Pkg :=
  { p with ldg := { p.ldg with weight := (List.range 4).map (u8 d), floorUse := (List.range 4).map (tb (u8 d 4)), loss := u16 d 6 } }

/-- LDG_JOIN's checks (08 R275, R281). -/
def specLdgJoin : OpSpec :=
  { op := 0x0402, lenOk := (·.length == 4), role := needOpr, modes := onlyIdle, params := fun _ d => zeros d 0 4
    guard := fun p _ => if noConfig p then 1 else if lcOf p = .blank ∨ lcOf p = .scrapped then 8 else 0 }

/-- LDG_JOIN: the command's checks (08 R275). -/
def execLdgJoin (ep : Fin 3) (slot : Fin 64) (s : State) : Out := run1 (submit specLdgJoin true (slotIx ep slot) noAns) s

/-- LDG_JOIN applied; tokens that the voices have recorded as its own stay (08 R275, R278, R281; log 35). -/
def applyLdgJoin (id : Nat) (p : Pkg) : Pkg :=
  match p.ldg.nv.st with
  | .joined => finishWork id .ok p
  | .fenced => finishWork id .ok p
  | .leaving => finishWork id .ok p
  | .joining => runWork id { p with ldg := { p.ldg with work := p.ldg.work ++ [id] } }
  | _ =>
    let p1 := updNv (fun n => { n with st := .joining, floorSet := false, outs := [], ins := [], xlog := [], recs := [] }) p
    sendJoin (runWork id { p1 with ldg := { p1.ldg with work := [id], joinAcks := [] } })

/-- LDG_LEAVE's checks (08 R276, R281). -/
def specLdgLeave : OpSpec :=
  { op := 0x0403, lenOk := (·.length == 4), role := needOpr, modes := onlyIdle, params := fun _ d => zeros d 0 4 }

/-- LDG_LEAVE: the command's checks (08 R276). -/
def execLdgLeave (ep : Fin 3) (slot : Fin 64) (s : State) : Out := run1 (submit specLdgLeave true (slotIx ep slot) noAns) s

/-- LDG_LEAVE applied (08 R276, R281). -/
def applyLdgLeave (id : Nat) (p : Pkg) : Pkg :=
  match p.ldg.nv.st with
  | .joined | .fenced =>
    leaveStep (updNv (fun n => { n with st := .leaving }) (runWork id { p with ldg := { p.ldg with work := p.ldg.work ++ [id] } }))
  | .leaving => runWork id { p with ldg := { p.ldg with work := p.ldg.work ++ [id] } }
  | _ => finishWork id .ok p

end Sys2Proof.Machine
end

