-- ==== Sys2Proof/Machine/Network.lean ====
section
/-!
DEFINITION. The fabric network (13 R411 to R440): discovery, link state, routes, streams, floods, mirroring, time
exchange and the choice of a time source. A packet row carries bytes 1 to 16 of the packet's first flit, its payload
and its trailer. What a delivered payload makes its user do is the user's own row (log 44).
-/

namespace Sys2Proof.Machine

/-! ### Time exchanges (13 R438, R440) -/

/-- Offset of an exchange to the neighbour of a lane, in ps (13 R438). -/
def exOffset (x : NLane) (e : SyncEx) : Int := e.offset - x.asym

/-- The exchange with the smallest round trip among the last 8 (13 R438). -/
def bestEx (x : NLane) : Option SyncEx :=
  x.exs.foldl (fun a e => match a with
    | none => some e
    | some b => if e.rtt < b.rtt then some e else some b) none

/-- An exchange with the upstream: its offset, LOCKED and OFFSET_LARGE (13 R438, R440, 19 R562). -/
def upExchange (l : Nat) (e : SyncEx) (p : Pkg) : Pkg :=
  let t := p.dfn.time
  if t.up ≠ some l then p
  else
    let x := nlAt p l
    let off := ((bestEx x).map (exOffset x)).getD 0
    let good := if (exOffset x e).natAbs < 50000 then min 8 (t.good + 1) else 0
    let lock := decide (good ≥ 8)
    let big := p.tim.large || (p.tim.sync == .fabric && decide (off.natAbs > 10000000000))
    let large := big && decide (off.natAbs ≥ 1000000000)
    let p1 := { p with dfn := { p.dfn with time := { t with offset := off, good := good, locked := lock } }
                       tim := { p.tim with large := large, evt := { p.tim.evt with offset := p.tim.evt.offset || (large && !p.tim.large) } } }
    timeState (dfnEvt (fun v => { v with unlocked := v.unlocked || (t.locked && !lock) }) p1)

/-- Every 10 ms an exchange is initiated on each UP lane; t1 is the counter at transmission (13 R438). -/
def syncSend (p : Pkg) : Pkg :=
  if !awake p then p
  else (upLanes p).foldl (fun p l =>
    let t := p.tim.now * 1000
    updNl l (fun x => { x with t1 := some t }) (sendLocal l 1 (toBe 8 t) p)) p

/-- SYNC_EXCHANGE_SEND (13 R438). -/
def execSyncExchangeSend (s : State) : Out := run1 syncSend s

/-- A SYNC packet: a request is answered, a reply completes an exchange (13 R438). -/
def syncPacket (l : Nat) (f : SyncIn) (p : Pkg) : Pkg :=
  if !awake p ∨ !laneUp p l then p
  else match f with
    | .request t1 t2 t3 => sendLocal l 1 (toBe 8 t1 ++ toBe 8 t2 ++ toBe 8 t3) p
    | .reply t1 t2 t3 t4 =>
      if (nlAt p l).t1.isNone then p
      else
        let d1 : Int := (t2 : Int) - t1
        let d2 : Int := (t4 : Int) - t3
        let e : SyncEx := { rtt := (d1 + d2).toNat, offset := (d1 - d2) / 2 }
        let p1 := updNl l (fun x => { x with t1 := none, exs := cap 8 (e :: x.exs) }) p
        upExchange l e (timeSource p1)

/-- SYNC_PACKET (13 R438). -/
def execSyncPacket (l : Fin 8) (f : SyncIn) (s : State) : Out := run1 (syncPacket l.val f) s

/-! ### Packets received (13 R411, R416) -/

/-- A packet taken from its bytes; none where its length does not fit or its CRC fails (13 R416). -/
def pktOf (b : List Byte) : Option NPkt :=
  let n := be b 8 2
  if b.length ≠ 20 + n ∨ n = 0 ∨ n > 4096 then none
  else
    let d := slice b 16 n
    if pktCrc (b.take 16) d ≠ be b (16 + n) 4 then none
    else some { cls := be b 1 1 % 16, src := be b 2 2, dst := be b 4 2, ttl := be b 6 1, kind := be b 7 1, seq := be b 10 4
                epoch := be b 14 2, data := d }

/-- A packet at a lane: dropped for its CRC, forwarded, or given to the module (13 R411, R416). -/
def pktIn (l : Nat) (b : List Byte) (use : NPkt → Pkg → Pkg) (p : Pkg) : Pkg :=
  if !awake p ∨ !laneUp p l then p
  else match pktOf b with
    | none => { p with dfn := { p.dfn with crc := inc16 p.dfn.crc } }
    | some k =>
      if k.dst = 0xFFFE ∨ k.dst = myAddr p ∨ k.dst = 0xFFFF then use k p
      else if k.dst ≥ 0xF000 ∨ k.dst = 0 then p
      else if k.ttl ≤ 1 then { p with dfn := { p.dfn with ttl := inc16 p.dfn.ttl } }
      else sendPkt { k with ttl := k.ttl - 1 } p

/-- A flooded packet forwarded on every UP lane except the lane of arrival, while its TTL lasts (13 R415, R416, R428). -/
def passOn (l : Nat) (k : NPkt) (p : Pkg) : Pkg :=
  if k.ttl ≤ 1 then p else ((upLanes p).filter (· != l)).foldl (fun p m => sendOn m { k with ttl := k.ttl - 1 } p) p

/-! ### Neighbours (13 R413, R414) -/

/-- HELLO on every UP lane (13 R414). -/
def helloSend (p : Pkg) : Pkg :=
  if !awake p then p
  else (upLanes p).foldl (fun p l =>
    sendLocal l 1 (toBe 8 p.dfn.serial ++ toBe 2 (nodeAddr p) ++ toBe 2 p.dfn.disc
      ++ [byte l, byte (bit (activeDie p == some .b))] ++ toBe 4 ((p.ldg.nv.map_.map (·.ver)).getD 0)
      ++ toBe 2 (timeWord p)) p) p

/-- HELLO_SEND (13 R414). -/
def execHelloSend (s : State) : Out := run1 helloSend s

/-- A destination first discovered takes the next index while no map is in force (13 R413, R419). -/
def discover (addr serial : Nat) (p : Pkg) : Pkg :=
  if p.ldg.nv.map_.isSome ∨ addr = 0 ∨ addr = myAddr p then p
  else if p.dfn.dests.any (fun d => d.addr == addr) then
    (if serial = 0 then p
     else { p with dfn := { p.dfn with dests := p.dfn.dests.map (fun d => if d.addr = addr then { d with serial := serial } else d) } })
  else if p.dfn.dests.length < 1024 then
    { p with dfn := { p.dfn with dests := p.dfn.dests ++ [{ addr := addr, serial := serial }], dirty := true } }
  else p

/-- The same discovery address with a lower serial elsewhere: this module moves on (13 R413). -/
def clash (disc serial : Nat) (p : Pkg) : Pkg :=
  if p.dfn.disc ≠ 0 ∧ disc = p.dfn.disc ∧ serial ≠ p.dfn.serial ∧ p.dfn.serial > serial then
    dfnEvt (fun e => { e with clash := true })
      { p with dfn := { p.dfn with disc := 0xE000 + (p.dfn.disc - 0xE000 + 1) % 4096, lsaDue := true } }
  else p

/-- A HELLO: its sender is present on the lane (13 R413, R414). -/
def hello (l : Nat) (k : NPkt) (p : Pkg) : Pkg :=
  let b := k.data
  if k.dst ≠ 0xFFFE ∨ b.length ≠ 20 then p
  else
    let n : Nbr := { serial := be b 0 8, node := be b 8 2, disc := be b 10 2, lane := be b 12 1 % 8, die := be b 13 1 % 2
                     mapVer := be b 14 4, time := be b 18 2, heard := p.clk }
    let fresh := match (nlAt p l).nbr with
      | none => true
      | some o => o.serial != n.serial || o.node != n.node || o.disc != n.disc
    let p1 := updNl l (fun x => { x with nbr := some n }) p
    let p2 := if fresh then { p1 with dfn := { p1.dfn with lsaDue := true, dirty := true } } else p1
    timeState (timeSource (discover (if n.node ≠ 0 then n.node else n.disc) n.serial (clash n.disc n.serial p2)))

/-- HELLO (13 R414). -/
def execHello (l : Fin 8) (pkt : List Byte) (s : State) : Out := run1 (pktIn l.val pkt (hello l.val)) s

/-- 30 ms without a HELLO: the neighbour is absent (13 R414, R422). -/
def nbrAbsent (l : Nat) (p : Pkg) : Pkg :=
  match (nlAt p l).nbr with
  | some n => if due p (n.heard + 30000000) then laneLost l p else p
  | none => p

/-- NEIGHBOUR_ABSENT (13 R414). -/
def execNeighbourAbsent (l : Fin 8) (s : State) : Out := run1 (nbrAbsent l.val) s

/-! ### Link state (13 R415) -/

/-- The links the module announces (13 R415). -/
def ownLinks (p : Pkg) : List LsLink :=
  (upLanes p).filterMap (fun l => (nlAt p l).nbr.map (fun n =>
    let x := nlAt p l
    { nbr := if n.node ≠ 0 then n.node else n.disc, lane := l, peer := n.lane, l := x.l, e := x.e, u := x.u }))

/-- A link-state packet is flooded on a change, or every 1 s (13 R415). -/
def lsaSend (p : Pkg) : Pkg :=
  if !awake p ∨ !(p.dfn.lsaDue ∨ due p (p.dfn.lsaAt + 1000000000)) then p
  else
    let n := (p.dfn.lsaSeq + 1) % 2 ^ 32
    let ls := ownLinks p
    let body := toBe 2 (myAddr p) ++ toBe 4 n ++ [byte ls.length, 0]
      ++ (ls.map (fun k => toBe 2 k.nbr ++ [byte k.lane, byte k.peer, byte k.l, byte k.e, byte k.u, 0])).flatten
    floodSend 0 body { p with dfn := { p.dfn with lsaSeq := n, lsaAt := p.clk, lsaDue := false
                                                  lane := p.dfn.lane.map (fun x => { x with flooded := (x.l, x.e, x.u) }) } }

/-- LSA_SEND (13 R415). -/
def execLsaSend (s : State) : Out := run1 lsaSend s

/-- The links of a link-state body. -/
def lsaLinks (b : List Byte) : List LsLink :=
  (List.range (be b 6 1)).map (fun i =>
    let o := 8 + 8 * i
    { nbr := be b o 2, lane := be b (o + 2) 1, peer := be b (o + 3) 1, l := be b (o + 4) 1, e := be b (o + 5) 1, u := be b (o + 6) 1 })

/-- A link-state packet: stored and forwarded if it is newer (13 R415, R416). -/
def lsaIn (l : Nat) (k : NPkt) (p : Pkg) : Pkg :=
  let b := k.data
  let o := be b 0 2
  let q := be b 2 4
  let old := p.dfn.lsas.find? (fun x => x.origin == o)
  let fresh : Bool := match old with
    | none => true
    | some x => newer q x.seq
  if k.kind ≠ 3 ∨ k.dst ≠ 0xFFFF ∨ o = myAddr p ∨ b.length ≠ 8 + 8 * be b 6 1 ∨ !fresh then p
  else
    let ls := lsaLinks b
    let changed := match old with
      | none => true
      | some x => x.links != ls
    let a : Lsa := { origin := o, seq := q, links := ls, at_ := p.clk }
    let p1 := { p with dfn := { p.dfn with lsas := a :: p.dfn.lsas.filter (fun x => x.origin != o), dirty := p.dfn.dirty || changed } }
    discover o 0 (passOn l k p1)

/-- LSA (13 R415). -/
def execLsa (l : Fin 8) (pkt : List Byte) (s : State) : Out := run1 (pktIn l.val pkt (lsaIn l.val)) s

/-- An origin not refreshed for 3 s leaves the map (13 R415). -/
def lsaAge (o : Nat) (p : Pkg) : Pkg :=
  match p.dfn.lsas.find? (fun x => x.origin == o) with
  | some x => if due p (x.at_ + 3000000000) then
      { p with dfn := { p.dfn with lsas := p.dfn.lsas.filter (fun y => y.origin != o), dirty := true } } else p
  | none => p

/-- LSA_AGE_OUT (13 R415). -/
def execLsaAgeOut (origin : Nat) (s : State) : Out := run1 (lsaAge origin) s

/-! ### Routes (13 R419 to R421) -/

/-- Cost of a link in a class (13 R421). -/
def linkCost (c : ClsCfg) (k : LsLink) : Nat := 1 + c.wl * k.l + c.we * k.e + c.wu * k.u

/-- Directed links of the link-state map with their costs in a class: from, to, cost (13 R421). -/
def meshLinks (p : Pkg) (c : ClsCfg) : List (Nat × Nat × Nat) :=
  (ownLinks p).map (fun k => (myAddr p, k.nbr, linkCost c k))
    ++ (p.dfn.lsas.map (fun a => a.links.map (fun k => (a.origin, k.nbr, linkCost c k)))).flatten

/-- A better distance, with its hops, entered in a list of (node, cost, hops). -/
def relax (l : List (Nat × Nat × Nat)) (n cost hops : Nat) : List (Nat × Nat × Nat) :=
  match l.find? (fun x => x.1 == n) with
  | none => (n, cost, hops) :: l
  | some x => if cost < x.2.1 then (n, cost, hops) :: l.filter (fun y => y.1 != n) else l

/-- Least-cost distances and hops from a node over links (13 R421). -/
def distances (ls : List (Nat × Nat × Nat)) (src : Nat) : List (Nat × Nat × Nat) :=
  let nodes := (ls.map (·.1)).eraseDups.length + 1
  (List.range nodes).foldl (fun d _ => ls.foldl (fun d k =>
    match d.find? (fun x => x.1 == k.1) with
    | none => d
    | some x => relax d k.2.1 (x.2.1 + k.2.2) (x.2.2 + 1)) d) [(src, 0, 0)]

/-- The distance to a node. -/
def distTo (d : List (Nat × Nat × Nat)) (n : Nat) : Option (Nat × Nat) := (d.find? (fun x => x.1 == n)).map (·.2)

/-- One way towards a destination: lane, cost, hops, and whether it is loop-free (13 R421). -/
structure Way where
  /-- Lane; 13 R421. -/
  lane : Nat
  /-- Path cost; 13 R421. -/
  cost : Nat
  /-- Hops; 13 R419. -/
  hops : Nat
  /-- The neighbour is a loop-free alternate; 13 R421. -/
  free : Bool

/-- The way of least cost, the lower lane first. -/
def leastWay (l : List Way) : Option Way :=
  l.foldl (fun a b => match a with
    | none => some b
    | some x => if b.cost < x.cost then some b else some x) none

/-- The route entry of a destination from the ways towards it and the present entry (13 R419, R421). -/
def pickRoute (old : Route) (ws : List Way) : Route :=
  match leastWay ws with
  | none => {}
  | some b =>
    let keep := match (if old.valid then ws.find? (fun w => w.lane == old.prim) else none) with
      | some o => if b.cost * 8 < o.cost * 7 then b else o
      | none => b
    let alt := leastWay (ws.filter (fun w => w.lane != keep.lane && w.free))
    { valid := true, prim := keep.lane, alt := alt.map (·.lane), hops := min 15 keep.hops, cost := min 0x7FFFF keep.cost }

/-- The route table of a class (13 R419, R421): one entry per destination. -/
def classRoutes (p : Pkg) (c : Nat) : List Route :=
  let cfg := p.dfn.cls.getD c ⟨1, 1, 1, 1⟩
  let ls := meshLinks p cfg
  let me := myAddr p
  let mine := distances ls me
  let own := (ownLinks p).map (fun k => (k.lane, k.nbr, linkCost cfg k, distances ls k.nbr))
  p.dfn.dests.map (fun d =>
    if d.addr = me then { valid := true, self_ := true }
    else
      let back := (distTo mine d.addr).map (·.1)
      let ws := own.filterMap (fun o =>
        match distTo o.2.2.2 d.addr with
        | none => none
        | some (k, h) =>
          let home := (distTo o.2.2.2 me).map (·.1)
          let free := match home, back with
            | some a, some b => decide (k < a + b)
            | _, _ => true
          some { lane := o.1, cost := o.2.2.1 + k, hops := h + 1, free := free })
      pickRoute (d.routes.getD c {}) ws)

/-- Paths and alternates computed again, and held packets sent (13 R421, R422). -/
def recompute (p : Pkg) : Pkg :=
  if !p.dfn.dirty then p
  else
    let t := (List.range 16).map (classRoutes p)
    let ds := mapI (fun i d => { d with routes := t.map (fun rs => rs.getD i {}) }) p.dfn.dests
    let held := p.dfn.held
    held.foldl (fun p k => sendPkt k p) { p with dfn := { p.dfn with dests := ds, dirty := false, held := [] } }

/-- ROUTE_RECOMPUTE (13 R421). -/
def execRouteRecompute (s : State) : Out := run1 recompute s

/-- Lane costs and loads of the supervisory cycle just over; a change of 16 or more is announced (13 R415, R420,
R441). -/
def netCosts (p : Pkg) : Pkg :=
  let ls := mapI (fun i (x : NLane) =>
    let nlog := (flAt p i).nlog
    let e := min 255 ((if nlog = 0xFF then 0 else 120 - nlog) + 16 * x.unc)
    let l := match bestEx x with
      | some b => min 255 (b.rtt / 20000)
      | none => 0xFF
    { x with l := l, e := e, u := min 100 (x.slots.1 * 200 / 78125), unc := 0, slots := (0, x.slots.1) }) p.dfn.lane
  let far := fun (a b : Nat) => decide (a ≥ b + 16 ∨ b ≥ a + 16)
  let moved := ls.any (fun x => x.nbr.isSome && (far x.l x.flooded.1 || far x.e x.flooded.2.1 || far x.u x.flooded.2.2))
  let diff := (List.zip ls p.dfn.lane).any (fun z => z.1.nbr.isSome && (z.1.l != z.2.l || z.1.e != z.2.e || z.1.u != z.2.u))
  let load := (ls.map (fun x => min 1000 (x.slots.2 * 2000 / 78125))).foldl max 0
  { p with dfn := { p.dfn with lane := ls, lsaDue := p.dfn.lsaDue || moved, dirty := p.dfn.dirty || diff, load := load } }

/-! ### Streams (13 R423 to R427) -/

/-- The receiving stream of a source and class. -/
def rxAt (p : Pkg) (src cls : Nat) : Option RxStream := p.dfn.rxs.find? (fun s => s.src == src && s.cls == cls)

/-- Put a receiving stream in its place. -/
def putRx (s : RxStream) (p : Pkg) : Pkg :=
  { p with dfn := { p.dfn with rxs := s :: p.dfn.rxs.filter (fun x => !(x.src == s.src && x.cls == s.cls)) } }

/-- An ACK of a stream (13 R424). -/
def ackSend (src cls : Nat) (p : Pkg) : Pkg :=
  match rxAt p src cls with
  | none => p
  | some s =>
    let high := (s.next + 2 ^ 32 - 1) % 2 ^ 32
    let map_ := bitsN ((List.range 64).map (fun i => s.buf.any (fun x => x.1 == (high + 1 + i) % 2 ^ 32)))
    let body := [byte cls, 0] ++ toBe 2 s.epoch ++ toBe 4 high ++ toBe 8 map_
    sendPkt { cls := cls, src := myAddr p, dst := src, kind := 2, epoch := myEpoch p, data := body } (putRx { s with owed := 0 } p)

/-- STREAM_ACK_SEND: an ACK is owed (13 R424). -/
def ackDue (src cls : Nat) (p : Pkg) : Pkg :=
  match rxAt p src cls with
  | some s => if s.owed > 0 ∧ awake p then ackSend src cls p else p
  | none => p

/-- STREAM_ACK_SEND (13 R424). -/
def execStreamAckSend (src : Nat) (cls : Fin 16) (s : State) : Out := run1 (ackDue src cls.val) s

/-- The records of an item are acknowledged by the mirror target: the item is LOCAL no more, a stand-in's acknowledgement leaves the
record for the buddy, and ledger records accepted with it take effect (13 R429, R431, R434; 08 R263). -/
def mirrorAcked (src id : Nat) (p : Pkg) : Pkg :=
  if src ≠ p.dfn.target then p
  else
    let left := if p.dfn.mirState = .standIn then p.dfn.nv.owed.map (fun r => if r.id = id then { r with got := true, local_ := false } else r)
      else p.dfn.nv.owed.filter (fun r => r.id != id)
    ledgerSettle
      { p with dfn := { p.dfn with mirAck := p.clk, nv := { p.dfn.nv with owed := left } }
               mbx := { p.mbx with work := p.mbx.work.map (fun w => if w.id = id then { w with local_ := false, unacked := false } else w) } }

/-- A payload delivered to its user: recorded, and a MIRROR_ACK taken (13 R423, R432; log 44). -/
def deliver (src cls : Nat) (d : List Byte) (p : Pkg) : Pkg :=
  let p1 := { p with dfn := { p.dfn with users := (src, cls, d) :: p.dfn.users } }
  if (cls = 2 ∨ cls = 3) ∧ d.length = 9 ∧ be d 8 1 = 0 then mirrorAcked src (be d 0 8) p1 else p1

/-- Buffered packets in order are delivered (13 R423). -/
def deliverRun (src cls : Nat) : Nat → Pkg → Pkg
  | 0, p => p
  | n + 1, p =>
    match rxAt p src cls with
    | none => p
    | some s =>
      match s.buf.find? (fun x => x.1 == s.next) with
      | none => p
      | some x =>
        deliverRun src cls n (deliver src cls x.2
          (putRx { s with next := (s.next + 1) % 2 ^ 32, owed := s.owed + 1, buf := s.buf.filter (fun y => y.1 != x.1) } p))

/-- After deliveries: an ACK at once for the fourth (13 R424). -/
def ackFour (src cls : Nat) (p : Pkg) : Pkg :=
  match rxAt p src cls with
  | some s => if s.owed ≥ 4 then ackSend src cls p else p
  | none => p

/-- The streams of a source in an old EPOCH are gone once it is seen in another (13 R426). -/
def oldGone (k : NPkt) (p : Pkg) : Pkg :=
  { p with dfn := { p.dfn with rxs := p.dfn.rxs.filter (fun s => s.src != k.src || s.epoch == k.epoch) } }

/-- The stream a packet belongs to, begun afresh for a new EPOCH (13 R423, R426). -/
def rxFor (k : NPkt) (p : Pkg) : RxStream :=
  (rxAt p k.src k.cls).getD { src := k.src, cls := k.cls, epoch := k.epoch }

/-- A stream DATA packet for this module (13 R423, R424, R426). -/
def dataIn (k : NPkt) (p0 : Pkg) : Pkg :=
  if k.kind ≠ 1 ∨ k.dst = 0xFFFF ∨ k.dst = 0xFFFE then p0
  else
    let p := oldGone k p0
    let s := rxFor k p
    let ahead := (k.seq + 2 ^ 32 - s.next) % 2 ^ 32
    if ahead ≥ 2 ^ 31 then ackSend k.src k.cls { putRx s p with dfn := { (putRx s p).dfn with dups := inc32 p.dfn.dups } }
    else if ahead > 64 then putRx s p
    else
      let s1 := if s.buf.any (fun x => x.1 == k.seq) then s else { s with buf := s.buf ++ [(k.seq, k.data)] }
      ackFour k.src k.cls (deliverRun k.src k.cls 65 (putRx s1 p))

/-- DATA_PACKET (13 R423). -/
def execDataPacket (l : Fin 8) (pkt : List Byte) (s : State) : Out := run1 (pktIn l.val pkt dataIn) s

/-- A packet is covered by an ACK's position and map (13 R424). -/
def covered (high map_ seq : Nat) : Bool :=
  let d := (seq + 2 ^ 32 - high) % 2 ^ 32
  d == 0 || decide (d ≥ 2 ^ 31) || (decide (d ≤ 64) && tb map_ (d - 1))

/-- An ACK of one of this module's streams (13 R424, R425; log 46). -/
def streamAck (k : NPkt) (p : Pkg) : Pkg :=
  if k.kind ≠ 2 ∨ k.data.length ≠ 16 ∨ be k.data 2 2 ≠ myEpoch p then p
  else
    let cls := be k.data 0 1
    match p.dfn.txs.find? (fun s => s.dst == k.src && s.cls == cls) with
    | none => p
    | some s =>
      let gone := s.out.filter (fun u => covered (be k.data 4 4) (be k.data 8 8) u.seq)
      let (srtt, p1) := if gone.any (fun u => !u.again) then drawFree 24 p else (s.srtt, p)
      let s1 := { s with out := s.out.filter (fun u => !covered (be k.data 4 4) (be k.data 8 8) u.seq), srtt := srtt
                         acked := p.clk, lost := false }
      streamFill k.src cls 64 { p1 with dfn := { p1.dfn with txs := p1.dfn.txs.map (fun x => if x.dst = k.src ∧ x.cls = cls then s1 else x) } }

/-- STREAM_ACK (13 R425). -/
def execStreamAck (l : Fin 8) (pkt : List Byte) (s : State) : Out := run1 (pktIn l.val pkt streamAck) s

/-- Resend one unacknowledged packet (13 R425). -/
def resend (s : TxStream) (u : Unacked) (p : Pkg) : Pkg :=
  let u1 := { u with sent := p.clk, rto := min 10000000 (2 * u.rto), again := true }
  let p1 := { p with dfn := { p.dfn with
    retx := inc32 p.dfn.retx
    txs := p.dfn.txs.map (fun x => if x.dst = s.dst ∧ x.cls = s.cls then
      { x with out := x.out.map (fun v => if v.seq = u.seq then u1 else v) } else x) } }
  sendPkt { cls := s.cls, src := nodeAddr p, dst := s.dst, kind := 1, seq := u.seq, epoch := myEpoch p, data := u.data } p1

/-- No ACK within RTO (13 R425). -/
def rtoExpiry (dst cls seq t : Nat) (p0 : Pkg) : Pkg :=
  let p := advance t p0
  match p.dfn.txs.find? (fun s => s.dst == dst && s.cls == cls) with
  | none => p
  | some s =>
    match s.out.find? (fun u => u.seq == seq) with
    | some u => if awake p ∧ p.clk ≥ u.sent + u.rto then resend s u p else p
    | none => p

/-- RTO_EXPIRY (13 R425). -/
def execRtoExpiry (dst : Nat) (cls : Fin 16) (seq t : Nat) (s : State) : Out := run1 (rtoExpiry dst cls.val seq t) s

/-- 10 s without an ACK: the stream reports PEER_LOST and keeps resending (13 R425). -/
def peerLost (dst cls : Nat) (p : Pkg) : Pkg :=
  match p.dfn.txs.find? (fun s => s.dst == dst && s.cls == cls) with
  | none => p
  | some s =>
    if !s.out.isEmpty ∧ !s.lost ∧ due p (s.acked + 10000000000) then
      dfnEvt (fun e => { e with peerLost := true })
        { p with dfn := { p.dfn with txs := p.dfn.txs.map (fun x => if x.dst = dst ∧ x.cls = cls then { x with lost := true } else x) } }
    else p

/-- PEER_LOST (13 R425). -/
def execPeerLost (dst : Nat) (cls : Fin 16) (s : State) : Out := run1 (peerLost dst cls.val) s

/-- After a switchover every stream resends from its acknowledged position (13 R427). -/
def streamsSwitch (p : Pkg) : Pkg :=
  p.dfn.txs.foldl (fun p s => s.out.foldl (fun p u => resend s u p) p) p

/-! ### Floods (13 R428) -/

/-- A flood window after a sequence number, and whether it is new (13 R428). -/
def floodStep (w : FloodWin) (seq : Nat) : Bool × FloodWin :=
  let up := (seq + 2 ^ 32 - w.high) % 2 ^ 32
  if up = 0 then (false, w)
  else if up < 2 ^ 31 then (true, { w with high := seq, map_ := (w.map_ * 2 ^ up + 2 ^ (up - 1)) % 2 ^ 64 })
  else
    let d := 2 ^ 32 - up
    if d > 64 ∨ tb w.map_ (d - 1) then (false, w) else (true, { w with map_ := w.map_ + 2 ^ (d - 1) })

/-- A FLOOD packet: delivered and forwarded once (13 R428). -/
def floodIn (l : Nat) (k : NPkt) (p : Pkg) : Pkg :=
  if k.kind ≠ 3 ∨ k.dst ≠ 0xFFFF ∨ k.src = myAddr p then p
  else
    let (fresh, w) := match p.dfn.floods.find? (fun w => w.src == k.src) with
      | none => (true, { src := k.src, high := k.seq })
      | some w => floodStep w k.seq
    if !fresh then p
    else
      let p1 := { p with dfn := { p.dfn with floods := w :: p.dfn.floods.filter (fun x => x.src != k.src) } }
      deliver k.src k.cls k.data (passOn l k p1)

/-- FLOOD_PACKET (13 R428). -/
def execFloodPacket (l : Fin 8) (pkt : List Byte) (s : State) : Out := run1 (pktIn l.val pkt (floodIn l.val)) s

/-! ### Mirroring (13 R431 to R435) -/

/-- A module is reachable: in the link-state map, or a present neighbour (13 R415, R431). -/
def reachable (p : Pkg) (n : Nat) : Bool := (meshAddrs p).contains n

/-- The first module after this one of another pair that is reachable and holds a valid lease (13 R431). -/
def standIn (p : Pkg) : Nat :=
  let own := ((mapMods p).find? (fun m => m.node == nodeAddr p)).map (·.group)
  let ok := ((mapMods p).filter (fun m => some m.group != own && reachable p m.node && knownLease p m.node)).map (·.node)
  nextIn ok (nodeAddr p)


/-- Records owed are sent to the present target on a class (13 R431, R434). -/
def sendOwed (cls : Nat) (p : Pkg) : Pkg :=
  p.dfn.nv.owed.foldl (fun p r => streamSend p.dfn.target cls (mirrorBody r) p)
    { p with dfn := { p.dfn with nv := { p.dfn.nv with owed := p.dfn.nv.owed.map (fun r => { r with sent := p.clk }) } } }

/-- A mirror target taken: outstanding records go to it (13 R431). Without one the state stays until 1 s has passed (13 R433). -/
def setTarget (n : Nat) (st : MirState) (p : Pkg) : Pkg :=
  if p.dfn.target = n ∧ p.dfn.mirState = st then p
  else
    let was := p.dfn.target
    let p1 := { p with dfn := { p.dfn with target := n, mirState := if n = 0 then p.dfn.mirState else st, mirAck := p.clk, noTarget := if n = 0 then some (p.dfn.noTarget.getD p.clk) else none } }
    if n = 0 then p1
    else sendOwed (if was = 0 then 3 else 2) (if was ≠ 0 then dfnEvt (fun e => { e with mirSw := true }) p1 else p1)

/-- The buddy is absent, or has been silent for 100 ms with records outstanding (13 R431). -/
def buddyLost (p : Pkg) : Bool :=
  let b := buddyOf p (nodeAddr p)
  b == 0 || !reachable p b ||
    (p.dfn.target == b && p.dfn.nv.owed.any (fun r => !r.got && due p (max r.sent p.dfn.mirAck + 100000000)))

/-- MIRROR_TARGET_TIMEOUT: a stand-in becomes the target (13 R431). -/
def targetTimeout (p : Pkg) : Pkg :=
  if nodeAddr p ≠ 0 ∧ awake p ∧ buddyLost p then
    let n := standIn p
    setTarget n (if n = 0 then .local_ else .standIn) p
  else p

/-- MIRROR_TARGET_TIMEOUT (13 R431). -/
def execMirrorTargetTimeout (s : State) : Out := run1 targetTimeout s

/-- 1 s without a mirror target: items are accepted LOCAL (13 R433). -/
def localTimeout (p : Pkg) : Pkg :=
  match p.dfn.noTarget with
  | some t => if due p (t + 1000000000) then ledgerSettle { p with dfn := { p.dfn with mirState := .local_, target := 0 } } else p
  | none => p

/-- MIRROR_LOCAL_TIMEOUT (13 R433). -/
def execMirrorLocalTimeout (s : State) : Out := run1 localTimeout s

/-- A mirror target becomes reachable: the buddy where it is, else a stand-in (13 R431, R434). -/
def catchUp (p : Pkg) : Pkg :=
  if nodeAddr p = 0 ∨ !awake p then p
  else
    let b := buddyOf p (nodeAddr p)
    if b ≠ 0 ∧ reachable p b then setTarget b .buddy p
    else
      let n := standIn p
      if n ≠ 0 then setTarget n .standIn p else p

/-- MIRROR_CATCH_UP (13 R434). -/
def execMirrorCatchUp (s : State) : Out := run1 catchUp s

/-- An acknowledgement of one of this module's own receipts, mirrored back to it (13 R435). -/
def ownAck (r : MirRec) (p : Pkg) : Pkg :=
  if r.kind = 4 ∧ r.id / 2 ^ 48 = nodeAddr p ∧ p.bil.rcpts.any (fun x => x.no == r.id && x.st == .closed) then
    logEvent 0x31 0xFFFF 0 (toLe 8 r.id)
      { p with bil := { p.bil with rcpts := p.bil.rcpts.map (fun x => if x.no = r.id ∧ x.st = .closed then { x with st := .acked } else x) } }
  else p

/-- A MIRROR record for this module as target, whose MRAM write was verified (13 R432, R435). -/
def mirrorIn (src : Nat) (b : List Byte) (ok : Bool) (p : Pkg) : Pkg :=
  if !awake p ∨ nodeAddr p = 0 ∨ b.length < 12 ∨ !ok ∨ p.mtr.nvBlock then p
  else
    let r : MirRec := { id := be b 0 8, kind := be b 8 1, data := b.drop 12 }
    let cs := (src, r) :: p.dfn.nv.copies.filter (fun x => !(x.1 == src && x.2.id == r.id && x.2.kind == r.kind))
    let q := if r.kind = 2 then mirrorTable src r.data p else p
    ownAck r (streamSend src 2 (toBe 8 r.id ++ [0]) { q with dfn := { q.dfn with nv := { q.dfn.nv with copies := cs } } })

/-- MIRROR (13 R432). -/
def execMirror (src : Nat) (body : List Byte) (ok : Bool) (s : State) : Out := run1 (mirrorIn src body ok) s


end Sys2Proof.Machine
end

