-- ==== Sys2Proof/Machine/FastCycle.lean ====
section
/-!
DEFINITION. The fast cycle of a cluster (04 R136 to R155): samples and limits, droop, the reference step, the lanes,
duties and balancing, the reverse-current block, load steps, and REACHED (06 R207).
-/

namespace Sys2Proof.Machine

/-- Largest integer whose square is at most n, for n below 2^96. -/
def isqrt (n : Nat) : Nat :=
  (List.range 48).foldl (fun r k => let c := r + 2 ^ (47 - k); if c * c ≤ n then c else r) 0

/-- Newest value of a quantity, or what was known of it where no channel measures it (04 R137). -/
def quantity (p : Pkg) (u : ChanUse) (old : Int) : Int :=
  match (idxs (fun c : ChanCfg => c.use_ == u) p.pwr.chan).head? with
  | some k => chanVal p k
  | none => old

/-- A channel samples at S: every channel but those of phase currents, which sample at their ports' points (04 R137). -/
def atS (c : ChanCfg) : Bool := match c.use_ with
  | .phaseI _ => false
  | _ => true

/-- The samples' frame is lost on the Ground bridge of the active die (01 R21). -/
def frameLost (f : FastIn) (p : Pkg) : Bool := match activeDie p with
  | some .a => f.lost.1
  | some .b => f.lost.2
  | none => false

/-- The frames with these samples that each Ground bridge discards are counted (01 R21). -/
def countLost (f : FastIn) (p : Pkg) : Pkg :=
  let l := fun b k (d : List Nat) => if b then upd d k inc32 else d
  { p with sys := { p.sys with linkDrops := l f.lost.2 1 (l f.lost.1 0 p.sys.linkDrops) } }

/-- Samples reach the Stitch dies, with offset and gain applied, unless their frame is lost; the newest 1,024 instants
are kept for the safe-stop record (01 R21, 04 R137, R138 steps 1 to 3, 11 R380). -/
def takeSamples (f : FastIn) (p0 : Pkg) : Pkg :=
  let p := countLost f p0
  let raw := mapI (fun i x => if atS (p.pwr.chan.getD i {}) then f.raw.getD i x else x) p.pwr.raw
  let new := fun i x => if atS (p.pwr.chan.getD i {}) && decide (i < f.raw.length) then
    fastCal (p.pwr.chan.getD i {}) (f.raw.getD i 0) else x
  { p with pwr := { p.pwr with samples := if frameLost f p then p.pwr.samples else mapI new p.pwr.samples, raw := raw
                               hist := cap 1024 (raw :: p.pwr.hist) } }

/-- Load of a cluster in mA: output current, or magnitude of the d and q current vector (04 R149). -/
def loadNow (p : Pkg) (n theta : Nat) : Int :=
  let c := clAt p n
  if c.cfg.type = .afe then
    let (d, q) := dqAmps p n theta
    (isqrt (d.natAbs * d.natAbs + q.natAbs * q.natAbs) : Nat)
  else quantity p (.iOut n) c.dyn.load

/-- What the cycle has measured (04 R137, R149). -/
def measure (n : Nat) (f : FastIn) (p : Pkg) : Pkg :=
  let p0 := takeSamples f p
  let c := clAt p0 n
  let (theta, p1) := if c.cfg.type = .afe then gridAngle p0 n f.t else (0, p0)
  let vl := quantity p1 (.vLink c.cfg.link) c.dyn.vin
  let load := loadNow p1 n theta
  let p2 := updDyn n (fun d =>
    { d with sAt := f.t, theta := theta, fcDue := false, vout := if c.cfg.type = .afe then quantity p1 (.vLink c.cfg.link) d.vout else quantity p1 (.vOut n) d.vout
             vin := vl, voutlet := quantity p1 (.vOutlet c.cfg.region) d.voutlet, load := load
             loadSum := d.loadSum + load, loadN := d.loadN + 1 }) p1
  (swPorts p2 n).foldl (fun p q => updPt q (fun r => { r with i := phaseAmps p2 q }) p) p2

/-- A channel whose limits guard a cluster (04 R138; log 30). -/
def guards (p : Pkg) (n : Nat) (u : ChanUse) : Bool :=
  let c := (clAt p n).cfg
  match u with
  | .none => false
  | .phaseI q => clusterOf p q == some n
  | .vOut k => k == n
  | .iOut k => k == n
  | .vLink k => c.type == .afe && c.link == k
  | .vOutlet r => c.type == .dcdc && c.region == r

/-- The cause of a limit breach, over-current before over-voltage (04 R138 step 4; log 30). -/
def breach (p : Pkg) (n : Nat) : Option Nat :=
  let hit := idxs (fun x : ChanCfg × Int => guards p n x.1.use_ &&
    (match x.1.limit with
     | some l => decide (x.2.natAbs > l)
     | none => false)) (p.pwr.chan.zip p.pwr.samples)
  let cur := fun k => match (p.pwr.chan.getD k {}).use_ with
    | .phaseI _ => true
    | .iOut _ => true
    | _ => false
  if hit.any cur then some 4 else if hit.isEmpty then none else some 5

/-- From the first fast cycle after a latch, the phase of a latched port takes no part, with every port it has (04 R155,
07 R240). -/
def dropLatched (n : Nat) (p : Pkg) : Pkg :=
  if !(clAt p n).run.st.running then p
  else ((phases p n).filter (fun l => !l.all (portAvail p) && phaseSt p l != .shed)).foldl (fun p l => dropPhase l p) p

/-- Limit checks and the count of available phases (04 R138, R155). -/
def limits (n : Nat) (p0 : Pkg) : Pkg :=
  let p := dropLatched n p0
  match breach p n with
  | some k => clusterFault n k p
  | none => tooFew n p

/-- Time passes for a cluster's state machine; PREBIAS collects its 8 samples (04 R142, R143). -/
def clusterTime (n : Nat) (p : Pkg) : Pkg :=
  let c := clAt p n
  let t := fastTicks c.cfg
  let on := (swPorts p n).any (fun q => (ptAt p q).run.en)
  updRun n (fun r =>
    { r with ticks := r.ticks + t, enTicks := if on && r.revStart then r.enTicks + t else r.enTicks
             meas := if r.measuring ∧ r.meas.length < 8 then c.dyn.vout :: r.meas else r.meas }) p

/-- The droop watch of a start, through the first 10 ms of REGULATE (04 R145). -/
def droopWatch (n : Nat) (p : Pkg) : Pkg :=
  let c := clAt p n
  let r := c.run
  if !r.watch then p
  else if r.st = .regulate ∧ r.ticks > 10 * ticksMs then updRun n (fun r => { r with watch := false }) p
  else
    let s := sumI r.meas
    let v := c.dyn.vout * 8
    let p1 := updRun n (fun r => { r with droop := max r.droop (rdiv ((s - v) * 10000) s.toNat).toNat }) p
    if v * 1000 < s * 996 then clusterFault n 1 (clEvt n (fun e => { e with preFail := true }) p1) else p1

/-- The reference takes its step towards the target, no further than the rate allows (04 R146). -/
def stepRef (n : Nat) (p : Pkg) : Pkg :=
  let c := clAt p n
  let r := c.run
  if r.st ≠ .ramp ∧ r.st ≠ .match_ ∧ r.st ≠ .regulate then p
  else
    let tgt := effTarget p n
    let step : Int := (min c.rw.rate r.cmdRate * fastTicks c.cfg * 625 : Nat)
    updRun n (fun r => { r with ref := clampI (r.ref - step) (r.ref + step) tgt }) p

/-- Cluster and outlet voltages lie within 1 % of the outlet voltage (04 R142). -/
def matchTime (n : Nat) (p : Pkg) : Pkg :=
  let c := clAt p n
  if c.run.st ≠ .ramp ∧ c.run.st ≠ .match_ then p
  else
    let ok := decide ((c.dyn.vout - c.dyn.voutlet).natAbs * 100 ≤ c.dyn.voutlet.natAbs)
    updRun n (fun r => { r with isoPend := r.isoPend && ok
                                matchTk := if ok then some (match r.matchTk with
                                                            | some t => t + fastTicks c.cfg
                                                            | none => 0) else none }) p

/-- The reference of a ramping cluster has reached its target: MATCH while the isolator is open, else REGULATE (04 R142). -/
def rampReached (n : Nat) (p : Pkg) : Pkg :=
  let c := clAt p n
  if c.run.st = .ramp ∧ c.run.ref = effTarget p n then
    if c.cfg.type = .dcdc ∧ !c.run.isoOn ∧ !(fnPorts p n .isolator).isEmpty then goSt n .match_ p else toRegulate n p
  else p

/-- The clamp of a ramp-down falls, and a DC/DC cluster's isolator opens below 5 A (04 R148). -/
def rampDown (n : Nat) (p : Pkg) : Pkg :=
  let c := clAt p n
  let r := c.run
  if r.st ≠ .rampDown then p
  else if c.cfg.type = .afe then
    updRun n (fun r => { r with clamp := r.clamp0 - rating p n * 10000 * r.ticks / ticksMs }) p
  else
    let dur := r.refStart.toNat / (max c.rw.rate 1 * 625)
    let low := decide (c.dyn.load < 5000)
    let p1 := updRun n (fun r => { r with clamp := if r.ticks ≥ dur then 0 else r.clamp0 * (dur - r.ticks) / dur
                                          below5 := r.below5 || low, isoOn := r.isoOn && !low }) p
    if low then driveStatic n .isolator false p1 else p1

/-! ### Duties (04 R138 steps 5 and 6, 05 R166, R169) -/


/-- Duty lanes' outputs become untrimmed duties (05 R169). -/
def formDuties (n : Nat) (p : Pkg) : Pkg :=
  let c := (clAt p n).cfg
  ((lanesOf p n).filter (fun l => (laneAt p l).cfg.out == .duty && !(laneAt p l).run.held)).foldl (fun p l =>
    let x := laneAt p l
    let d := (clampI c.dmin c.dmax (rdiv (x.run.u * c.period) (2 ^ 40))).toNat
    (dutyPorts p x).foldl (fun p q => if portLive p q then updPt q (fun r => { r with raw := d }) p else p) p) p

/-- The load step of 04 R153: every available SHED or SHEDDING phase returns and the cluster is frozen. A cycle that
overruns writes no shadow (04 R139). -/
def loadStep (n : Nat) (write : Bool) (p : Pkg) : Pkg :=
  let c := clAt p n
  let back := (availPhases p n).filter (fun l => phaseSt p l == .shed || phaseSt p l == .shedding)
  let hit : Bool := match c.dyn.loads with
    | [] => false
    | a :: l => decide ((c.dyn.load - l.foldl min a) * 5 > (rating p n : Int) * 100)
  let p1 := if c.run.st = .regulate ∧ !back.isEmpty ∧ hit then
    updDyn n (fun d => { d with frozen := true, holdEnd := some (p.clk + c.rw.hold * 1000000)
                                evt := { d.evt with loadstep := true, shedStep := true } })
      (back.foldl (fun p l => startReturn n c.dyn.sAt write l p) p)
    else p
  updDyn n (fun d => { d with loads := cap 64 (d.load :: d.loads) }) p1

/-- Nearest integer to a rational, ties away from zero (04 R141). -/
def roundQ (r : Rat) : Int := rdiv r.num r.den

/-- The trims of one balanced group (04 R141; log 31). -/
def balance (n : Nat) (act : List Nat) (p : Pkg) : Pkg :=
  let c := clAt p n
  if act.isEmpty ∨ c.cfg.iPh = 0 then p
  else
    let cur := fun q => ((ptAt p q).run.i : Rat)
    let total := (act.map cur).foldl (· + ·) 0
    let w := fun q => weightOf p n (((phases p n).find? (fun l => l.contains q)).getD [q])
    let raw := act.map (fun q =>
      ((ptAt p q).run.trim : Rat) + (c.rw.kb : Rat) * ((w q * total - cur q) / ((c.cfg.iPh * 100 : Nat) : Rat)) * (c.cfg.period : Rat))
    let m := raw.foldl (· + ·) 0 / (act.length : Rat)
    let lim : Int := c.cfg.period * 4096
    (act.zip raw).foldl (fun p x =>
      let t := roundQ (x.2 - m)
      let sat := decide (x.2 - m ≥ (lim : Rat) ∨ x.2 - m ≤ -(lim : Rat))
      let p1 := updPt x.1 (fun r => { r with trim := clampI (-lim) lim t, trimSat := sat }) p
      if sat then clEvt n (fun e => { e with trimSat := true }) p1 else p1) p

/-- The reverse-current block and the currents of SHEDDING phases (04 R144, R151). -/
def reverseBlock (n : Nat) (p : Pkg) : Pkg :=
  let c := clAt p n
  (swPorts p n).foldl (fun p q =>
    let r := (ptAt p q).run
    let p1 := if r.st = .shedding ∧ r.i.natAbs * 50 < c.cfg.iPh * 100 then updPt q (fun r => { r with lowI := true }) p else p
    if (c.run.revStart ∨ r.revLeft > 0) ∧ r.en ∧ r.i * 50 < -((c.cfg.iPh * 100 : Nat) : Int) then
      clEvt n (fun e => { e with revblock := true })
        (followLines q (updPt q (fun r => { r with en := false, revOff := true, revNow := true }) p1))
    else p1) p

/-- Duties with their trims go to the shadow registers (04 R125, R126, R138 step 7). -/
def writeDuties (n : Nat) (p : Pkg) : Pkg :=
  let c := clAt p n
  ((swPorts p n).filter (portLive p)).foldl (fun p q => updPt q (fun r =>
    let t := if c.rw.balEn then rdiv r.trim 65536 else 0
    let d := (clampI c.cfg.dmin c.cfg.dmax ((r.raw : Int) + t)).toNat
    { r with duty := d, shadow := some d, shadowAt := c.dyn.sAt }) p) p

/-- Lanes, duties, trims, blocks and shadow writes of a cluster that runs with its ports enabled (04 R138 steps 5 to 7). -/
def runDuties (n : Nat) (f : FastIn) (p : Pkg) : Pkg :=
  let p1 := runLanes n p
  if !(clAt p1 n).run.st.running then p1
  else
    let p2 := loadStep n (!f.overrun) (formDuties n p1)
    let p3 := if (clAt p2 n).rw.balEn then
      (groups p2 n).foldl (fun p g => balance n (g.filter (portLive p)) p) p2 else p2
    let p4 := reverseBlock n p3
    if f.overrun then p4 else writeDuties n p4

/-! ### REACHED (06 R207) -/

/-- Every DC/DC cluster of the region regulates with its reference at the target (06 R207). -/
def atTarget (p : Pkg) (r : Nat) : Bool :=
  !(dcdcOf p r).isEmpty && (dcdcOf p r).all (fun n =>
    (clAt p n).run.st == .regulate && (clAt p n).run.ref == (vrAt p r).cmdTgt * 80000000)

/-- A transition that has reached its target is REACHED; a register-path slew ends (06 R207, R213). -/
def reachedCheck (r : Nat) (p : Pkg) : Pkg :=
  let v := vrAt p r
  let p0 := updVr r (fun v => { v with slewing := slewing p r }) p
  if v.session.isSome ∧ atTarget p r then
    let p1 := match v.trans with
      | some { kind := .close, .. } => p0
      | some _ => endTrans r .reached 0 none false p0
      | none => p0
    updVr r (fun v => { v with regSlew := false, reached := true, started := true }) p1
  else p0

/-- A new standby or candidate receives the fast mirror frame (11 R359, R372). -/
def mirrored (p : Pkg) : Bool :=
  match activeDie p with
  | none => false
  | some d => let s := (dieOf p d.other).st; s == .standby || s == .candidate

/-- The fast cycle has overrun: counted, with its event (04 R139). -/
def noteOverrun (n : Nat) (f : FastIn) (p : Pkg) : Pkg :=
  if f.overrun then clEvt n (fun e => { e with overrun := true }) { p with pwr := { p.pwr with overruns := inc16 p.pwr.overruns } }
  else p

/-- Droop, reference, match and ramps of a cluster's state machine, in their order (04 R142, R145, R146, R148). -/
def moveCluster (n : Nat) (p : Pkg) : Pkg := rampDown n (rampReached n (matchTime n (stepRef n (droopWatch n p))))

/-- What a cluster's lanes and ports do in its state (04 R138 steps 3 to 7, 05 R170). -/
def runCluster (n : Nat) (f : FastIn) (p : Pkg) : Pkg :=
  let st := (clAt p n).run.st
  if st = .ramp ∨ st = .match_ ∨ st = .regulate ∨ st = .rampDown then runDuties n f p
  else if st = .prebias then runLanes n p
  else swapLanes n p

/-- REACHED is checked for the region of a DC/DC cluster (06 R207). -/
def reachCluster (n : Nat) (p : Pkg) : Pkg :=
  if (clAt p n).cfg.type = .dcdc then reachedCheck (clAt p n).cfg.region p else p

/-- The fast mirror frame of a cycle: the acknowledgements not yet sent in full as it shows them, and its count where a die receives
it; with none there is no mirror to lag behind (06 R212, 11 R359). -/
def countMirror (p : Pkg) : Pkg :=
  let unsent := fun (x : Purl) => x.sending.toList ++ x.queue
  let mir := fun (f : Purl → Purl) => { p.vcmd with port := p.vcmd.port.map f }
  if mirrored p then
    { p with duo := { p.duo with mirrors := (p.duo.mirrors.1 + 1, p.duo.mirrors.2) }
             vcmd := mir (fun x => { x with mirNext := unsent x }) }
  else { p with vcmd := mir (fun x => { x with mirNext := unsent x, mir := unsent x }) }

/-- A fast cycle of a cluster is due: its position-0 port's carrier has reached the point, and the engines have not stopped
at the warn crossing (04 R136, 20 R606). -/
def cycleDue (p : Pkg) (n : Nat) : Bool := (clAt p n).cfg.type != .unused && (clAt p n).dyn.fcDue && !p.sup.warn

/-- One fast cycle of a cluster (04 R138). -/
def fastCycle (n : Nat) (f : FastIn) (p : Pkg) : Pkg :=
  if !cycleDue p n then p
  else
    let p1 := noteOverrun n f (limits n (clusterTime n (measure n f p)))
    countMirror (reachCluster n (runCluster n f (moveCluster n p1)))

end Sys2Proof.Machine
end

