-- ==== Sys2Proof/Machine/SafeStop.lean ====
section
/-!
DEFINITION. What several chapters share of modes and stops: the guard codes of 02 R64, the Ground die's safe-stop
sequence (11 R377 to R380), entry to SAFE_STOP (02 R65), and the request of a package reset (02 R72).
-/

namespace Sys2Proof.Machine

/-! ### Guards (02 R64) -/

/-- Guard 0x02: a LATCHED health word, a cluster FAULTED for a cause other than safe-stop, or the safe-stop sequence
still running (02 R64). -/
def latchedFault (p : Pkg) : Bool :=
  p.eye.port.any (·.latched) || p.lsw.ch.any (fun c => c.st == .latched) ||
    p.pwr.cl.any (fun c => c.run.st == .faulted && c.run.cause != 8) || p.duo.ss.running

/-- Guard 0x04: the module has not joined the ledger (02 R64). -/
def notJoined (p : Pkg) : Bool := !(p.ldg.nv.st == .joined || p.ldg.nv.st == .fenced)

/-- Guard 0x06: a receipt is not exported and acknowledged (02 R64). -/
def receiptsPending (p : Pkg) : Bool := p.bil.rcpts.any (fun x => x.st != .acked)

/-- Guard 0x07: tokens held, a transfer in flight, or something accepted that is not final and mirrored (02 R64). -/
def ledgerOrWork (p : Pkg) : Bool :=
  decide (heldTok p ≠ 0) || !p.ldg.nv.outs.isEmpty || p.ldg.nv.ins.any (fun x => x.st == .pending || x.undo) ||
    p.mbx.work.any (fun w => !(w.state == .done || w.state == .failed) || w.local_ || w.unacked) || p.dfn.nv.owed.any (fun r => !r.got)

/-- Guards 0x01, 0x02 and 0x04 in their order: the first that fails (02 R65). -/
def armGuard (p : Pkg) : Nat := if noConfig p then 1 else if latchedFault p then 2 else if notJoined p then 4 else 0

/-! ### The safe-stop sequence (11 R377 to R380) -/

/-- The bytes of the last 1,024 instants of the fast channels, oldest first (11 R380). -/
def fastRecord (p : Pkg) : List Byte :=
  let inst := p.pwr.hist.reverse
  pad 196608 ((inst.map (fun r => (r.map (fun x => toLe 2 (uns 16 x))).flatten)).flatten)

/-- The sequence is complete once its last static port is off: the record is written and LATCHED set; with no usable
Stitch die the recovery retry is due (11 R378, 02 R73). -/
def ssComplete (p : Pkg) : Pkg :=
  if !p.duo.ss.running ∨ !p.duo.ss.left_.isEmpty then p
  else
    let p1 := { p with duo := { p.duo with ss := { p.duo.ss with running := false, latched := true, rec_ := true } }
                       sys := { p.sys with noOwnerHold := false } }
    if p1.duo.arb = .none ∧ p1.sys.retryDue.isNone then
      { p1 with sys := { p1.sys with retryDue := some (p1.clk + p1.sys.retryIval * 1000000000) } } else p1

/-- A trigger of the sequence: the first starts it, every further one sets its bit (11 R377, R378). -/
def ssTrigger (code : Nat) (owner : Option Die) (p : Pkg) : Pkg :=
  let ss := p.duo.ss
  if ss.running ∨ ss.latched then
    { p with duo := { p.duo with ss := { ss with mask := ss.mask ||| 2 ^ (code - 1) } } }
  else
    let en := p.eye.pin.map (·.en)
    let stat := (List.range 96).filter (fun q => (eyAt p q).mode == .static_ && (pinAt p q).en)
    let ss1 : SafeStop := { running := true, first := code, mask := 2 ^ (code - 1), time := p.tim.now, clk := p.clk, owner := owner
                            enables := en, lastLow := p.tim.now, left_ := stat, fast := fastRecord p }
    let p1 := { p with duo := { p.duo with ss := ss1, evt := { p.duo.evt with safeStop := true } } }
    let p2 := (List.range 96).foldl (fun p q =>
      updPin q (fun x => { x with seqOn := true, seqEn := stat.contains q }) p) p1
    ssComplete (settleAll p2)

/-- A static port that the sequence opens, with its entry of the record (11 R378, R380). -/
def ssOpen (forced : Bool) (amps : Int) (q : Nat) (p : Pkg) : Pkg :=
  let ss := p.duo.ss
  if !ss.running ∨ !ss.left_.contains q then p
  else
    let e : SsPort := { port := q, forced := forced, amps := amps / 100, us := (p.clk - ss.clk) / 1000 }
    let p1 := { p with duo := { p.duo with ss := { ss with left_ := ss.left_.filter (fun k => k != q), ports := cap 32 (ss.ports ++ [e]) } } }
    settle q (updPin q (fun x => { x with seqEn := false }) p1)

/-- The latch of a complete sequence is cleared: the owner's gate lines reach the pins again (11 R379). -/
def ssClear (p : Pkg) : Pkg :=
  let p1 := { p with duo := { p.duo with ss := { p.duo.ss with latched := false, own := none } } }
  settleAll ((List.range 96).foldl (fun p q => updPin q (fun x => { x with seqOn := false, seqEn := false }) p) p1)

/-- A cluster enters FAULTED with the cause of a safe-stop (04 R142). -/
def stopCluster (n : Nat) (p : Pkg) : Pkg :=
  let c := clAt p n
  let p1 := updRun n (fun r => { r with cause := 8, isoOn := false, isoPend := false, settle := none, watch := false
                                        measuring := false, revStart := false, stopPend := false, startPend := false
                                        clamp := 0 }) (enablesLow n (endForces n p))
  let p2 := goSt n .faulted (updDyn n (fun d => { d with frozen := false, holdEnd := none, dwellN := 0 }) p1)
  if c.cfg.type = .dcdc then closingDone c.cfg.region p2 else p2

/-- Every configured cluster that is not FAULTED enters FAULTED with the cause of a safe-stop (04 R142). -/
def clustersStop (p : Pkg) : Pkg :=
  (List.range 8).foldl (fun p n =>
    if (clAt p n).cfg.type = .unused ∨ (clAt p n).run.st = .faulted then p else stopCluster n p) p

/-- Every cluster that runs stops with the cause of a safe-stop, its ENABLEs being low in the sequence (11 R378; log 61). -/
def clustersHalt (p : Pkg) : Pkg :=
  (List.range 8).foldl (fun p n => if (clAt p n).run.st.running then stopCluster n p else p) p

/-- Work accepted before a safe-stop is marked (03 R110). -/
def markStopped (p : Pkg) : Pkg :=
  { p with mbx := { p.mbx with work := p.mbx.work.map (fun w =>
      if w.state = .accepted ∨ w.state = .running then { w with stopped := true } else w) } }

/-- The package enters SAFE_STOP: sessions end with their cause, a service grant ends, every cluster stops
(02 R65, R68, 04 R142, 06 R206). -/
def toSafeStop (p : Pkg) : Pkg :=
  let p1 := (List.range 4).foldl (fun p r => endTrans r .refused 9 none false (endSession r 9 p)) p
  let p2 := setMode .safeStop { p1 with sys := { p1.sys with grant := none, armUntil := none, freeCycles := 0, derateWhy := []
                                                             leaseOwed := p1.sys.leaseOwed || p1.sys.leaseCyc } }
  let p3 := { p2 with duo := { p2.duo with ss := { p2.duo.ss with own := none } } }
  clustersStop (markStopped p3)

/-- A fault whose action is safe-stop, recognised by the active die: the mode changes where 02 R65 has the row, and the
die requests the sequence; the supervisory cycle keeps that it had one (02 R65, R66, 11 R377). -/
def safeStopFault (p0 : Pkg) : Pkg :=
  let p := { p0 with sys := { p0.sys with faultCyc := true } }
  if inMode p [.armed, .deliver, .derate, .isolated, .service] then
    ssTrigger 2 p.sys.hoopG.owner (toSafeStop p)
  else p

/-- A fault that 19 R576 lets clear itself: the warn crossing, or T_STOP. It is noted while the package is in SAFE_STOP
for these two alone (19 R576). -/
def ownFault (warn : Bool) (p : Pkg) : Pkg :=
  let was := p.sys.mode
  let p1 := safeStopFault p
  let ss := p1.duo.ss
  let own := if was ≠ .safeStop ∧ p1.sys.mode = .safeStop then some (warn, !warn)
    else if was = .safeStop then ss.own.map (fun o => (o.1 || warn, o.2 || !warn)) else ss.own
  { p1 with duo := { p1.duo with ss := { ss with own := own } } }

/-- Hoop selects no die: the arbiter is in NONE and the mode is SAFE_STOP where 02 R65 has the row (02 R65, 11 R353). -/
def hoopNone (p0 : Pkg) : Pkg :=
  let p := { p0 with duo := { p0.duo with hoop := none, arb := .none, evt := { p0.duo.evt with none_ := true } } }
  let p1 := if inMode p [.armed, .deliver, .derate, .isolated, .service, .idle, .provision] then toSafeStop p else p
  { p1 with sys := { p1.sys with degraded := false
                                 retryDue := if p1.duo.ss.latched ∧ p1.sys.retryDue.isNone then
                                   some (p1.clk + p1.sys.retryIval * 1000000000) else p1.sys.retryDue } }

/-! ### Requests of a package reset (02 R72, 09 R309) -/

/-- A package reset becomes pending: the safe-stop sequence and the final save start (02 R72, 09 R309, 11 R377). -/
def requestReset (c : ResetCause) (p : Pkg) : Pkg :=
  if p.sys.mode = .retired ∨ p.sys.mode = .reset then p
  else
    let p1 := { p with sys := { p.sys with pendingRst := p.sys.pendingRst ++ [c]
                                           rstSaveEnd := some (p.sys.rstSaveEnd.getD (p.clk + 2000000)) }
                       mtr := { p.mtr with save := if p.mtr.save = .none then .running else p.mtr.save } }
    ssTrigger 3 p.sys.hoopG.owner (clustersHalt p1)

end Sys2Proof.Machine
end

