-- ==== Sys2Proof/Machine/Metering.lean ====
section
/-!
DEFINITION. Measurement of chapter 09: calibration banks, samples, energies, accumulators, the journal and its restore
at restart, and pulse outputs. The rows that act on a sample are in Sampling, since billing acts on it too.
-/

namespace Sys2Proof.Machine

/-! ### Access -/

/-- A meter. -/
def mtAt (p : Pkg) (m : Nat) : Meter := p.mtr.meter.getD m {}
/-- Change a meter. -/
def updMt (m : Nat) (f : Meter → Meter) (p : Pkg) : Pkg := { p with mtr := { p.mtr with meter := upd p.mtr.meter m f } }
/-- A metering channel. -/
def mcAt (p : Pkg) (c : Nat) : MChan := p.mtr.chan.getD c {}
/-- Set bits of MTR_EVT. -/
def mtrEvt (f : MtrEvt → MtrEvt) (p : Pkg) : Pkg := { p with mtr := { p.mtr with evt := f p.mtr.evt } }
/-- A meter is an AC meter (09 R283). -/
def isAc (m : Nat) : Bool := m ≥ 4
/-- First channel of a meter (09 R283). -/
def firstCh (m : Nat) : Nat := if isAc m then 8 + 7 * (m - 4) else 2 * m
/-- Meter of a channel, none for an auxiliary one (09 R283). -/
def meterOf (c : Nat) : Option Nat := if c < 8 then some (c / 2) else if c < 22 then some (4 + (c - 8) / 7) else none
/-- KIND of a channel: fixed in silicon, or the bank's for an auxiliary one (09 R283, R315). -/
def chanKind (p : Pkg) (c : Nat) : Nat :=
  if c < 8 then 1 + c % 2
  else if c < 22 then (if (c - 8) % 7 < 3 then 3 else if (c - 8) % 7 < 6 then 4 else 5)
  else (mcAt p c).act.kind
/-- Metering runs: the Ground die has left reset (02 R78 step 3, 09 R298). -/
def metering (p : Pkg) : Bool := p.sup.started && p.sys.mode != .reset

/-- Greatest r of 80 bits with r² ≤ n. -/
def root (n : Nat) : Nat :=
  (List.range 80).foldl (fun r k => let c := r + 2 ^ (79 - k); if c * c ≤ n then c else r) 0

/-! ### Calibration (09 R287 to R293) -/

/-- Highest-numbered bank whose CRC verifies, 0 for none (09 R288). -/
def validEpoch (banks : List (CalBank × Bool)) : Nat := ((banks.zipIdx).filter (fun x => x.1.2)).foldl (fun _ x => x.2 + 1) 0

/-- The bank in force; at epoch 0 SCALE and P_MAX of the configuration image with unity gain (09 R288). -/
def bankOf (p : Pkg) : CalBank := if p.mtr.epoch = 0 then p.mtr.cfgCal else (p.mtr.banks.getD (p.mtr.epoch - 1) ({}, false)).1

/-- P_MAX of a meter in kW (09 R287). -/
def pMax (p : Pkg) (m : Nat) : Nat := (bankOf p).pmax.getD m 0

/-- The staged values are loaded with those in force (09 R292). -/
def stageBank (p : Pkg) : Pkg :=
  { p with mtr := { p.mtr with chan := p.mtr.chan.map (fun c => { c with staged := c.act }) } }

/-- The bank in force drives the channels, which it does from the start of an interval (09 R290). -/
def loadBank (p : Pkg) : Pkg :=
  let p1 := { p with mtr := { p.mtr with epoch := validEpoch p.mtr.banks } }
  let b := bankOf p1
  stageBank { p1 with mtr := { p1.mtr with chan := mapI (fun c x => { x with act := b.chan.getD c {} }) p1.mtr.chan } }

/-- Sum of a reference's two sensors, a sensor excluded being replaced by the other, in 0.1 °C (09 R293). -/
def refTemp (p : Pkg) (a : Nat) : Option Int :=
  let s := fun k => let x := p.thm.sens.getD k {}; if x.reason = 0 then x.t else none
  match s a, s (a + 1) with
  | some x, some y => some (x + y)
  | some x, none => some (2 * x)
  | none, some y => some (2 * y)
  | none, none => none

/-- The temperature factor in Q2.30 at twice a temperature in 0.1 °C (09 R293). -/
def tempFactor (a1 a2 t2 : Int) : Int :=
  let d := t2 - 500
  2 ^ 30 + rdiv (a1 * d * 20 * 2 ^ 46 + a2 * d * d * 2 ^ 30) (400 * 2 ^ 64)

/-- Every channel takes its temperature factor for the interval that begins (09 R293). -/
def tempComp (p : Pkg) : Pkg :=
  let ts := [refTemp p 20, refTemp p 22]
  let held := p.mtr.tRef
  let f := fun c (x : MChan) =>
    let r := c / 16
    let t2 := (ts.getD r none).getD (held.getD r 500)
    { x with tsubst := (ts.getD r none).isNone
             tfact := tempFactor ((p.mtr.bank0.alpha1.getD c []).getD x.act.step 0) ((p.mtr.bank0.alpha2.getD c []).getD x.act.step 0) t2 }
  let e := p.mtr.evt
  { p with mtr := { p.mtr with chan := mapI f p.mtr.chan
                               tRef := mapI (fun r h => (ts.getD r none).getD h) held
                               evt := { e with tempSubst := e.tempSubst || ts.any (·.isNone) } } }

/-- No bank is free: guard 0x0A (09 R289). -/
def bankFull (p : Pkg) : Bool := p.mtr.banks.length ≥ 8

/-- A bank starts to burn (09 R289). -/
def startBurn (b : CalBank) (p : Pkg) : Pkg :=
  if p.mtr.burn.isSome ∨ bankFull p ∨ p.mtr.nvBlock then p else { p with mtr := { p.mtr with burn := some b } }

/-- The bank that the staged values make: gain, offset and phase staged, the rest as the bank in force (09 R289). -/
def stagedBank (p : Pkg) : CalBank :=
  { bankOf p with chan := p.mtr.chan.map (fun c => { c.act with gain := c.staged.gain, offset := c.staged.offset, phase := c.staged.phase }) }

/-- A write of 1 to MTR_CAL_CTRL.BURN, in life-cycle SERVICE (09 R289). -/
def applyCalBurn (p : Pkg) : Pkg := if lcOf p = .service then startBurn (stagedBank p) p else p

/-- A write of MTR_CAL_CTRL.TRIAL, in life-cycle SERVICE (09 R292). -/
def applyTrial (on : Bool) (p : Pkg) : Pkg := if lcOf p = .service then { p with mtr := { p.mtr with trial := on } } else p

/-- CAL_BURN (09 R289). -/
def execCalBurn (s : State) : Out := run1 applyCalBurn s

/-- CAL_TRIAL_WRITE (09 R292). -/
def execCalTrialWrite (on : Bool) (s : State) : Out := run1 (applyTrial on) s

/-! ### Samples and energies (09 R285, R286, R297 to R299) -/

/-- A sample at stage 4 reaches full scale (09 R286). -/
def clips (raw : Int) : Bool := raw ≥ 2 ^ 23 - 1 || raw ≤ -(2 ^ 23)

/-- Stage 6: offset removed, then the gain and the temperature factor; in 2^−91 mV or mA (09 R285; log 49). -/
def calibrate (k : ChanCal) (scale : Nat) (tfact raw : Int) : Int :=
  (clampI (-(2 ^ 23)) (2 ^ 23) raw * 256 - k.offset) * k.gain * tfact * scale

/-- Stage 6 for a voltage delayed by 90°, from which the Hilbert filter has removed the mean (09 R297; log 49). -/
def calibrateAc (k : ChanCal) (scale : Nat) (tfact raw : Int) : Int :=
  clampI (-(2 ^ 23)) (2 ^ 23) raw * 256 * k.gain * tfact * scale

/-- Energy in 2^−32 µWh of a sum over samples in 2^−182 µW, divided by 1 + e (09 R294, R299; log 50). -/
def energyOf (p : Pkg) (x : Int) : Int := (x * 10 ^ 12).tdiv (2 ^ 150 * 57600000 * (10 ^ 12 + p.tim.e))

/-- What the accumulators k = 0 to 5 of a meter receive for net sums of active and reactive energy, in 2^−32 µWh
(09 R298). -/
def receives (p : Pkg) (m : Nat) (x : Int × Int) : List Nat :=
  let ea := energyOf p x.1
  let er := if isAc m then energyOf p x.2 else 0
  let es := if isAc m then root ((ea * ea + er * er).toNat) else 0
  [ea.toNat, (-ea).toNat, er.toNat, (-er).toNat, if ea ≥ 0 then es else 0, if ea < 0 then es else 0]

/-- Accumulators and fractions after an addition in 2^−32 µWh (09 R299). -/
def addTo (acc frac add : List Nat) : List Nat × List Nat :=
  let t := (acc.zip (frac.zip add)).map (fun x => x.1 * 2 ^ 32 + x.2.1 + x.2.2)
  (t.map (fun x => x / 2 ^ 32 % 2 ^ 64), t.map (· % 2 ^ 32))

/-- The accumulators of a meter with the samples of the present interval before the newest placing sample, or with all of
it, in µWh (10 R317). -/
def accAt (p : Pkg) (m : Nat) : List Nat :=
  let x := mtAt p m
  (addTo x.acc x.frac (receives p m (x.split.getD (x.eA, x.eR)))).1

/-- Energy of one accumulator in the present interval before the newest placing sample, whole µWh (10 R319). -/
def partE (p : Pkg) (m : Nat) : Nat :=
  let x := mtAt p m
  (energyOf p (x.split.getD (x.eA, x.eR)).1).toNat / 2 ^ 32

/-- Samples of the present interval before the newest placing sample, in ns (10 R326). -/
def partNs (p : Pkg) : Nat := ((p.mtr.split.map (·.2)).getD p.mtr.intN - p.mtr.intDone) * 62500

/-- A meter's net energies of the present interval are added to its accumulators, and to the trial accumulators while
TRIAL is 1 (09 R292, R298). -/
def commitMeter (m : Nat) (p : Pkg) : Pkg :=
  let x := mtAt p m
  let e := receives p m (x.eA, x.eR)
  let f := receives p m (x.tA, x.tR)
  let (a, r) := addTo x.acc x.frac e
  let (b, s) := if p.mtr.trial then addTo x.trial x.trialF f else (x.trial, x.trialF)
  let p1 := updMt m (fun x => { x with acc := a, frac := r, trial := b, trialF := s, eA := 0, eR := 0, tA := 0, tR := 0, split := none }) p
  let carry := fun (u : PulseOut) =>
    if u.meter ≠ m then u
    else { u with carry := u.carry + (if u.trial then (if p.mtr.trial then f else []) else e).getD u.qty 0 * u.k }
  { p1 with mtr := { p1.mtr with pulse := p1.mtr.pulse.map carry } }

/-! ### The journal (09 R306 to R312) -/

/-- FLAGS of a record (09 R307). -/
def recFlags (p : Pkg) (m : Nat) (quiet final : Bool) : Nat :=
  let n := if isAc m then 7 else 2
  let ch := (List.range n).map (fun k => mcAt p (firstCh m + k))
  bitsN [(mtAt p m).clip, quiet, final, p.tim.sync == .unsync, ch.any (·.tsubst), (mtAt p m).ph.any (fun x => isAc m && x.lost)]

/-- The next record of a meter (09 R307). -/
def mkRecord (p : Pkg) (m kind flags gap cause : Nat) : MtrRecord :=
  let x := mtAt p m
  let g := p.bil.rg.getD m {}
  { kind := kind, meter := m, epoch := p.mtr.epoch, flags := flags, seq := x.seq + 1, time := p.mtr.tLast, acc := x.acc, frac := x.frac
    gap := gap, cause := cause, clk := p.clk, tar := if isAc m then [] else g.tar, per := (g.perE, g.perNs) }

/-- A record is written to its slot (09 R306). -/
def writeSlot (m : Nat) (r : MtrRecord) (p : Pkg) : Pkg :=
  updMt m (fun x => { x with slots := upd x.slots (r.seq % 64) (fun _ => some r) }) p

/-- A record is formed and sent to the Selvedge die (09 R308). -/
def sendRecord (m kind flags gap cause : Nat) (p : Pkg) : Pkg :=
  let r := mkRecord p m kind flags gap cause
  updMt m (fun x => { x with seq := r.seq, sent := x.sent ++ [r] }) p

/-- Every record on its way is written, in SEQ order (09 R308). -/
def flushRecords (m : Nat) (p : Pkg) : Pkg :=
  updMt m (fun x => { x with sent := [] }) ((mtAt p m).sent.foldl (fun p r => writeSlot m r p) p)

/-- The oldest record of a meter reaches the Selvedge die and is written; one cut short fails its check; none is written
under NV-write inhibit (09 R308, R309). -/
def journalRecord (m : Nat) (ok : Bool) (p : Pkg) : Pkg :=
  match (mtAt p m).sent with
  | [] => p
  | r :: l =>
    if p.mtr.nvBlock ∧ ok then p
    else
      let p1 := writeSlot m { r with ok := ok } (updMt m (fun x => { x with sent := l }) p)
      { p1 with mtr := { p1.mtr with late := if p.clk > r.clk + 2000000 then inc8 p1.mtr.late else p1.mtr.late } }

/-- ENERGY_JOURNAL_RECORD (09 R308). -/
def execEnergyJournalRecord (m : Fin 6) (ok : Bool) (s : State) : Out := run1 (journalRecord m.val ok) s

/-- The record of a meter taken at restart: highest SEQ that passes its check (09 R311). -/
def bestRecord (x : Meter) : Option MtrRecord :=
  x.slots.foldl (fun b s => match s, b with
    | some r, none => if r.ok then some r else none
    | some r, some q => if r.ok ∧ r.seq > q.seq then some r else some q
    | none, b => b) none

/-- Slots after a chosen one, in rotation order, whose records fail their check. -/
def failedAfter (x : Meter) : Nat → Nat → Nat
  | 0, _ => 0
  | f + 1, s => match x.slots.getD (s % 64) none with
    | some r => if r.ok then 0 else 1 + failedAfter x f (s + 1)
    | none => 0

/-- The save-gap bound in whole µWh, rounded up (09 R311). -/
def gapBound (pmax n : Nat) (quiet : Bool) : Nat :=
  if n = 0 ∧ quiet then 0 else ((n + 1) * pmax * 25000000 + 8999) / 9000

/-- A meter at restart: the chosen record's accumulators and SEQ, and the bound; a meter with no valid record keeps its
journaled values (09 R311; log 51). -/
def restoreMeter (pmax : Nat) (x : Meter) : Meter × Nat × Nat :=
  match bestRecord x with
  | none =>
    let n := (x.slots.filter (fun s => s.any (fun r => !r.ok))).length
    (x, if n = 0 then 0 else gapBound pmax n false, n)
  | some r =>
    let n := failedAfter x 63 (r.seq + 1)
    ({ x with acc := r.acc, frac := r.frac, seq := r.seq, sent := [] }, gapBound pmax n (tb r.flags 1 || tb r.flags 2), n)

/-! ### Pulse outputs (09 R313, R314) -/

/-- A value written to MTR_PULSEk_CFG is in range (09 R314, R315). -/
def pulseOk (p : Pkg) (v : Nat) : Bool :=
  let k := fld v 16 0
  fld v 29 27 ≤ 5 && fld v 26 24 ≤ 5 && inR 1 100000 k && decide (k * pMax p (fld v 29 27) ≤ 100000 * 3600)

/-- A write of MTR_PULSEk_CFG (09 R314). -/
def applyPulse (k v : Nat) (p : Pkg) : Pkg :=
  if !pulseOk p v then mtrEvt (fun e => { e with pulseLim := e.pulseLim || decide (fld v 16 0 * pMax p (fld v 29 27) > 100000 * 3600) }) p
  else { p with mtr := { p.mtr with pulse := upd p.mtr.pulse k (fun u =>
    { u with en := tb v 31, trial := tb v 30, meter := fld v 29 27, qty := fld v 26 24, k := fld v 16 0, carry := 0 }) } }

/-- PULSE_CFG_WRITE (09 R314). -/
def execPulseCfgWrite (k : Fin 4) (val : Nat) (s : State) : Out := run1 (applyPulse k.val val) s

/-- Energy since an output's previous pulse, times K, in 2^−32 µWh (09 R313). -/
def pulseEnergy (p : Pkg) (u : PulseOut) : Int :=
  let x := mtAt p u.meter
  u.carry + (receives p u.meter (if u.trial then (x.tA, x.tR) else (x.eA, x.eR))).getD u.qty 0 * u.k

/-- An output after a sample: a pulse for every 1 ÷ K kWh reached; it lasts the lesser of 20 ms and half the interval,
and never less than 5 µs (09 R313). -/
def pulseSample (p : Pkg) (u : PulseOut) : PulseOut :=
  if !u.en ∨ (u.trial ∧ !p.mtr.trial) then u
  else
    let n := (pulseEnergy p u).toNat / (10 ^ 9 * 2 ^ 32)
    if n = 0 then u
    else
      let gap := match u.last with
        | some t => (p.clk - t) / n
        | none => 40000000
      { u with carry := u.carry - n * (10 ^ 9 * 2 ^ 32 : Nat), cnt := (u.cnt + n) % 2 ^ 32, level := true, last := some p.clk
               width := max 5000 (min 20000000 (gap / 2)) }

/-- A pulse ends (09 R313). -/
def pulseEnd (k : Nat) (p : Pkg) : Pkg :=
  { p with mtr := { p.mtr with pulse := upd p.mtr.pulse k (fun u =>
      if u.level ∧ due p (u.last.getD 0 + u.width) then { u with level := false } else u) } }

/-- METER_PULSE_END (09 R313). -/
def execMeterPulseEnd (k : Fin 4) (s : State) : Out := run1 (pulseEnd k.val) s

/-! ### Supervisory cycle (09 R315) -/

/-- What the meters show of the supervisory cycle that ends: mean powers and clipping (09 R315). -/
def meterCycle (p : Pkg) : Pkg :=
  let f := fun m (x : Meter) =>
    if x.pN = 0 then { x with pSum := 0, qSum := 0 }
    else
      let d := x.pN * 2 ^ 182 * 10 ^ 6
      let a := rdiv x.pSum d
      let r := if isAc m then rdiv x.qSum d else 0
      { x with p := a, q := r, s := if isAc m then root ((a * a + r * r).toNat) else 0, pSum := 0, qSum := 0, pN := 0 }
  { p with mtr := { p.mtr with meter := mapI f p.mtr.meter
                               chan := p.mtr.chan.map (fun c => { c with ovrLast := c.ovrNow, ovrNow := false }) } }

end Sys2Proof.Machine
end

