-- ==== Sys2Proof/Machine/Billing.lean ====
section
/-!
DEFINITION. Billing of chapter 10: calendar time, boundaries and their placing, demand and billing periods, time-sets,
tamper conditions, the event log's entries in receipts, and the receipts' closing and renderings.
-/

namespace Sys2Proof.Machine

/-! ### Dates (19 R554: site time counts from 2000-01-01, a Saturday) -/

/-- Nanoseconds of a minute. -/
def minNs : Nat := 60000000000
/-- Nanoseconds of a day. -/
def dayNs : Nat := 86400000000000

/-- Day number since 2000-01-01 of a date of the Gregorian calendar. -/
def dayOf (y m d : Nat) : Nat :=
  let y1 := if m ≤ 2 then y - 1 else y
  let e := y1 % 400
  let doy := (153 * (if m > 2 then m - 3 else m + 9) + 2) / 5 + d - 1
  y1 / 400 * 146097 + (e * 365 + e / 4 - e / 100 + doy) - 730425

/-- Year, month and day of a day number since 2000-01-01. -/
def dateOf (n : Nat) : Nat × Nat × Nat :=
  let z := n + 730425
  let doe := z % 146097
  let e := (doe - doe / 1460 + doe / 36524 - doe / 146096) / 365
  let doy := doe - (365 * e + e / 4 - e / 100)
  let mp := (5 * doy + 2) / 153
  let m := if mp < 10 then mp + 3 else mp - 9
  (e + z / 146097 * 400 + (if m ≤ 2 then 1 else 0), m, doy - (153 * mp + 2) / 5 + 1)

/-- Instant of a date and minute of day on a clock, in ns. -/
def dateNs (y m d minute : Nat) : Nat := dayOf y m d * dayNs + minute * minNs

/-! ### Tariffs (10 R318 to R320) -/

/-- Offset of a season in ns (10 R320). -/
def offsetOf (c : Calendar) (k : Nat) : Int := (c.seasons.getD k {}).offset * (minNs : Int)

/-- Season starts of the years around a site time, with the season, in site time: each is read in the offset of the
season it ends (10 R320). -/
def seasonStarts (c : Calendar) (t : Nat) : List (Int × Nat) :=
  let y := (dateOf (t / dayNs)).1
  let n := c.seasons.length
  ((List.range 3).map (fun j => (c.seasons.zipIdx).map (fun s =>
    ((dateNs (y + j - 1) s.1.month s.1.day s.1.minute : Int) - offsetOf c ((s.2 + n - 1) % n), s.2)))).flatten

/-- The latest season start at or before a site time (10 R320). -/
def seasonAt (c : Calendar) (t : Nat) : Int × Nat :=
  (seasonStarts c t).foldl (fun b x => if x.1 ≤ (t : Int) ∧ x.1 ≥ b.1 then x else b) (-(2 ^ 63 : Nat), 0)

/-- The tariff of a day profile at a minute of day (10 R321). -/
def profileAt (l : List SwitchPt) (minute : Nat) : Nat := l.foldl (fun b x => if x.minute ≤ minute then x.tariff else b) 1

/-- The tariff a calendar selects in a season at a calendar time: a special day's profile, or the week's (10 R318, R321). -/
def tariffAt (c : Calendar) (season : Nat) (ct : Int) : Nat :=
  let t := ct.toNat
  let (y, m, d) := dateOf (t / dayNs)
  let prof := match c.specials.find? (fun s => (s.year == 0 || s.year == y) && s.month == m && s.day == d) with
    | some s => s.prof
    | none => (c.weeks.getD (c.seasons.getD season {}).week []).getD ((t / dayNs + 5) % 7) 0
  profileAt (c.days.getD prof []) (t % dayNs / minNs)

/-- Calendar time by which switch points are taken: where the offset fell, a repeated switch point is not taken again
(10 R320). -/
def calTime (b : Bil) (c : Calendar) (season t : Nat) : Int :=
  let ct := (t : Int) + offsetOf c season
  match b.rep_ with
  | none => ct
  | some x => max ct x

/-- The tariff in force at a site time in the present season; without a calendar it stays (10 R318). -/
def tariffNow (p : Pkg) (t : Nat) : Nat :=
  match p.bil.cal with
  | none => p.bil.tariff
  | some c => tariffAt c p.bil.season (calTime p.bil c p.bil.season t)

/-- The site time of a calendar instant at its first occurrence; a skipped one is the instant of the change (10 R320). -/
def siteOf (c : Calendar) (cal : Nat) : Int :=
  let cand := (List.range c.seasons.length).map (fun k => ((cal : Int) - offsetOf c k, k))
  let good := cand.filter (fun x => (seasonAt c x.1.toNat).2 == x.2)
  match good with
  | x :: l => l.foldl (fun b y => min b y.1) x.1
  | [] => (seasonAt c (cand.foldl (fun (b : Int) (y : Int × Nat) => max b y.1) 0).toNat).1

/-- The first billing-close point after a site time (10 R321). -/
def nextClose (p : Pkg) : Option Nat :=
  match p.bil.cal with
  | none => none
  | some c =>
    let (y, m, _) := dateOf (p.bil.bilT / dayNs)
    let months := (List.range 4).map (fun j => let k := y * 12 + m - 2 + j; (k / 12, k % 12 + 1))
    let all := (months.map (fun ym => c.closes.map (fun x => (siteOf c (dateNs ym.1 ym.2 x.day x.minute)).toNat))).flatten
    (all.filter (fun t => t > p.bil.bilT)).foldl (fun b t => some (min (b.getD t) t)) none

/-- The next demand boundary, a whole multiple of LENGTH (10 R325). -/
def nextDemand (p : Pkg) : Option Nat :=
  if p.bil.demLen = 0 then none else let l := p.bil.demLen * minNs; some ((p.bil.demT / l + 1) * l)

/-! ### Placing (10 R317) -/

/-- TIME of the placing sample: the newest, or the newest of the present interval that a boundary fell on (10 R317). -/
def placedAt (p : Pkg) : Nat := (p.mtr.split.map (·.1)).getD p.mtr.tLast

/-- Boundaries may be taken: not while the counter is unsynchronised after a restart, nor under NV-write inhibit, nor
before metering runs (10 R329, R330). -/
def mayTake (p : Pkg) : Bool := metering p && !p.bil.waitSync && !p.mtr.nvBlock

/-! ### Events and receipts (10 R336 to R343) -/

/-- Change the open receipts of some regions. -/
def updOpen (rs : List Nat) (f : Receipt → Receipt) (p : Pkg) : Pkg :=
  { p with bil := { p.bil with rcpts := p.bil.rcpts.map (fun x => if x.st = .open_ ∧ rs.contains x.region then f x else x) } }

/-- Enter an event in a receipt and set flags; beyond 16 events only EV_OVERFLOW is set (10 R339, R340). -/
def enterEv (kind time a b flags : Nat) (x : Receipt) : Receipt :=
  if x.events.length < 16 then
    { x with flags := x.flags ||| flags, events := x.events ++ [{ kind := kind, time := time, a := a, b := b }] }
  else { x with flags := x.flags ||| flags ||| 64 }

/-- An event that enters the open receipts of regions, with A and B the first two DATA fields (10 R337, R340). -/
def logBoth (time kind source flags a na b nb : Nat) (rs : List Nat) (p : Pkg) : Pkg :=
  updOpen rs (enterEv kind time a b flags) (logEventAt time kind source 0 (toLe na a ++ toLe nb b) p)

/-- Every region. -/
def allRegions : List Nat := [0, 1, 2, 3]

/-- The tariff registers of a region with the energy of the present interval before the newest placing sample, in µWh
(10 R319). -/
def tarAt (p : Pkg) (r : Nat) : List Nat :=
  let g := p.bil.rg.getD r {}
  let cut := sumN (g.cuts.map (·.2))
  upd (g.cuts.foldl (fun l c => upd l (c.1 - 1) (· + c.2)) g.tar) (p.bil.tariff - 1) (· + (partE p r - cut))

/-- Bytes 0 to 211 + 32n of a receipt (10 R339). -/
def receiptBody (x : Receipt) : List Byte :=
  let ev := (x.events.map (fun e => toLe 2 e.kind ++ List.replicate 6 0 ++ toLe 8 e.time ++ toLe 8 e.a ++ toLe 8 e.b)).flatten
  [1, byte x.region, byte x.cause, byte x.flags] ++ toLe 2 (308 + 32 * x.events.length)
    ++ [byte x.events.length, byte x.vidKind] ++ toLe 8 x.no ++ toLe 8 x.t0 ++ toLe 8 x.t1
    ++ toLe 8 x.pos0 ++ toLe 8 x.pos1 ++ toLe 8 x.neg0 ++ toLe 8 x.neg1 ++ (x.tar.map (toLe 8)).flatten
    ++ toLe 8 x.gap ++ toLe 4 x.calId ++ [byte x.ep0, byte x.ep1, byte x.vid.length, 0] ++ toLe 4 x.boots ++ pad 64 x.vid ++ ev

/-- The binary receipt (10 R339). -/
def receiptBytes (x : Receipt) : List Byte := receiptBody x ++ pad 96 x.sig

/-- The head of a CBOR item in core deterministic encoding (10 R343). -/
def cborHead (major n : Nat) : List Byte :=
  if n < 24 then [byte (major * 32 + n)]
  else if n < 256 then byte (major * 32 + 24) :: toBe 1 n
  else if n < 65536 then byte (major * 32 + 25) :: toBe 2 n
  else if n < 2 ^ 32 then byte (major * 32 + 26) :: toBe 4 n
  else byte (major * 32 + 27) :: toBe 8 n

/-- A CBOR unsigned integer. -/
def cborN (n : Nat) : List Byte := cborHead 0 n
/-- A CBOR byte string. -/
def cborB (b : List Byte) : List Byte := cborHead 2 b.length ++ b
/-- A CBOR array. -/
def cborA (l : List (List Byte)) : List Byte := cborHead 4 l.length ++ l.flatten

/-- The CBOR rendering of a receipt (10 R343). -/
def receiptCbor (x : Receipt) : List Byte :=
  let items := [cborB (receiptBytes x), cborN 1, cborN x.region, cborN x.cause, cborN x.flags, cborN x.no, cborN x.t0, cborN x.t1,
                cborA [cborN x.pos0, cborN x.pos1], cborA [cborN x.neg0, cborN x.neg1], cborA (x.tar.map cborN), cborN x.gap,
                cborN x.calId, cborA [cborN x.ep0, cborN x.ep1], cborN x.boots, cborA [cborN x.vidKind, cborB x.vid],
                cborA (x.events.map (fun e => cborA [cborN e.kind, cborN e.time, cborN e.a, cborN e.b])), cborB (pad 96 x.sig)]
  cborHead 5 items.length ++ (items.zipIdx.map (fun i => cborN i.2 ++ i.1)).flatten

/-- A receipt at its close: the values at the close, its signature (10 R339, R341, R342). -/
def closed (p : Pkg) (t cause pos neg : Nat) (tar : List Nat) (x : Receipt) : Receipt :=
  let tar1 := (tar.zip x.tar0).map (fun (z : Nat × Nat) => z.1 - z.2)
  let fl := x.flags ||| (if x.ep0 ≠ p.mtr.epoch then 128 else 0) ||| (if p.tim.sync = .unsync then 4 else 0)
  let y : Receipt :=
    { x with st := .closed, cause := cause, t1 := t, pos1 := pos, neg1 := neg, ep1 := p.mtr.epoch, boots := p.mbx.boots
             tar := tar1, openReq := none, closeReq := none, flags := fl }
  { y with sig := signWith p .receipt (receiptBody y) }

/-- Close a receipt with a cause at a time: a RECEIPT_CLOSED event is written and the receipt is mirrored
(10 R337, R341, 13 R429). -/
def closeRcpt (no t cause pos neg : Nat) (tar : List Nat) (r : Nat) (p : Pkg) : Pkg :=
  let p1 := loadKey .receipt { p with bil := { p.bil with rcpts := p.bil.rcpts.map (fun x => if x.no = no then closed p t cause pos neg tar x else x) } }
  let p2 := match p1.bil.rcpts.find? (fun x => x.no == no) with
    | some x => mirrorItem no 3 (receiptBytes x) p1
    | none => p1
  logEventAt t 0x30 r 0 (toLe 8 no ++ [byte cause]) p2

/-- The sample of a TIME places the opens and closes of receipts asked for at or before it (10 R317, R339; log 24). -/
def placeReceipts (t : Nat) (p : Pkg) : Pkg :=
  let f := fun (x : Receipt) =>
    if x.st = .open_ ∧ x.openReq.any (· ≤ t) then
      { x with openReq := none, t0 := t, pos0 := (accAt p x.region).getD 0 0, neg0 := (accAt p x.region).getD 1 0
               tar0 := tarAt p x.region, ep0 := p.mtr.epoch }
    else x
  let p1 := { p with bil := { p.bil with rcpts := p.bil.rcpts.map f } }
  (p1.bil.rcpts.filter (fun x => x.st == .open_ && x.closeReq.any (fun c => c.1 ≤ t))).foldl (fun p x =>
    closeRcpt x.no t ((x.closeReq.map (·.2)).getD 8) ((accAt p x.region).getD 0 0) ((accAt p x.region).getD 1 0) (tarAt p x.region) x.region p) p1

/-- Journal replay closes every receipt left open with the values restored; a power-on marks it POWER_DOWN
(10 R341, 02 R78 step 7; log 52). -/
def replayReceipts (causeBit : Nat) (p : Pkg) : Pkg :=
  (p.bil.rcpts.filter (fun x => x.st == .open_)).foldl (fun p x =>
    let m := mtAt p x.region
    let t := ((bestRecord m).map (·.time)).getD p.tim.now
    let p1 := if causeBit = 1 then updOpen [x.region] (fun y => { y with flags := y.flags ||| 16 }) p else p
    closeRcpt x.no t (0x80 + causeBit) (m.acc.getD 0 0) (m.acc.getD 1 0) (p.bil.rg.getD x.region {}).tar x.region p1) p

/-! ### Tariff registers and demand (10 R318, R319, R326) -/

/-- The tariff in force ends: its energy before the placing sample is kept, and the new tariff takes the rest
(10 R319). -/
def switchTariff (t : Nat) (p : Pkg) : Pkg :=
  if t = p.bil.tariff then p
  else
    let f := fun r (g : BilRegion) =>
      { g with cuts := g.cuts ++ [(p.bil.tariff, partE p r - sumN (g.cuts.map (·.2)))] }
    { p with bil := { p.bil with tariff := t, rg := mapI f p.bil.rg } }

/-- The season and tariff follow the calendar at a site time; an offset that falls repeats calendar minutes
(10 R320, R333). -/
def follow (t : Nat) (p : Pkg) : Pkg :=
  match p.bil.cal with
  | none => p
  | some c =>
    let k := (seasonAt c t).2
    let b := p.bil
    let rep := if k ≠ b.season ∧ offsetOf c k < offsetOf c b.season then some ((t : Int) + offsetOf c b.season)
               else b.rep_.filter (fun x => decide (x > (t : Int) + offsetOf c k))
    let p1 := { p with bil := { b with season := k, rep_ := rep } }
    switchTariff (tariffNow p1 t) p1

/-- Distribute an interval's increase of +A over the tariffs that ended in it and the tariff in force (10 R319). -/
def distribute (tariff inc : Nat) : List (Nat × Nat) → List Nat → List Nat
  | [], l => upd l (tariff - 1) (· + inc)
  | (t, e) :: r, l => distribute tariff (inc - min e inc) r (upd l (t - 1) (· + min e inc))

/-- A region takes the increase of its meter's +A (10 R318, R326). -/
def takeIncrease (r inc ns : Nat) (p : Pkg) : Pkg :=
  { p with bil := { p.bil with rg := upd p.bil.rg r (fun g =>
      { g with tar := distribute p.bil.tariff inc g.cuts g.tar, cuts := [], pre := (0, 0)
               perE := g.perE + (inc - min g.pre.1 inc), perNs := g.perNs + (ns - g.pre.2) }) } }

/-- The samples of the present interval go to the accumulators and the registers (09 R298, R309). -/
def commitAll (p0 : Pkg) : Pkg :=
  let ns := (p0.mtr.intN - p0.mtr.intDone) * 62500
  let p : Pkg := { p0 with mtr := { p0.mtr with split := none } }
  let p1 := (List.range 6).foldl (fun p m =>
    let old := (mtAt p m).acc.getD 0 0
    let q := commitMeter m (updMt m (fun x => { x with split := none }) p)
    if isAc m then q else takeIncrease m ((mtAt q m).acc.getD 0 0 - old) ns q) p
  { p1 with mtr := { p1.mtr with intDone := p1.mtr.intN } }

/-- Demand in W of an energy in µWh over a time in ns, rounded down (10 R326; log 53). -/
def demandW (e ns : Nat) : Nat := if ns = 0 then 0 else e * 3600000 / ns

/-- A period boundary closes the demand period: demand, maximum demand, load profile (10 R326). -/
def closeDemand (t mark : Nat) (p : Pkg) : Pkg :=
  let b := p.bil
  let f := fun r (g : BilRegion) =>
    let pe := partE p r
    let e := g.perE + (pe - g.pre.1)
    let ns := g.perNs + (partNs p - g.pre.2)
    let old := g.hist.take (b.demN - 1)
    let w := demandW (e + sumN (old.map (·.1))) (max (b.demLen * minNs * max 1 b.demN) (ns + sumN (old.map (·.2))))
    let k := b.tariff - 1
    let up := decide (w > g.maxDem.getD k 0)
    { g with dem := w, hist := cap 14 ((e, ns) :: g.hist), perE := 0, perNs := 0, pre := (pe, partNs p)
             maxDem := if up then upd g.maxDem k (fun _ => w) else g.maxDem
             maxTime := if up then upd g.maxTime k (fun _ => t) else g.maxTime }
  let rg := mapI f b.rg
  let e : ProfEntry := { time := t, period := b.period, marks := b.marks ||| mark, acc := (List.range 6).map (accAt p)
                         tar := (List.range 4).map (tarAt p), dem := rg.map (fun g => [g.dem]) }
  { p with bil := { b with rg := rg, load := e :: b.load, demT := t, holdT := max b.holdT t, marks := 0 } }

/-- A billing-close point (10 R327). -/
def closeBilling (t : Nat) (p : Pkg) : Pkg :=
  let b := p.bil
  let n := (b.period + 1) % 2 ^ 32
  let e : ProfEntry := { time := t, period := n, marks := b.marks, acc := (List.range 6).map (accAt p)
                         tar := (List.range 4).map (tarAt p), dem := b.rg.map (·.maxDem) }
  let rg := b.rg.map (fun g => { g with maxDem := List.replicate 8 0, maxTime := List.replicate 8 0 })
  logEventAt (placedAt p) 7 0xFFFF 0 (toLe 4 n)
    { p with bil := { b with period := n, prof := e :: b.prof, rg := rg, closeT := t, bilT := t, holdT := max b.holdT t } }

/-- The passive calendar becomes active (10 R323). -/
def activate (t : Nat) (p : Pkg) : Pkg :=
  match p.bil.passive with
  | none => p
  | some c =>
    let old := (p.bil.cal.map (·.id)).getD 0
    let p1 := { p with bil := { p.bil with cal := some c, passive := none, season := (seasonAt c t).2, rep_ := none, bilT := max t p.bil.bilT
                                           evt := { p.bil.evt with calAct := true } } }
    logBoth (placedAt p) 6 0xFFFF 0 old 4 c.id 4 allRegions (follow t p1)

/-! ### Boundaries that are due -/

/-- The earliest boundary not later than a site time, and its kind: 0 demand, 1 billing, 2 activation, in the order of
10 R328; no close is due during the hold of 10 R331. -/
def nextDue (p : Pkg) (lim : Nat) : Option (Nat × Nat) :=
  let hold := p.bil.timeHold
  let l := [if hold then none else nextDemand p, if hold then none else nextClose p, p.bil.passive.map (fun c => max c.act p.bil.demT)]
  ((l.zipIdx).filterMap (fun x => x.1.map (fun t => (t, x.2)))).foldl (fun b x =>
    if x.1 > lim then b else match b with
      | none => some x
      | some y => if x.1 < y.1 then some x else some y) none

/-- Take one boundary, in the tariff in force before it; a period that begins at or after a span's start carries the
span's mark (10 R328, R330, R332). -/
def takeOne (from_ mark t k : Nat) (p : Pkg) : Pkg :=
  let p1 := if t = 0 then p else follow (t - 1) p
  if k = 0 then closeDemand t (if mark = 1 ∨ p1.bil.demT ≥ from_ then mark else 0) p1
  else if k = 1 then closeBilling t p1 else activate t p1

/-- Take the boundaries up to a site time in time order (10 R328, R330, R332). -/
def takeDue (from_ mark lim : Nat) : Nat → Pkg → Pkg
  | 0, p => p
  | f + 1, p =>
    match nextDue p lim with
    | none => p
    | some (t, k) => takeDue from_ mark lim f (takeOne from_ mark t k p)

/-- Take the boundaries up to a site time, as far as the first of a kind (10 R328). -/
def takeTo (kind lim : Nat) : Nat → Pkg → Pkg
  | 0, p => p
  | f + 1, p =>
    match nextDue p lim with
    | none => p
    | some (t, k) => if k = kind then takeOne 0 0 t k p else takeTo kind lim f (takeOne 0 0 t k p)

/-- A number of boundaries that no span exceeds: three kinds per minute. -/
def manyDue (p : Pkg) (lim : Nat) : Nat := 3 * ((lim - min p.bil.demT p.bil.bilT) / minNs) + 8

/-- The time counter becomes synchronised after a restart: the boundaries that passed are taken (10 R330). -/
def deferred (p : Pkg) : Pkg :=
  if !p.bil.waitSync then p
  else
    let lim := p.tim.now
    let first := (nextDue p lim).map (·.1)
    let p1 := follow lim (takeDue 0 1 lim (manyDue p lim) { p with bil := { p.bil with waitSync := false } })
    let p2 := { p1 with bil := { p1.bil with marks := p1.bil.marks ||| 1 } }
    match first with
    | none => p2
    | some t =>
      let p3 := { p2 with bil := { p2.bil with evt := { p2.bil.evt with powerDown := true } } }
      logBoth (placedAt p) 8 0xFFFF 16 t 8 p3.bil.holdT 8 allRegions p3

/-- A time-set, placed: boundaries up to the old time first, then the hold or the skipped span, and the event
(10 R328, R331 to R333). -/
def timeSet (old new : Nat) (p0 : Pkg) : Pkg :=
  let p := { p0 with bil := { p0.bil with setAt := none } }
  let p1 := if p.bil.waitSync then deferred p else takeDue 0 0 old (manyDue p old) p
  let p2 := takeDue old 2 new (manyDue p1 new) { p1 with bil := { p1.bil with timeHold := decide (new < old ∨ p1.bil.timeHold) && decide (new < p1.bil.holdT) } }
  let p3 := follow new { p2 with bil := { p2.bil with rep_ := none, evt := { p2.bil.evt with timeSet := true } } }
  logBoth (placedAt p) 4 0xFFFF 2 old 8 new 8 allRegions p3

/-- The boundaries placed on the samples available, as far as the first of a kind, if one of that kind is due
(10 R317, R328). -/
def boundaryRow (kind : Nat) (t : Option Nat) (p : Pkg) : Pkg :=
  if mayTake p ∧ t.any (· ≤ p.mtr.tLast) then takeTo kind p.mtr.tLast (manyDue p p.mtr.tLast) p else p

/-- The boundaries placed on the samples available are taken, then season and tariff follow the calendar
(10 R319, R320, R328). -/
def calendarRow (season : Bool) (p : Pkg) : Pkg :=
  if mayTake p ∧ p.bil.cal.any (fun c => (season == ((seasonAt c p.mtr.tLast).2 != p.bil.season))) then
    follow p.mtr.tLast (takeDue 0 0 p.mtr.tLast (manyDue p p.mtr.tLast) p)
  else p

/-- TARIFF_SWITCH (10 R319). -/
def execTariffSwitch (s : State) : Out := run1 (calendarRow false) s

/-- SEASON_START (10 R320). -/
def execSeasonStart (s : State) : Out := run1 (calendarRow true) s

/-- DEMAND_PERIOD_CLOSE (10 R326). -/
def execDemandPeriodClose (s : State) : Out :=
  run1 (fun p => if p.bil.timeHold then p else boundaryRow 0 (nextDemand p) p) s

/-- BILLING_CLOSE (10 R327). -/
def execBillingClose (s : State) : Out :=
  run1 (fun p => if p.bil.timeHold then p else boundaryRow 1 (nextClose p) p) s

/-- CALENDAR_ACTIVATION (10 R323). -/
def execCalendarActivation (s : State) : Out :=
  run1 (fun p => boundaryRow 2 (p.bil.passive.map (·.act)) p) s

/-- The power-fail record, after the boundaries that coincide (10 R328, R329). -/
def powerFail (p : Pkg) : Pkg :=
  match p.bil.warnAt with
  | none => p
  | some w =>
    if p.mtr.nvBlock ∨ p.mtr.tLast < w then p
    else
      let p1 := if mayTake p then follow p.mtr.tLast (takeDue 0 0 p.mtr.tLast (manyDue p p.mtr.tLast) p) else p
      logEventAt (placedAt p) 1 0xFFFF 0 (toLe 8 w) { p1 with bil := { p1.bil with warnAt := none } }

/-- POWER_FAIL_RECORD (10 R329). -/
def execPowerFailRecord (s : State) : Out := run1 powerFail s

/-! ### Tamper conditions (10 R334, R335) -/

/-- Count a test on one of its samples or windows: towards the start while the condition is off and the test holds,
towards the end while it is on and the test fails. -/
def tick (test : Bool) (d mag : Nat) (start : Int) (x : Tamper) : Tamper :=
  if test = x.on then { x with count := 0, peak := if x.on then max x.peak mag else x.peak, wins := if x.on then x.wins + d else 0 }
  else if x.on then { x with count := x.count + d, wins := x.wins + d }
  else { x with count := x.count + d, peak := if x.count = 0 then mag else max x.peak mag
                start := if x.count = 0 then start else x.start, wins := x.wins + d }

/-- Regions on the link that an AC meter supplies (10 R334, 01 R48). -/
def regionsOf (p : Pkg) (a : Nat) : List Nat :=
  let links := ((afes p).filter (fun n => (clAt p n).cfg.acMeter == a)).map (fun n => (clAt p n).cfg.link)
  allRegions.filter (fun r => (linkOf p r).any links.contains)

/-- Change a region's billing state. -/
def updBr (r : Nat) (f : BilRegion → BilRegion) (p : Pkg) : Pkg := { p with bil := { p.bil with rg := upd p.bil.rg r f } }
/-- Change an AC meter's tamper state. -/
def updBa (a : Nat) (f : BilAc → BilAc) (p : Pkg) : Pkg := { p with bil := { p.bil with ac := upd p.bil.ac a f } }

/-- A tamper event: logged, entered with TAMPER in the open receipts of the regions affected (10 R335). -/
def logTamper (kind source a na b nb : Nat) (rs : List Nat) (p : Pkg) : Pkg := logBoth p.mtr.tLast kind source 8 a na b nb rs p

/-- Set bits of BIL_EVT. -/
def bilEvt (f : BilEvt → BilEvt) (p : Pkg) : Pkg := { p with bil := { p.bil with evt := f p.bil.evt } }

/-- A condition starts (true) or ends (false) once its test has held or failed for its time or windows (10 R334, R335,
R337). -/
def tamperTurn (start : Bool) (c : TamperCond) (p : Pkg) : Pkg :=
  let t := p.bil.tmp
  let ok := fun (x : Tamper) (n : Nat) => p.config.isSome && x.on != start && decide (x.count ≥ max 1 n)
  let k := if start then 0 else 1
  match c with
  | .reverse r =>
    let x := (p.bil.rg.getD r {}).rev
    if !ok x (t.revMs * 1000000) then p
    else
      let e := ((accAt p r.val).getD 1 0 : Int) - x.start
      let p1 := updBr r (fun g => { g with rev := { x with on := start, count := 0 }, revCnt := if start then inc8 g.revCnt else g.revCnt }) p
      let p2 := if start then bilEvt (fun e => { e with reverse := true }) p1 else p1
      logTamper (0x10 + k) r x.peak 4 e.toNat 8 [r] p2
  | .bypassCurrent r =>
    let x := (p.bil.rg.getD r {}).cur
    if !ok x (t.curTime * 100000000) then p
    else
      let p1 := updBr r (fun g => { g with cur := { x with on := start, count := 0 }, curCnt := if start then inc8 g.curCnt else g.curCnt }) p
      let p2 := if start then bilEvt (fun e => { e with bypCur := true }) p1 else p1
      logTamper (0x14 + k) r x.peak 4 0 0 [r] p2
  | .bypassEnergy a =>
    let x := (p.bil.ac.getD a {}).byp
    if !ok x t.bypWin then p
    else
      let p1 := updBa a (fun g => { g with byp := { x with on := start, count := 0 }, bypCnt := if start then inc8 g.bypCnt else g.bypCnt }) p
      let p2 := if start then bilEvt (fun e => { e with bypEnergy := true }) p1 else p1
      logTamper (0x12 + k) (4 + a) (uns 64 x.start) 8 x.wins 4 (regionsOf p a) p2
  | .neutral a =>
    let x := (p.bil.ac.getD a {}).neu
    if !ok x (t.neuTime * 100000000) then p
    else
      let p1 := updBa a (fun g => { g with neu := { x with on := start, count := 0 }, neuCnt := if start then inc8 g.neuCnt else g.neuCnt }) p
      let p2 := if start then bilEvt (fun e => { e with neutral := true }) p1 else p1
      logTamper (0x16 + k) (4 + a) x.peak 2 0 0 (regionsOf p a) p2

/-- TAMPER_CONDITION_START (10 R334). -/
def execTamperConditionStart (cond : TamperCond) (s : State) : Out := run1 (tamperTurn true cond) s

/-- TAMPER_CONDITION_END (10 R334). -/
def execTamperConditionEnd (cond : TamperCond) (s : State) : Out := run1 (tamperTurn false cond) s

/-- The per-sample tests of a region: REVERSE and BYPASS_CURRENT on the newest sample (10 R334). -/
def tamperSample (r : Nat) (p : Pkg) : Pkg :=
  if p.config.isNone then p
  else
    let t := p.bil.tmp
    let i := rdiv (mcAt p (2 * r + 1)).now (2 ^ 91)
    let d := (i - ioutOf p r).natAbs
    let rate := sumN ((dcdcOf p r).map (rating p))
    let cur := decide (d * 1000 > t.curAbs * 100000 + t.curRel * rate * 100)
    let neg := (accAt p r).getD 1 0
    updBr r (fun g => { g with rev := tick (decide (i < -(t.irev * 100 : Nat))) 62500 ((-i).toNat / 100) neg g.rev
                               cur := tick cur 62500 (d / 100) 0 g.cur }) p

/-- Net import of an AC meter and net +A of the DC meters on its link, in µWh (10 R334). -/
def bypassBase (a : Nat) (p : Pkg) : Int × Int :=
  let net := fun m => let l := accAt p m; (l.getD 0 0 : Int) - l.getD 1 0
  (net (4 + a), sumI ((regionsOf p a).map net))

/-- A 60 s window of BYPASS_ENERGY ends and the next begins; D in Wh, its loss term from the mean output power in W
(10 R334). -/
def bypassWindow (a : Nat) (p : Pkg) : Pkg :=
  let t := p.bil.tmp
  let now := bypassBase a p
  match (p.bil.ac.getD a {}).base with
  | none => updBa a (fun g => { g with base := some now }) p
  | some b =>
    let imp := now.1 - b.1
    let out := now.2 - b.2
    let w := rdiv (out * 60) 1000000
    let loss := rdiv (((t.lossA : Int) * 2 ^ 30 + t.lossB * w) * 10 ^ 9 + t.lossC * w * w * 2 ^ 30) (2 ^ 30 * 10 ^ 9 * 60)
    let d := rdiv (imp - out) 1000000 - loss
    let test := p.config.isSome && decide (d.natAbs * 1000000000 > t.bypRel * imp.natAbs + t.bypAbs * 1000000000)
    updBa a (fun g => { g with base := some now, diff := d, byp := tick test 1 d.natAbs d g.byp }) p

end Sys2Proof.Machine
end

