-- ==== Sys2Proof/Machine/Sampling.lean ====
section
/-!
DEFINITION. The rows that metering samples drive (09 R285 to R313): a sample with every action on it, the end of an
integration interval, RMS windows, lost phases, burns, the final save, and the meters at restart.
-/

namespace Sys2Proof.Machine

/-! ### Values of one instant -/

/-- A channel's raw sample after stage 5 and its fractional delay; positions 32 to 63 hold those of the staged PHASE
where it differs (log 49). -/
def rawAt (raw : List Int) (n : Nat) (trial : Bool) (c : Nat) : Int :=
  if trial then raw.getD (n + c) (raw.getD c 0) else raw.getD c 0

/-- The calibration that drives the legal or the trial accumulators (09 R292). -/
def calFor (x : MChan) (trial : Bool) : ChanCal :=
  if trial then { x.act with gain := x.staged.gain, offset := x.staged.offset, phase := x.staged.phase } else x.act

/-- A channel's calibrated sample in 2^−91 mV or mA (09 R285). -/
def valueOf (p : Pkg) (raw : List Int) (trial : Bool) (c : Nat) : Int :=
  let x := mcAt p c
  calibrate (calFor x trial) x.act.scale x.tfact (rawAt raw 32 trial c)

/-- Active and reactive power of a meter's sample in 2^−182 µW: each voltage with its current, an AC meter's phases
summed, the neutral left out (09 R297). -/
def powersOf (p : Pkg) (raw quad : List Int) (trial : Bool) (m : Nat) : Int × Int :=
  let v := valueOf p raw trial
  let b := firstCh m
  if !isAc m then (v b * v (b + 1), 0)
  else
    let q := fun k => let x := mcAt p (b + k)
      calibrateAc (calFor x trial) x.act.scale x.tfact (rawAt quad 6 trial (3 * (m - 4) + k))
    (sumI ((List.range 3).map (fun k => v (b + k) * v (b + 3 + k))), sumI ((List.range 3).map (fun k => q k * v (b + 3 + k))))

/-- Nearest root of a ratio of integers. -/
def rootDiv (a : Int) (d : Nat) : Nat := (root (4 * a.toNat / d) + 1) / 2

/-- Mean and ripple RMS of a channel's window in mV or mA (09 R300). -/
def meanWindow (x : MChan) : MChan :=
  let n := x.wN
  { x with value := rdiv x.wSum (n * 2 ^ 91), ripple := rootDiv (x.wSq * n - x.wSum * x.wSum) (n * n * 2 ^ 182), wSum := 0, wSq := 0, wN := 0 }

/-- A channel takes a sample; a DC or auxiliary channel's window is 3,200 samples (09 R285, R286, R300). -/
def chanSample (p : Pkg) (raw : List Int) (c : Nat) (x : MChan) : MChan :=
  let v := valueOf p raw false c
  let clip := clips (raw.getD c 0)
  let y := { x with now := v, wSum := x.wSum + v, wSq := x.wSq + v * v, wN := x.wN + 1, ovrNow := x.ovrNow || clip, ovrInt := x.ovrInt || clip }
  if inR 8 21 c ∨ y.wN < 3200 then y else meanWindow y

/-- Every channel takes its sample; a clipped one sets OVERRANGE (09 R286). -/
def chanSamples (raw : List Int) (p : Pkg) : Pkg :=
  let any := anyI (fun c _ => clips (raw.getD c 0)) p.mtr.chan
  mtrEvt (fun e => { e with overrange := e.overrange || any }) { p with mtr := { p.mtr with chan := mapI (chanSample p raw) p.mtr.chan } }

/-! ### Zero crossings (09 R301) -/


/-- FREQ from the reference phase, 0 with every phase lost (09 R301, R315). -/
def setFreq (m : Nat) (p : Pkg) : Pkg :=
  let n := match refPhase p m with
    | none => 0
    | some k => ((mtAt p m).ph.getD k {}).period
  updMt m (fun x => { x with freq := if n = 0 then 0 else (10 ^ 12 + n / 2) / n }) p

/-- Lanes whose repetitive control follows a phase take its crossing: period length, index, count (05 R180, R182). -/
def rcCross (src inst period : Nat) (p : Pkg) : Pkg :=
  let ls := (List.range 128).filter (fun l => let x := laneAt p l; x.cfg.used && x.cfg.rc && x.cfg.zcSrc == src)
  ls.foldl (fun p l =>
    let x := laneAt p l
    let n := (period + 50000) / 100000
    let i := min ((p.tim.now - inst) / 100000) (if nValid n then n - 1 else 511)
    let p1 := updRcm x.cfg.slot (fun m => { m with n := n, index := if x.rc.st = .coast then m.index else i }) p
    updLane l (fun x => { x with rc := { x.rc with good := if nValid n then min 2 (x.rc.good + 1) else 0 } }) p1) p

/-- A window of an AC meter begins: its sums are empty (09 R300). -/
def windowStart (a : Nat) (p : Pkg) : Pkg :=
  let f := fun c (x : MChan) => if inR (8 + 7 * a) (14 + 7 * a) c then { x with wSum := 0, wSq := 0, wN := 0 } else x
  updMt (4 + a) (fun x => { x with win := some 0 })
    (updBa a (fun g => { g with nSq := 0 }) { p with mtr := { p.mtr with chan := mapI f p.mtr.chan } })

/-- One phase takes the newest sample of its voltage at a TIME (09 R301). -/
def phaseSample (m k t : Nat) (p : Pkg) : Pkg :=
  let c := firstCh m + k
  let x := (mtAt p m).ph.getD k {}
  let v := (mcAt p c).now
  let fs : Int := (mcAt p c).act.scale * 2 ^ 91
  let set := fun (y : PhaseTrk) => updMt m (fun z => { z with ph := upd z.ph k (fun _ => y) })
  match x.last with
  | some w =>
    if x.armed ∧ w < 0 ∧ v ≥ 0 then
      let d := (62500 * (-w) / (v - w)).toNat
      let inst := t - 62500 + d
      let at_ := p.clk - 1562500 + d
      let per := if x.zc = 0 then 0 else at_ - x.seen.getD at_
      let y := { x with last := some v, armed := false, zc := inst, seen := some at_, period := per, lost := x.lost && !inR 14286000 25000000 per }
      let p1 := set y p
      let p2 := if refPhase p1 m ≠ some k then p1
                else if (mtAt p1 m).win.isNone then windowStart (m - 4) p1
                else updMt m (fun z => { z with win := z.win.map (· + 1) }) p1
      setFreq m (rcCross (3 * (m - 4) + k) inst per p2)
    else set { x with last := some v, armed := x.armed || decide (v * 100 < -fs) } p
  | none => set { x with last := some v, armed := decide (v * 100 < -fs), seen := some p.clk } p

/-- A phase without a crossing for 40 ms is lost (09 R301). -/
def phaseLost (a k : Nat) (p : Pkg) : Pkg :=
  let m := 4 + a
  let x := (mtAt p m).ph.getD k {}
  if !metering p ∨ x.lost ∨ !x.seen.any (fun t => due p (t + 40000000)) then p
  else
    mtrEvt (fun e => { e with phaseLost := true })
      (setFreq m (updMt m (fun z => { z with ph := upd z.ph k (fun y => { y with lost := true }) }) p))

/-- PHASE_LOST (09 R301). -/
def execPhaseLost (m : Fin 2) (ph : Fin 3) (s : State) : Out := run1 (phaseLost m.val ph.val) s

/-! ### A meter's sample -/

/-- A meter takes the powers of a sample; QUIET is judged (09 R298, R309, R315). -/
def meterSample (raw quad : List Int) (m : Nat) (p : Pkg) : Pkg :=
  let a := powersOf p raw quad false m
  let b := if p.mtr.trial then powersOf p raw quad true m else (0, 0)
  let low := if isAc m then decide (a.1.natAbs * 2000 < pMax p m * 10 ^ 9 * 2 ^ 182)
             else decide ((mcAt p (2 * m + 1)).now.natAbs < 5000 * 2 ^ 91)
  let n := if isAc m then 7 else 2
  let clip := (List.range n).any (fun k => clips (raw.getD (firstCh m + k) 0))
  updMt m (fun x =>
    let q := if low then some (match x.quietNs with | some t => t + 62500 | none => 0) else none
    { x with eA := x.eA + a.1, eR := x.eR + a.2, tA := x.tA + b.1, tR := x.tR + b.2, pSum := x.pSum + a.1, qSum := x.qSum + a.2
             pN := x.pN + 1, clip := x.clip || clip, quietNs := q, quiet := q.any (fun t => decide (t ≥ 200000)) }) p

/-- The current of every phase of each AC meter against 5 A, for the safe-stop sequence (11 R378). -/
def acLowSample (p : Pkg) : Pkg :=
  let low := fun a => (List.range 3).all (fun k => decide ((mcAt p (8 + 7 * a + 3 + k)).now.natAbs < 5000 * 2 ^ 91))
  { p with duo := { p.duo with ss := { p.duo.ss with acLow := mapI (fun a n => if low a then n + 62500 else 0) p.duo.ss.acLow } } }

/-! ### Restart records and saves (09 R309 to R312) -/

/-- One meter starts again from its newest record: its registers x, the bound of its gap, and n records that failed their
check (09 R308, R311, 10 R316, R337). -/
def restartMeter (causeBit m : Nat) (x : Meter) (bound n : Nat) (p : Pkg) : Pkg :=
  let p1 := updMt m (fun _ => { x with gap := if bound = 0 then x.gap else bound }) p
  let p2 := match bestRecord (mtAt p m) with
    | some r => if isAc m then p1 else updBr m (fun g => { g with tar := r.tar, perE := r.per.1, perNs := r.per.2 }) p1
    | none => p1
  let p3 := { p2 with mtr := { p2.mtr with wrErr := satAdd 255 p2.mtr.wrErr n
                                           evt := { p2.mtr.evt with fallback := p2.mtr.evt.fallback || n != 0 } } }
  let p4 := if bound = 0 then p3 else
    logBoth p3.tim.now 3 m 1 bound 8 m 1 (if isAc m then [] else [m])
      (updOpen (if isAc m then [] else [m]) (fun y => { y with gap := y.gap + bound })
        (mtrEvt (fun e => { e with saveGap := true }) p3))
  sendRecord m 3 0 bound causeBit p4

/-- The meters at restart: accumulators restored, the save-gap bound recorded, a restart record each (09 R311, R312). -/
def restartMeters (causeBit : Nat) (p : Pkg) : Pkg :=
  let one := fun (p : Pkg) (m : Nat) =>
    let t := restoreMeter (pMax p m) (mtAt p m)
    restartMeter causeBit m t.1 t.2.1 t.2.2 p
  let p1 := (List.range 6).foldl one (loadBank p)
  { p1 with mtr := { p1.mtr with shown := p1.mtr.meter.map (·.acc) } }

/-- A save record of every meter; with every meter QUIET it is the FINAL record and the save is complete
(09 R309, 19 R557, R578). -/
def finalSave (p0 : Pkg) : Pkg :=
  if !(p0.mtr.save = .running ∨ p0.mtr.save = .writing) ∨ p0.mtr.nvBlock ∨ !metering p0 then p0
  else
    let p := commitAll p0
    let final := p.mtr.meter.all (·.quiet)
    let one := fun (p : Pkg) (m : Nat) =>
      let p1 := flushRecords m p
      let r := mkRecord p1 m 2 (recFlags p1 m (mtAt p1 m).quiet final) 0 0xFF
      writeSlot m r (updMt m (fun x => { x with seq := r.seq }) p1)
    let p1 := (List.range 6).foldl one p
    { p1 with mtr := { p1.mtr with save := if final then .complete else .writing }
              sup := if final then { p1.sup with
                  save := (p1.sup.warnAt.map (fun w => min 0xFFFF ((p1.clk - w) / 1000))).getD p1.sup.save } else p1.sup
              tim := if p0.mtr.save = .running then { p1.tim with nvNow := p1.tim.now } else p1.tim }

/-- FINAL_SAVE_RECORD (09 R309). -/
def execFinalSaveRecord (s : State) : Out := run1 finalSave s

/-! ### Intervals (09 R290, R293, R298, R306) -/

/-- An integration interval ends: accumulators, records, flags of the receipts; then the bank and the temperature factors
of the next (09 R290, R293, R298, R305, R306). -/
def intervalEnd (p0 : Pkg) : Pkg :=
  if p0.mtr.intN < 160 then p0
  else
    let p := commitAll p0
    let p1 := if p.mtr.save ≠ .none ∨ p.mtr.nvBlock then p
              else (List.range 6).foldl (fun p m => sendRecord m 1 (recFlags p m false false) 0 0xFF p) p
    let p2 := (List.range 4).foldl (fun p r =>
      let fl := (if p.tim.sync = .unsync then 4 else 0) + (if (mtAt p r).clip then 32 else 0)
      updOpen [r] (fun x => { x with flags := x.flags ||| fl }) p) p1
    let p3 := { p2 with mtr := { p2.mtr with intN := 0, intDone := 0, split := none, shown := p2.mtr.meter.map (·.acc)
                                             meter := p2.mtr.meter.map (fun x => { x with clip := false })
                                             chan := p2.mtr.chan.map (fun c =>
                                               { c with ovrInt := false, ovrCnt := if c.ovrInt then inc8 c.ovrCnt else c.ovrCnt }) } }
    tempComp (if validEpoch p3.mtr.banks = p3.mtr.epoch ∧ (bankOf p3).chan = p3.mtr.chan.map (·.act) then p3 else loadBank p3)

/-- INTEGRATION_INTERVAL_END (09 R298). -/
def execIntegrationIntervalEnd (s : State) : Out := run1 intervalEnd s

/-- A calibration burn ends; one cut short leaves a bank that is skipped (09 R290, R291). -/
def calBurnt (ok : Bool) (p : Pkg) : Pkg :=
  match p.mtr.burn with
  | none => p
  | some b =>
    let old := p.mtr.epoch
    let p1 := { p with mtr := { p.mtr with burn := none, banks := p.mtr.banks ++ [(b, ok)] } }
    if !ok then stageBank p1
    else logBoth p1.tim.now 5 0xFFFF 0 old 1 (validEpoch p1.mtr.banks) 1 allRegions (mtrEvt (fun e => { e with calBurnt := true }) p1)

/-- CAL_BURN_COMPLETE (09 R290). -/
def execCalBurnComplete (ok : Bool) (s : State) : Out := run1 (calBurnt ok) s

/-! ### The sample -/

/-- A placing sample: the energy before it is kept apart (10 R317). -/
def markSplit (t : Nat) (p : Pkg) : Pkg :=
  { p with mtr := { p.mtr with split := some (t, p.mtr.intN)
                               meter := p.mtr.meter.map (fun x => { x with split := some (x.eA, x.eR) }) } }

/-- What the sample places before its energy counts: a time-set, minute boundaries, an activation, receipts, the end of
the hold of 10 R331, windows of BYPASS_ENERGY (10 R317, R331, R334). -/
def placeSample (t : Nat) (p : Pkg) : Pkg :=
  let set := p.bil.setAt.filter (fun x => p.clk ≥ x.2.2 + 1500000)
  let old := p.mtr.tLast
  let minute := old / minNs != t / minNs
  let act := p.bil.passive.any (fun c => decide (old < c.act ∧ c.act ≤ t))
  let p1 := if set.isSome ∨ minute ∨ act then markSplit t p else p
  let p2 := { p1 with mtr := { p1.mtr with tLast := t } }
  let p3 : Pkg := match set with
    | some x => timeSet x.1 x.2.1 p2
    | none => p2
  let p4 := if p3.bil.timeHold ∧ t ≥ p3.bil.holdT then { p3 with bil := { p3.bil with timeHold := false } } else p3
  let p5 := if minute then bypassWindow 1 (bypassWindow 0 p4) else p4
  let rc := p5.bil.rcpts.any (fun x => x.st == .open_ && (x.openReq.any (· ≤ t) || x.closeReq.any (fun c => decide (c.1 ≤ t))))
  if rc then
    let saved := p5.mtr.split
    let ms := p5.mtr.meter.map (·.split)
    let p6 := placeReceipts t (markSplit t p5)
    { p6 with mtr := { p6.mtr with split := saved, meter := mapI (fun m x => { x with split := ms.getD m none }) p6.mtr.meter } }
  else p5

/-- Time has reached a sample when it is available, 1.5 ms after its TIME (09 R630; log 4). -/
def sampleTime (t : Nat) (p : Pkg) : Pkg :=
  let a := p.clk + (t + 1500000 - p.tim.now)
  if a < nextBoundary p then advance a p else p

/-- The meters add a sample of their channels, after the boundaries it places (09 R298, 10 R317). -/
def sampleMeters (t : Nat) (raw quad : List Int) (p : Pkg) : Pkg :=
  let p1 := (List.range 6).foldl (fun p m => meterSample raw quad m p) (placeSample t (chanSamples raw p))
  { p1 with mtr := { p1.mtr with intN := p1.mtr.intN + 1 } }

/-- Every pulse output takes a sample (09 R313). -/
def samplePulses (p : Pkg) : Pkg := { p with mtr := { p.mtr with pulse := p.mtr.pulse.map (pulseSample p) } }

/-- Every phase of the AC meters looks for its zero crossing (09 R301). -/
def samplePhases (t : Nat) (p : Pkg) : Pkg := (List.range 6).foldl (fun p k => phaseSample (4 + k / 3) (k % 3) t p) p

/-- The squares of the sum of the phase voltages of an AC meter, which the missing-neutral test takes (10 R334). -/
def sampleNeutral (p : Pkg) : Pkg :=
  let sum := fun a => sumI ((List.range 3).map (fun k => (mcAt p (8 + 7 * a + k)).now))
  { p with bil := { p.bil with ac := mapI (fun a (x : BilAc) => { x with nSq := x.nSq + sum a * sum a }) p.bil.ac } }

/-- A sample is available, with its TIME: every action on it is taken (09 R285 to R313, R630, 10 R317, R334). -/
def sample (t : Nat) (raw quad : List Int) (p : Pkg) : Pkg :=
  if !metering p then p
  else
    let p1 := samplePhases t (samplePulses (sampleMeters t raw quad (intervalEnd (sampleTime t p))))
    acLowSample ((List.range 4).foldl (fun p r => tamperSample r p) (sampleNeutral p1))

/-- METERING_SAMPLE (09 R630). -/
def execMeteringSample (t : Nat) (raw quad : List Int) (s : State) : Out := run1 (sample t raw quad) s

/-! ### RMS windows (09 R300) -/

/-- A window of an AC meter is complete: 10 or 12 periods of its phase, or 3,200 samples with every phase lost. -/
def windowDone (p : Pkg) (a : Nat) : Bool :=
  let x := mtAt p (4 + a)
  match refPhase p (4 + a) with
  | none => decide ((mcAt p (8 + 7 * a)).wN ≥ 3200)
  | some _ => x.win.any (fun n => decide (n ≥ if (bankOf p).nom60.getD a false then 12 else 10))

/-- An AC meter's window ends: RMS values, harmonic groups as resampled, the missing-neutral test (09 R300, 10 R334;
log 54). -/
def windowEnd (a : Nat) (groups : List Nat) (p : Pkg) : Pkg :=
  if !metering p ∨ !windowDone p a then p
  else
    let b := 8 + 7 * a
    let lost := (refPhase p (4 + a)).isNone
    let rms := fun (c : MChan) => if c.wN = 0 then 0 else rootDiv c.wSq (c.wN * 2 ^ 182)
    let n := (mcAt p b).wN
    let f := fun c (x : MChan) => if inR b (b + 6) c then { x with value := rms x, ripple := 0, wSum := 0, wSq := 0, wN := 0 } else x
    let h := fun i (v : Option Nat) => if i / 384 = a then (if lost then none else some (groups.getD (i % 384) 0 % 2 ^ 32)) else v
    let g := p.bil.ac.getD a {}
    let vn := if n = 0 then 0 else rootDiv g.nSq (9 * n * 2 ^ 182)
    let mean := sumN ((List.range 3).map (fun k => rms (mcAt p (b + k)))) / 3
    let disp := if mean = 0 then 0 else vn * 1000 / mean
    let t := p.bil.tmp
    let inFs := (mcAt p (b + 6)).act.scale
    let test := p.config.isSome && t.fourW.getD a false && decide (vn * 100 > t.ndisp * mean) &&
      decide (rms (mcAt p (b + 6)) * 1000 < t.inMin * inFs)
    let p1 := updMt (4 + a) (fun x => { x with win := x.win.map (fun _ => 0) })
      { p with mtr := { p.mtr with chan := mapI f p.mtr.chan, harm := mapI h p.mtr.harm } }
    updBa a (fun g => { g with disp := disp, nSq := 0, neu := tick test (n * 62500) disp 0 g.neu }) p1

/-- HARMONIC_WINDOW_END (09 R300). -/
def execHarmonicWindowEnd (m : Fin 2) (groups : List Nat) (s : State) : Out := run1 (windowEnd m.val groups) s

end Sys2Proof.Machine
end

