-- ==== Sys2Proof/Machine/Mailbox.lean ====
section
/-!
DEFINITION. The mailboxes of chapter 03: messages as they reach the endpoints, sessions, slots, acceptance of work,
images on their way into the store, and the queries of groups 0x01xx and 0x0Fxx that read work and slots.
-/

namespace Sys2Proof.Machine

/-! ### Endpoints (03 R80 to R83, R119) -/

/-- Change an endpoint's error counters. -/
def updErr (ep : Nat) (f : EpErr → EpErr) (p : Pkg) : Pkg := { p with mbx := { p.mbx with err := upd p.mbx.err ep f } }
/-- A message counted as MALFORMED (03 R84, R85). -/
def malformed (ep : Nat) (p : Pkg) : Pkg := updErr ep (fun e => { e with malformed := inc8 e.malformed, now := inc8 e.now }) p
/-- A message counted as TAG (03 R86, R88). -/
def badTag (ep : Nat) (p : Pkg) : Pkg := updErr ep (fun e => { e with tag := inc8 e.tag, now := inc8 e.now }) p
/-- A message counted as REPLAY (03 R86). -/
def replayed (ep : Nat) (p : Pkg) : Pkg := updErr ep (fun e => { e with replay := inc8 e.replay, now := inc8 e.now }) p

/-- MBX_EPn_STAT.UP: the SGMII link, or VIO_7 with an active die (03 R119). -/
def epUp (p : Pkg) (ep : Nat) : Bool := if ep = 2 then p.sup.vioOk.getD 7 false && awake p else p.mbx.up.getD ep false

/-- A new answer fits EP2's queue: it is not full of answers (03 R83). -/
def queueRoom (p : Pkg) : Bool := decide (p.mbx.queue.length < 16) || p.mbx.queue.any (·.pushed)

/-- Parts cover the bytes from 0 to a total, tried once per part. -/
def coverFrom (parts : List (Nat × Nat)) : Nat → Nat → Nat
  | 0, n => n
  | f + 1, n => match parts.find? (fun x => x.1 ≤ n && n < x.1 + x.2) with
    | some x => coverFrom parts f (x.1 + x.2)
    | none => n

/-- Parts cover a total. -/
def covers (total : Nat) (parts : List (Nat × Nat)) : Bool := coverFrom parts parts.length 0 ≥ total

/-- A fragment of a datagram is taken; the datagram is handed on once it is whole (03 R81). -/
def reassemble (ep : Nat) (f : Nat × Nat × Nat × Nat) (k : Pkg → Pkg) (p : Pkg) : Pkg :=
  let (key, off, len, whole) := f
  let own := p.mbx.reasm.filter (fun r => r.ep == ep)
  let old := own.find? (fun r => r.key == key)
  if whole > 4128 ∨ (old.isNone ∧ own.length ≥ 16) then p
  else
    let r := match old with
      | some r => { r with parts := r.parts ++ [(off, len)] }
      | none => { ep := ep, key := key, parts := [(off, len)], since := p.clk }
    let rest := p.mbx.reasm.filter (fun x => !(x.ep == ep && x.key == key))
    if covers whole r.parts then k { p with mbx := { p.mbx with reasm := rest } }
    else { p with mbx := { p.mbx with reasm := r :: rest } }

/-- A datagram not complete within 50 ms is discarded (03 R81). -/
def reasmTimeout (ep key : Nat) (p : Pkg) : Pkg :=
  { p with mbx := { p.mbx with reasm := p.mbx.reasm.filter (fun r => !(r.ep == ep && r.key == key && due p (r.since + 50000000))) } }

/-- REASSEMBLY_TIMEOUT (03 R81). -/
def execReassemblyTimeout (ep : Fin 2) (key : Nat) (s : State) : Out := run1 (reasmTimeout ep.val key) s

/-- An SGMII link comes up or goes down (03 R119). -/
def sgmii (ep : Nat) (on : Bool) (p : Pkg) : Pkg := { p with mbx := { p.mbx with up := upd p.mbx.up ep (fun _ => on) } }

/-- SGMII_LINK_UP (03 R119). -/
def execSgmiiLinkUp (ep : Fin 2) (s : State) : Out := run1 (sgmii ep.val true) s
/-- SGMII_LINK_DOWN (03 R119). -/
def execSgmiiLinkDown (ep : Fin 2) (s : State) : Out := run1 (sgmii ep.val false) s

/-- An ARP request or neighbour solicitation for the port's address is answered; the answer is recorded as type 0x101,
the model's own code (03 R81). -/
def arp (ep : Nat) (forUs : Bool) (p : Pkg) : Pkg :=
  if drives p ∧ epUp p ep ∧ forUs ∧ (p.mbx.addrs.getD ep none).isSome then
    { p with mbx := { p.mbx with tx := { ep := ep, type := 0x101 } :: p.mbx.tx } }
  else p

/-- ARP_AND_NEIGHBOUR_SOLICITATION (03 R81). -/
def execArpAndNeighbourSolicitation (ep : Fin 2) (forUs : Bool) (s : State) : Out := run1 (arp ep.val forUs) s

/-- An ICMP echo is answered only where the configuration image enables it; the answer is recorded as type 0x102, the
model's own code (03 R81). -/
def icmp (ep : Nat) (data : List Byte) (p : Pkg) : Pkg :=
  if drives p ∧ epUp p ep ∧ p.mbx.echoOn ∧ (p.mbx.addrs.getD ep none).isSome then
    { p with mbx := { p.mbx with tx := { ep := ep, type := 0x102, body := data } :: p.mbx.tx } }
  else p

/-- ICMP_ECHO (03 R81). -/
def execIcmpEcho (ep : Fin 2) (data : List Byte) (s : State) : Out := run1 (icmp ep.val data) s

/-- Bytes of a message on EP2: header, body and tag (03 R84). -/
def msgLen (m : OutMsg) : Nat := 16 + m.body.length + (if m.type = 6 ∨ m.type = 8 then 0 else 16)

/-- An SPI read that clocks n bytes of the message: the oldest message leaves the queue if all of it was clocked
(03 R82). -/
def spiRead (n : Nat) (p : Pkg) : Pkg :=
  match p.mbx.queue with
  | [] => p
  | m :: r => if !muted p ∧ epUp p 2 ∧ n ≥ msgLen m then { p with mbx := { p.mbx with queue := r, tx := m :: p.mbx.tx } } else p

/-- SPI_READ_TRANSACTION (03 R82). -/
def execSpiReadTransaction (len : Nat) (s : State) : Out := run1 (spiRead len) s

/-! ### Envelopes and sessions (03 R84 to R92) -/

/-- TYPE of a message. -/
def MsgIn.type (m : MsgIn) : Nat := u8 m.header 1
/-- SESSION_ID of a message. -/
def MsgIn.session (m : MsgIn) : Nat := u32 m.header 4
/-- COUNTER of a message. -/
def MsgIn.counter (m : MsgIn) : Nat := u64 m.header 8

/-- The framing of a message of a type over a link that is up: UDP port, SPI length, version, type and body length; a bad one counts
MALFORMED, and so does one on EP2 that would need an answer while the queue is full of answers (03 R81 to R85). -/
def framedOn (up : Pkg → Nat → Bool) (type : Nat) (m : MsgIn) (k : Pkg → Pkg) (p : Pkg) : Pkg :=
  if !up p m.ep ∨ (m.ep ≠ 2 ∧ m.port ≠ 40740) then p
  else
    let go := fun (p : Pkg) =>
      if (m.ep = 2 ∧ (m.spiLen ≠ 3 + m.spiL ∨ !inR 1 4128 m.spiL)) ∨ m.header.length ≠ 16 ∨ u8 m.header 0 ≠ 1 ∨ m.type ≠ type ∨
          u16 m.header 2 ≠ m.body.length ∨ m.body.length > 4096 then malformed m.ep p
      else if m.ep = 2 ∧ type ≠ 7 ∧ !queueRoom p then malformed 2 p
      else k p
    match m.frag with
    | some f => if m.ep = 2 then go p else reassemble m.ep f go p
    | none => go p

/-- The framing of a message of a type (03 R82 to R85). -/
def framed (type : Nat) (m : MsgIn) (k : Pkg → Pkg) (p : Pkg) : Pkg := framedOn epUp type m k p

/-- The tag of a message verifies under the key of its session, with SESSION_ID and COUNTER as nonce and the header as associated
data (03 R86). -/
def tagOk (p : Pkg) (m : MsgIn) : Bool :=
  match sessionKey p m.session with
  | some k => let n := slice m.header 4 12; m.tag == gcmTag k n m.header (gcmXor k n m.body)
  | none => false

/-- A message of a session: its tag verifies and its counter is fresh (03 R86); a session the device does not hold has
no key under which a tag could verify (log 55). A COUNTER of 0 or with the device's direction bit, which no host message has,
counts as REPLAY (log 107). -/
def inSession (type : Nat) (m : MsgIn) (k : Session → Pkg → Pkg) (p : Pkg) : Pkg :=
  if !awake p then p
  else framed type m (fun p =>
    match sessionOf p m.session with
    | none => badTag m.ep p
    | some s =>
      let c := m.counter
      if !tagOk p m then badTag m.ep p
      else if c ≥ 2 ^ 63 ∨ c = 0 ∨ s.seen.contains c ∨ c + 1024 < s.high then replayed m.ep p
      else
        let high := max s.high c
        let seen := (c :: s.seen).filter (fun x => x + 1024 ≥ high)
        let s1 := { s with high := high, seen := seen, last := p.clk, ep := m.ep, v6 := m.v6, peer := m.peer }
        k s1 (updSession s.id (fun _ => s1) p)) p

/-- A session closes, and its key leaves the engines (03 R85, R89). -/
def dropSession (id : Nat) (p : Pkg) : Pkg :=
  dropKey (.session id) { p with mbx := { p.mbx with sessions := p.mbx.sessions.filter (fun s => s.id != id) } }

/-- CLOSE has no body; one with a body is malformed and ends nothing (03 R85, R119). -/
def closeMsg (m : MsgIn) (s : Session) (p : Pkg) : Pkg := if m.body.isEmpty then dropSession s.id p else malformed m.ep p

/-- CLOSE (03 R85). -/
def execClose (msg : MsgIn) (s : State) : Out := run1 (inSession 7 msg (closeMsg msg)) s

/-- A session idle for SESSION_IDLE closes (03 R89). -/
def idleSession (id : Nat) (p : Pkg) : Pkg :=
  match sessionOf p id with
  | none => p
  | some s => if due p (s.last + p.mbx.idleMax * 1000000000) then dropSession id p else p

/-- SESSION_IDLE_TIMEOUT (03 R89). -/
def execSessionIdleTimeout (sid : Nat) (s : State) : Out := run1 (idleSession sid) s

/-- The session idle the longest. -/
def longestIdle (l : List Session) : Option Session :=
  l.foldl (fun (b : Option Session) s => match b with
    | none => some s
    | some x => if s.last < x.last then some s else b) none

/-- The session that a new one of a client displaces beyond either limit: the oldest of that client, or else the one idle the
longest (03 R89). -/
def displaced (p : Pkg) (client : Nat) : Option Nat :=
  let own := p.mbx.sessions.filter (fun s => s.client == client)
  if own.length < 4 ∧ p.mbx.sessions.length < 64 then none
  else match own with
    | s :: _ => some s.id
    | [] => (longestIdle p.mbx.sessions).map (·.id)

/-- The key of a mailbox session: 32 bytes of HKDF-SHA-384 over the shared secret, salted with both nonces, its label "MBX SESSION"
followed by SESSION_ID and client id (18 R539). -/
def sessionKeyOf (d : Nat) (peer cn dn : List Byte) (sid client : Nat) : List Byte :=
  let label := keyLabel [77, 66, 88, 32, 83, 69, 83, 83, 73, 79, 78] 1 0
  hkdfExpand (hkdfExtract (cn ++ dn) (Config.ecdh d peer)) (label ++ toLe 4 sid ++ toLe 4 client) 32

/-- SESSION_ID of a new session: the one drawn, or where that is 0 or in use the next free one (03 R88). -/
def freshSid (p : Pkg) (sid : Nat) : Nat :=
  if sid = 0 ∨ (sessionOf p sid).isSome then p.mbx.sessions.foldl (fun b s => max b s.id) 0 + 1 else sid

/-- OPEN_REPLY of session n, but for its signature: SESSION_ID, the device's point and nonce, SEQ_HIGH, open items and boot count
(03 R88). -/
def openHead (p : Pkg) (n client : Nat) (c dn : List Byte) : List Byte :=
  toLe 4 n ++ pad 97 (Config.ecPoint (privOf c)) ++ dn ++ toLe 4 (seqOf p client).high
    ++ toLe 2 (openItems p client).length ++ toLe 2 p.mbx.boots

/-- The session that an OPEN_REQUEST opens (03 R88, R89). -/
def newSession (m : MsgIn) (n : Nat) (p : Pkg) : Session :=
  { id := n, client := u32 m.body 0, ep := m.ep, v6 := m.v6, peer := m.peer, opened := p.clk, last := p.clk, sent := 1 }

/-- The session is opened: its key follows from both points and nonces, and OPEN_REPLY is signed by the attestation key
(03 R88, 18 R539). -/
def beginSession (m : MsgIn) (sid : Nat) (nonce : List Byte) (p0 : Pkg) : Pkg :=
  let id := u32 m.body 0
  let c := (drawBytes 7 p0).1
  let p := (drawBytes 7 p0).2
  let n := freshSid p sid
  let dn := pad 32 nonce
  let head := openHead p n id c dn
  let body := head ++ signWith p .attest (m.body ++ head)
  let key := sessionKeyOf (privOf c) (slice m.body 4 97) (slice m.body 101 32) dn n id
  sendOut { ep := m.ep, type := 6, session := n, counter := 1, body := body, peer := m.peer } m.v6
    (holdKey (.session n) key
      (loadKey .attest { p with mbx := { p.mbx with sessions := p.mbx.sessions ++ [newSession m n p] } }))

/-- OPEN_REQUEST: a known client with a valid signature, or client 0 with any key, gets a session, its key, and an OPEN_REPLY signed
by the attestation key; a part without a root has no such key, and none is served while the entropy source fails. One of
another body length, or with a SESSION_ID, counts as MALFORMED (03 R88, R89, R91, 02 R65, 18 R539, R548; logs 56, 107). -/
def openRequest (m : MsgIn) (sid : Nat) (nonce : List Byte) (p : Pkg) : Pkg :=
  if !awake p ∨ rootOf p.key ≠ .ready then p
  else framed 5 m (fun p =>
    let id := u32 m.body 0
    if m.body.length ≠ 229 ∨ m.session ≠ 0 then malformed m.ep p
    else if !p.key.entropy then p
    else if (clientOf p id).isNone ∨ (!m.sigOk ∧ !zeroClient p id) then badTag m.ep p
    else beginSession m sid nonce (match displaced p id with
      | some x => dropSession x p
      | none => p)) p

/-- OPEN_REQUEST (03 R88). -/
def execOpenRequest (msg : MsgIn) (sid : Nat) (nonce : List Byte) (s : State) : Out := run1 (openRequest msg sid nonce) s

/-! ### COMMAND and RESULT_READ (03 R93 to R97) -/

/-- SLOT_ACK (03 R85). -/
def slotAck (s : Session) (slot : Nat) (st : Status) (gen : Nat) (p : Pkg) : Pkg :=
  sendIn s.id 2 ([byte slot, 0] ++ toLe 2 st.code ++ toLe 4 gen) false p

/-- The command a slot takes from a COMMAND body (03 R93 to R95). -/
def placed (b : List Byte) (sid : Nat) (s : Slot) : Slot :=
  { state := .pending, uses := nextUse s.uses, opcode := u16 b 0, client := u32 b 4, seq := u32 b 8, push := tb (u8 b 13) 0
    rsvOk := u8 b 13 ≤ 1 && zeros b 14 18, session := sid, payload := b.drop 32 }

/-- COMMAND: placed or refused, and answered; a placed one then meets check 1 of R108. A SLOT of 64 or more is no slot of the
client's: NOT_AUTHORISED, with GENERATION 0 (03 R94, R108; log 107). -/
def command (m : MsgIn) (s : Session) (p : Pkg) : Pkg :=
  let b := m.body
  let i := u8 b 12
  let ix := m.ep * 64 + i
  let old := slotAt p ix
  let gen := generation p old
  let mine := i < 64 && (((clientOf p s.client).getD {}).slots.getD m.ep []).contains i
  if i < 64 ∧ old.state = .pending then slotAck s i .busy gen p
  else if !mine ∨ u32 b 4 ≠ s.client then slotAck s i .notAuthorised (if i < 64 then gen else 0) p
  else if u16 b 2 + 32 ≠ b.length then slotAck s i .badLength gen p
  else
    let p1 := updSlot ix (placed b s.id) p
    let p2 := slotAck s i .ok (generation p1 (slotAt p1 ix)) p1
    if isOpcode (u16 b 0) then p2 else finalise ix .badOpcode 0 0 [] p2

/-- COMMAND (03 R94). -/
def execCommand (msg : MsgIn) (s : State) : Out := run1 (inSession 1 msg (command msg)) s

/-- RESULT_READ: a DONE slot's result is returned and its read count moves on (03 R97). -/
def resultRead (m : MsgIn) (s : Session) (p : Pkg) : Pkg :=
  let i := u8 m.body 0
  if m.body.length ≠ 4 ∨ i ≥ 64 then malformed m.ep p
  else
    let ix := m.ep * 64 + i
    let x := slotAt p ix
    let p1 := sendIn s.id 4 (readSlot p x) false p
    match x.state, x.result with
    | .done, some r => exportMark x r (updSlot ix (fun x => { x with reads := inc16 x.reads }) p1)
    | _, _ => p1

/-- RESULT_READ (03 R97). -/
def execResultRead (msg : MsgIn) (s : State) : Out := run1 (inSession 3 msg (resultRead msg)) s

/-! ### Images on their way into the store (03 R114, 18 R544) -/

/-- KIND, TARGET and TOTAL of an IMAGE_LOAD payload. -/
def imgKey (d : List Byte) : Nat × Nat × Nat := (u8 d 0, u8 d 1, u32 d 4)

/-- The load in progress of a kind and target. -/
def loadOf (p : Pkg) (k : Nat × Nat × Nat) : Option ImgLoad := p.loads.find? (fun l => l.kind == k.1 && l.target == k.2.1)

/-- Chunks of an image present, or accepted and not yet applied. -/
def partsOf (p : Pkg) (k : Nat × Nat × Nat) : List (Nat × Nat) :=
  let have_ := match loadOf p k with
    | some l => if l.total = k.2.2 then l.parts else []
    | none => []
  have_ ++ (p.mbx.work.filter (fun w => w.state == .accepted && w.opcode == 0x0106 && imgKey w.payload == k)).map
    (fun w => (u32 w.payload 8, w.payload.length - 12))

/-- A chunk makes its image whole; one that comes when it is whole does not (03 R114). -/
def completes (p : Pkg) (d : List Byte) : Bool :=
  !covers (u32 d 4) (partsOf p (imgKey d)) && covers (u32 d 4) (partsOf p (imgKey d) ++ [(u32 d 8, d.length - 12)])

/-- A chunk's fields are in range (03 R114). -/
def chunkOk (d : List Byte) : Bool :=
  inR 1 4 (u8 d 0) && decide (u8 d 1 ≤ (if u8 d 0 = 1 then 1 else 0)) && zeros d 2 2 && inR 129 (storeSize (u8 d 0)) (u32 d 4) &&
    u32 d 8 % 4 == 0 && decide (u32 d 8 + (d.length - 12) ≤ u32 d 4)

/-- IMAGE_LOAD in the catalogue; while an image verifies its engine is occupied (03 R108, R112, R114). -/
def specImageLoad : OpSpec where
  op := 0x0106
  lenOk d := inR 13 4064 d.length
  role r d := if u8 d 0 = 1 then r.ven else r.opr
  params _ d := chunkOk d
  modes := notRetired
  busy p d := (loadOf p (imgKey d)).any (fun l => l.verify.isSome)

/-- IMAGE_LOAD (03 R114). -/
def execImageLoad (ep : Fin 3) (slot : Fin 64) (s : State) : Out := run1 (submit specImageLoad true (slotIx ep slot) noAns) s

/-- A chunk applied: stored; the one that makes the image whole starts verification, which ends its work. A chunk of an image that
already verifies stores its bytes again, and one of another TOTAL finds the engine occupied (03 R114). -/
def applyImageLoad (id : Nat) (d : List Byte) (p : Pkg) : Pkg :=
  let k := imgKey d
  let cur := (loadOf p k).filter (fun l => l.verify.isSome)
  if cur.any (fun l => l.total != k.2.2) then finishWork id .busy p
  else if cur.isSome then
    finishWork id .ok { p with store := memWriteL (storeBase k.1 k.2.1 + u32 d 8) (d.drop 12) p.store }
  else
  let old := (loadOf p k).filter (fun l => l.total == k.2.2)
  let st := if old.isSome then p.store else memErase (storeBase k.1 k.2.1) (storeSize k.1) p.store
  let part := (u32 d 8, d.length - 12)
  let parts := ((old.map (·.parts)).getD []).filter (fun x => x != part) ++ [part]
  let whole := covers k.2.2 parts
  let l : ImgLoad := { kind := k.1, target := k.2.1, total := k.2.2, parts := parts, verify := if whole then some id else none }
  let p1 := { p with loads := l :: p.loads.filter (fun x => !(x.kind == k.1 && x.target == k.2.1))
                     store := memWriteL (storeBase k.1 k.2.1 + u32 d 8) (d.drop 12) st }
  if whole then runWork id p1 else finishWork id .ok p1

/-- Kind of an image's body (03 R114). -/
def ImageBody.kind : ImageBody → Nat
  | .firmware _ => 1 | .config _ => 2 | .calendar _ => 3 | .siteMap _ => 4

/-- Ascending list. -/
def rising : List Nat → Bool
  | a :: b :: l => decide (a < b) && rising (b :: l)
  | _ => true

/-- The calendar that an image's bytes hold: none where MAGIC, VERSION, N_CLOSE or the length that the counts give is wrong
(10 R321, R322; log 7). -/
def calOf (b : List Byte) : Option Calendar :=
  let ns := u8 b 5
  let nw := u8 b 6
  let nd := u8 b 7
  let nx := u8 b 8
  let w := 40 + 8 * ns
  let d := w + 8 * nw
  let x := d + 132 * nd
  if u32 b 0 ≠ 0x43544D51 ∨ u8 b 4 ≠ 1 ∨ u8 b 9 > 4 ∨ b.length ≠ x + 8 * nx + 128 then none
  else some
    { id := u32 b 12, act := u64 b 16
      closes := (List.range (u8 b 9)).map (fun i => { day := u8 b (24 + 4 * i), minute := u16 b (26 + 4 * i) })
      seasons := (List.range ns).map (fun i =>
        let o := 40 + 8 * i
        { month := u8 b o, day := u8 b (o + 1), minute := u16 b (o + 2), week := u8 b (o + 4), offset := sle b (o + 5) 2 })
      weeks := (List.range nw).map (fun i => (List.range 7).map (fun j => u8 b (w + 8 * i + j)))
      days := (List.range nd).map (fun i =>
        let o := d + 132 * i
        (List.range (u8 b o)).map (fun j => { minute := u16 b (o + 4 + 4 * j), tariff := u8 b (o + 6 + 4 * j) }))
      specials := (List.range nx).map (fun i =>
        let o := x + 8 * i
        { year := u16 b o, month := u8 b (o + 2), day := u8 b (o + 3), prof := u8 b (o + 4) }) }

/-- A calendar passes R322 but for MAGIC, VERSION and the signature. -/
def calOk (p : Pkg) (c : Calendar) : Bool :=
  inR 1 8 c.seasons.length && inR 1 8 c.weeks.length && inR 1 16 c.days.length && decide (c.specials.length ≤ 64) &&
  decide (c.closes.length ≤ 4) && inR 1 (2 ^ 32 - 1) c.id &&
  c.closes.all (fun x => inR 1 28 x.day && decide (x.minute ≤ 1439)) &&
  c.seasons.all (fun x => decide (x.week < c.weeks.length) && decide (-720 ≤ x.offset ∧ x.offset ≤ 840) && inR 1 12 x.month
    && inR 1 31 x.day && decide (x.minute ≤ 1439)) &&
  c.weeks.all (fun w => w.length == 7 && w.all (fun d => decide (d < c.days.length))) &&
  c.days.all (fun d => inR 1 32 d.length && ((d.head?.map (·.minute)) == some 0) && rising (d.map (·.minute))
    && d.all (fun x => inR 1 8 x.tariff && decide (x.minute ≤ 1439))) &&
  c.specials.all (fun x => decide (x.prof < c.days.length)) &&
  rising (c.seasons.map (fun x => (x.month * 32 + x.day) * 1440 + x.minute)) &&
  decide (c.id > max ((p.bil.cal.map (·.id)).getD 0) ((p.bil.passive.map (·.id)).getD 0))

/-- What an image holds, by its stored bytes with their trailer, and by what its verification brings (03 R114, 10 R321,
18 R543, R550; log 7). -/
def bodyOf (p : Pkg) (kind : Nat) (img : List Byte) (b : ImageIn) : Option ImageBody :=
  let t := img.drop (img.length - 128)
  let h := pad 48 (Config.sha384 img)
  match kind, b with
  | 1, .firmware ver => some (.firmware { ok := true, secVer := u32 t 16, key := (quogusKey p (slice t 24 8)).getD 0
                                          revoke := tb (u8 t 6) 0, ver := ver, digest := h })
  | 2, .config c => some (.config { c with digest := h })
  | 3, .calendar => (calOf img).map .calendar
  | 4, .siteMap m => some (.siteMap { m with digest := h })
  | _, _ => none

/-- The checks of a kind (18 R544, 10 R322, 08 R246). -/
def bodyOk (p : Pkg) : ImageBody → Bool
  | .firmware _ => true
  | .config _ => true
  | .calendar c => calOk p c
  | .siteMap m => decide (m.ver > (p.ldg.nv.map_.map (·.ver)).getD 0)

/-- Work id under which an image loaded through the boot ROM on an endpoint is verified: none of R101 (03 R92). -/
def recoveryId (ep : Nat) : Nat := 2 ^ 64 + ep

/-- The endpoint's RECOVERY answer with the result in slot 0 (03 R85, R92). -/
def recoveryAnswer (ep : Nat) (p : Pkg) : Pkg :=
  let s := slotAt p (64 * ep)
  match s.result with
  | some r => sendOut { ep := ep, type := 8, body := resultBytes (generation p s) 0 r, peer := p.mbx.recPeer.getD ep (0, 0) } false p
  | none => p

/-- The result of one slot that waited for the verification: the item's own, or that of a command of the same sequence
(03 R103, R104, R114). -/
def finishSlot (id : Nat) (st : Status) (ix : Nat) (p : Pkg) : Pkg :=
  let s := slotAt p ix
  if placedHere p ix id then
    let fix := fun (c : ClientSeq) =>
      { c with acc := c.acc.map (fun a => if a.seq = s.seq then { a with result := { a.result with status := st } } else a) }
    updSeq s.client fix (finalise ix st 0 id [] p)
  else finalise ix .duplicate 0 id [] p

/-- The result of the chunk that completed an image becomes final, with its kept copy and those that wait on it (03 R103, R104,
R114). -/
def finishLoad (id : Nat) (st : Status) (p : Pkg) : Pkg :=
  if id ≥ 2 ^ 64 then
    let ep := id - 2 ^ 64
    if (slotAt p (64 * ep)).waits = some id then recoveryAnswer ep (finalise (64 * ep) st 0 0 [] p) else p
  else
    let p1 := finishWork id st p
    (idxs (fun s => s.waits == some id) p1.mbx.slots).foldl (fun p ix => finishSlot id st ix p) p1

/-- Verification of a complete image ends; an image that fails is erased with every chunk (03 R114, 18 R544). -/
def verified (kind : Nat) (sigOk : Bool) (b : ImageIn) (p : Pkg) : Pkg :=
  match p.loads.find? (fun l => l.kind == kind && l.verify.isSome) with
  | none => p
  | some l =>
    let id := l.verify.getD 0
    let ok := sigOk && trailerOk p kind (trailerOf p kind l.target l.total)
    let rest := p.loads.filter (fun x => !(x.kind == kind && x.target == l.target))
    let p1 := { p with loads := rest }
    match (bodyOf p kind (memReadL (storeBase kind l.target) l.total p.store) b).filter (fun x => ok && bodyOk p x) with
    | none =>
      finishLoad id .badParameter (imageRefused { p1 with store := memErase (storeBase kind l.target) (storeSize kind) p.store })
    | some (.firmware f) =>
      finishLoad id .ok { p1 with key := { p1.key with fw := upd p1.key.fw l.target (fun _ => f), next := some l.target } }
    | some x => finishLoad id .ok { p1 with ready := { body := x, key := p1.key.opr.pub } :: p1.ready.filter (fun v => v.body.kind != kind) }

/-- IMAGE_VERIFICATION_COMPLETE (18 R544). -/
def execImageVerificationComplete (kind : Nat) (sigOk : Bool) (body : ImageIn) (s : State) : Out := run1 (verified kind sigOk body) s

/-! ### Acceptance (03 R100 to R104, 13 R429, R433) -/

/-- The journal record of the command in a slot is withdrawn. -/
def unjournal (s : Slot) (p : Pkg) : Pkg := (s.work.map (fun id => withdraw id 1 p)).getD p

/-- Other slots that hold the same client and sequence: a repeat is final at the same moment, so it waits where the accepted one
waits for its verification; another command is refused (03 R103, R104). -/
def twin (ix id : Nat) (s : Slot) (r : Result) (last : Bool) (p : Pkg) : Pkg :=
  let ts := (idxs (fun x : Slot => x.state == .pending && x.checked && x.client == s.client && x.seq == s.seq) p.mbx.slots).filter (· != ix)
  ts.foldl (fun p j =>
    let x := slotAt p j
    let p1 := unjournal x p
    if x.opcode = s.opcode ∧ x.payload = s.payload then
      if last then updSlot j (fun s => { s with checked := false, work := none, waits := some id }) p1
      else finaliseR j { r with status := .duplicate } p1
    else finalise j .badParameter 0 0 [] p1) p

/-- A journaled command in a slot is accepted, if a client's 256 open items leave room: its result is final (03 R100 to R106). -/
def takeSlot (ix id : Nat) (p : Pkg) : Pkg :=
  let s := slotAt p ix
  match seqCheck p s with
  | .dup r => finaliseR ix r (unjournal s p)
  | .bad => finalise ix .badParameter 0 0 [] (unjournal s p)
  | .fresh =>
    if (openItems p s.client).length ≥ 256 then finalise ix .busy 0 0 [] (unjournal s p)
    else if !mayAccept p id 1 then p
    else
      let loc := acceptsLocal p
      let w : WorkItem := { id := id, origin := .client s.client, opcode := s.opcode, payload := s.payload, accTime := p.tim.now
                            local_ := loc, place := some (ix / 64, ix % 64) }
      let r := workResult p id s
      let last : Bool := s.opcode == 0x0106 && completes p s.payload
      let p1 := updSeq s.client (accepted s r) { p with mbx := { p.mbx with work := p.mbx.work ++ [w] } }
      let p2 := acceptRec id 1 (workRecord p id s) p1
      let p3 := if last then updSlot ix (fun s => { s with checked := false, waits := some id }) p2 else finaliseR ix r p2
      twin ix id s r last p3

/-- WORK_ACCEPTED of a slot: its journal record stands, and the mirror target has acknowledged it, or it is accepted LOCAL. A
command that could not be journaled at its checks, under NV-write inhibit, is journaled first (03 R100, 13 R429). -/
def acceptSlot (ix : Nat) (p : Pkg) : Pkg :=
  let s := slotAt p ix
  if !drives p ∨ p.mtr.nvBlock ∨ s.state ≠ .pending ∨ !s.checked then p
  else match s.work with
    | some id => takeSlot ix id p
    | none =>
      let q := journalSlot ix p
      match (slotAt q ix).work with
      | some id => if acceptsLocal q then takeSlot ix id q else q
      | none => q

/-- The journal record of a DLMS SET or ACTION (10 R347, 13 R429; log 105). -/
def dlmsRecord (id : Nat) (d : DlmsPend) : List Byte := toLe 8 id ++ toLe 4 d.id ++ [byte (bit d.isSet)]

/-- A DLMS SET or ACTION awaits acceptance: journaled, and its record sent to the mirror target (10 R347, 13 R429). -/
def journalDlms (d : DlmsPend) (p : Pkg) : Pkg :=
  let put := fun (d : DlmsPend) (p : Pkg) => { p with bil := { p.bil with dlmsPend := p.bil.dlmsPend ++ [d] } }
  if !drives p ∨ p.mtr.nvBlock then put d p
  else
    let (id, p1) := newWorkId p
    let p2 := put { d with work := some id } p1
    if acceptsLocal p2 then p2 else mirrorItem id 1 (dlmsRecord id d) p2

/-- A journaled DLMS SET or ACTION is accepted, and its response sent (10 R347). -/
def takeDlms (d : DlmsPend) (id : Nat) (p : Pkg) : Pkg :=
  if !mayAccept p id 1 then p
  else
    let w : WorkItem := { id := id, origin := .dlms d.id, opcode := 0, accTime := p.tim.now, local_ := acceptsLocal p }
    let q := dlmsSend d.id (workApdu d.isSet true d.inv)
      { p with bil := { p.bil with dlmsPend := p.bil.dlmsPend.erase d, dlmsAcc := p.bil.dlmsAcc ++ [(id, d)] } }
    acceptRec id 1 (dlmsRecord id d) { q with mbx := { q.mbx with work := q.mbx.work ++ [w] } }

/-- WORK_ACCEPTED of a DLMS SET or ACTION: as of a slot (10 R347, 13 R429). -/
def acceptDlms (assoc : Nat) (p : Pkg) : Pkg :=
  match p.bil.dlmsPend.find? (fun d => d.id == assoc) with
  | none => p
  | some d =>
    if !drives p ∨ p.mtr.nvBlock then p
    else match d.work with
      | some id => takeDlms d id p
      | none =>
        let q := journalDlms d { p with bil := { p.bil with dlmsPend := p.bil.dlmsPend.erase d } }
        match q.bil.dlmsPend.find? (fun d => d.id == assoc) with
        | some d1 => (d1.work.map (fun id => if acceptsLocal q then takeDlms d1 id q else q)).getD q
        | none => q

/-- WORK_ACCEPTED (13 R429). -/
def execWorkAccepted (item : Item) (s : State) : Out :=
  run1 (match item with
    | .slot ep i => acceptSlot (slotIx ep i)
    | .dlms a => acceptDlms a) s

/-- A record leaves the journal 24 h after its item ended (03 R116). -/
def workExpiry (id : Nat) (p : Pkg) : Pkg :=
  { p with mbx := { p.mbx with work := p.mbx.work.filter (fun w =>
      !(w.id == id && (w.state == .done || w.state == .failed) && due p (w.endClk + 86400000000000))) } }

/-- WORK_RECORD_EXPIRY (03 R116). -/
def execWorkRecordExpiry (id : Nat) (s : State) : Out := run1 (workExpiry id) s

/-! ### Queries (03 R112, R116) -/

/-- A query for MONITOR in any mode, of a fixed length. -/
def specQuery (op len : Nat) (ok : Pkg → List Byte → Bool) : OpSpec where
  op := op
  query := true
  lenOk d := d.length == len
  role := needMon
  params := ok
  modes := anyMode

/-- SYS_INFO: part number, grade, serial, firmware versions, BOOTS; their layout is the device's (03 R112; log 6). -/
def sysInfoAns (p : Pkg) (_ : List Byte) : List Byte × Pkg :=
  ((List.range 16).map Config.sysInfo ++ toLe 8 p.dfn.serial ++ (p.key.fw.map (fun f => toLe 4 f.ver)).flatten ++ toLe 2 p.mbx.boots, p)

/-- SYS_INFO (03 R112). -/
def execSysInfo (ep : Fin 3) (slot : Fin 64) (s : State) : Out :=
  run1 (submit (specQuery 0x0101 0 (fun _ _ => true)) true (slotIx ep slot) sysInfoAns) s

/-- WORK_STATUS's answer (03 R116). -/
def workStatusAns (p : Pkg) (d : List Byte) : List Byte × Pkg :=
  (match p.mbx.work.find? (fun w => w.id == u64 d 0) with
    | some w => [byte w.state.code, 0] ++ toLe 2 w.status.code ++ toLe 8 w.accTime ++ toLe 8 w.endTime
    | none => [0, 0] ++ toLe 2 Status.notReady.code ++ List.replicate 16 0, p)

/-- WORK_STATUS (03 R116). -/
def execWorkStatus (ep : Fin 3) (slot : Fin 64) (s : State) : Out :=
  run1 (submit (specQuery 0x0F02 8 (fun _ _ => true)) true (slotIx ep slot) workStatusAns) s

/-- WORK_LIST's answer (03 R116). -/
def workListAns (p : Pkg) (d : List Byte) : List Byte × Pkg :=
  let l := ((openItems p (u32 d 0)).drop (u16 d 4)).take 256
  (toLe 2 l.length ++ (l.map (fun w => toLe 8 w.id ++ [byte w.state.code])).flatten, p)

/-- WORK_LIST (03 R116). -/
def execWorkList (ep : Fin 3) (slot : Fin 64) (s : State) : Out :=
  run1 (submit (specQuery 0x0F03 6 (fun _ _ => true)) true (slotIx ep slot) workListAns) s

/-- A slot's record in SLOT_LIST (03 R116). -/
def slotRecord (p : Pkg) (s : Slot) : List Byte :=
  let st := match s.state, s.result with
    | .done, some r => r.status
    | _, _ => Status.notReady
  [byte s.state.code, 0] ++ toLe 2 s.opcode ++ toLe 4 (generation p s) ++ toLe 4 s.client ++ toLe 4 s.seq ++ toLe 2 st.code ++ toLe 2 s.reads

/-- SLOT_LIST's answer (03 R116). -/
def slotListAns (p : Pkg) (d : List Byte) : List Byte × Pkg :=
  (((List.range 64).map (fun i => slotRecord p (slotAt p (u8 d 0 * 64 + i)))).flatten, p)

/-- SLOT_LIST (03 R116). -/
def execSlotList (ep : Fin 3) (slot : Fin 64) (s : State) : Out :=
  run1 (submit (specQuery 0x0F04 1 (fun _ d => decide (u8 d 0 ≤ 2))) true (slotIx ep slot) slotListAns) s

/-! ### Receipts and events (10 R349) -/

/-- The receipt a number names: the newest closed one for 0 (10 R349). -/
def receiptNo (p : Pkg) (no : Nat) : Option Receipt :=
  if no = 0 then (p.bil.rcpts.filter (fun x => x.st != .open_)).getLast? else p.bil.rcpts.find? (fun x => x.no == no)

/-- A receipt this module mirrors for another: its binary form and whether it is acknowledged (13 R435). -/
def mirroredReceipt (p : Pkg) (no : Nat) : Option (List Byte × Bool) :=
  if no / 2 ^ 48 = nodeAddr p then none
  else (p.dfn.nv.copies.find? (fun c => c.2.kind == 3 && c.2.id == no)).map
    (fun c => (c.2.data, p.dfn.nv.copies.any (fun c => c.2.kind == 4 && c.2.id == no)))

/-- The receipt that a binary form spells (10 R339). -/
def receiptOf (b : List Byte) : Receipt :=
  { st := .closed, no := u64 b 8, region := u8 b 1, cause := u8 b 2, flags := u8 b 3, vidKind := u8 b 7, vid := slice b 148 (u8 b 142)
    t0 := u64 b 16, t1 := u64 b 24, pos0 := u64 b 32, pos1 := u64 b 40, neg0 := u64 b 48, neg1 := u64 b 56
    tar := (List.range 8).map (fun i => u64 b (64 + 8 * i)), gap := u64 b 128, calId := u32 b 136, ep0 := u8 b 140, ep1 := u8 b 141
    boots := u32 b 144
    events := (List.range (u8 b 6)).map (fun i => let o := 212 + 32 * i
      { kind := u16 b o, time := u64 b (o + 8), a := u64 b (o + 16), b := u64 b (o + 24) })
    sig := b.drop (212 + 32 * u8 b 6) }

/-- RCPT_STAT of a receipt (10 R349). -/
def rcptCode : RcptState → Nat
  | .open_ => 1 | .closed => 2 | .acked => 3

/-- RECEIPT_FETCH's answer (10 R349, 13 R435). A copy is held in binary form only; its rendering is the same receipt's. -/
def receiptAns (p : Pkg) (d : List Byte) : List Byte × Pkg :=
  let (st, b) := match receiptNo p (u64 d 0) with
    | some x => (rcptCode x.st,
        if x.st = RcptState.open_ then [] else if u8 d 8 = 1 then receiptCbor x else receiptBytes x)
    | none => match mirroredReceipt p (u64 d 0) with
      | some (b, a) => (if a then 3 else 2, if u8 d 8 = 1 then receiptCbor (receiptOf b) else b)
      | none => (0, [])
  ([byte st, byte (u8 d 8)] ++ toLe 2 b.length ++ List.replicate 4 0 ++ b, p)

/-- RECEIPT_FETCH (10 R349). -/
def execReceiptFetch (ep : Fin 3) (slot : Fin 64) (s : State) : Out :=
  run1 (submit (specQuery 0x0501 12 (fun p d => decide (u8 d 8 ≤ 1) && zeros d 9 3 &&
    ((receiptNo p (u64 d 0)).isSome || (mirroredReceipt p (u64 d 0)).isSome))) true (slotIx ep slot) receiptAns) s

/-- The digest of a receipt's binary form (10 R344). -/
def receiptDigest (b : List Byte) : List Byte := pad 16 (Config.sha384 b)

/-- RECEIPT_ACK's fields: the receipt exists, and a closed one's digest is right (10 R344, R349; log 57). -/
def ackParams (p : Pkg) (d : List Byte) : Bool :=
  match p.bil.rcpts.find? (fun x => x.no == u64 d 0) with
  | some x => x.st != .closed || slice d 8 16 == receiptDigest (receiptBytes x)
  | none => match mirroredReceipt p (u64 d 0) with
    | some (b, a) => a || slice d 8 16 == receiptDigest b
    | none => false

/-- RECEIPT_ACK in the catalogue: an open receipt fails guard 0x05 (10 R349). -/
def specReceiptAck : OpSpec where
  op := 0x0502
  lenOk d := d.length == 24
  role := needOpr
  params := ackParams
  modes := anyMode
  guard p d := if p.bil.rcpts.any (fun x => x.no == u64 d 0 && x.st == .open_) then 5 else 0

/-- RECEIPT_ACK (10 R344). -/
def execReceiptAck (ep : Fin 3) (slot : Fin 64) (s : State) : Out := run1 (submit specReceiptAck true (slotIx ep slot) noAns) s

/-- A receipt acknowledged: exported, and the acknowledgement mirrored; one held for another module goes back to its issuer
(10 R344, 13 R429, R435). -/
def ackReceipt (no client : Nat) (p : Pkg) : Pkg :=
  match p.bil.rcpts.find? (fun x => x.no == no) with
  | some x =>
    if x.st ≠ .closed then p
    else
      let p1 := { p with bil := { p.bil with rcpts := p.bil.rcpts.map (fun y => if y.no = no then { y with st := .acked } else y) } }
      mirrorItem no 4 (toLe 8 no) (logEvent 0x31 x.region client (toLe 8 no) p1)
  | none => match mirroredReceipt p no with
    | some (_, false) =>
      let r : MirRec := { id := no, kind := 4, data := toLe 8 no, sent := p.clk }
      streamSend (no / 2 ^ 48) 2 (mirrorBody r) { p with dfn := { p.dfn with nv := { p.dfn.nv with copies := (no / 2 ^ 48, r) :: p.dfn.nv.copies } } }
    | _ => p

/-- The bytes of an event record (10 R336, 18 R538). -/
def eventBytes (p : Pkg) (e : EvRec) : List Byte :=
  if !e.ok then ((List.range 8).map (fun i => toLe 8 (Config.freeValue (2 ^ 65 + e.index * 8 + i)).toNat)).flatten else
  let b := toLe 8 e.index ++ toLe 8 e.time ++ toLe 2 e.kind ++ toLe 2 e.source ++ toLe 4 e.client ++ pad 20 e.data
  let c := b ++ sealBytes p b
  c ++ toLe 4 (crc32 c)

/-- EVENT_FETCH's answer: FIRST is the oldest retained record when INDEX has been overwritten (10 R349). -/
def eventAns (p : Pkg) (d : List Byte) : List Byte × Pkg :=
  let all := p.bil.events.reverse
  let oldest := (all.head?.map (·.index)).getD 0
  let first := max (u64 d 0) oldest
  let l := (all.filter (fun e => decide (e.index ≥ first))).take (u16 d 8)
  (toLe 8 first ++ toLe 2 l.length ++ List.replicate 6 0 ++ (l.map (eventBytes p)).flatten, p)

/-- EVENT_FETCH (10 R349). -/
def execEventFetch (ep : Fin 3) (slot : Fin 64) (s : State) : Out :=
  run1 (submit (specQuery 0x0503 16 (fun _ d => inR 1 63 (u16 d 8) && zeros d 10 6)) true (slotIx ep slot) eventAns) s

end Sys2Proof.Machine
end

