-- ==== Sys2Proof/Machine/Dlms.lean ====
section
/-!
DEFINITION. DLMS/COSEM of 10 R345 to R348: associations, the object list with each role's access, and what a SET or an
ACTION does once it is applied. Requests come decoded; the assembly of a SET's blocks is the engine's (log 9). Classes,
attributes and their types are the standard's (log 58).
-/

namespace Sys2Proof.Machine

/-! ### Associations (10 R346, R347) -/

/-- An association is released, and its key removed (10 R346, 18 R537). -/
def dropAssoc (id : Nat) (p : Pkg) : Pkg :=
  dropKey (.assoc id) { p with bil := { p.bil with assoc := p.bil.assoc.filter (fun x => x.id != id) } }

/-- An association request that is in order: handle free, fewer than eight associations, at most one each for Metrology
and Vendor, the entropy source passing, and a client of the table that the HLS mechanism authenticates, under a server
key that exists (10 R346, R347, 18 R548; log 56). -/
def aarqOk (a : AarqIn) (role : DlmsRole) (p : Pkg) : Bool :=
  decide (p.bil.assoc.length < 8) && !p.bil.assoc.any (fun x => x.id == a.id) && p.key.entropy &&
  !((role == .metrology || role == .vendor) && p.bil.assoc.any (fun x => x.role == role)) &&
  (role == .public_ || (a.authOk && p.bil.dlmsCli.contains (a.key, role) && rootOf p.key == .ready))

/-- The association is set up: but for Public, with the key that both ephemeral keys give, and the device's own ephemeral
key signed by the DLMS server key (10 R347). -/
def beginAssoc (a : AarqIn) (role : DlmsRole) (p0 : Pkg) : Pkg :=
  let c := privOf (drawBytes 7 p0).1
  let x : Assoc := { id := a.id, role := role, ep := a.ep, last := p0.clk, max := a.max }
  let add := fun (p : Pkg) => { p with bil := { p.bil with assoc := p.bil.assoc ++ [x] } }
  if role = .public_ then dlmsOut a.id role (Config.dlmsAare true false []) (add p0)
  else
    let p := loadKey .dlms (add (drawBytes 7 p0).2)
    let own := pad 97 (Config.ecPoint c)
    dlmsOut a.id role (Config.dlmsAare true false (own ++ signWith p .dlms (own ++ a.eph)))
      (holdKey (.assoc a.id) (pad 32 (Config.dlmsKdf (Config.ecdh c a.eph))) p)

/-- DLMS_AARQ: behind a wrapper of a client wPort; a Metrology association outside life-cycle SERVICE is rejected
permanently (10 R345, R347). -/
def aarq (a : AarqIn) (p : Pkg) : Pkg :=
  match roleOfPort a.wrap.src with
  | none => p
  | some role =>
    if !awake p ∨ a.ep > 1 ∨ !epUp p a.ep ∨ !a.wrap.ok then p
    else if role = .metrology ∧ lcOf p ≠ .service then dlmsOut a.id role (Config.dlmsAare false true []) p
    else if !aarqOk a role p then dlmsOut a.id role (Config.dlmsAare false false []) p
    else beginAssoc a role p

/-- DLMS_AARQ (10 R347). -/
def execDlmsAarq (a : AarqIn) (s : State) : Out := run1 (aarq a) s

/-- A request of an association the device holds: behind its role's wrapper, and authenticated but for Public; it
restarts the 300 s (10 R345 to R347). -/
def inAssoc (r : DlmsReq) (k : Assoc → Pkg → Pkg) (p : Pkg) : Pkg :=
  match p.bil.assoc.find? (fun x => x.id == r.id) with
  | none => p
  | some x =>
    if !awake p ∨ !epUp p x.ep ∨ !r.wrap.ok ∨ r.wrap.src ≠ wPort x.role ∨ (x.role ≠ .public_ ∧ !r.okTag) then p
    else k x (updAssoc r.id (fun y => { y with last := p.clk }) p)

/-- An association without a request for 300 s is released (10 R346). -/
def assocTimeout (id : Nat) (p : Pkg) : Pkg :=
  if p.bil.assoc.any (fun x => x.id == id && due p (x.last + 300000000000)) then dropAssoc id p else p

/-- DLMS_ASSOCIATION_TIMEOUT (10 R346). -/
def execDlmsAssociationTimeout (id : Nat) (s : State) : Out := run1 (assocTimeout id) s

/-! ### The object list (10 R348) -/

/-- Objects of the list, with their indices. -/
inductive Obj where
  | devName | serial | firmware | association | security (x : Nat) | clock
  | acc (m k : Nat) | tar (r t : Nat) | demand (r : Nat) | maxDem (r t : Nat)
  | load (m : Nat) | bill (m : Nat) | period | events | calendar | scripts | specials | closes
  | receipts (r : Nat) | staged (c : Nat) | calScript | tamper | transfer
  deriving DecidableEq, Repr

/-- OBIS code of an object (10 R348). -/
def obisOf : Obj → List Nat
  | .devName => [0, 0, 42, 0, 0, 255]
  | .serial => [0, 0, 96, 1, 0, 255]
  | .firmware => [1, 0, 0, 2, 0, 255]
  | .association => [0, 0, 40, 0, 0, 255]
  | .security x => [0, 0, 43, 0, x, 255]
  | .clock => [0, 0, 1, 0, 0, 255]
  | .acc m k => [1, m + 1, [1, 2, 3, 4, 9, 10].getD k 0, 8, 0, 255]
  | .tar r t => [1, r + 1, 1, 8, t, 255]
  | .demand r => [1, r + 1, 1, 4, 0, 255]
  | .maxDem r t => [1, r + 1, 1, 6, t, 255]
  | .load m => [1, m + 1, 99, 1, 0, 255]
  | .bill m => [1, m + 1, 98, 1, 0, 255]
  | .period => [0, 0, 0, 1, 0, 255]
  | .events => [0, 0, 99, 98, 0, 255]
  | .calendar => [0, 0, 13, 0, 0, 255]
  | .scripts => [0, 0, 10, 0, 100, 255]
  | .specials => [0, 0, 11, 0, 0, 255]
  | .closes => [0, 0, 15, 0, 0, 255]
  | .receipts r => [0, 0, 128, 1, r, 255]
  | .staged c => [0, 0, 128, 2, c, 255]
  | .calScript => [0, 0, 128, 3, 0, 255]
  | .tamper => [0, 0, 128, 4, 0, 255]
  | .transfer => [0, 0, 44, 0, 0, 255]

/-- Every object of the list (10 R348). -/
def allObjs : List Obj :=
  let pairs := fun (n k0 k : Nat) (f : Nat → Nat → Obj) => ((List.range n).map (fun m => (List.range k).map (fun j => f m (j + k0)))).flatten
  List.flatten
    [[.devName, .serial, .firmware, .association, .security 1, .security 2, .security 3, .security 4, .clock]
    , pairs 6 0 6 .acc, pairs 4 1 8 .tar, (List.range 4).map .demand, pairs 4 1 8 .maxDem, (List.range 6).map .load, (List.range 6).map .bill
    , [.period, .events, .calendar, .scripts, .specials, .closes], (List.range 4).map .receipts, (List.range 32).map .staged
    , [.calScript, .tamper, .transfer]]

/-- The object that an OBIS code names (10 R348). -/
def objOf (obis : List Nat) : Option Obj := allObjs.find? (fun o => obisOf o == obis)

/-- Class of an object (10 R348). -/
def classOf : Obj → Nat
  | .devName | .serial | .firmware | .period | .staged _ | .tamper => 1
  | .acc _ _ | .tar _ _ => 3
  | .maxDem _ _ => 4
  | .demand _ => 5
  | .load _ | .bill _ | .events | .receipts _ => 7
  | .clock => 8
  | .scripts | .calScript => 9
  | .specials => 11
  | .association => 15
  | .transfer => 18
  | .calendar => 20
  | .closes => 22
  | .security _ => 64

/-- Version of a class (log 58). -/
def classVer (c : Nat) : Nat := if [7, 15, 64].contains c then 1 else 0

/-- Attributes of an object beside its logical name (10 R348; log 58). -/
def attrsOf : Obj → List Nat
  | .association => [2, 3, 8, 9]
  | .security _ => [2, 3]
  | .acc _ _ | .tar _ _ => [2, 3]
  | .demand _ => [2, 4, 8, 9]
  | .maxDem _ _ => [2, 3, 5]
  | .load _ | .bill _ | .events | .receipts _ => [2, 4, 7]
  | .calendar => [2, 3, 4, 5, 6, 7, 8, 9, 10]
  | .closes => [2, 3, 4]
  | .transfer => [2, 4, 5]
  | .calScript => []
  | _ => [2]

/-- Methods of an object that the list names (10 R348). -/
def methodsOf : Obj → List Nat
  | .calendar | .receipts _ | .calScript => [1]
  | .transfer => [1, 2, 3, 4]
  | _ => []

/-- Number of the security setup of a role's own association (10 R348). -/
def secNo : DlmsRole → Nat
  | .public_ => 0 | .reader => 1 | .operator => 2 | .metrology => 3 | .vendor => 4

/-- A role may read an object (10 R348). -/
def mayGet (r : DlmsRole) : Obj → Bool
  | .devName | .serial | .firmware | .association => true
  | .security x => r != .public_ && x == secNo r
  | .staged _ => r == .metrology
  | .calScript => false
  | .transfer => r == .vendor
  | _ => r == .reader || r == .operator || r == .metrology

/-- A role may write an attribute of an object (10 R348). -/
def maySet (r : DlmsRole) (o : Obj) (attr : Nat) : Bool :=
  match o with
  | .calendar => r == .operator && inR 6 10 attr
  | .specials => r == .operator && attr == 2
  | .closes => r == .operator && attr == 4
  | .staged _ => r == .metrology && attr == 2
  | _ => false

/-- A role may invoke a method of an object (10 R348). -/
def mayAct (r : DlmsRole) (o : Obj) (m : Nat) : Bool :=
  match o with
  | .calendar => r == .operator && m == 1
  | .receipts _ => r == .operator && m == 1
  | .calScript => r == .metrology && m == 1
  | .transfer => r == .vendor && inR 1 4 m
  | _ => false

/-! ### Values of attributes (10 R348; log 58) -/

/-- The unit code of an accumulator: Wh, varh or VAh. -/
def accUnit (k : Nat) : Nat := if k < 2 then 30 else if k < 4 then 32 else 31

/-- OBIS code as an octet string. -/
def obisV (o : List Nat) : List Byte := axOctets (o.map byte)

/-- Date and time of a site time, in UTC: year, month, day, day of week from Monday, hour, minute, second, hundredths, deviation, status. -/
def timeV (t : Nat) : List Byte :=
  let (y, m, d) := dateOf (t / dayNs)
  let s := t % dayNs / 1000000000
  axOctets (toBe 2 y ++ [byte m, byte d, byte ((t / dayNs + 5) % 7 + 1), byte (s / 3600), byte (s / 60 % 60), byte (s % 60)
    , byte (t % 1000000000 / 10000000), 0, 0, 0])

/-- Time of day of a minute. -/
def minuteV (m : Nat) : List Byte := axOctets [byte (m / 60), byte (m % 60), 0, 0]

/-- A date: every year, and any day of week. -/
def dateV (y m d : Nat) : List Byte := axOctets (toBe 2 (if y = 0 then 0xFFFF else y) ++ [byte m, byte d, 0xFF])

/-- Rows of a profile, oldest first, that a selector takes by their times and places (10 R346). -/
def selected (sel : Option Selector) (rows : List (Nat × List Byte)) : List Byte :=
  let keep := fun (x : (Nat × List Byte) × Nat) => match sel with
    | none => true
    | some (.range lo hi) => inR lo hi x.1.1
    | some (.entry lo hi) => inR lo hi (x.2 + 1)
  axArray ((rows.zipIdx.filter keep).map (·.1.2))

/-- A profile entry of a meter as a row: its accumulators, and a DC meter's tariff registers and demands (10 R326, R327). -/
def profRow (m : Nat) (e : ProfEntry) : Nat × List Byte :=
  (e.time, axStruct ([timeV e.time, axU32 e.period, axU8 e.marks] ++ (e.acc.getD m []).map axU64 ++ (e.tar.getD m []).map axU64
    ++ (e.dem.getD m []).map axU32))

/-- Name, seasons, weeks and days of a calendar, k = 0 to 3. -/
def calPart (c : Option Calendar) (k : Nat) : List Byte :=
  let x := c.getD {}
  if k = 0 then axOctets (toBe 4 x.id)
  else if k = 1 then axArray (mapI (fun i (s : Season) => axStruct [axOctets [byte i],
      axOctets ([0xFF, 0xFF, byte s.month, byte s.day, 0xFF, byte (s.minute / 60), byte (s.minute % 60), 0, 0] ++ toBe 2 (s.offset % 65536).toNat ++ [0]),
      axOctets [byte s.week]]) x.seasons)
  else if k = 2 then axArray (mapI (fun i w => axStruct (axOctets [byte i] :: w.map axU8)) x.weeks)
  else axArray (mapI (fun i d => axStruct [axU8 i, axArray (d.map (fun (y : SwitchPt) =>
      axStruct [minuteV y.minute, obisV (obisOf .scripts), axU16 y.tariff]))]) x.days)

/-- An entry of the association's object list, with its access rights. -/
def objEntry (r : DlmsRole) (o : Obj) : List Byte :=
  let at_ := fun (a : Nat) => axStruct [axI8 a, axEnum ((if mayGet r o then 1 else 0) + 2 * bit (maySet r o a)), [0]]
  let me := fun (m : Nat) => axStruct [axI8 m, axBool (mayAct r o m)]
  axStruct [axU16 (classOf o), axU8 (classVer (classOf o)), obisV (obisOf o)
    , axStruct [axArray ((1 :: attrsOf o).map at_), axArray ((methodsOf o).map me)]]

/-- A role has some access to an object. -/
def listed (r : DlmsRole) (o : Obj) : Bool := mayGet r o || (methodsOf o).any (mayAct r o)

/-- Tamper thresholds and loss model. -/
def tmpV (t : TmpCfg) : List Byte :=
  axStruct (([t.irev, t.revMs, t.bypAbs, t.curAbs].map axU16) ++ [t.bypRel, t.bypWin, t.curRel, t.curTime, t.ndisp, t.inMin, t.neuTime
    , bitsN t.fourW].map axU8 ++ [axU32 t.lossA, axI32 t.lossB, axU32 t.lossC])

/-- Rows of a profile object. -/
def rowsOf (p : Pkg) : Obj → List (Nat × List Byte)
  | .load m => p.bil.load.reverse.map (profRow m)
  | .bill m => p.bil.prof.reverse.map (profRow m)
  | .events => p.bil.events.reverse.map (fun e => (e.time, axStruct [axOctets (eventBytes p e)]))
  | .receipts r => (p.bil.rcpts.filter (fun x => x.region == r && x.st != .open_)).map (fun x => (x.t1, axStruct [axOctets (receiptBytes x)]))
  | _ => []

/-- Attributes of the objects of energy, demand and profiles. -/
def meterVal (p : Pkg) (o : Obj) (a : Nat) (sel : Option Selector) : Option (List Byte) :=
  let rg := fun (r : Nat) => p.bil.rg.getD r {}
  match o, a with
  | .acc m k, 2 => some (axU64 ((p.mtr.shown.getD m []).getD k 0))
  | .acc _ k, 3 => some (axUnit (-6) (accUnit k))
  | .tar r t, 2 => some (axU64 ((rg r).tar.getD (t - 1) 0))
  | .tar _ _, 3 => some (axUnit (-6) 30)
  | .demand r, 2 => some (axU32 (rg r).dem)
  | .demand _, 4 => some (axUnit 0 27)
  | .demand _, 8 => some (axU32 (p.bil.demLen * 60))
  | .demand _, 9 => some (axU16 p.bil.demN)
  | .maxDem r t, 2 => some (axU32 ((rg r).maxDem.getD (t - 1) 0))
  | .maxDem _ _, 3 => some (axUnit 0 27)
  | .maxDem r t, 5 => some (timeV ((rg r).maxTime.getD (t - 1) 0))
  | o, 2 => some (selected sel (rowsOf p o))
  | .load _, 4 => some (axU32 (p.bil.demLen * 60))
  | _, 4 => some (axU32 0)
  | o, 7 => some (axU32 (rowsOf p o).length)
  | _, _ => none

/-- Attributes of the calendar, the special days and the billing-close points. -/
def calVal (p : Pkg) (o : Obj) (a : Nat) : Option (List Byte) :=
  let b := p.bil
  let c := (b.passive <|> b.cal).getD {}
  match o, a with
  | .calendar, 10 => some (timeV ((b.passive.map (·.act)).getD 0))
  | .calendar, a => some (if a ≤ 5 then calPart b.cal (a - 2) else calPart b.passive (a - 6))
  | .specials, 2 => some (axArray (mapI (fun i (d : SpecialDay) => axStruct [axU16 i, dateV d.year d.month d.day, axU8 d.prof]) c.specials))
  | .closes, 2 => some (axStruct [obisV (obisOf .period), axU16 1])
  | .closes, 3 => some (axEnum 1)
  | .closes, 4 => some (axArray (c.closes.map (fun (c : ClosePt) => axStruct [minuteV c.minute, axOctets [0xFF, 0xFF, 0xFF, byte c.day, 0xFF]])))
  | _, _ => none

/-- Attributes of the device, the association and its security. -/
def devVal (p : Pkg) (x : Assoc) (o : Obj) (a : Nat) : Option (List Byte) :=
  match o, a with
  | .devName, 2 => some (axOctets ((List.range 16).map (fun i => Config.sysInfo (16 + i))))
  | .serial, 2 => some (axU64 p.dfn.serial)
  | .firmware, 2 => some (axArray (p.key.fw.map (fun f => axU32 f.ver)))
  | .association, 2 => some (axArray ((allObjs.filter (listed x.role)).map (objEntry x.role)))
  | .association, 3 => some (axStruct [axU16 (wPort x.role), axU16 1])
  | .association, 8 => some (axEnum 2)
  | .association, 9 => some (if x.role = .public_ then axOctets [] else obisV (obisOf (.security (secNo x.role))))
  | .security _, 2 => some (axEnum 0x6C)
  | .security _, 3 => some (axEnum 2)
  | .clock, 2 => some (timeV p.tim.now)
  | .period, 2 => some (axU32 p.bil.period)
  | .scripts, 2 => some (axArray ((List.range 8).map (fun t => axStruct [axU16 (t + 1), axArray []])))
  | .staged c, 2 => let k := (p.mtr.chan.getD c {}).staged; some (axStruct [axI32 k.gain, axI32 k.offset, axI32 k.phase])
  | .tamper, 2 => some (tmpV p.bil.tmp)
  | .transfer, 2 => some (axU32 1024)
  | .transfer, 4 => some (axU32 (((p.loads.filter (fun l => l.kind == 1)).map (fun l => (l.parts.map (·.2)).sum / 1024)).foldl max 0))
  | .transfer, 5 => some (axBool true)
  | _, _ => none

/-- The value of an attribute of an object; none where it has no such attribute (10 R348; logs 6, 58). -/
def objVal (p : Pkg) (x : Assoc) (o : Obj) (c : Cosem) : Option (List Byte) :=
  if c.attr = 1 then some (obisV (obisOf o))
  else if !(attrsOf o).contains c.attr then none
  else if [3, 4, 5, 7].contains (classOf o) then meterVal p o c.attr c.sel
  else if [11, 20, 22].contains (classOf o) then calVal p o c.attr
  else devVal p x o c.attr

/-- The answer to one attribute: object-undefined, read-write-denied, or its value (10 R346, R348). -/
def getOne (p : Pkg) (x : Assoc) (c : Cosem) : DlmsAns :=
  match objOf c.obis with
  | none => .result 4
  | some o =>
    if !mayGet x.role o then .result 3
    else match objVal p x o c with
      | some v => .data v
      | none => .result 4

/-- A GET, or the request for its response's next block (10 R346). -/
def dlmsGet (r : DlmsReq) (objs : List Cosem) (x : Assoc) (p : Pkg) : Pkg :=
  match r.next with
  | none => sendGet r.inv r.id (objs.map (getOne p x)) p
  | some n => if n = x.blk ∧ !x.rest.isEmpty then getBlock r.inv r.id p else dlmsSend r.id (getApdu r.inv [.result 19]) p

/-- DLMS_GET (10 R346). -/
def execDlmsGet (r : DlmsReq) (objs : List Cosem) (s : State) : Out := run1 (inAssoc r (dlmsGet r objs)) s

/-- A SET or ACTION the role may make waits for its acceptance; another is answered at once (10 R347, R348); nothing is
written in RETIRED (10 R324). -/
def dlmsWork (r : DlmsReq) (isSet : Bool) (ok : DlmsRole → Obj → Nat → Bool) (c : Cosem) (args : List Int) (cal : Option Calendar)
    (x : Assoc) (p : Pkg) : Pkg :=
  if p.sys.mode != .retired && (objOf c.obis).any (fun o => ok x.role o c.attr) then
    journalDlms { id := x.id, inv := r.inv, isSet := isSet, obj := c, args := args, cal := cal } p
  else dlmsSend r.id (workApdu isSet false r.inv) p

/-- DLMS_SET (10 R347). -/
def execDlmsSet (r : DlmsReq) (obj : Cosem) (args : List Int) (cal : Option Calendar) (s : State) : Out :=
  run1 (inAssoc r (dlmsWork r true maySet obj args cal)) s

/-- DLMS_ACTION (10 R347). -/
def execDlmsAction (r : DlmsReq) (obj : Cosem) (args : List Int) (s : State) : Out :=
  run1 (inAssoc r (dlmsWork r false mayAct obj args none)) s

/-! ### Application (10 R324, R344, R347, R348) -/

/-- The part of a calendar that an attribute writes. -/
def calWrite (o : Obj) (attr : Nat) (n : Calendar) (c : Calendar) : Calendar :=
  match o with
  | .specials => { c with specials := n.specials }
  | .closes => { c with closes := n.closes }
  | _ =>
    if attr = 7 then { c with seasons := n.seasons } else if attr = 8 then { c with weeks := n.weeks }
    else if attr = 9 then { c with days := n.days } else if attr = 10 then { c with act := n.act } else c

/-- The passive calendar as written: compiled with the next CAL_ID, and journaled once it passes R322; until then it is
kept as written and the work fails (10 R324; log 58). -/
def writePassive (id : Nat) (o : Obj) (attr : Nat) (n : Calendar) (p : Pkg) : Pkg :=
  let b := p.bil
  let base := match b.draft <|> b.passive with
    | some c => c
    | none => match b.cal with
      | some c => { c with act := 2 ^ 64 - 1 }
      | none => { act := 2 ^ 64 - 1 }
  let top := max ((b.cal.map (·.id)).getD 0) ((b.passive.map (·.id)).getD 0)
  let c := { calWrite o attr n base with id := top + 1 }
  if calOk p c then finishWork id .ok { p with bil := { b with passive := some c, draft := none } }
  else finishWork id .badParameter { p with bil := { b with draft := some c } }

/-- Staged coefficients of a channel are in range (09 R287). -/
def stagedOk (g o ph : Int) : Bool :=
  decide (2 ^ 29 ≤ g ∧ g ≤ 2 ^ 31 - 1) && decide (-(2 ^ 31) ≤ o ∧ o < 2 ^ 31) && decide (-62500000 ≤ ph ∧ ph ≤ 62500000)

/-- Write staged coefficients, in life-cycle SERVICE (09 R289, R292, 10 R348). -/
def writeStaged (c : Nat) (g o ph : Int) (p : Pkg) : Pkg :=
  if lcOf p ≠ .service then p
  else { p with mtr := { p.mtr with chan := upd p.mtr.chan c (fun x => { x with staged := { x.staged with gain := g, offset := o, phase := ph } }) } }

/-- A SET applied. -/
def applySet (id : Nat) (d : DlmsPend) (o : Obj) (p : Pkg) : Pkg :=
  match o, d.cal, d.args with
  | .staged c, _, [g, f, ph] =>
    if lcOf p = .service ∧ stagedOk g f ph then finishWork id .ok (writeStaged c g f ph p) else finishWork id .badParameter p
  | .calendar, some n, _ => writePassive id o d.obj.attr n p
  | .specials, some n, _ => writePassive id o d.obj.attr n p
  | .closes, some n, _ => writePassive id o d.obj.attr n p
  | _, _, _ => finishWork id .badParameter p

/-- A chunk of an image transfer as IMAGE_LOAD's payload: blocks of 1,024 bytes (03 R114, 10 R348; log 58). -/
def xferPayload (t : Nat × Nat) (blk : Nat) (bytes : List Int) : List Byte :=
  [1, byte t.1, 0, 0] ++ toLe 4 t.2 ++ toLe 4 (blk * 1024) ++ bytes.map (fun b => byte b.toNat)

/-- An ACTION applied. -/
def applyAction (id : Nat) (d : DlmsPend) (o : Obj) (p : Pkg) : Pkg :=
  let bad := finishWork id .badParameter p
  match o, d.args with
  | .calendar, _ => match p.bil.passive with
    | none => bad
    | some c => finishWork id .ok { p with bil := { p.bil with passive := some { c with act := p.tim.now } } }
  | .receipts r, no :: dig =>
    match p.bil.rcpts.find? (fun x => x.no == no.toNat && x.region == r) with
    | none => bad
    | some x =>
      if x.st = .open_ then finishWork id .stateConflict p
      else if x.st = .closed ∧ dig.map (fun b => byte b.toNat) ≠ receiptDigest (receiptBytes x) then bad
      else finishWork id .ok (ackReceipt x.no 0 p)
  | .calScript, [1] =>
    if lcOf p ≠ .service ∨ bankFull p then finishWork id .stateConflict p else finishWork id .ok (applyCalBurn p)
  | .calScript, [2] => if lcOf p ≠ .service then finishWork id .stateConflict p else finishWork id .ok (applyTrial true p)
  | .calScript, [3] => if lcOf p ≠ .service then finishWork id .stateConflict p else finishWork id .ok (applyTrial false p)
  | .transfer, args =>
    if d.obj.attr = 1 then match args with
      | [t, n] => if t.toNat ≤ 1 ∧ inR 129 0x100000 n.toNat then finishWork id .ok { p with bil := { p.bil with xfer := some (t.toNat, n.toNat) } } else bad
      | _ => bad
    else if d.obj.attr = 2 then match p.bil.xfer, args with
      | some t, blk :: bytes =>
        let pl := xferPayload t blk.toNat bytes
        if inR 1 1024 bytes.length ∧ chunkOk pl ∧ !(loadOf p (imgKey pl)).any (fun l => l.verify.isSome) then applyImageLoad id pl p else bad
      | _, _ => bad
    else finishWork id .ok p
  | _, _ => bad

/-- A DLMS request taken at the boundary (10 R347, 03 R104). -/
def applyDlms (id : Nat) (p0 : Pkg) : Pkg :=
  match p0.bil.dlmsAcc.find? (fun x => x.1 == id) with
  | none => finishWork id .faulted p0
  | some (_, d) =>
    let p := { p0 with bil := { p0.bil with dlmsAcc := p0.bil.dlmsAcc.filter (fun x => x.1 != id) } }
    match objOf d.obj.obis with
    | none => finishWork id .badParameter p
    | some o => if d.isSet then applySet id d o p else applyAction id d o p

end Sys2Proof.Machine
end

