-- ==== Sys2Proof/Machine/Images.lean ====
section
/-!
DEFINITION. IMAGE_COMMIT (03 R112, R114): the conditions on a configuration image, the fuses it burns in PROVISION,
how it takes effect at a commit and at every boot, and the commit of calendars and site maps.
-/

namespace Sys2Proof.Machine

/-! ### Imported power-line keys (18 R542) -/

/-- The node keys that an image imports, by coupler, with the network they serve. -/
def importsOf (c : ConfigImage) : List (Nat × Nat × PNodeCfg) :=
  (mapI (fun k x => match x with
    | none => []
    | some g => g.table.map (fun n => (k, g.network, n))) c.pln).flatten

/-- A wrapped field of an image opened with the import key: ECDH with the ephemeral key, HKDF with the label "PLN IMPORT" and
the node (18 R542; log 109). -/
def unwrapNode (p : Pkg) (network : Nat) (n : PNodeCfg) : Option (List Byte) :=
  (workKey p .import_).bind (fun c =>
    let eph := n.wrap.take 97
    let w := hkdfExpand (hkdfExtract [] (Config.ecdh (privOf c) eph))
      (keyLabel [80, 76, 78, 32, 73, 77, 80, 79, 82, 84] 1 0 ++ toLe 2 network ++ toLe 2 n.id) 32
    if n.wrap.length = 145 then gcmOpen w (Config.wrapNonce eph) [] (n.wrap.drop 97) else none)

/-- Every key that an image imports unwraps (18 R542, R544). -/
def unwrapsAll (p : Pkg) (c : ConfigImage) : Bool := (importsOf c).all (fun x => (unwrapNode p x.2.1 x.2.2).isSome)

/-- The store key, for AES-256-GCM (18 R535). -/
def storeKey (p : Pkg) : List Byte := ((workKey p .store).getD []).take 32

/-- A node key is wrapped again under the store key, with a fresh nonce, and kept with the image (18 R542). -/
def keepNode (x : Nat × Nat × PNodeCfg) (p : Pkg) : Pkg :=
  match unwrapNode p x.2.1 x.2.2 with
  | none => p
  | some b =>
    let d := drawBytes 2 p
    let n := d.1.take 12
    { d.2 with key := { d.2.key with wraps := d.2.key.wraps ++ [{ k := x.1, id := x.2.2.id, bytes := n ++ gcmSeal (storeKey p) n [] b }] } }

/-- A commit keeps the image's node keys in place of those kept before (18 R542). -/
def importKeys (c : ConfigImage) (p : Pkg) : Pkg :=
  let p1 := loadKey .import_ (loadKey .store p)
  (importsOf c).foldl (fun p x => keepNode x p) { p1 with key := { p1.key with wraps := [] } }

/-- The node keys kept with the image go to the AES key ports of the power-line engines, and no other (18 R537, R542). -/
def deliverNodes (p : Pkg) : Pkg :=
  let isNode := fun (r : KeyReg) => match r.id with
    | .node _ _ => true
    | _ => false
  let p1 := { p with key := { p.key with regs := p.key.regs.filter (fun r => !isNode r) } }
  p.key.wraps.foldl (fun p w => match gcmOpen (storeKey p) (w.bytes.take 12) [] (w.bytes.drop 12) with
    | some b => holdKey (.node w.k w.id) b p
    | none => p) p1

/-! ### Conditions on a configuration image -/

/-- Dead time of a fuse count in fine ticks (07 R227). -/
def deadTicks (count : Nat) : Nat := (count + 1) * 1280

/-- The map that an image's fuse section leaves fused: outside PROVISION, and for clusters already fused, it stays
(07 R228). -/
def newMap (p : Pkg) (c : ConfigImage) : List (Option Nat) :=
  match c.fuse with
  | some f => if p.sys.mode = .provision then f.map else p.eye.map
  | none => p.eye.map

/-- Ports that a map gives a cluster. -/
def portsIn (m : List (Option Nat)) (n : Nat) : List Nat := idxs (fun o => o == some n) m

/-- Dead-time counts that a commit leaves fused (07 R228). -/
def newDt (p : Pkg) (c : ConfigImage) : List Nat :=
  match c.fuse with
  | some f =>
    if p.sys.mode = .provision then mapI (fun n d => if (portsIn f.map n).isEmpty then d else (f.dt.getD n none).getD d) p.eye.dt
    else p.eye.dt
  | none => p.eye.dt

/-- The fuse section is one that may be committed (07 R228, 01 R46). -/
def fuseOk (p : Pkg) (c : ConfigImage) : Bool :=
  match c.fuse with
  | none => true
  | some f =>
    f.map.all (fun o => o.all (· < 8)) && (List.range 8).all (fun n =>
      let dt := f.dt.getD n none
      let fused := p.eye.fused.getD n false
      let old := p.eye.dt.getD n 0
      if p.sys.mode = .provision then
        dt.all (· ≤ 15) && (if fused then portsIn f.map n == portsIn p.eye.map n && dt.all (· ≥ old)
                            else (portsIn f.map n).isEmpty || dt.isSome)
      else portsIn f.map n == portsIn p.eye.map n && dt.all (fun d => fused && d == old))

/-- The package as the image would set it, as far as the conditions on clusters, ports and lanes look. -/
def drafted (p : Pkg) (c : ConfigImage) : Pkg :=
  let cl := mapI (fun n (x : Cluster) => let y := c.clusters.getD n ({}, {}); { x with cfg := y.1, rw := y.2 }) p.pwr.cl
  let pt := mapI (fun q (x : Port) => { x with cfg := c.ports.getD q {} }) p.pwr.port
  let ln := mapI (fun l (x : Lane) => let y := c.lanes.getD l ({}, {}); { x with cfg := y.1, rw := y.2 }) p.ce.lane
  { p with pwr := { p.pwr with cl := cl, port := pt }, ce := { p.ce with lane := ln }, eye := { p.eye with map := newMap p c, dt := newDt p c } }

/-- The conditions of 04 R120 and R121 on one cluster of a drafted package. -/
def clusterOk (d : Pkg) (n : Nat) : Bool :=
  let x := clAt d n
  let f := x.cfg
  let sw := swPorts d n
  let dt2 := 2 * deadTicks (d.eye.dt.getD n 0)
  f.type == .unused ||
    (inR 51200 640000 f.period && decide (f.fcDiv ≤ 7) && inR 64000 640000 (fastTicks f) &&
     (f.type != .afe || sw.length % 3 == 0) && decide (sw.length + (stPorts d n).length ≤ 24) &&
     decide (f.dmin < f.dmax) && decide (dt2 ≤ f.dmin) && decide (f.dmax + dt2 ≤ f.period) &&
     (if f.syncIn then inR 1 16 f.syncMul else 12800000000 % f.period == 0) &&
     f.order.all sw.contains && f.order.eraseDups.length == f.order.length && decide (x.rw.addLvl ≥ x.rw.shedLvl + 10) &&
     inR 1 65535 f.iPh && inR 100 200000 f.vRated && inR 1 65535 f.prechg && inR 1 50 f.isoSettle && inR 1 500 x.rw.rate &&
     decide (f.samplePt < 1024) && decide (x.rw.offset < 1024) && inR 1 (max 1 (phases d n).length) x.rw.minPh &&
     decide (x.rw.shedLvl ≤ 90) && decide (x.rw.addLvl ≤ 100) && inR 1 10000 x.rw.dwell && inR 10 60000 x.rw.hold &&
     decide (x.rw.kb < 65536))

/-- The links of a lane: a reference or feed-forward taken in the same fast cycle comes from a lower lane of the same
cluster; a duty goes to a switching port (05 R163, R165, 07 R230). -/
def laneLinksOk (d : Pkg) (l : Nat) : Bool :=
  let f := (laneAt d l).cfg
  let same := fun k => let g := (laneAt d k).cfg; g.used && !g.slow && !f.slow && g.cluster == f.cluster
  let low := fun k => !same k || decide (k < l)
  !f.used ||
    ((f.refKind != .lane || low f.refLane) && (f.refKind != .dq || (low f.refLane && low (f.refLane + 1))) &&
     (f.ffKind != .lane || low f.ffA) && (f.out != .duty || (ptAt d f.outIdx).cfg.use_ == .switching))

/-- The repetitive controllers of an image: on at most 64 lanes, each FAST, no two with one learning memory, and their
parameters in range (05 R179, R181, R189). -/
def rcOk (d : Pkg) : Bool :=
  let l := d.ce.lane.filter (fun x => x.cfg.used && x.cfg.rc)
  let slots := l.map (·.cfg.slot)
  decide (l.length ≤ 64) && slots.eraseDups.length == slots.length &&
    l.all (fun x => !x.cfg.slow && decide (x.cfg.slot < 64) && decide (0 < x.rw.gain ∧ x.rw.gain ≤ 0x40000000) &&
      decide (966367642 ≤ x.rw.forget_ ∧ x.rw.forget_ ≤ 0x40000000) && decide (x.rw.qfilt ≤ 64) && decide (x.rw.lead < 32))

/-- A slot is assigned to at most one client (03 R87). -/
def slotsOnce (c : ConfigImage) : Bool :=
  (List.range 3).all (fun e => let l := (c.clients.map (fun x => x.slots.getD e [])).flatten; l.eraseDups.length == l.length)

/-- An image that IMAGE_COMMIT accepts (01 R46, R48, 04 R121, 05 R163, R187, R189, 07 R228, R230, 10 R325, 11 R374,
14 R448, R449, 18 R542). -/
def cfgOk (p : Pkg) (c : ConfigImage) : Bool :=
  let d := drafted p c
  let links := fun r => (dcdcOf d r).map (fun n => (clAt d n).cfg.link)
  let port := fun q =>
    let f := (ptAt d q).cfg
    (f.use_ == .unused || (d.eye.map.getD q none).any (fun n => (clAt d n).cfg.type != .unused)) &&
      (f.use_ != .switching || f.fn == .none) && (f.use_ == .switching || (c.offsets.getD q none).isNone) &&
      (c.offsets.getD q none).all (· < 1024)
  unwrapsAll p c && fuseOk p c && (List.range 8).all (clusterOk d) && (List.range 4).all (fun r => (links r).eraseDups.length ≤ 1) &&
    (List.range 96).all port && (List.range 128).all (laneLinksOk d) && rcOk d &&
    decide (budgetWorst d ≤ 360) && [1, 2, 3, 4, 5, 6, 10, 12, 15, 20, 30, 60].contains c.demLen && inR 1 15 c.demN &&
    inR 100 60000 c.soak && inR 1 3600 c.armTime && inR 10 3600 c.idleMax && inR 1280 9000 c.mtu && decide (c.clients.length ≤ 32) && slotsOnce c &&
    (inR 800 1300 c.limits.1.toNat && decide (c.limits.1 ≤ c.limits.2.1 ∧ c.limits.2.1 ≤ 1350 ∧ c.limits.2.1 ≤ c.limits.2.2 ∧ c.limits.2.2 ≤ 1350)) &&
    decide (-100000 ≤ c.delay ∧ c.delay ≤ 100000) &&
    c.vports.all (fun v => inR 49152 65535 v.tcpPort) && decide (c.v2gRoots.length ≤ 8 ∧ c.revoked.length ≤ 256) &&
    c.can.all (fun x => x.nom == 0 || (inR 125 1000 x.nom && (x.dat == 0 || inR 1000 8000 x.dat) && decide (x.filters.length ≤ 32)))

/-- A calibration table that the commit burns: in PROVISION, when it differs from the bank in force (09 R289). -/
def calToBurn (p : Pkg) (c : ConfigImage) : Option CalBank :=
  if p.sys.mode ≠ .provision then none else (c.fuse.bind (·.cal)).filter (fun b => b != bankOf p || p.mtr.epoch == 0)

/-! ### Taking effect -/

/-- Fuses burnt by a commit in PROVISION: map, dead times, calibration table (07 R228, 09 R289). -/
def burnFuses (c : ConfigImage) (p : Pkg) : Pkg :=
  match c.fuse with
  | none => p
  | some _ =>
    if p.sys.mode ≠ .provision then p
    else
      let m := newMap p c
      let e := { p.eye with map := m, dt := newDt p c, fused := mapI (fun n f => f || !(portsIn m n).isEmpty) p.eye.fused }
      let p1 := { p with eye := e }
      match calToBurn p c with
      | some b => startBurn b p1
      | none => p1

/-- AFE group and effective carrier offset of a port: position in its group over the group's size, or the override
(04 R133, R134, R161). -/
def portPlace (p : Pkg) (c : ConfigImage) (q : Nat) : Nat × Nat :=
  match p.eye.map.getD q none with
  | none => (3, 0)
  | some n =>
    if (ptAt p q).cfg.use_ ≠ .switching then (3, 0)
    else
      let g := groups p n
      let i := (g.findIdx? (fun l => l.contains q)).getD 0
      let l := g.getD i []
      let k := (l.findIdx? (· == q)).getD 0
      let per := (clAt p n).cfg.period
      let off := match c.offsets.getD q none with
        | some v => v * per / 1024
        | none => k * per / l.length
      (if (clAt p n).cfg.type = .afe then i else 3, off)

/-- The carriers of a new configuration start anywhere in their period and move to their due instants from there: the
distance is a free value (04 R129, R130; log 104). -/
def freeCarriers (p : Pkg) : Pkg :=
  (usedClusters p).foldl (fun p n =>
    let d := drawFree 20 p
    shiftCluster n d.1 d.2) p

/-- Clusters, ports, fast channels and lanes take the image's values (04 R120, R133, 05 R191, 07 R229, R234). -/
def takePower (c : ConfigImage) (p : Pkg) : Pkg :=
  let d := drafted { p with sys := { p.sys with mode := .idle } } { c with fuse := none }
  let cl := d.pwr.cl.map (fun x => { x with dyn := { x.dyn with cfgBoot := x.cfg.type != .unused, srcSync := false, locked := false
                                                                edges := 0, lastEdge := none, fcCount := 0, fcDue := false, offPend := none } })
  let d1 := { d with sys := p.sys, pwr := { d.pwr with cl := cl, chan := c.chans } }
  let pt := mapI (fun q (x : Port) => let g := portPlace d1 c q; { x with cfg := { x.cfg with group := g.1, offset := g.2 } }) d1.pwr.port
  let eye := { d1.eye with port := mapI (fun q (x : EyePort) => { x with mode := (ptAt d1 q).cfg.use_ }) d1.eye.port
                           holdMax := (List.range 8).map (fun n => 2 * (clAt d1 n).cfg.period) }
  freeCarriers { d1 with pwr := { d1.pwr with port := pt }, eye := eye, ce := { d1.ce with worst := budgetWorst d1 } }

/-- Command sources, vehicle options and 10BASE-T1S ports take the image's values (06 R192, 14 R444, R446, R476). -/
def takeLinks (c : ConfigImage) (p : Pkg) : Pkg :=
  let rg := mapI (fun r (v : VRegion) => let x := c.regions.getD r {}; { v with src := x.src, autoOpen := x.autoOpen }) p.vcmd.rg
  let vg := mapI (fun r (v : VReg) => let x := c.regions.getD r {}
    { v with eimHost := x.eimHost, vidPref := x.vidPref, cliAuth := x.cliAuth, slew := x.slew }) p.vlk.rg
  let vp := mapI (fun k (v : VPort) => let x := c.vports.getD k {}
    { v with plcaEn := x.plcaEn, nodeId := x.nodeId, nodeCnt := x.nodeCnt, toTimer := x.toTimer, maxBc := x.maxBc, btmr := x.btmr
             tcpPort := x.tcpPort }) p.vlk.port
  { p with vcmd := { p.vcmd with rg := rg }, vlk := { p.vlk with rg := vg, port := vp } }

/-- A power-line network takes the image's values (15 R478). -/
def takePln (x : Option PNetCfg) (n : PNet) : PNet :=
  match x with
  | none => { n with cfgd := false, table := [], nodes := [] }
  | some g =>
    { n with cfgd := true, band := g.band, zcSrc := g.zcSrc, network := g.network, table := g.table
             nodes := g.table.map (fun e => (n.nodes.find? (fun y => y.id == e.id)).getD { id := e.id }) }

/-- A compensator lane's output is the duty of a load-switch channel (05 R166, 16 R507). -/
def laneDuty (p : Pkg) (k : Nat) : Bool :=
  p.ce.lane.any (fun x => x.cfg.used && x.cfg.out == .actuator && x.cfg.outIdx == k)

/-- A load-switch channel takes the image's values; one whose duty is a lane's output is commanded PWM (16 R507, R510;
log 116). -/
def takeChannel (lane : Bool) (g : LChCfg) (x : LCh) : LCh :=
  let drives := lane && g.use == .pwm
  { x with use := g.use, olMode := g.olMode, olTh := g.olTh, blank := g.blank, retryMax := g.retryMax, auto := g.auto
           failsafe := g.failsafe, freq := g.freq, fsDuty := g.fsDuty, lane := drives
           cmd := if drives then .pwm else if x.lane then .off else x.cmd }

/-- CAN channels, power-line networks, load switches, cooling and cable models take the image's values (14 R459, R470,
15 R478, 16 R506 to R510). -/
def takeField (c : ConfigImage) (p : Pkg) : Pkg :=
  let can := mapI (fun k (x : CanCh) => let g := c.can.getD k {}; { x with nom := g.nom, dat := g.dat, filters := g.filters }) p.can.ch
  let ch := mapI (fun k (x : LCh) => takeChannel (laneDuty p k) (c.lsw.getD k {}) x) p.lsw.ch
  let src := mapI (fun s (x : LSrc) => if inR 40 87 s then { x with cfg := c.srcs.getD (s - 40) none } else x) p.lsw.src
  let act := mapI (fun a (x : LAct) =>
    let k := if a < 24 then (if (c.lsw.getD a {}).use = .pwm then ActKind.duty else .none_)
             else match c.acts.getD (a - 24) none with
               | some (ch, b, o, w) => .can ch b o w
               | none => .none_
    { x with kind := k }) p.lsw.act
  let rg := mapI (fun r (x : Cable) => { c.cables.getD r {} with dtCab := x.dtCab, tEst := x.tEst, tCool := x.tCool, iTh := x.iTh }) p.lsw.rg
  { p with can := { p.can with ch := can }, pln := { p.pln with net := mapI (fun k n => takePln (c.pln.getD k none) n) p.pln.net }
           lsw := { p.lsw with ch := ch, src := src, act := act, rg := rg } }

/-- Clients, endpoints, billing, redundancy, time and thermal limits take the image's values (02 R67, 03 R81, R87, R89,
09 R288, 10 R325, R334, R347, 11 R374, 13 R442, 19 R570, R580). -/
def takeHost (c : ConfigImage) (p : Pkg) : Pkg :=
  let l := c.demLen * minNs
  { p with
      mbx := { p.mbx with clients := c.clients, idleMax := c.idleMax, mtu := c.mtu, echoOn := c.echoOn, addrs := c.addrs }
      sys := { p.sys with armTimeout := c.armTime }
      mtr := { p.mtr with cfgCal := c.cal }
      bil := { p.bil with dlmsCli := c.dlms, demLen := c.demLen, demN := c.demN, tmp := c.tmp
                          demT := if p.bil.demT % l = 0 ∧ p.bil.demT ≠ 0 then p.bil.demT else p.tim.now / l * l }
      duo := { p.duo with soak := c.soak }
      dfn := { p.dfn with lane := mapI (fun k x => { x with asym := c.asym.getD k 0 }) p.dfn.lane }
      tim := { p.tim with delay := c.delay }
      thm := { p.thm with tWarn := c.limits.1, tQuiet := c.limits.2.1, tStop := c.limits.2.2 } }

/-- The configuration image takes effect, at its commit and at every boot: every register from it is loaded and every
assigned port gets its configuration word (04 R161, 07 R233). -/
def takeConfig (c : ConfigImage) (p : Pkg) : Pkg :=
  sendWords (deliverNodes (takeHost c (takeField c (takeLinks c (takePower c p)))))

/-- Buffer strings take a committed image's values, which BAT_STRING_CFG replaces (17 R511, R527). -/
def takeStrings (c : ConfigImage) (p : Pkg) : Pkg :=
  (List.range 16).foldl (fun p s => match c.bat.getD s none with
    | none => p
    | some b =>
      let p1 := leaveActive s (if b.en then .absent else .disabled) p
      updStr s (fun x => { x with cfg := b, run := 0, gotSt := false, ident := none }) p1) p

/-! ### IMAGE_COMMIT -/

/-- The verified image of a kind. -/
def readyOf (p : Pkg) (kind : Nat) : Option Verified := p.ready.find? (fun v => v.body.kind == kind)

/-- The checks that a commit repeats and that count as a refused image: the operator key installed now, imported keys
that unwrap (18 R542, R544). -/
def keyFails (p : Pkg) (kind : Nat) : Bool :=
  match readyOf p kind with
  | none => false
  | some v => v.key != p.key.opr.pub || (match v.body with
    | .config c => !unwrapsAll p c
    | _ => false)

/-- An image of the kind waits and passes the checks of its commit. -/
def commitOk (p : Pkg) (kind : Nat) : Bool :=
  match readyOf p kind with
  | none => false
  | some v => v.key == p.key.opr.pub && match v.body with
    | .firmware _ => false
    | .config c => cfgOk p c
    | .calendar c => calOk p c
    | .siteMap m => mapOk p m

/-- IMAGE_COMMIT in the catalogue: KIND and three reserved bytes (03 R112; log 59). -/
def specImageCommit : OpSpec where
  op := 0x0107
  lenOk d := d.length == 4
  role := needOpr
  params p d := inR 2 4 (u8 d 0) && zeros d 1 3 && commitOk p (u8 d 0)
  modes m := m == .idle || m == .provision
  guard p d := match readyOf p (u8 d 0) with
    | none => 0
    | some v => match v.body with
      | .config c => if (calToBurn p c).isSome ∧ bankFull p then 0x0A else 0
      | _ => 0

/-- A commit whose key check fails counts as a refused image (18 R544). -/
def commitCount (ix : Nat) (p0 p : Pkg) : Pkg :=
  let s := slotAt p0 ix
  let r := (slotAt p ix).result
  if s.state = .pending ∧ s.opcode = 0x0107 ∧ keyFails p0 (u8 s.payload 0) ∧ r.any (fun r => r.status == .badParameter) then imageRefused p else p

/-- IMAGE_COMMIT (03 R112). -/
def execImageCommit (ep : Fin 3) (slot : Fin 64) (s : State) : Out :=
  run1 (fun p => commitCount (slotIx ep slot) p (submit specImageCommit true (slotIx ep slot) noAns p)) s

/-- IMAGE_COMMIT applied: the image takes effect (03 R114, 08 R247, 10 R316, R323). -/
def applyCommit (id : Nat) (d : List Byte) (p0 : Pkg) : Pkg :=
  let kind := u8 d 0
  if !commitOk p0 kind then finishWork id .badParameter (if keyFails p0 kind then imageRefused p0 else p0)
  else if p0.mtr.nvBlock then finishWork id .faulted p0
  else match readyOf p0 kind with
    | none => finishWork id .badParameter p0
    | some v =>
      let p := { p0 with ready := p0.ready.filter (fun x => x.body.kind != kind) }
      finishWork id .ok (match v.body with
        | .firmware _ => p
        | .config c => takeStrings c (takeConfig c { importKeys c (burnFuses c p) with config := some c })
        | .calendar c => { p with bil := { p.bil with passive := some (if c.act ≤ p.tim.now then { c with act := p.tim.now } else c), draft := none } }
        | .siteMap m => if m.act > p.tim.now then { p with ldg := { p.ldg with nv := { p.ldg.nv with pendMap := some m } } } else takeMap m p)

end Sys2Proof.Machine
end

