-- ==== Sys2Proof/Machine/CanBus.lean ====
section
/-!
DEFINITION. The CAN FD channels of chapter 14 (R458 to R475): the Pricking, the transmit queue, the receive rings and
their consumers, sleep and wake, bus-off, and the CAN commands.
-/

namespace Sys2Proof.Machine

/-- Change a channel. -/
def updCan (c : Nat) (f : CanCh → CanCh) (p : Pkg) : Pkg := { p with can := { p.can with ch := upd p.can.ch c f } }

/-- A channel. -/
def canAt (p : Pkg) (c : Nat) : CanCh := p.can.ch.getD c {}

/-- Add to the events of a channel. -/
def canEvt (c : Nat) (f : CanEvt → CanEvt) (p : Pkg) : Pkg := updCan c (fun x => { x with evt := f x.evt }) p

/-! ### Whether a frame fits (14 R464) -/

/-- Nominal-rate bits of a frame (14 R464). -/
def nomBits (f : CanFrame) : Nat :=
  let l := f.data.length
  if f.fdf then (if f.ide then 44 else 21) + 13
  else if f.ide then 54 + 8 * l + (53 + 8 * l) / 4 + 13 else 34 + 8 * l + (33 + 8 * l) / 4 + 13

/-- Data-phase bits of a frame (14 R464). -/
def datBits (f : CanFrame) : Nat :=
  let l := f.data.length
  if f.fdf then 6 + 10 * l + (if l ≤ 16 then 27 else 32) else 0

/-- The worst-case duration W ends within a room of ns: rates are in kbit/s, and a rate of 0 fits nothing (14 R464). -/
def fits (x : CanCh) (f : CanFrame) (room : Nat) : Bool :=
  let d := if f.brs then x.dat else x.nom
  if x.nom = 0 ∨ (datBits f > 0 ∧ d = 0) then false
  else if datBits f = 0 then decide (nomBits f * 1000000 ≤ room * x.nom)
  else decide (nomBits f * 1000000 * d + datBits f * 1000000 * x.nom ≤ room * x.nom * d)

/-- The reference frame of a slot's start time and a cycle count (14 R467). -/
def refFrame (pr : Pricking) (cycle start : Nat) : CanFrame :=
  { ide := tb pr.refId 31, fdf := true, brs := true, id := pr.refId % 2 ^ 29, data := byte cycle :: toBe 7 start }

/-- Duration in ns of slot s of a Pricking (14 R463). -/
def slotLen (pr : Pricking) (s : Nat) : Nat := (pr.offs.getD (s + 1) pr.cycleUs - pr.offs.getD s 0) * 1000

/-- Kind and buffer of slot s in basic cycle k (14 R463). -/
def slotEntry (pr : Pricking) (k s : Nat) : SlotKind × Nat := pr.entries.getD (64 * k + s) (.free, 0)

/-- A frame fits every EXCLUSIVE slot that names a buffer (14 R475). -/
def fitsBuffer (x : CanCh) (pr : Pricking) (b : Nat) (f : CanFrame) : Bool :=
  (List.range 16).all (fun k => (List.range pr.offs.length).all (fun s =>
    slotEntry pr k s != (.exclusive, b) || fits x f (slotLen pr s)))

/-! ### Transmission (14 R463 to R467) -/

/-- Priority of an identifier in arbitration: a lower number wins; a base identifier wins over an extended one with the
same leading bits (14 R466). -/
def canPrio (f : CanFrame) : Nat :=
  if f.ide then f.id / 2 ^ 18 % 2 ^ 11 * 2 ^ 19 + 2 ^ 18 + f.id % 2 ^ 18 else f.id % 2 ^ 11 * 2 ^ 19

/-- The queued frame to be sent next: identifier priority, then acceptance (14 R466). -/
def nextQueued : List TxQ → Option TxQ
  | [] => none
  | q :: r => match nextQueued r with
    | none => some q
    | some b => if canPrio b.frame < canPrio q.frame then some b else some q

/-- A transmission starts now. -/
def startTx (c : Nat) (tx : CanTx) (f : CanFrame) (p : Pkg) : Pkg :=
  updCan c (fun x => { x with tx := some tx, txAt := p.tim.now, log := f :: x.log }) p

/-- The used slot that site time lies in, with its end (14 R463). -/
def presentSlot (p : Pkg) (x : CanCh) : Option (Nat × Nat) :=
  match x.prk, x.cycleAt with
  | some pr, some a =>
    if p.tim.now < a ∨ p.tim.now ≥ a + pr.cycleUs * 1000 then none
    else match (idxs (fun o => a + o * 1000 ≤ p.tim.now) pr.offs).getLast? with
      | none => none
      | some s => some (s, a + pr.offs.getD s 0 * 1000 + slotLen pr s)
  | _, _ => none

/-- The channel's transmitter may start a frame: bus idle as far as its own frames go, awake, not in bus-off
(14 R460, R465, R472). -/
def canFree (x : CanCh) : Bool := x.tx.isNone && !x.asleep && x.st != .busOff

/-- A queued frame starts, if the present slot is an ARBITRATION slot it fits, or the channel has no schedule
(14 R466). -/
def tryQueue (c : Nat) (p : Pkg) : Pkg :=
  let x := canAt p c
  match nextQueued x.queue with
  | none => p
  | some q =>
    if !canFree x ∨ !drives p then p
    else match x.prk with
      | none => if x.nom = 0 then p else startTx c (.queued q) q.frame p
      | some pr => match presentSlot p x with
        | none => p
        | some (s, e) =>
          if (slotEntry pr x.cycle s).1 = .arbitration ∧ fits x q.frame (e - p.tim.now) then
            startTx c (.queued q) q.frame p
          else p

/-- An exclusive frame is skipped and counted (14 R465). -/
def lateFrame (c : Nat) (p : Pkg) : Pkg :=
  updCan c (fun x => { x with late := inc16 x.late, lateCyc := (x.lateCyc.1, inc8 x.lateCyc.2), want := none
                              evt := { x.evt with late := true } }) p

/-- A slot passes unsent and counts in SKIPPED (14 R465, R472). -/
def skipSlot (c : Nat) (p : Pkg) : Pkg := updCan c (fun x => { x with skipped := inc16 x.skipped }) p

/-- The frame of a waiting slot starts at a bus-idle instant, or is late (14 R465). -/
def tryWanted (c : Nat) (p : Pkg) : Pkg :=
  let x := canAt p c
  match x.want, x.prk, presentSlot p x with
  | some s, some pr, some (s1, e) =>
    if s ≠ s1 then p
    else
      let start := x.cycleAt.getD 0 + pr.offs.getD s 0 * 1000
      let done := fun p => updCan c (fun x => { x with want := none }) p
      match slotEntry pr x.cycle s with
      | (.reference, _) =>
        let f := refFrame pr x.cycle start
        if !canFree x ∨ !drives p then p else if fits x f (e - p.tim.now) then done (startTx c (.ref f) f p) else done p
      | (_, b) => match x.buf.getD b none with
        | none => done p
        | some t => if !canFree x ∨ !drives p then p
          else if fits x t.frame (e - p.tim.now) then done (startTx c (.buffer b t.frame) t.frame p) else lateFrame c p
  | _, _, _ => p

/-- A waiting frame whose slot has ended: an exclusive one is late (14 R465). -/
def dropWanted (c : Nat) (p : Pkg) : Pkg :=
  let x := canAt p c
  match x.want, x.prk with
  | some s, some pr =>
    if (slotEntry pr x.cycle s).1 = .exclusive then lateFrame c p else updCan c (fun x => { x with want := none }) p
  | _, _ => p

/-- A Pricking slot starts (14 R463, R465, R466). -/
def pricking (c s : Nat) (p : Pkg) : Pkg :=
  let x := canAt p c
  if !awake p then p
  else match x.prk with
  | none => tryQueue c p
  | some pr =>
    if (presentSlot p x).map (·.1) ≠ some s then p
    else if x.ran.contains s then tryQueue c p
    else
      let p1 := dropWanted c p
      let e := slotEntry pr x.cycle s
      let p2 := updCan c (fun x => { x with slot := s, ran := s :: x.ran }) p1
      if e.1 = .free then p2
      else if x.asleep then skipSlot c p2
      else if e.1 = .arbitration then tryQueue c p2
      else if e.1 = .exclusive ∧ (x.buf.getD e.2 none).isNone then skipSlot c p2
      else tryWanted c (updCan c (fun x => { x with want := some s }) p2)

/-- PRICKING_SLOT (14 R463). -/
def execPrickingSlot (c : Fin 16) (slot : Fin 64) (t : Nat) (s : State) : Out :=
  run1 (fun p => pricking c.val slot.val (advance t p)) s

/-- A basic cycle begins: at a multiple of CYCLE_US a schedule's cycle starts; a waiting schedule is taken up at a
matrix start, its own where there is one and otherwise that of the schedule it removes (14 R462, R468). -/
def basicCycle (c : Nat) (p0 : Pkg) : Pkg :=
  let p := dropWanted c p0
  let now := p.tim.now
  let matrix := fun (pr : Pricking) => decide (now % (16 * pr.cycleUs * 1000) = 0)
  let x := canAt p c
  let take := match x.nextPrk, x.prk with
    | some (some pr), _ => matrix pr
    | some none, some pr => matrix pr
    | some none, none => true
    | none, _ => false
  let prk := if take then x.nextPrk.getD none else x.prk
  let nextPrk := if take then none else x.nextPrk
  match prk with
  | none => updCan c (fun x => { x with prk := none, nextPrk := nextPrk, cycle := 0, slot := 0, cycleAt := none, ran := [] }) p
  | some pr =>
    if now % (pr.cycleUs * 1000) ≠ 0 then p
    else updCan c (fun x => { x with prk := some pr, nextPrk := nextPrk, cycleAt := some now, ran := [], slot := 0
                                     cycle := now / (pr.cycleUs * 1000) % 16 }) p

/-- BASIC_CYCLE_START (14 R462). -/
def execBasicCycleStart (c : Fin 16) (t : Nat) (s : State) : Out :=
  run1 (fun p => basicCycle c.val (advance t p)) s

/-- A time step to a new time ends basic cycles early (14 R468; called by 19 R565). -/
def prickingCut (new : Nat) (p : Pkg) : Pkg :=
  let f := fun x : CanCh => match x.prk, x.cycleAt with
    | some pr, some a =>
      if a ≤ new ∧ new < a + pr.cycleUs * 1000 then x
      else { x with cycleAt := none, ran := [], want := none, evt := { x.evt with cut := true } }
    | _, _ => x
  { p with can := { p.can with ch := p.can.ch.map f } }

/-! ### Rings and consumers (14 R469, R470) -/

/-- Store a record in a channel's ring of 4,096 (14 R469). -/
def ringStore (c : Nat) (r : CanRec) (p : Pkg) : Pkg :=
  updCan c (fun x =>
    let l := x.ring ++ [r]
    { x with ring := l.drop (l.length - 4096), next := (x.next + 1) % 2 ^ 64 }) p

/-- Bytes of a ring record (14 R469). -/
def recBytes (r : CanRec) : List Byte :=
  toLe 8 r.time ++ toLe 4 (canIdWord r.frame) ++
    [byte r.len, byte (bit r.frame.rtr + 2 * bit r.frame.esi + 4 * bit r.own + 8 * bit r.wake), 0, 0] ++ pad 64 r.frame.data

/-- IDE and identifier of a frame, as a filter compares them (14 R470). -/
def filterWord (f : CanFrame) : Nat := bit f.ide * 2 ^ 31 + f.id % 2 ^ 29

/-- IDE and identifier of an ID word (14 R469). -/
def idOf (w : Nat) : Nat := w / 2 ^ 31 % 2 * 2 ^ 31 + w % 2 ^ 29

/-- An IMD frame of a region (14 R470). -/
def imdFrame (r : Nat) (d : List Byte) (p : Pkg) : Pkg :=
  let f := fun v : VReg =>
    { v with imdAt := some p.clk, imdOk := if u8 d 0 = 1 then some (v.imdOk.getD p.clk) else none }
  { p with vlk := { p.vlk with rg := upd p.vlk.rg r f } }

/-- The BAT consumer: STATUS and IDENT frames of the strings on a channel (17 R512). -/
def batFrame (c : Nat) (f : CanFrame) (p : Pkg) : Pkg :=
  if !f.fdf then p
  else (List.range 16).foldl (fun p s =>
    let x := strAt p s
    if !x.cfg.en ∨ x.cfg.can ≠ c then p
    else if idOf x.cfg.statusId = filterWord f then bmsStatus s f.data p
    else if idOf x.cfg.identId = filterWord f then bmsIdent s f.data p
    else p) p

/-- A frame passes to the consumers whose filters match (14 R470). -/
def consume (c : Nat) (f : CanFrame) (p : Pkg) : Pkg :=
  let l := (canAt p c).filters.filter (fun x => (filterWord f) &&& x.mask == x.id &&& x.mask)
  let p1 := if l.any (fun x => x.user == .bat) then batFrame c f p else p
  let p2 := if l.any (fun x => x.user == .cooling || x.user == .lsw) then coolingData 40 71 c (filterWord f) f.data p1 else p1
  (l.filter (fun x => x.user == .imd)).foldl (fun p x => imdFrame x.index f.data p) p2

/-- A sleeping channel wakes (14 R473). -/
def wakeCan (c : Nat) (p : Pkg) : Pkg :=
  updCan c (fun x => { x with sleep := false, sleepIn := false, asleep := false, stb := false, cycleAt := none, ran := [], want := none
                              evt := { x.evt with wake := true } }) p

/-- A frame matches the wake pattern (14 R473). -/
def wakeMatch (x : CanCh) (f : CanFrame) : Bool :=
  f.id &&& (x.wakeMask % 2 ^ 29) == x.wakeId % 2 ^ 29 &&& x.wakeMask % 2 ^ 29 && f.ide == tb x.wakeId 31 &&
    (leNat (pad 8 f.data)) &&& x.wakeDm == x.wakeData &&& x.wakeDm

/-- A decoded frame is stored and passed on; one that matches the wake pattern of a channel asleep in FRAME mode wakes
it; a channel asleep in EDGE mode decodes none (14 R469, R470, R472, R473). -/
def canReceive (c : Nat) (f : CanFrame) (len t : Nat) (p0 : Pkg) : Pkg :=
  let p := advance t p0
  let x := canAt p c
  if !awake p || (x.asleep && !x.wakeFrame) then p
  else
    let wake := x.asleep && wakeMatch x f
    let rc := fun n : Nat => if n > 127 then 127 else n - 1
    let p1 := updCan c (fun x => { x with rec_ := rc x.rec_ }) p
    let p2 := ringStore c { time := siteAt p0 t, frame := f, own := false, wake := wake, len := len } p1
    consume c f (if wake then wakeCan c p2 else p2)

/-- CAN_FRAME_RECEIVED (14 R469). -/
def execCanFrameReceived (c : Fin 16) (f : CanFrame) (len t : Nat) (s : State) : Out :=
  run1 (canReceive c.val f len t) s

/-- No IMD frame of a region for 1 s (14 R470). -/
def imdTimeout (r : Nat) (p : Pkg) : Pkg :=
  let v := p.vlk.rg.getD r {}
  if due p (v.imdAt.getD 0 + 1000000000) then
    { p with vlk := { p.vlk with rg := upd p.vlk.rg r (fun v => { v with imdOk := none }) } }
  else p

/-- IMD_TIMEOUT (14 R470). -/
def execImdTimeout (r : Fin 4) (s : State) : Out := run1 (imdTimeout r.val) s

/-! ### Ends of transmissions, bus-off (14 R460, R465, R475) -/

/-- Error state of the error counters (log 19). -/
def canStateOf (x : CanCh) : CanState :=
  if x.st = .busOff then .busOff else if x.tec > 127 ∨ x.rec_ > 127 then .passive else .active

/-- A transmission ends (14 R465, R466, R469, R475; log 19). -/
def canSent (c : Nat) (e : CanEnd) (t : Nat) (p0 : Pkg) : Pkg :=
  let p := advance t p0
  let x := canAt p c
  match x.tx with
  | none => p
  | some tx =>
    let f := match tx with
      | .buffer _ f => f
      | .queued q => q.frame
      | .ref f => f
    let p1 := updCan c (fun x => { x with tx := none }) p
    let p2 := match e with
      | .lost => p1
      | .error l => updCan c (fun x =>
          let y := { x with tec := satAdd 255 x.tec 8, lec := l.val }
          { y with st := canStateOf y }) p1
      | .sent =>
        let q1 := updCan c (fun x =>
          let y := { x with txCnt := (x.txCnt + 1) % 2 ^ 32, tec := x.tec - 1, lec := 0 }
          { y with st := canStateOf y }) p1
        let q2 := if x.loopback then ringStore c { time := x.txAt, frame := f, own := true, len := f.data.length } q1 else q1
        match tx with
        | .buffer b _ =>
          let g := fun o : Option TxBuf => match o with
            | some t => if t.oneShot then none else some t
            | none => none
          updCan c (fun x => { x with buf := upd x.buf b g }) q2
        | .queued q => finishWork q.work .ok (updCan c (fun x => { x with queue := x.queue.filter (fun y => y.work != q.work) }) q2)
        | .ref _ => q2
    tryQueue c (tryWanted c p2)

/-- CAN_FRAME_SENT (14 R475). -/
def execCanFrameSent (c : Fin 16) (e : CanEnd) (t : Nat) (s : State) : Out := run1 (canSent c.val e t) s

/-- A queued frame has not been sent 1 s after it was applied (14 R475). -/
def canSendTimeout (c work : Nat) (p : Pkg) : Pkg :=
  match (canAt p c).queue.find? (fun q => q.work == work) with
  | none => p
  | some q =>
    if due p (q.at_ + 1000000000) then
      finishWork work .faulted (updCan c (fun x =>
        { x with queue := x.queue.filter (fun y => y.work != work), evt := { x.evt with txTimeout := true } }) p)
    else p

/-- CAN_SEND_TIMEOUT (14 R475). -/
def execCanSendTimeout (c : Fin 16) (work : Nat) (s : State) : Out := run1 (canSendTimeout c.val work) s

/-- A channel enters bus-off: every CAN_SEND still queued ends FAILED with FAULTED (14 R460). -/
def busOff (c : Nat) (p : Pkg) : Pkg :=
  let p1 := (canAt p c).queue.foldl (fun p q => finishWork q.work .faulted p) p
  updCan c (fun x => { x with st := .busOff, tx := none, queue := [], recov := false, evt := { x.evt with busOff := true } }) p1

/-- BUS_OFF (14 R460). -/
def execBusOff (c : Fin 16) (s : State) : Out := run1 (busOff c.val) s

/-- A write of 1 to CTRL.RECOVER starts the recovery of a channel in bus-off (14 R460). -/
def canRecover (c : Nat) (p : Pkg) : Pkg :=
  updCan c (fun x => { x with recov := x.recov || x.st == .busOff }) p

/-- CAN_RECOVER (14 R460). -/
def execCanRecover (c : Fin 16) (s : State) : Out := run1 (canRecover c.val) s

/-- 128 occurrences of 11 recessive bits: recovery where AUTO_RECOVER or RECOVER allows it (14 R460; log 19). -/
def busOffRecovery (c : Nat) (p : Pkg) : Pkg :=
  let x := canAt p c
  if x.st = .busOff ∧ (x.autoRec ∨ x.recov) then
    tryQueue c (updCan c (fun x => { x with st := .active, tec := 0, rec_ := 0, recov := false }) p)
  else p

/-- BUS_OFF_RECOVERY (14 R460). -/
def execBusOffRecovery (c : Fin 16) (s : State) : Out := run1 (busOffRecovery c.val) s

/-! ### Sleep and wake (14 R472, R473) -/

/-- A write of 1 to CTRL.SLEEP (14 R472). -/
def execCanSleepWrite (c : Fin 16) (s : State) : Out := run1 (updCan c.val (fun x => { x with sleep := true })) s

/-- The channel finds the bus idle with no frame of its own in progress, from the boundary after the write of SLEEP
(14 R472). -/
def sleepEntry (c : Nat) (p : Pkg) : Pkg :=
  updCan c (fun x => if x.sleep && x.sleepIn && !x.asleep && x.tx.isNone then
    { x with asleep := true, stb := !x.wakeFrame, want := none } else x) p

/-- CAN_SLEEP_ENTRY (14 R472). -/
def execCanSleepEntry (c : Fin 16) (s : State) : Out := run1 (sleepEntry c.val) s

/-- A CAN_SEND to the channel has been accepted and has not ended (14 R473). -/
def sendOpen (p : Pkg) (c : Nat) : Bool :=
  p.mbx.work.any (fun w => w.opcode == 0x0803 && u8 w.payload 0 == c && (w.state == .accepted || w.state == .running))

/-- What wakes a sleeping channel (14 R473). -/
def canWake (c : Nat) (w : WakeIn) (p : Pkg) : Pkg :=
  let x := canAt p c
  if !x.asleep ∨ !awake p then p
  else match w with
    | .edge => if x.wakeFrame then p else wakeCan c (canEvt c (fun e => { e with edgeLost := true }) p)
    | .frame f t => if x.wakeFrame then canReceive c f f.data.length t p else p
    | .send => if sendOpen p c then wakeCan c p else p

/-- CAN_WAKE (14 R473). -/
def execCanWake (c : Fin 16) (w : WakeIn) (s : State) : Out := run1 (canWake c.val w) s

/-! ### Commands (14 R474, R475) -/

/-- Slot kind of a code (14 R463). -/
def SlotKind.ofCode : Nat → SlotKind
  | 0 => .free | 1 => .exclusive | 2 => .arbitration | _ => .reference

/-- The schedule a CAN_SCHEDULE payload carries (14 R474). -/
def parsePricking (d : List Byte) : Pricking :=
  { cycleUs := u16 d 2, refId := u32 d 4
    offs := ((List.range 64).map (fun s => u16 d (8 + 2 * s))).takeWhile (· != 0xFFFF)
    entries := (List.range 1024).map (fun i => let w := u16 d (136 + 2 * i); (SlotKind.ofCode (w / 2 ^ 14), fld w 13 8)) }

/-- The offsets keep their rules: slot 0 at 0, strictly ascending, below CYCLE_US, unused slots last (14 R474). -/
def offsOk (d : List Byte) (pr : Pricking) : Bool :=
  pr.offs.head? == some 0 && ascending pr.offs && pr.offs.all (fun o => decide (o < pr.cycleUs)) &&
    ((List.range 64).drop pr.offs.length).all (fun s => u16 d (8 + 2 * s) == 0xFFFF)

/-- An identifier fits its format (14 R474; log 21). -/
def idFits (w : Nat) : Bool := tb w 31 || decide (w % 2 ^ 29 < 2 ^ 11)

/-- The refusals of CAN_SCHEDULE (14 R475). -/
def scheduleOk (x : CanCh) (d : List Byte) : Bool :=
  let pr := parsePricking d
  let refs := (List.range 1024).all (fun i => (pr.entries.getD i (.free, 0)).1 != .reference || i % 64 == 0)
  let refFits := (List.range 16).all (fun k => (slotEntry pr k 0).1 != .reference || fits x (refFrame pr k 0) (slotLen pr 0))
  let bufFits := ((List.range 64).all (fun b => match x.buf.getD b none with
    | none => true
    | some t => fitsBuffer x pr b t.frame))
  offsOk d pr && refs && refFits && bufFits

/-- CAN_SCHEDULE's checks (14 R474, R475). -/
def specCanSchedule : OpSpec :=
  { op := 0x0801, lenOk := (·.length == 2184), role := needOpr, modes := onlyIdle
    params := fun p d => inR 0 15 (u8 d 0) && inR 0 1 (u8 d 1) && inR 100 65535 (u16 d 2) && idFits (u32 d 4) &&
      (List.range 1024).all (fun i => u8 d (136 + 2 * i) == 0) && scheduleOk (canAt p (u8 d 0)) d }

/-- CAN_SCHEDULE: the command's checks (14 R475). -/
def execCanSchedule (ep : Fin 3) (slot : Fin 64) (s : State) : Out :=
  run1 (submit specCanSchedule true (slotIx ep slot) noAns) s

/-- CAN_SCHEDULE applied: the schedule waits for the first matrix start (14 R468). -/
def applyCanSchedule (d : List Byte) (p : Pkg) : Pkg :=
  updCan (u8 d 0) (fun x => { x with nextPrk := some (if tb (u8 d 1) 0 then some (parsePricking d) else none) }) p

/-- CAN_RING_READ's checks (14 R474). -/
def specCanRingRead : OpSpec :=
  { op := 0x0802, query := true, lenOk := (·.length == 20), role := needMon, modes := anyMode
    params := fun _ d => inR 0 15 (u8 d 0) && zeros d 1 7 && inR 1 50 (u16 d 16) && zeros d 18 2 }

/-- The records a CAN_RING_READ returns (14 R475). -/
def ansCanRing (p : Pkg) (d : List Byte) : List Byte × Pkg :=
  let x := canAt p (u8 d 0)
  let oldest := x.next - x.ring.length
  let first := if u64 d 8 < oldest then oldest else u64 d 8
  let l := (x.ring.drop (first - oldest)).take (u16 d 16)
  (toLe 8 first ++ toLe 2 l.length ++ List.replicate 6 0 ++ l.flatMap recBytes, p)

/-- CAN_RING_READ (14 R475). -/
def execCanRingRead (ep : Fin 3) (slot : Fin 64) (s : State) : Out :=
  run1 (submit specCanRingRead true (slotIx ep slot) ansCanRing) s

/-- The frame of a CAN_SEND (14 R474). -/
def sendFrame (d : List Byte) : CanFrame := canOfWord (u32 d 4) (slice d 12 (u8 d 8))

/-- LENGTH is one that the frame format has (14 R474). -/
def canLenOk (d : List Byte) : Bool :=
  inR 0 8 (u8 d 8) || (tb (u32 d 4) 30 && [12, 16, 20, 24, 32, 48, 64].contains (u8 d 8))

/-- CAN_SEND's checks (14 R474, R475). -/
def specCanSend : OpSpec :=
  { op := 0x0803, lenOk := fun d => decide (12 ≤ d.length) && d.length == 12 + u8 d 8, role := needOpr, modes := notRetired
    params := fun p d =>
      let x := canAt p (u8 d 0)
      let w := u32 d 4
      inR 0 15 (u8 d 0) && inR 0 2 (u8 d 1) && inR 0 63 (u8 d 2) && (u8 d 1 != 0 || u8 d 2 == 0) && inR 0 1 (u8 d 3) &&
        canLenOk d && zeros d 9 3 && idFits w && !(x.dat == 0 && (tb w 30 || tb w 29)) &&
        (u8 d 1 != 1 || match x.prk with
          | none => true
          | some pr => fitsBuffer x pr (u8 d 2) (sendFrame d)) &&
        (u8 d 1 != 1 || match x.nextPrk with
          | some (some pr) => fitsBuffer x pr (u8 d 2) (sendFrame d)
          | _ => true)
    busy := fun p d => u8 d 1 == 0 && decide ((canAt p (u8 d 0)).queue.length ≥ 32) }

/-- CAN_SEND: the command's checks (14 R475). -/
def execCanSend (ep : Fin 3) (slot : Fin 64) (s : State) : Out := run1 (submit specCanSend true (slotIx ep slot) noAns) s

/-- CAN_SEND applied: a queued frame runs until it is sent, a buffer is loaded or cleared at once; a sleeping channel
wakes (14 R473, R475). -/
def applyCanSend (id : Nat) (d : List Byte) (p0 : Pkg) : Pkg :=
  let c := u8 d 0
  let p := if (canAt p0 c).asleep then wakeCan c p0 else p0
  match u8 d 1 with
  | 0 =>
    if (canAt p c).queue.length ≥ 32 then finishWork id .busy p
    else if (canAt p c).st = .busOff then finishWork id .faulted p
    else tryQueue c (runWork id (updCan c (fun x =>
      { x with queue := x.queue ++ [{ frame := sendFrame d, work := id, at_ := p.clk }] }) p))
  | 1 => finishWork id .ok (updCan c (fun x =>
      { x with buf := upd x.buf (u8 d 2) (fun _ => some { frame := sendFrame d, oneShot := tb (u8 d 3) 0 }) }) p)
  | _ => finishWork id .ok (updCan c (fun x => { x with buf := upd x.buf (u8 d 2) (fun _ => none) }) p)

/-- The CAN channels on the active die after a switchover: what was being sent is sent again if it was queued
(14 R471). -/
def canSwitchover (p : Pkg) : Pkg :=
  { p with can := { p.can with ch := p.can.ch.map (fun x => { x with tx := none, want := none }) } }

end Sys2Proof.Machine
end

