-- ==== Sys2Proof/Machine/Commands.lean ====
section
/-!
DEFINITION. Voltage and current commands (06 R192 to R218): the Purl receivers and frames, transitions and their
acknowledgements, and the compatibility register path. A frame is its 64 bits with what the receiver saw of it (PurlIn; log 9).
-/

namespace Sys2Proof.Machine

/-- Region of a Purl port (06 R194). -/
def regionOf (u : Nat) : Nat := u / 2

/-- Every port of a dispenser is silent while no Stitch die is active (06 R198). -/
def purlOn (p : Pkg) : Bool := awake p && !inMode p [.reset, .boot, .selfTest, .retired]

/-! ### Receivers (06 R195, R197) -/

/-- Code violations are counted, in a frame or outside (06 R195, R217). -/
def codeViols (n u : Nat) (p : Pkg) : Pkg :=
  updPp u (fun x => { x with codeErr := satAdd 255 x.codeErr n, errNow := satAdd 255 x.errNow n }) p

/-- Four consecutive valid idle characters: the receiver is UP (06 R195). -/
def receiverUp (u viols : Nat) (p : Pkg) : Pkg :=
  if purlOn p then updPp u (fun x => { x with up := true, idles := 4, upAt := if x.up then x.upAt else p.clk }) (codeViols viols u p) else p

/-- PURL_RECEIVER_UP, with the code violations since the frame before (06 R195). -/
def execPurlReceiverUp (e : PurlRx) (s : State) : Out := run1 (receiverUp e.u.val e.viols) s

/-- 20 µs without a valid character (06 R195). -/
def receiverLoss (u viols : Nat) (p : Pkg) : Pkg :=
  updPp u (fun x => { x with up := false, idles := 0 }) (if purlOn p then codeViols viols u p else p)

/-- PURL_RECEIVER_LOSS, with the code violations since the frame before (06 R195). -/
def execPurlReceiverLoss (e : PurlRx) (s : State) : Out := run1 (receiverLoss e.u.val e.viols) s

/-- 100 ms without a valid frame on the port that owns the session: LINK_LOST, and the session ends as if closed (06 R197). -/
def linkLost (r : Nat) (p : Pkg) : Pkg :=
  match (vrAt p r).session with
  | some (.purl u) =>
    if due p ((ppAt p u).lastOk + 100000000) then endSession r 0xA (updPp u (fun x => { x with linkLost := true }) p) else p
  | _ => p

/-- PURL_LINK_LOST (06 R197). -/
def execPurlLinkLost (r : Fin 4) (s : State) : Out := run1 (linkLost r.val) s

/-! ### Taking frames (06 R195, R199, R200, R203) -/

/-- A frame fails its CRC (06 R195, R217). -/
def crcError (u : Nat) (p : Pkg) : Pkg := updPp u (fun x => { x with crcErr := inc8 x.crcErr, errNow := inc8 x.errNow }) p

/-- A discard that is counted (06 R199, R200, R203). -/
def discardFrame (u : Nat) (p : Pkg) : Pkg := updPp u (fun x => { x with discard := inc8 x.discard }) p

/-- A frame of a TYPE ends at an instant: its code violations are counted; it is taken only if the receiver was UP through all of its
2.0 µs, its length and CRC hold and it has no violation. Another TYPE than those of a dispenser is a counted discard (06 R194, R195,
R200, R217). -/
def takeFrame (type u : Nat) (w : PurlIn) (t : Nat) (f : Pkg → Pkg) (p0 : Pkg) : Pkg :=
  let q := advance t p0
  let ty := w.bits / 2 ^ 61
  if !purlOn q then q
  else
    let p := codeViols (w.viols + w.line) u q
    if !(ppAt p u).up ∨ p.clk < (ppAt p u).upAt + 2000 ∨ w.short ∨ w.viols ≠ 0 then p
    else if w.bits % 256 ≠ purlCrc w.bits then crcError u p
    else if ty < 1 ∨ ty > 3 then discardFrame u p
    else if ty ≠ type then p
    else f p

/-- COMMAND or SESSION frames end at least 20 µs after the previous one accepted (06 R199). -/
def spaced (u : Nat) (f : Pkg → Pkg) (p : Pkg) : Pkg :=
  let p1 := updPp u (fun x => { x with lastOk := p.clk }) p
  match (ppAt p u).lastEnd with
  | some t => if p.clk < t + 20000 then discardFrame u p1 else f p1
  | none => f p1

/-- A COMMAND or SESSION frame is accepted on its port: the next one ends 20 µs later (06 R199). -/
def frameTaken (u : Nat) (p : Pkg) : Pkg := updPp u (fun x => { x with lastEnd := some p.clk }) p

/-- SEQ of a frame (06 R200). -/
def fSeq (w : Nat) : Nat := fld w 15 8
/-- SLEW of a frame. -/
def fSlew (w : Nat) : Nat := fld w 24 16
/-- ILIMIT of a frame. -/
def fIlim (w : Nat) : Nat := fld w 39 25
/-- VTARGET of a frame. -/
def fTarget (w : Nat) : Nat := fld w 57 40

/-- A frame that repeats the one that set NEWEST (06 R203). -/
def isRepeat (p : Pkg) (u w : Nat) : Bool := (ppAt p u).lastFrame == some (w / 256) && (ppAt p u).newest == fSeq w

/-- The latest acknowledgement of NEWEST is sent again (06 R203). -/
def repeatAck (u : Nat) (p : Pkg) : Pkg :=
  match (ppAt p u).lastAck with
  | some a => updPp u (fun x => { x with queue := cap 16 (x.queue ++ [a]), mir := x.mir ++ [a], mirNext := x.mirNext ++ [a] }) p
  | none => p

/-- A frame gets its ACCEPTED or REFUSED and sets NEWEST (06 R203, R204). -/
def answer (u w : Nat) (k : AckKind) (cause : Nat) (p : Pkg) : Pkg :=
  let r := regionOf u
  let p1 := updPp u (fun x => { x with newest := fSeq w, lastFrame := some (w / 256) }) p
  let p2 := if k = .refused then updVr r (fun v => { v with lastCause := cause }) p1 else p1
  pushAck u (mkAck p2 r k (fSeq w) cause (fSeq w) p2.duo.turns false) p2

/-- SRC permits Purl (06 R192). -/
def purlSrc (p : Pkg) (r : Nat) : Bool := (vrAt p r).src == .purl || (vrAt p r).src == .both

/-- VTARGET, ILIMIT, SLEW and the reserved bits of a COMMAND or SESSION open are in range (06 R200). -/
def rangeOk (p : Pkg) (r w : Nat) : Bool :=
  fld w 59 58 == 0 && decide (fTarget w ≤ vLow p r) && decide (fIlim w ≤ 30000) && inR 1 500 (fSlew w)

/-- Modes in which a region takes commands (06 R205). -/
def cmdMode (p : Pkg) (r : Nat) : Bool :=
  inMode p [.armed, .deliver, .derate, .isolated] || (inMode p [.service] && grantFor p r)

/-- Modes in which a session may start: from IDLE only while guards 0x01, 0x02 and 0x04 pass (06 R209). -/
def startMode (p : Pkg) (r : Nat) : Bool := cmdMode p r || (inMode p [.idle] && armGuard p == 0)

/-- The transition that a new one of the region supersedes (06 R208, R213). -/
def supersede (r : Nat) (bySeq : Option Nat) (compat : Bool) (p : Pkg) : Pkg :=
  updVr r (fun v => { v with regSlew := false }) (endTrans r .superseded 0 bySeq compat p)

/-! ### COMMAND (06 R205, R208) -/

/-- The cause that refuses a COMMAND, 0 for none (06 R205). -/
def commandCause (p : Pkg) (u w : Nat) : Nat :=
  let r := regionOf u
  let v := vrAt p r
  if (dcdcOf p r).isEmpty then 3
  else if !rangeOk p r w ∨ tb w 60 then 1
  else if v.session.isNone then 2
  else if v.session ≠ some (.purl u) ∨ !purlSrc p r then 3
  else if !cmdMode p r then 4
  else 0

/-- A new COMMAND is refused, or accepted as a transition that supersedes the earlier one (06 R205, R208). -/
def newCommand (u w : Nat) (p : Pkg) : Pkg :=
  let r := regionOf u
  let c := commandCause p u w
  if c ≠ 0 then answer u w .refused c p
  else
    let p1 := answer u w .accepted 0 (supersede r (some (fSeq w)) false p)
    let t : Transition := { kind := .command, src := .purl u, seq := fSeq w, turn := p.duo.turns }
    setCommand r (.purl u) (fTarget w) (some (fIlim w)) (fSlew w) (fSeq w) (updVr r (fun v => { v with trans := some t }) p1)

/-- Handle a frame by its SEQ: a repeat, a new transition, or a discard (06 R199, R203). -/
def bySeq (u w : Nat) (f : Pkg → Pkg) (p : Pkg) : Pkg :=
  let d := (fSeq w + 256 - (ppAt p u).newest) % 256
  if isRepeat p u w then repeatAck u (frameTaken u p) else if 1 ≤ d ∧ d ≤ 127 then f (frameTaken u p) else discardFrame u p

/-- PURL_COMMAND (06 R205). -/
def execPurlCommand (u : Fin 8) (frame : PurlIn) (t : Nat) (s : State) : Out :=
  run1 (takeFrame 1 u.val frame t (spaced u.val (bySeq u.val frame.bits (newCommand u.val frame.bits)))) s

/-! ### SESSION open and close (06 R209) -/

/-- The cause that refuses a session start after the source's own checks, 0 for none (06 R209). -/
def startCheck (p : Pkg) (r target : Nat) (ilim : Option Nat) : Nat :=
  let v := vrAt p r
  if !startMode p r then 4
  else if v.session.isSome ∨ v.closing then 0xD
  else if !receiptFree p then 0xE
  else if !wouldLend p r target ilim then 5
  else 0

/-- The cause that refuses a SESSION open on a Purl port, 0 for none (06 R209). -/
def openCause (p : Pkg) (u w : Nat) : Nat :=
  let r := regionOf u
  if (dcdcOf p r).isEmpty then 3
  else if !rangeOk p r w then 1
  else if !purlSrc p r then 3
  else startCheck p r (fTarget w) (some (fIlim w))

/-- A session starts with its first command; its open is a transition (06 R209). -/
def startSession (r : Nat) (o : Owner) (target : Nat) (ilim : Option Nat) (slew seq vidKind : Nat) (vid : List Byte)
    (p : Pkg) : Pkg :=
  let t : Transition := { kind := .open_, src := o, seq := seq, turn := p.duo.turns }
  setCommand r o target ilim slew seq (updVr r (fun v => { v with trans := some t }) (openSession r o vidKind vid p))

/-- A SESSION open is refused or starts the session (06 R209). -/
def newOpen (u w : Nat) (p : Pkg) : Pkg :=
  let r := regionOf u
  let c := openCause p u w
  if c ≠ 0 then answer u w .refused c p
  else
    startSession r (.purl u) (fTarget w) (some (fIlim w)) (fSlew w) (fSeq w) 0 [] (answer u w .accepted 0 p)

/-- A valid SESSION open is evaluated whatever its SEQ, unless it is a repeat (06 R203). -/
def openFrame (u w : Nat) (p : Pkg) : Pkg := if isRepeat p u w then repeatAck u (frameTaken u p) else newOpen u w (frameTaken u p)

/-- The cause that refuses a SESSION close, 0 for none (06 R209). -/
def closeCause (p : Pkg) (u w : Nat) : Nat :=
  let r := regionOf u
  let v := vrAt p r
  if (dcdcOf p r).isEmpty then 3
  else if fld w 59 58 ≠ 0 then 1
  else if v.session.isNone then 2
  else if v.session ≠ some (.purl u) then 3
  else 0

/-- A SESSION close is refused, or ends the session: the pending transition is REFUSED first, and the close is REACHED
when the region's isolators are open (06 R209). -/
def newClose (u w : Nat) (p : Pkg) : Pkg :=
  let r := regionOf u
  let c := closeCause p u w
  if c ≠ 0 then answer u w .refused c p
  else
    let p1 := answer u w .accepted 0 (endTrans r .refused 8 none false p)
    let t : Transition := { kind := .close, src := .purl u, seq := fSeq w, turn := p.duo.turns }
    let p2 := endSession r 8 p1
    if (vrAt p2 r).closing then updVr r (fun v => { v with trans := some t }) p2
    else endTrans r .reached 0 none false (updVr r (fun v => { v with trans := some t }) p2)

/-- PURL_SESSION_OPEN: a SESSION frame with OPEN 1 (06 R209). -/
def execPurlSessionOpen (u : Fin 8) (frame : PurlIn) (t : Nat) (s : State) : Out :=
  run1 (takeFrame 3 u.val frame t (fun p => if tb frame.bits 60 then spaced u.val (openFrame u.val frame.bits) p else p)) s

/-- PURL_SESSION_CLOSE: a SESSION frame with OPEN 0 (06 R209). -/
def execPurlSessionClose (u : Fin 8) (frame : PurlIn) (t : Nat) (s : State) : Out :=
  run1 (takeFrame 3 u.val frame t (fun p =>
    if tb frame.bits 60 then p else spaced u.val (bySeq u.val frame.bits (newClose u.val frame.bits)) p)) s

/-- A KEEPALIVE is valid only with every other field zero (06 R200). -/
def keepalive (u w : Nat) (p : Pkg) : Pkg :=
  if fld w 60 8 = 0 then updPp u (fun x => { x with lastOk := p.clk }) p else discardFrame u p

/-- KEEPALIVE (06 R200). -/
def execKeepalive (u : Fin 8) (frame : PurlIn) (t : Nat) (s : State) : Out :=
  run1 (takeFrame 2 u.val frame t (keepalive u.val frame.bits)) s

/-! ### Sending (06 R201, R202, R218) -/

/-- The 64 bits of an acknowledgement frame, as the die that is active sends it (06 R201). -/
def ackFrame (p : Pkg) (a : Ack) : Nat :=
  let k := match a.kind with
    | .accepted => 0
    | .reached => 1
    | .superseded => 2
    | .refused => 3
  withCrc (4 * 2 ^ 61 + k * 2 ^ 59 + a.vref % 2 ^ 18 * 2 ^ 40 + a.seq % 256 * 2 ^ 32 + a.cause % 256 * 2 ^ 24 + a.bySeq % 256 * 2 ^ 16
    + bit a.climit * 2 ^ 15 + bit (a.turn != p.duo.turns) * 2 ^ 14 + bit a.compat * 2 ^ 13)

/-- The port's transmitter drives the line: a Stitch die is active, and its own decoder selects it (01 R17, 06 R198). -/
def purlDrives (p : Pkg) : Bool := purlOn p && drives p

/-- The transmitter is free: the frame before has been sent in full, and the oldest queued acknowledgement starts; with none, the
status frame that waits (06 R202, R212). -/
def ackTransmit (u : Nat) (p : Pkg) : Pkg :=
  if !purlDrives p then p
  else
    match (ppAt p u).queue, (ppAt p u).status with
    | a :: l, _ => updPp u (fun x => { x with queue := l, sending := some a, tx := ackFrame p a :: x.tx }) p
    | [], some w => updPp u (fun x => { x with sending := none, status := none, tx := w :: x.tx }) p
    | [], none => updPp u (fun x => { x with sending := none }) p

/-- PURL_ACK_TRANSMIT (06 R218). -/
def execPurlAckTransmit (u : Fin 8) (s : State) : Out := run1 (ackTransmit u.val) s

/-- The boundary's status frame on every UP port: at once where no acknowledgement is queued or on the line, otherwise after them
(06 R202). -/
def statusFrames (p : Pkg) : Pkg :=
  if !purlDrives p then p
  else (List.range 8).foldl (fun p u =>
    let w := statusFrame p (regionOf u)
    if !(ppAt p u).up then p
    else if (ppAt p u).queue.isEmpty ∧ (ppAt p u).sending.isNone then updPp u (fun x => { x with tx := w :: x.tx }) p
    else updPp u (fun x => { x with status := some w }) p) p

/-- After a switchover every acknowledgement that the mirror does not show as sent in full is sent again, in order; ackFrame sets
FAILOVER in it. A status frame cut or waiting is not (06 R212). -/
def resendAcks (p : Pkg) : Pkg :=
  (List.range 8).foldl (fun p u => updPp u (fun x => { x with queue := cap 16 x.mir, sending := none, status := none, mirNext := x.mir }) p) p

/-- What the boundary leaves of the register path: SLEWING as the references stand, and the rate of its slews fixed (06 R213, R217). -/
def regEnd (p : Pkg) : Pkg := (List.range 4).foldl (fun p r => updVr r (fun v => { v with slewing := slewing p r, regNew := false }) p) p

/-! ### The register path (06 R213 to R216) -/

/-- SRC permits the register path (06 R214). -/
def regSrc (p : Pkg) (r : Nat) : Bool := (vrAt p r).src == .register || (vrAt p r).src == .both

/-- A session request through VCMD_RGr_SESSION (06 R215). -/
def regOpen (r : Nat) (p : Pkg) : Pkg :=
  let v := vrAt p r
  let c := if (dcdcOf p r).isEmpty then 3 else if v.target > vLow p r then 1 else startCheck p r v.target none
  if c ≠ 0 then updVr r (fun v => { v with lastCause := c }) p
  else updVr r (fun v => { v with regNew := true }) (startSession r .register v.target none v.slew 0 0 [] p)

/-- A write of VCMD_RGr_SESSION.OPEN (06 R215). -/
def sessionWrite (r : Nat) (on : Bool) (p : Pkg) : Pkg :=
  let v := vrAt p r
  if !regSrc p r then p
  else if on ∧ v.session.isNone then regOpen r p
  else if !on ∧ v.session.isSome then endSession r 8 p
  else p

/-- VCMD_SESSION_WRITE (06 R215). -/
def execVcmdSessionWrite (r : Fin 4) (open_ : Bool) (s : State) : Out := run1 (sessionWrite r.val open_) s

/-- The register path's target comes into force: it supersedes what has not reached its target (06 R213). -/
def regTarget (r : Nat) (p : Pkg) : Pkg :=
  let v := vrAt p r
  let p1 := supersede r none true p
  setCommand r .register v.target none v.slew 0 (updVr r (fun v => { v with regSlew := true, regNew := true }) p1)

/-- A write of VCMD_RGr_TARGET is applied: refused where SRC or the range forbids it; with no session it is stored, and
opens one under AUTO_OPEN (06 R213 to R216; log 40). -/
def targetWrite (r val : Nat) (p : Pkg) : Pkg :=
  if !regSrc p r ∨ val > vLow p r then p
  else
    let p1 := updVr r (fun v => { v with target := val, writes := (v.writes + 1) % 256, reached := false }) p
    let v := vrAt p1 r
    if v.session.isSome then regTarget r p1 else if v.autoOpen then regOpen r p1 else p1

/-- VCMD_TARGET_WRITE (06 R213). -/
def execVcmdTargetWrite (r : Fin 4) (val : Nat) (s : State) : Out := run1 (targetWrite r.val val) s

/-- VCMD_WRITE's checks (06 R214, R216). -/
def specVcmdWrite : OpSpec :=
  { op := 0x0201, lenOk := (·.length == 8), role := needOpr, modes := idleToIsolated
    params := fun p d => inR 0 3 (u8 d 0) && zeros d 1 1 && inR 0 500 (u16 d 2) && regSrc p (u8 d 0) &&
      decide (u32 d 4 ≤ vLow p (u8 d 0)) }

/-- VCMD_WRITE: the command's checks (06 R216). -/
def execVcmdWrite (ep : Fin 3) (slot : Fin 64) (s : State) : Out := run1 (submit specVcmdWrite true (slotIx ep slot) noAns) s

/-- A write of VCMD_RGr_SLEW; a target of the register path that came into force at the same boundary moves at it (06 R213). -/
def slewWrite (r val : Nat) (p : Pkg) : Pkg :=
  let p1 := updVr r (fun v => { v with slew := val }) p
  if (vrAt p1 r).cmdBy = .register ∧ (vrAt p1 r).regNew then
    (dcdcOf p1 r).foldl (fun p n => updRun n (fun x => { x with cmdRate := val }) p) (updVr r (fun v => { v with cmdSlew := val }) p1)
  else p1

/-- VCMD_WRITE applied (06 R216). -/
def applyVcmdWrite (d : List Byte) (p : Pkg) : Pkg :=
  targetWrite (u8 d 0) (u32 d 4) (if u16 d 2 = 0 then p else slewWrite (u8 d 0) (u16 d 2) p)

end Sys2Proof.Machine
end

