-- ==== Sys2Proof/Machine/TimeThermal.lean ====
section
/-!
DEFINITION. Time and temperature (19 R554 to R572): the PPS input, the rate trim and the frequency error, acquisition
and steps of the time counter, and the forty sensors with their exclusions, thresholds and hardware shutdown.
-/

namespace Sys2Proof.Machine

/-- Change the time block. -/
def updTim (f : Tim → Tim) (p : Pkg) : Pkg := { p with tim := f p.tim }

/-- Set bits of TIM_EVT. -/
def timEvt (f : TimEvt → TimEvt) (p : Pkg) : Pkg := { p with tim := { p.tim with evt := f p.tim.evt } }

/-! ### Frequency error (19 R564) -/

/-- The bin of TIM_HOLDb in which Selvedge sensor 30 reads, 5 °C each from −20 °C (19 R564). -/
def holdBin (p : Pkg) : Option Nat :=
  let s := p.thm.sens.getD 30 {}
  match s.t with
  | some t => if s.reason = 0 ∧ -200 ≤ t ∧ t < 1000 then some (((t + 200) / 50).toNat) else none
  | none => none

/-- A measured e is taken, in force and in the bin of the present temperature (19 R564). -/
def freqMeasured (e : Int) (p : Pkg) : Pkg :=
  let lim : Int := 2 ^ 23
  let bin := fun (x : HoldBin) => { n := min 255 (x.n + 1), e := clampI (-lim) (lim - 1) (rdiv e 100) : HoldBin }
  updTim (fun t => { t with e := e, hold := match holdBin p with
    | some b => upd t.hold b bin
    | none => t.hold }) p

/-! ### PPS input (19 R559) -/

/-- The nearest whole second of the counter to a reading, ties upwards (19 R559). -/
def nearSec (x : Int) : Int := (x + 500000000) / 1000000000 * 1000000000

/-- A valid edge: phase, the counts behind PPS_VALID and alignment, and the 64 s span (19 R559, R564). -/
def ppsGood (stamp ref : Nat) (p : Pkg) : Pkg :=
  let x := p.tim.pps
  let at_ : Int := (stamp : Int) - p.tim.delay
  let phi := at_ - nearSec at_
  let good := min 8 (x.good + 1)
  let close := if phi.natAbs < 18 then min 8 (x.close + 1) else 0
  let valid := x.valid || decide (good ≥ 8)
  let clk : Int := (p.clk : Int) + stamp - p.tim.now
  let y := { x with valid := valid, good := good, close := close, aligned := valid && decide (close ≥ 8), phi := phi
                    last := some ref, lastClk := some clk.toNat, bad := 0 }
  let set := fun s => updTim (fun t => { t with pps := { y with span := s } }) p
  let p1 := if !valid then set none
    else match x.span with
      | none => set (some (0, ref))
      | some (n, r) =>
        if n + 1 < 64 then set (some (n + 1, r))
        else freqMeasured (rdiv (((ref : Int) - r - 1600000000) * 10 ^ 12) 1600000000) (set (some (0, ref)))
  timeState (timeSource p1)

/-- An edge outside the window; three in a row set PPS_JUMP (19 R559). -/
def ppsBad (p : Pkg) : Pkg :=
  let x := p.tim.pps
  let jump := decide (x.bad + 1 ≥ 3)
  timEvt (fun e => { e with jump := e.jump || jump })
    (updTim (fun t => { t with pps := { x with bad := min 3 (x.bad + 1), missed := cap 255 (p.clk :: x.missed)
                                               good := if x.valid then x.good else 0 } }) p)

/-- A PPS edge with its time stamp and the reference cycles counted at it: valid 1 s ± 100 µs after the previous valid
edge, or when there is none (19 R559). -/
def ppsEdge (stamp ref : Nat) (p : Pkg) : Pkg :=
  let ok : Bool := match p.tim.pps.last with
    | none => true
    | some r => inR 24997500 25002500 (ref - r) && decide (r ≤ ref)
  if ok then ppsGood stamp ref p else ppsBad p

/-- PPS_EDGE (19 R559). -/
def execPpsEdge (stamp ref : Nat) (s : State) : Out := run1 (ppsEdge stamp ref) s

/-- 3 s without a valid edge: PPS_VALID falls, and the next edge starts the count again (19 R559). -/
def ppsLost (p : Pkg) : Pkg :=
  let x := p.tim.pps
  match x.lastClk with
  | none => p
  | some c =>
    if !due p (c + 3000000000) then p
    else
      let gone := (List.range (3 - x.bad)).map (fun _ => p.clk)
      let y := { x with valid := false, aligned := false, good := 0, close := 0, bad := 0, last := none, lastClk := none, span := none
                        missed := cap 255 (gone ++ x.missed) }
      let p1 := updTim (fun t => { t with pps := y }) p
      timeState (timeSource (if x.valid then timEvt (fun e => { e with lost := true }) p1 else p1))

/-- PPS_LOST (19 R559). -/
def execPpsLost (s : State) : Out := run1 ppsLost s

/-! ### Rate trim (19 R560) -/

/-- The phase that the trim takes, in ns, while it is freqMeasured (19 R560). -/
def phiNow (p : Pkg) : Option Rat :=
  match p.tim.sync with
  | .pps => some (p.tim.pps.phi : Rat)
  | .fabric => some ((p.dfn.time.offset : Rat) / 1000)
  | _ => none

/-- Without PPS in state FABRIC, the reference cycles between counter seconds of the upstream over 64 s (19 R564). -/
def fabricSpan (p : Pkg) : Pkg :=
  if p.tim.sync ≠ .fabric ∨ p.tim.pps.valid then updTim (fun t => { t with fspan := none }) p
  else
    let off := ((p.dfn.time.offset : Rat) / 1000)
    match p.tim.fspan with
    | none => updTim (fun t => { t with fspan := some (0, 0, off) }) p
    | some (n, c, o) =>
      let c1 := c + 25000000 / (1 + p.tim.a)
      if n + 1 < 64 then updTim (fun t => { t with fspan := some (n + 1, c1, o) }) p
      else
        let sec : Rat := 64 + (off - o) / 1000000000
        let e := (c1 / (25000000 * sec) - 1) * 1000000000000
        freqMeasured (rdiv e.num e.den) (updTim (fun t => { t with fspan := some (0, 0, off) }) p)

/-- Once per second the rate is trimmed from the phase; in HOLDOVER the present bin's values are taken
(19 R560, R564). -/
def rateTrim (p0 : Pkg) : Pkg :=
  let p := fabricSpan p0
  let clampR := fun (x : Rat) => if x < -(1 / 1000) then -(1 / 1000) else if x > 1 / 1000 then 1 / 1000 else x
  match p.tim.sync with
  | .unsync => p
  | .holdover =>
    let bin := ((holdBin p).map (fun b => p.tim.hold.getD b {})).filter (fun x => x.n ≠ 0)
    updTim (fun t =>
      let f := match bin with
        | some x => (x.e : Rat) / 10000000000
        | none => t.fEst
      { t with fEst := f, phiPrev := none, a := clampR (-f), e := match bin with
          | some x => x.e * 100
          | none => t.e }) p
  | _ =>
    let phi := (phiNow p).getD 0
    updTim (fun t =>
      let f := match t.phiPrev with
        | some q => t.fEst + (phi - q) / 1000000000 / 16
        | none => t.fEst
      { t with fEst := f, phiPrev := some phi, a := clampR (-(f + phi / 8000000000)) }) p

/-- TIME_RATE_TRIM (19 R560). -/
def execTimeRateTrim (s : State) : Out := run1 rateTrim s

/-- Once per second the counter is journaled; not while a final save runs, nor under NV-write inhibit (19 R557). -/
def timeJournal (p : Pkg) : Pkg :=
  if p.mtr.nvBlock ∨ p.mtr.save ≠ .none then p else updTim (fun t => { t with nvNow := t.now }) p

/-- TIME_JOURNAL (19 R557). -/
def execTimeJournal (s : State) : Out := run1 timeJournal s

/-! ### Steps and acquisition (19 R556, R561, R565) -/

/-- The counter moves by a signed amount, which TIM_STEP_SUM takes; start times of readmissions move with it
(19 R556, 11 R376). -/
def moveCounter (delta : Int) (p : Pkg) : Pkg :=
  let mv := fun (x : Nat) => ((x : Int) + delta).toNat
  let p1 := updTim (fun t => { t with now := mv t.now, stepSum := t.stepSum + delta, lastSet := mv t.now }) p
  let d := p1.duo
  { p1 with duo := { d with a := { d.a with readmits := d.a.readmits.map mv }, b := { d.b with readmits := d.b.readmits.map mv } } }

/-- The offset to the upstream after the counter has moved (13 R438). -/
def moveOffset (delta : Int) (p : Pkg) : Pkg :=
  { p with dfn := { p.dfn with time := { p.dfn.time with offset := p.dfn.time.offset - delta * 1000 } } }

/-- The pending step takes effect at EFFECTIVE, after the supervisory and ledger boundary that falls there (19 R565). -/
def stepEffective (p : Pkg) : Pkg :=
  match p.tim.step_ with
  | none => p
  | some x =>
    if p.tim.now < x.eff ∨ p.sys.ldgDue then p
    else
      let delta : Int := (x.new : Int) - x.eff
      let old := p.tim.now
      let p1 := moveOffset delta (moveCounter delta (updTim (fun t => { t with step_ := none, noAcq := false, acq := none }) p))
      let large := p1.tim.large && decide (p1.dfn.time.offset.natAbs ≥ 1000000000)
      let p2 := updTim (fun t => { t with large := large, sync := if t.sync = .unsync then .holdover else t.sync }) p1
      let p3 := timEvt (fun e => { e with step := true }) (prickingCut p2.tim.now (timeShift delta p2))
      let p4 := { p3 with bil := { p3.bil with setAt := some (old, p3.tim.now, p3.clk) } }
      finishWork x.work .ok (timeState (timeSource p4))

/-- TIME_STEP_EFFECTIVE (19 R565). -/
def execTimeStepEffective (s : State) : Out := run1 stepEffective s

/-- The offset, in ns, of the present synchronised neighbour with the least tuple, once the last 8 exchanges with it
agree within 1 µs (19 R561). -/
def agreed (p : Pkg) : Option Int :=
  match leastTuple (timeNbrs p) with
  | none => none
  | some t =>
    let x := nlAt p t.2.2.2
    let l := x.exs.map (exOffset x)
    let close := l.all (fun a => l.all (fun b => decide ((a - b).natAbs ≤ 1000000)))
    if l.length = 8 ∧ close then (bestEx x).map (fun e => rdiv (exOffset x e) 1000) else none

/-- The counter is acquired, or the acquisition is refused where it would go back (19 R561). -/
def acquire (off : Int) (p0 : Pkg) : Pkg :=
  let p := updTim (fun t => { t with acq := none }) p0
  if p.tim.sync ≠ .unsync ∨ p.tim.noAcq ∨ p.sys.mode ≠ .idle then p
  else if off < 0 then timEvt (fun e => { e with acqRef := true }) (updTim (fun t => { t with noAcq := true }) p)
  else
    let p1 := moveOffset off (moveCounter off p)
    let p2 := timEvt (fun e => { e with acquired := true }) (updTim (fun t => { t with sync := .holdover }) p1)
    deferred (timeState (timeSource p2))

/-- An acquisition: at the boundary just processed, or at the next one (19 R561, 01 R33). -/
def acquisition (p : Pkg) : Pkg :=
  if !awake p ∨ p.tim.sync ≠ .unsync ∨ p.tim.noAcq ∨ p.sys.mode ≠ .idle then p
  else match agreed p with
    | none => p
    | some off => if p.tim.now % 1000000 = 0 then acquire off p else updTim (fun t => { t with acq := some off }) p

/-- TIME_ACQUISITION (19 R561). -/
def execTimeAcquisition (s : State) : Out := run1 acquisition s

/-- The acquisition that waited for the boundary (19 R561). -/
def acquireWaiting (p : Pkg) : Pkg :=
  match p.tim.acq with
  | some off => acquire off p
  | none => p

/-- The ledger cycle of the 10 ms boundary just reached: once, and before an acquisition that waits for the boundary
(01 R33, 19 R561). -/
def ledgerBoundary (p : Pkg) : Pkg :=
  if !p.sys.ldgDue then p
  else acquireWaiting (ledgerSettle (ledgerCycle
    { p with sys := { p.sys with ldgDue := false, ldgCycles := p.sys.ldgCycles + 1 }, ldg := { p.ldg with temp := tempFor p } }))

/-- LEDGER_CYCLE (08 R266). -/
def execLedgerCycle (s : State) : Out := run1 ledgerBoundary s

/-- EFFECTIVE and NEW_TIME are ones that a TIME_STEP applied at a site time may carry (19 R566). -/
def stepOk (t : Nat) (d : List Byte) (p : Pkg) : Bool :=
  let eff := u64 d 0
  let e := if eff = 0 then t else eff
  (eff = 0 || (eff % 1000000000 == 0 && inR (t + 1000000000) (t + 3600000000000) eff)) &&
    (!p.tim.pps.valid || ((u64 d 8 : Int) - e) % 1000000000 == 0)

/-- A TIME_STEP is pending, applied or accepted (19 R566). -/
def stepPending (p : Pkg) : Bool :=
  p.tim.step_.isSome || p.mbx.work.any (fun w => w.opcode == 0x0C01 && w.state == .accepted)

/-- TIME_STEP's checks (19 R565, R566, R579). -/
def specTimeStep : OpSpec where
  op := 0x0C01
  lenOk d := d.length == 144
  role := needOpr
  params p d := stepOk (p.tim.now + (1000000 - p.tim.now % 1000000)) d p
  signed _ _ := some .operator
  modes := notRetired
  busy p _ := stepPending p

/-- TIME_STEP: the command's checks (19 R566). -/
def execTimeStep (ep : Fin 3) (slot : Fin 64) (sigOk : Bool) (s : State) : Out :=
  run1 (submit specTimeStep sigOk (slotIx ep slot) noAns) s

/-- TIME_STEP applied: it waits for EFFECTIVE (19 R565, R566). -/
def applyTimeStep (id : Nat) (d : List Byte) (p : Pkg) : Pkg :=
  if p.tim.step_.isSome then finishWork id .busy p
  else if !stepOk p.tim.now d p then finishWork id .badParameter p
  else
    let eff := if u64 d 0 = 0 then p.tim.now else u64 d 0
    runWork id (updTim (fun t => { t with step_ := some { eff := eff, new := u64 d 8, work := id } }) p)

/-! ### Temperature (19 R567 to R571) -/

/-- First sensor and number of sensors of the die that a sensor sits on (19 R567). -/
def sensorDie (s : Nat) : Nat × Nat :=
  if s < 10 then (0, 10) else if s < 20 then (10, 10) else if s < 30 then (20, 10) else if s < 34 then (30, 4) else (34, 6)

/-- Reading of a sensor that is valid (19 R567, R568). -/
def Sensor.valid (x : Sensor) : Option Int := if x.reason = 0 then x.t else none

/-- A list in ascending order. -/
def sortI : List Int → List Int
  | [] => []
  | a :: l =>
    let s := sortI l
    s.takeWhile (· < a) ++ a :: s.dropWhile (· < a)

/-- Twice the median of a list, none for an empty one (19 R568). -/
def median2 (l : List Int) : Option Int :=
  let s := sortI l
  let n := s.length
  if n = 0 then none else some (s.getD ((n - 1) / 2) 0 + s.getD (n / 2) 0)

/-- Valid readings of a sensor's neighbours (19 R568). -/
def neighbours (l : List Sensor) (s : Nat) : List Int :=
  let d := sensorDie s
  ((List.range d.2).filter (fun k => d.1 + k ≠ s)).filterMap (fun k => (l.getD (d.1 + k) {}).valid)

/-- A sensor takes its reading; one out of range is excluded (19 R567, R568). -/
def readSensor (t : Option Int) (x : Sensor) : Sensor :=
  match t with
  | none => x
  | some v =>
    let moved := x.t != some v
    { x with t := some v, same := if moved then 0 else min 100000 (x.same + 1), med := if moved then none else x.med
             reason := if x.reason = 0 ∧ (v < -550 ∨ v > 2000) then 1 else x.reason }

/-- A sensor against the median of its valid neighbours: DEV, 100 samples off by more than 12 °C, and 10 s without a
change while the median moved by 5 °C (19 R568, R581). -/
def judgeSensor (l : List Sensor) (s : Nat) (x : Sensor) : Sensor :=
  let nb := neighbours l s
  match x.t, median2 nb with
  | some v, some m =>
    let off := if nb.length ≥ 2 ∧ (2 * v - m).natAbs > 240 then min 100 (x.off + 1) else 0
    let lh := match x.med with
      | some (a, b) => (min a m, max b m)
      | none => (m, m)
    let why := if x.reason ≠ 0 then x.reason else if off ≥ 100 then 2
      else if x.same ≥ 100000 ∧ lh.2 - lh.1 ≥ 100 then 3 else 0
    { x with dev := rdiv (2 * v - m) 2, off := off, med := some lh, reason := why }
  | _, _ => { x with dev := 0, off := 0 }

/-- The count of consecutive samples at 140 °C or above (19 R571). -/
def heatSensor (x : Sensor) : Sensor :=
  { x with hot := match x.valid with
      | some v => if v ≥ 1400 then min 3 (x.hot + 1) else 0
      | none => 0 }

/-- Highest value of a list. -/
def maxZ : List Int → Option Int
  | [] => none
  | a :: l => some (l.foldl max a)

/-- Valid readings of every sensor. -/
def validTemps (l : List Sensor) : List Int := l.filterMap Sensor.valid

/-- The highest die temperature: a die without a valid sensor takes the highest valid reading of any other plus 20 °C
(19 R569). -/
def dieMax (l : List Sensor) : Option Int :=
  let of_ := fun d => maxZ (((l.drop (sensorDie d).1).take (sensorDie d).2).filterMap Sensor.valid)
  (maxZ (validTemps l)).map (fun top => if [0, 10, 20, 30, 34].any (fun d => (of_ d).isNone) then top + 200 else top)

/-- A threshold's flag: set above its level, cleared 5 °C below it (19 R570). -/
def crossed (max_ level : Int) (old : Bool) : Bool := decide (max_ > level) || (old && decide (max_ > level - 50))

/-- The three thresholds on the present highest die temperature, with their actions (19 R570, R576). -/
def thmCheck (p : Pkg) : Pkg :=
  let h := p.thm
  let w := crossed h.max_ h.tWarn h.warn
  let q := crossed h.max_ h.tQuiet h.quiet
  let st := crossed h.max_ h.tStop h.stop
  let e := h.evt
  let h1 := { h with warn := w, quiet := q, stop := st, calm := if h.max_ < h.tStop - 50 then some (h.calm.getD p.clk) else none
                     evt := { e with warn := e.warn || w, quiet := e.quiet || q, stop := e.stop || st } }
  let p1 := { p with thm := h1 }
  if st then ownFault false p1 else p1

/-- The hardware thermal shutdown (19 R571). -/
def shutdown (p : Pkg) : Pkg :=
  if p.sys.thermHold ∨ inMode p [.reset, .retired] ∨ p.sys.pendingRst.contains .thermal ∨ !p.thm.sens.any (fun x => x.hot ≥ 3) then p
  else requestReset .thermal { p with thm := { p.thm with shutdowns := inc16 p.thm.shutdowns, evt := { p.thm.evt with shutdown := true } } }

/-- The sensors after one sample (19 R567, R568, R571). -/
def sampled (temps : List Int) (p : Pkg) : List Sensor :=
  let l := mapI (fun s x => readSensor temps[s]? x) p.thm.sens
  (mapI (judgeSensor l) l).map heatSensor

/-- All sensors are sampled on one step of the grid; with none valid the highest temperature is a free value
(19 R567 to R571). -/
def sensorSample (temps : List Int) (p : Pkg) : Pkg :=
  let l := sampled temps p
  let new := anyI (fun s (x : Sensor) => x.reason ≠ 0 && (p.thm.sens.getD s {}).reason == 0) l
  let cool := (validTemps l).all (· < 1100)
  let p1 : Pkg := { p with thm := { p.thm with sens := l, cool := if cool then min 100000 (p.thm.cool + 1) else 0
                                               evt := { p.thm.evt with excl := p.thm.evt.excl || new } } }
  let p2 : Pkg := match dieMax l with
    | some m => { p1 with thm := { p1.thm with max_ := m } }
    | none => let f := drawFree 16 p1; { f.2 with thm := { f.2.thm with max_ := sext 16 f.1 } }
  shutdown (thmCheck p2)

/-- SENSOR_SAMPLE (19 R567). -/
def execSensorSample (temps : List Int) (s : State) : Out := run1 (sensorSample temps) s

/-- THM_LIMITS' checks (19 R570, R579). -/
def specThmLimits : OpSpec where
  op := 0x0C02
  lenOk d := d.length == 8
  role := needOpr
  params _ d := decide (800 ≤ sle d 0 2 ∧ sle d 0 2 ≤ 1300 ∧ sle d 0 2 ≤ sle d 2 2 ∧ sle d 2 2 ≤ 1350 ∧ sle d 2 2 ≤ sle d 4 2 ∧
    sle d 4 2 ≤ 1350) && zeros d 6 2
  modes := onlyIdle

/-- THM_LIMITS: the command's checks (19 R579). -/
def execThmLimits (ep : Fin 3) (slot : Fin 64) (s : State) : Out := run1 (submit specThmLimits true (slotIx ep slot) noAns) s

/-- THM_LIMITS applied (19 R570, R579). -/
def applyThmLimits (d : List Byte) (p : Pkg) : Pkg :=
  thmCheck { p with thm := { p.thm with tWarn := sle d 0 2, tQuiet := sle d 2 2, tStop := sle d 4 2 } }

end Sys2Proof.Machine
end

