-- ==== Sys2Proof/Machine/Package.lean ====
section
/-!
DEFINITION. The package as a whole (02 R62 to R79, 19 R571 to R578): supply events, package resets and what each
keeps, start-up to the end of the self-test, mode requests and service grants, and life-cycle changes.
-/

namespace Sys2Proof.Machine

/-! ### What a package reset keeps (02 R72, R76, R77) -/

/-- Bit number of a cause in SYS_RESET_CAUSE (02 R74). -/
def causeBit : ResetCause → Nat
  | .por => 1 | .pin => 2 | .cmd => 3 | .thermal => 4 | .mem => 5 | .lc => 6 | .dieA => 7 | .dieB => 8 | .retry => 9

/-- A cause is recorded (02 R74). -/
def setCause (r : ResetCauses) : ResetCause → ResetCauses
  | .por => { r with por := true }
  | .pin => { r with pin := true }
  | .cmd => { r with cmd := true }
  | .thermal => { r with thermal := true }
  | .mem => { r with mem := true }
  | .lc => { r with lc := true }
  | .dieA => { r with dieA := true }
  | .dieB => { r with dieB := true }
  | .retry => { r with retry := true }

/-- The ledger and work-id regions are wiped but for the high-water marks, at a seal break or reseal (02 R76, R77,
17 R526). -/
def wipeSeal (p : Pkg) : Pkg :=
  let n := p.ldg.nv
  let wins := p.dfn.nv.wins.map (fun w => { w with wipedAt := w.high, done := [] })
  { p with
      ldg := { p.ldg with nv := { map_ := n.map_, pendMap := n.pendMap, graceTo := n.graceTo } }
      dfn := { p.dfn with nv := { p.dfn.nv with wins := wins, owed := [], copies := [] } }
      mbx := { p.mbx with work := [], seqs := p.mbx.seqs.map (fun c => { c with acc := [] }) }
      bil := { p.bil with dlmsAcc := [] }
      bat := { p.bat with str := p.bat.str.map (fun x => { x with nv := { cap := { q := x.cfg.qNom } } }) } }

/-- Every region is wiped but the life-cycle log, and the root and keys are gone, at scrapping (02 R76, 18 R552). -/
def wipeScrap (p : Pkg) : Pkg :=
  rootDestroy
    { p with
        ldg := { p.ldg with nv := {} }
        dfn := { p.dfn with nv := {} }
        mbx := { p.mbx with work := [], seqs := [], workCtr := 0, boots := 0 }
        mtr := { p.mtr with meter := List.replicate 6 {} }
        bil := {}
        bat := {}
        tim := { p.tim with nvNow := 0, e := 0, hold := List.replicate 24 {}, lastSet := 0 }
        thm := { p.thm with shutdowns := 0 }
        sup := { p.sup with warnInh := 0, save := 0 }
        pln := { p.pln with net := p.pln.net.map (fun n => { n with nvCtr := 0, ctr := 0 }) }
        sys := { p.sys with jMode := none }

        loads := [], store := [], ready := [], config := none
        key := { p.key with exported := false, fw := [{}, {}], next := none, wraps := [] } }

/-- The wipe of the life-cycle change that this reset puts in force (02 R71, R76). -/
def wipeLc (p : Pkg) : Pkg :=
  let old := p.sys.lcRead.lc
  let new := p.sys.fuses.lc
  if new = .scrapped ∧ old ≠ .scrapped then wipeScrap p
  else if (old = .field ∧ new = .service) ∨ (old = .service ∧ new = .field) then wipeSeal p
  else p

/-- The previous valid copy of a receipt's record: before its acknowledgement, before its close, none before it was opened
(01 R35, 10 R338, R349; log 97). -/
def prevRcpt (x : Receipt) : Option Receipt :=
  match x.st with
  | .acked => some { x with st := .closed }
  | .closed => some { x with st := .open_ }
  | .open_ => none

/-- The previous valid copy of a receive window: without the counter marked last (01 R35, 13 R430; log 97). -/
def prevWin (w : WorkWin) : WorkWin :=
  let l := w.done.drop 1
  { w with done := l, high := l.foldl (fun a x => max a x.1) w.wipedAt }

/-- Billing after a reset: what the journal holds; the rest at its reset value (02 R76, 10 R350). -/
def keepBil (b : Bil) : Bil :=
  let rg := b.rg.map (fun g => { tar := g.tar, maxDem := g.maxDem, maxTime := g.maxTime, perE := g.perE, perNs := g.perNs
                                 hist := g.hist, rcpt := g.rcpt : BilRegion })
  { rg := rg, cal := b.cal, passive := b.passive, tariff := b.tariff, period := b.period, closeT := b.closeT, holdT := b.holdT
    demT := b.demT, bilT := b.bilT, season := b.season, marks := b.marks, load := b.load, prof := b.prof, events := b.events
    evIdx := b.evIdx, rcpts := b.rcpts.filterMap (fun x => if b.badRcpt.contains x then prevRcpt x else some x), rcptCtr := b.rcptCtr, dlmsAcc := b.dlmsAcc }

/-- Metering after a reset: fuses and journal slots; a burn that was running leaves a bank that is skipped (02 R76,
09 R291). -/
def keepMtr (m : Mtr) : Mtr :=
  { meter := m.meter.map (fun x => { acc := x.acc, frac := x.frac, seq := x.seq, gap := x.gap, slots := x.slots : Meter })
    bank0 := m.bank0
    banks := m.banks ++ (match m.burn with
      | some b => [(b, false)]
      | none => [])
    nvBlock := m.nvBlock }

/-- A string after a reset: its configuration and what the journal holds of it; an open learning cycle is disqualified
(17 R525, R526). -/
def keepStr (x : BStr) : BStr :=
  { cfg := x.cfg, nv := x.nv, cap := x.nv.cap, st := if x.cfg.en then .absent else .disabled
    reason := if x.est.learn.isSome then 6 else 0 }

/-- The package after a reset: fuses, the journal, the image store and the always-on domain stay, every other field
takes its reset value, and the time counter resumes from its last journaled value (02 R72, R74, R76, 19 R557). -/
def afterReset (p : Pkg) : Pkg :=
  let keepDie := fun (d : DieRec) => { readmits := d.readmits : DieRec }
  { clk := p.clk
    sys := { mode := .reset, jMode := p.sys.jMode, fuses := p.sys.fuses, lcLog := p.sys.lcLog, lcRead := p.sys.fuses, cause := p.sys.cause
             resetBit := p.sys.resetBit, thermHold := p.sys.thermHold, retryIval := p.sys.retryIval
             wiped := List.replicate 5 false }
    mbx := { boots := (p.mbx.boots + 1) % 65536, seqs := p.mbx.seqs, workCtr := p.mbx.workCtr, work := p.mbx.work }
    eye := { map := p.eye.map, fused := p.eye.fused, dt := p.eye.dt
             port := p.eye.port.map (fun e => { faultN := e.faultN : EyePort }) }
    ldg := { nv := { p.ldg.nv with outs := p.ldg.nv.outs.filter (fun x => !p.ldg.badOut.contains x)
                                   ins := p.ldg.nv.ins.filter (fun x => !p.ldg.badIn.contains x) }, upSince := p.clk }
    mtr := keepMtr p.mtr
    bil := keepBil p.bil
    duo := { a := keepDie p.duo.a, b := keepDie p.duo.b }
    dfn := { nv := { p.dfn.nv with wins := p.dfn.nv.wins.map (fun w => if p.dfn.badWin.contains w then prevWin w else w)
                                   owed := p.dfn.nv.owed.filter (fun r => r.kind != 1 || p.mbx.work.any (fun w => w.id == r.id)) }
             serial := p.dfn.serial }
    pln := { net := p.pln.net.map (fun n => { nvCtr := n.nvCtr, ctr := n.nvCtr + 4096 : PNet }) }
    bat := { str := p.bat.str.map keepStr, reserve := p.bat.reserve
             evt := { disq := p.bat.str.any (·.est.learn.isSome) } }
    key := { slots := p.key.slots, wraps := p.key.wraps, killed := p.key.killed, exported := p.key.exported, opr := p.key.opr, met := p.key.met
             rollback := p.key.rollback, revoked := p.key.revoked, fw := p.key.fw, next := p.key.next }
    tim := { now := p.tim.nvNow, nvNow := p.tim.nvNow, e := p.tim.e, hold := p.tim.hold, lastSet := p.tim.lastSet }
    thm := { shutdowns := p.thm.shutdowns }
    sup := { p.sup with started := false }
    loads := p.loads, store := p.store, ready := p.ready, config := p.config, freeN := p.freeN }

/-! ### Start-up (02 R78) -/

/-- Steps 3 and 4: the Ground die meters again from the journal, the Stitch dies leave reset and their lanes start, and
the mode is BOOT; a scrapped part is RETIRED (02 R65, R78, 09 R311, 10 R316, R337). -/
def tryStart (p : Pkg) : Pkg :=
  if p.sys.mode = .retired ∨ p.sup.upAt.isNone ∨ p.sup.started then p
  else if p.sys.lcRead.lc = .scrapped then setMode .retired p
  else if p.sys.thermHold ∨ !p.sup.vanaOk ∨ p.sup.vioOk.contains false then p
  else
    let p1 := setMode .boot { p with sup := { p.sup with started := true } }
    let p2 := match p1.config with
      | some c => takeHost c p1
      | none => p1
    let p3 := loadKey .journal (logEvent 2 0xFFFF 0 ([byte p2.sys.resetBit, 0] ++ toLe 2 p2.mbx.boots) p2)
    (List.range 8).foldl (fun p l => laneStart l p) (restartMeters p3.sys.resetBit (faultsAtStart p3))

/-- A package reset is asserted: causes recorded, a life-cycle change put in force with its wipe, every volatile memory
wiped; reset is released again while the supply is good (02 R65, R72, R74). -/
def assertReset (causes : List ResetCause) (p : Pkg) : Pkg :=
  let hold := causes.contains .thermal && !causes.contains .por
  let bit := causeBit (if causes.contains .por then .por else causes.headD .por)
  let p1 := { p with sys := { p.sys with cause := causes.foldl setCause p.sys.cause, resetBit := bit
                                         thermHold := hold || (p.sys.thermHold && !causes.contains .por) } }
  tryStart (afterReset (wipeLc p1))

/-- The pending package reset is asserted once the safe-stop sequence is complete and the final save is complete or has
run for 2 ms (02 R72, 09 R309). -/
def packageReset (p : Pkg) : Pkg :=
  if p.sys.pendingRst.isEmpty ∨ p.duo.ss.running ∨ !(p.mtr.save = .complete ∨ dueO p p.sys.rstSaveEnd) then p
  else assertReset p.sys.pendingRst p

/-- PACKAGE_RESET (02 R72). -/
def execPackageReset (s : State) : Out := run1 packageReset s

/-- RESET_N_ASSERTED (02 R72). -/
def execResetNAsserted (s : State) : Out := run1 (requestReset .pin) s

/-- VMAIN rises through the release level: the start-up begins; the other dies wait while a sensor reads 110 °C or above
(02 R78, 19 R572). -/
def vmainRelease (temps : List Int) (p : Pkg) : Pkg :=
  if p.sup.upAt.isSome then p
  else
    let s := p.sup
    let p1 : Pkg := { p with sup := { s with upAt := some p.clk, warn := false, inhibit := false, warnAt := none }
                             mtr := { p.mtr with nvBlock := false } }
    let hot := temps.any (· ≥ 1100)
    tryStart (sensorSample temps { p1 with sys := { p1.sys with thermHold := p1.sys.thermHold || hot } })

/-- VMAIN_RELEASE (02 R78). -/
def execVmainRelease (temps : List Int) (s : State) : Out := run1 (vmainRelease temps) s

/-- Every valid sensor has read below 110 °C for 10 s: the hold ends (19 R571). -/
def thermalRelease (p : Pkg) : Pkg :=
  if p.sys.thermHold ∧ p.thm.cool ≥ 100000 then tryStart { p with sys := { p.sys with thermHold := false } } else p

/-- THERMAL_HOLD_RELEASE (19 R571). -/
def execThermalHoldRelease (s : State) : Out := run1 thermalRelease s

/-! ### Supply (19 R573 to R578) -/

/-- The node falls through warn: safe-stop trigger SUPPLY, final save, power-fail record (19 R574, 09 R309, 10 R329,
17 R526; log 61). -/
def supplyWarn (t : Nat) (p0 : Pkg) : Pkg :=
  let p := advance t p0
  if p.sup.warn ∨ p.sup.upAt.isNone then p
  else
    let s := p.sup
    let p1 : Pkg := { p with sup := { s with warn := true, warnAt := some p.clk, evt := { s.evt with warn := true }, warnInh := 0xFFFF }
                             mtr := { p.mtr with save := if p.mtr.save = .none ∧ metering p then .running else p.mtr.save }
                             bil := { p.bil with warnAt := if metering p then some p.tim.now else none } }
    let p2 := ssTrigger 4 p1.sys.hoopG.owner (clustersHalt (journalBattery p1))
    if p2.sys.mode = .safeStop then ownFault true p2 else p2

/-- SUPPLY_WARN (19 R574). -/
def execSupplyWarn (t : Nat) (s : State) : Out := run1 (supplyWarn t) s

/-- The node rises above warn without a reset: periodic records resume, and the fault of the crossing is taken
(09 R310, 02 R65, 19 R576; log 61). -/
def warnRecovered (t : Nat) (p0 : Pkg) : Pkg :=
  let p := advance t p0
  if !p.sup.warn ∨ p.sup.upAt.isNone then p
  else
    ownFault true { p with sup := { p.sup with warn := false, warnAt := none, warnOff := some p.clk }
                           mtr := { p.mtr with save := if p.sys.pendingRst.isEmpty then .none else p.mtr.save } }

/-- SUPPLY_WARN_RECOVERED (09 R310). -/
def execSupplyWarnRecovered (t : Nat) (s : State) : Out := run1 (warnRecovered t) s

/-- The node falls through inhibit: every MRAM and fuse write is blocked, a burn in progress ends (19 R574, R578,
09 R291). -/
def nvInhibit (t : Nat) (p0 : Pkg) : Pkg :=
  let p := advance t p0
  if p.sup.inhibit then p
  else
    let s := p.sup
    let us := match s.warnAt with
      | some w => min 0xFFFE ((p.clk - w) / 1000)
      | none => 0
    let short := decide (us < 2000)
    { p with sup := { s with inhibit := true, warnInh := us, evt := { s.evt with inhibit := true, short := s.evt.short || short } }
             mtr := { p.mtr with nvBlock := true, burn := none, banks := p.mtr.banks ++ (match p.mtr.burn with
               | some b => [(b, false)]
               | none => []) } }

/-- NV_WRITE_INHIBIT (19 R574). -/
def execNvWriteInhibit (t : Nat) (s : State) : Out := run1 (nvInhibit t) s

/-- NV_WRITE_INHIBIT_RELEASE (19 R574). -/
def execNvWriteInhibitRelease (s : State) : Out :=
  run1 (fun p => { p with sup := { p.sup with inhibit := false }, mtr := { p.mtr with nvBlock := false } }) s

/-- The node falls through reset: a package reset with cause POR, whatever the safe-stop and the save have reached
(19 R574, 11 R378). -/
def porThreshold (p : Pkg) : Pkg :=
  let p1 := { p with sup := { p.sup with upAt := none } }
  if p.sys.mode = .retired ∨ p.sup.upAt.isNone then p1 else assertReset (.por :: p.sys.pendingRst) p1

/-- POR_THRESHOLD (19 R574). -/
def execPorThreshold (s : State) : Out := run1 porThreshold s

/-- Nominal level of a bank within ±10 % in 10 mV: 1.8 V or 3.3 V, none outside both (20 R585, 19 R575). -/
def vioLevel (v : Nat) : Option Nat := if inR 162 198 v then some 180 else if inR 297 363 v then some 330 else none

/-- VANA and the VIO banks as they become valid; at start-up the banks' levels are taken and step 3 is passed
(02 R78, 19 R575, 20 R585). -/
def railValid (vana : Nat) (vio : List Nat) (p : Pkg) : Pkg :=
  let s := p.sup
  let ok := fun b (old : Bool) => match vio[b]? with
    | some v => (match vioLevel v with
      | some n => !s.started || decide (s.vioNom.getD b 0 = n)
      | none => false)
    | none => old
  let nom := mapI (fun b old => if s.started then old else (match vio[b]? with
    | some v => (vioLevel v).getD old
    | none => old)) s.vioNom
  tryStart { p with sup := { s with vana := vana, vanaOk := inR 450 550 vana, vioOk := mapI ok s.vioOk, vioNom := nom } }

/-- SUPPLY_RAIL_VALID (19 R575). -/
def execSupplyRailValid (vana : Nat) (vio : List Nat) (s : State) : Out := run1 (railValid vana vio) s

/-- VANA (none) or a VIO bank has been invalid for 10 µs: in operation a fault whose action is safe-stop (19 R575). -/
def railInvalid (rail : Option (Fin 8)) (p : Pkg) : Pkg :=
  let s := p.sup
  let e := s.evt
  let e1 := if !s.started then e else match rail with
    | none => { e with vana := true }
    | some _ => { e with vio := true }
  let p1 := { p with sup := { s with evt := e1, vanaOk := s.vanaOk && rail.isSome, vioOk := match rail with
      | none => s.vioOk
      | some b => upd s.vioOk b.val (fun _ => false) } }
  if s.started then safeStopFault p1 else p1

/-- SUPPLY_RAIL_INVALID (19 R575). -/
def execSupplyRailInvalid (rail : Option (Fin 8)) (s : State) : Out := run1 (railInvalid rail) s

/-- 1 s into the start-up a rail is still not valid (19 R575). -/
def railTimeout (p : Pkg) : Pkg :=
  let s := p.sup
  if s.started ∨ !dueO p (s.upAt.map (· + 1000000000)) then p
  else { p with sup := { s with evt := { s.evt with vana := s.evt.vana || !s.vanaOk, vio := s.evt.vio || s.vioOk.contains false } } }

/-- SUPPLY_RAIL_START_TIMEOUT (19 R575). -/
def execSupplyRailStartTimeout (s : State) : Out := run1 railTimeout s

/-! ### Boot and self-test (02 R65, R73, R75, 11 R353, 18 R529 to R531, R544) -/

/-- A firmware slot verifies at boot (02 R65, 18 R543, R544). -/
def slotOk (p : Pkg) (f : FwSlot) : Bool :=
  f.ok && inR 1 64 f.secVer && decide (f.secVer ≥ p.key.rollback) && !p.key.revoked.getD f.key true

/-- A slot authenticates: SELF_TEST. The newly loaded slot boots if it verifies; which of two verifying slots boots
otherwise is a free value (02 R65, 03 R114; log 60). -/
def fwAuthenticated (s0 s1 : FwSlot) (p : Pkg) : Pkg :=
  let ok := [slotOk p s0, slotOk p s1]
  if p.sys.mode ≠ .boot ∨ !p.sup.started ∨ !ok.contains true then p
  else
    let (i, p1) : Nat × Pkg := match p.key.next with
      | some i => if ok.getD i false then (i, p) else (1 - i, p)
      | none => if ok = [true, true] then drawFree 1 p else (if ok.getD 0 false then 0 else 1, p)
    let d := fun (x : DieRec) => { x with st := .testing, fw := some (i, ([s0, s1].getD i {}).ver) }
    setMode .selfTest { p1 with key := { p1.key with fw := [s0, s1], fwOk := ok, bootSlot := i, next := none, recov := false }
                                duo := { p1.duo with a := d p1.duo.a, b := d p1.duo.b } }

/-- FIRMWARE_AUTHENTICATED (02 R65). -/
def execFirmwareAuthenticated (slot0 slot1 : FwSlot) (s : State) : Out := run1 (fwAuthenticated slot0 slot1) s

/-- Neither slot authenticates: the boot ROM serves the recovery mailbox (02 R65, 03 R92). -/
def bootFailed (p : Pkg) : Pkg :=
  if p.sys.mode ≠ .boot ∨ !p.sup.started then p
  else { p with key := { p.key with fwOk := [false, false], recov := true, fw := p.key.fw.map (fun f => { f with ok := false }) } }

/-- BOOT_AUTH_FAILED (02 R65). -/
def execBootAuthFailed (s : State) : Out := run1 bootFailed s

/-- Transfers resume from their journaled state (08 R265). -/
def resumeTransfers (p : Pkg) : Pkg :=
  let p1 := (p.ldg.nv.outs.filter (fun x => !waits p (.offer x.id))).foldl (fun p x => outLeaving x.id p) p
  ledgerSettle (p.ldg.nv.ins.foldl (fun p x => match x.st with
    | .pending => if waits p (.pend x.id) then p else inPending x.id p
    | .aborted => if x.undo then sendUndo x x.oks p else p
    | _ => p) p1)

/-- Journal replay: receipts left open are closed, leases are expired, transfers and accepted work resume (02 R69, R78
step 7, 08 R265, 10 R341, 13 R436). -/
def replay (p : Pkg) : Pkg :=
  let p1 := replayReceipts p.sys.resetBit p
  let again := fun (w : WorkItem) => if w.state = .running then { w with state := .accepted, stopped := false } else w
  resumeTransfers { p1 with mbx := { p1.mbx with work := p1.mbx.work.map again } }

/-- The arbiter selects a die: the one that was active at the last journaled mode if it passed, otherwise the other;
the other becomes CANDIDATE or FAILED (02 R78 step 6, 11 R353). -/
def selectDie (a b : Bool) (p : Pkg) : Pkg :=
  let pass := fun (d : Die) => match d with
    | .a => a
    | .b => b
  let first := (p.sys.jMode.bind (·.2)).getD .a
  let d := if pass first then first else first.other
  let p1 := updDie d (fun x => { x with st := .active }) p
  let p2 := updDie d.other (fun x => if pass d.other then { x with st := .candidate, soak := true, shadow := {} }
                                     else { x with st := .failed, failedAt := some p.clk }) p1
  { p2 with duo := { p2.duo with arb := if a && b then .sync else .solo, hoop := some d }
            sys := { p2.sys with degraded := true, retryIval := 10 } }

/-- No usable Stitch die, or another die fails: Hoop stays at none, SAFE_STOP, recovery under R73 (02 R65, R73). -/
def startFails (a b : Bool) (p : Pkg) : Pkg :=
  let d := fun (ok : Bool) (x : DieRec) => { x with st := if ok then .held else .failed, failedAt := if ok then none else some p.clk }
  let u := p.duo
  let p1 := { p with duo := { u with arb := .none, hoop := none, a := d a u.a, b := d b u.b, evt := { u.evt with none_ := true } } }
  ssTrigger 1 none (setMode .safeStop p1)

/-- The modules at the end of SELF_TEST with a die selected: configuration taken up, discovery address (07 R233, 13 R413). -/
def bootModules (p : Pkg) : Pkg :=
  let p1 := match p.config with
    | some c => takeConfig c p
    | none => p
  if p1.ldg.nv.map_.isNone then { p1 with dfn := { p1.dfn with disc := 0xE000 + p1.dfn.serial % 4096, lsaDue := true } } else p1

/-- The modules start, the journal is replayed, and the mode is that of the life-cycle (02 R65, R69, 18 R545). -/
def enterMode (p : Pkg) : Pkg :=
  let p2 := bootModules p
  match lcOf p2 with
  | .field =>
    let q := setMode .idle (replay p2)
    rollbackRaise { q with sys := { q.sys with leaseWait := some (q.clk + 2000000000) } }
  | .service => setMode .service (replay p2)
  | _ => setMode .provision p2

/-- The self-tests end (02 R65, R75, 11 R353, 18 R531). -/
def selfTestDone (r : SelfTest) (p0 : Pkg) : Pkg :=
  if p0.sys.mode ≠ .selfTest then p0
  else
    let p := { p0 with sys := { p0.sys with wiped := [r.a, r.b, r.ground, r.selvedge, r.ls] } }
    let p1 := if r.ground ∧ r.selvedge ∧ r.ls ∧ (r.a ∨ r.b) then rootGenerate r.draws r.burnt p else p
    let root := lcOf p1 ≠ .provisioned ∨ rootOf p1.key = .ready
    if r.ground ∧ r.selvedge ∧ r.ls ∧ (r.a ∨ r.b) ∧ root then enterMode (selectDie r.a r.b p1) else startFails r.a r.b p1

/-- SELF_TEST_COMPLETE (11 R353). -/
def execSelfTestComplete (res : SelfTest) (s : State) : Out := run1 (selfTestDone res) s

/-- The retry interval after the safe-stop latch is over: a recovery reset, and the next interval is twice as long, up
to 15 min (02 R73). -/
def recoveryRetry (p : Pkg) : Pkg :=
  if p.duo.arb ≠ .none ∨ !dueO p p.sys.retryDue then p
  else
    let c := p.sys.cause
    requestReset .retry { p with sys := { p.sys with retryDue := none, retryIval := min 900 (2 * p.sys.retryIval)
                                                     cause := { c with retries := inc8 c.retries } } }

/-- RECOVERY_RETRY (02 R73). -/
def execRecoveryRetry (s : State) : Out := run1 recoveryRetry s

/-! ### Mode requests (02 R65) -/

/-- Guard of a mode request: the row of R65 for the present mode, 0x08 with no row (02 R64, R65). -/
def modeGuard (p : Pkg) (target : Nat) : Nat :=
  let g := p.sys.grant.isSome
  match p.sys.mode, Mode.ofCode target with
  | .idle, some .armed => armGuard p
  | .armed, some .idle => if anySession p then 5 else 0
  | .idle, some .service => if anySession p then 5 else if lcOf p = .blank then 8 else 0
  | .service, some .idle => if lcOf p ≠ .field then 8 else if g then 9 else 0
  | .service, some .provision => if lcOf p ≠ .provisioned then 8 else if g then 9 else 0
  | .provision, some .service => 0
  | _, _ => 8

/-- A request that carries the signed trailer: SERVICE from PROVISION (03 R111, R113). -/
def modeSigned (p : Pkg) (d : List Byte) : Bool := p.sys.mode == .provision && u8 d 0 == 10

/-- MODE_REQUEST's checks (02 R65, 03 R112, R113). -/
def specModeRequest : OpSpec where
  op := 0x0102
  lenOk d := d.length == 4 || (d.length == 132 && u8 d 0 == 10)
  role := needOpr
  params p d := inR 0 11 (u8 d 0) && zeros d 1 3 && (modeSigned p d || d.length == 4)
  signed p d := if modeSigned p d then some .metrology else none
  modes := anyMode
  guard p d := modeGuard p (u8 d 0)

/-- MODE_REQUEST: the command's checks (02 R65). -/
def execModeRequest (ep : Fin 3) (slot : Fin 64) (sigOk : Bool) (s : State) : Out :=
  run1 (submit specModeRequest sigOk (slotIx ep slot) noAns) s

/-- MODE_REQUEST applied (02 R65). -/
def applyModeRequest (d : List Byte) (p : Pkg) : Pkg :=
  match p.sys.mode, Mode.ofCode (u8 d 0) with
  | .idle, some .armed => arm p
  | .armed, some .idle => stopAfes (setMode .idle { p with sys := { p.sys with armUntil := none } })
  | _, some m => setMode m p
  | _, none => p

/-- ARM_TIMEOUT expires in ARMED with no session (02 R65, R67). -/
def armTimeout (p : Pkg) : Pkg :=
  if p.sys.mode = .armed ∧ dueO p p.sys.armUntil ∧ !anySession p then
    stopAfes (setMode .idle { p with sys := { p.sys with armUntil := none } }) else p

/-- ARM_TIMEOUT (02 R67). -/
def execArmTimeout (s : State) : Out := run1 armTimeout s

/-- 100 supervisory cycles without a region held below its request (02 R65). -/
def derateOver (p : Pkg) : Pkg :=
  if p.sys.mode = .derate ∧ p.sys.freeCycles ≥ 100 then
    setMode .deliver { p with sys := { p.sys with freeCycles := 0, derateWhy := [] } } else p

/-- DERATE_RECOVERED (02 R65). -/
def execDerateRecovered (s : State) : Out := run1 derateOver s

/-! ### Service grants (02 R68) -/

/-- SERVICE_GRANT's checks (02 R65, 03 R113). -/
def specServiceGrant : OpSpec where
  op := 0x0103
  lenOk d := d.length == 8
  role := needMet
  params _ d := inR 0 3 (u8 d 0) && zeros d 1 1 && inR 1 3600 (u16 d 2) && inR 1 3750 (u32 d 4)
  modes m := m == .service
  guard p _ := if lcOf p = .blank then 8 else armGuard p

/-- SERVICE_GRANT: the command's checks (02 R65). -/
def execServiceGrant (ep : Fin 3) (slot : Fin 64) (s : State) : Out := run1 (submit specServiceGrant true (slotIx ep slot) noAns) s

/-- The region of a grant that ends ramps down as if its session had closed, with cause 0x0C (02 R68, 06 R206). -/
def endGrantRegion (r : Nat) (p : Pkg) : Pkg := stopRegion r (endSession r 0xC p)

/-- SERVICE_GRANT applied: it replaces the grant in force (02 R68). -/
def applyServiceGrant (d : List Byte) (p : Pkg) : Pkg :=
  let g : Grant := { region := u8 d 0, limit := u32 d 4, until_ := p.clk + u16 d 2 * 1000000000 }
  let p1 := match p.sys.grant with
    | some o => if o.region ≠ g.region then endGrantRegion o.region p else p
    | none => p
  { p1 with sys := { p1.sys with grant := some g } }

/-- The grant's duration is over (02 R62, R68). -/
def grantExpiry (p : Pkg) : Pkg :=
  match p.sys.grant with
  | none => p
  | some g => if due p g.until_ then stopAfes (endGrantRegion g.region { p with sys := { p.sys with grant := none } }) else p

/-- GRANT_EXPIRY (02 R68). -/
def execGrantExpiry (s : State) : Out := run1 grantExpiry s

/-! ### FAULT_CLEAR and SYS_RESET (02 R65, R74) -/

/-- FAULT_CLEAR's checks (02 R65). -/
def specFaultClear : OpSpec where
  op := 0x0104
  lenOk d := d.length == 4
  role := needOpr
  params _ d := zeros d 0 4
  modes m := m == .safeStop
  guard p _ := if latchedFault p then 2 else 0

/-- FAULT_CLEAR: the command's checks (02 R65). -/
def execFaultClear (ep : Fin 3) (slot : Fin 64) (s : State) : Out := run1 (submit specFaultClear true (slotIx ep slot) noAns) s

/-- FAULT_CLEAR applied: the latch is cleared and the mode is IDLE (02 R65, 11 R379). -/
def applyFaultClear (p : Pkg) : Pkg := rollbackRaise (setMode .idle (ssClear p))

/-- The Selvedge die applies FAULT_CLEAR itself, after a SAFE_STOP by the warn crossing or T_STOP alone and 1 s of good
conditions (19 R576). -/
def autoClear (p : Pkg) : Pkg :=
  match p.duo.ss.own with
  | none => p
  | some (w, t) =>
    let good := fun (x : Option Nat) => dueO p (x.map (· + 1000000000))
    if p.sys.mode ≠ .safeStop ∨ p.sys.faultCyc ∨ !awake p ∨ !p.duo.ss.latched ∨ p.duo.ss.mask &&& 0x15 ≠ 0 ∨ latchedFault p ∨
       (w ∧ (p.sup.warn ∨ !good p.sup.warnOff)) ∨ (t ∧ !good p.thm.calm) then p
    else
      let q := applyFaultClear p
      { q with sup := { q.sup with evt := { q.sup.evt with autoClear := true } } }

/-- AUTO_CLEAR (19 R576). -/
def execAutoClear (s : State) : Out := run1 autoClear s

/-- SYS_RESET's checks (02 R74, 03 R113). -/
def specSysReset : OpSpec where
  op := 0x0105
  lenOk d := d.length == 4
  role := needOpr
  params _ d := u32 d 0 == 0xA55A
  modes := notRetired
  guard p _ := if anySession p then 5 else 0

/-- SYS_RESET: the command's checks (02 R74). -/
def execSysReset (ep : Fin 3) (slot : Fin 64) (s : State) : Out := run1 (submit specSysReset true (slotIx ep slot) noAns) s

/-! ### Life-cycle (02 R70, R71) -/

/-- Dead times, the port-to-cluster map and a calibration table are fused: a configuration image has been committed, every
cluster that a port is mapped to is fused, and some bank verifies. A module without power stages has an empty map
(01 R61, 02 R71; log 62). -/
def sealFused (p : Pkg) : Bool :=
  p.config.isSome && p.eye.map.all (fun o => o.all (fun n => p.eye.fused.getD n false)) && decide (validEpoch p.mtr.banks > 0)

/-- Guard of LC_SEAL (02 R64, R71). -/
def sealGuard (p : Pkg) : Nat :=
  if p.sys.fuses ≠ p.sys.lcRead then 8
  else if p.sys.mode = .provision ∧ lcOf p = .provisioned then
    (if rootOf p.key ≠ .ready ∨ !p.key.exported ∨ !sealFused p then 8 else if p.sys.fuses.seals ≥ 33 then 0xA else 0)
  else if p.sys.mode = .service ∧ lcOf p = .service then
    (if p.sys.grant.isSome then 9 else if p.sys.fuses.seals ≥ 33 then 0xA else 0)
  else 8

/-- Guards 0x05, 0x06 and 0x07 in their order (02 R71). -/
def emptyGuard (p : Pkg) : Nat := if anySession p then 5 else if receiptsPending p then 6 else if ledgerOrWork p then 7 else 0

/-- Guard of LC_BREAK (02 R64, R71). -/
def breakGuard (p : Pkg) : Nat :=
  if p.sys.mode ≠ .idle ∨ lcOf p ≠ .field ∨ p.sys.fuses ≠ p.sys.lcRead then 8
  else if emptyGuard p ≠ 0 then emptyGuard p
  else if p.sys.fuses.breaks ≥ 32 then 0xA else 0

/-- Guard of LC_SCRAP (02 R64, R71). -/
def scrapGuard (p : Pkg) : Nat :=
  if !inMode p [.idle, .provision, .service] ∨ lcOf p = .blank ∨ lcOf p = .scrapped ∨ p.sys.fuses ≠ p.sys.lcRead then 8 else emptyGuard p

/-- LC_SEAL's checks (02 R71, 03 R111, R112, 18 R546). -/
def specLcSeal : OpSpec where
  op := 0x0B01
  lenOk d := d.length == 128
  role r _ := r.opr || r.met
  signed p _ := some (if p.sys.mode = .provision then .operator else .metrology)
  modes := anyMode
  guard p _ := sealGuard p

/-- LC_SEAL: the command's checks (02 R71). -/
def execLcSeal (ep : Fin 3) (slot : Fin 64) (sigOk : Bool) (s : State) : Out :=
  run1 (submit specLcSeal sigOk (slotIx ep slot) noAns) s

/-- LC_BREAK's checks (02 R71, 03 R111, R112, 18 R546). -/
def specLcBreak : OpSpec where
  op := 0x0B02
  lenOk d := d.length == 128
  role := needMet
  signed _ _ := some .metrology
  modes := anyMode
  guard p _ := breakGuard p

/-- LC_BREAK: the command's checks (02 R71). -/
def execLcBreak (ep : Fin 3) (slot : Fin 64) (sigOk : Bool) (s : State) : Out :=
  run1 (submit specLcBreak sigOk (slotIx ep slot) noAns) s

/-- LC_SCRAP's checks (02 R71, 03 R111, R112, 18 R546). -/
def specLcScrap : OpSpec where
  op := 0x0B03
  lenOk d := d.length == 128
  role := needOpr
  signed _ _ := some .operator
  modes := anyMode
  guard p _ := scrapGuard p

/-- LC_SCRAP: the command's checks (02 R71). -/
def execLcScrap (ep : Fin 3) (slot : Fin 64) (sigOk : Bool) (s : State) : Out :=
  run1 (submit specLcScrap sigOk (slotIx ep slot) noAns) s

/-- A life-cycle change: the fuse is burnt, the change is journaled, and a package reset becomes pending (02 R71). -/
def lcChange (f : LcFuses) (p : Pkg) : Pkg :=
  requestReset .lc { p with sys := { p.sys with fuses := f, lcLog := cap 256 ((p.tim.now, p.sys.fuses.lc, f.lc) :: p.sys.lcLog) } }

/-- LC_SEAL, LC_BREAK or LC_SCRAP applied; under NV-write inhibit no fuse is burnt. A second seal or break at one boundary sets the
same state: no further fuse is burnt (02 R71, 03 R105, 19 R574). -/
def applyLc (op id : Nat) (p : Pkg) : Pkg :=
  let f := p.sys.fuses
  if p.mtr.nvBlock then finishWork id .faulted p
  else if (op = 0x0B01 ∧ f.seals > p.sys.lcRead.seals) ∨ (op = 0x0B02 ∧ f.breaks > p.sys.lcRead.breaks) then finishWork id .ok p
  else
    finishWork id .ok (lcChange (if op = 0x0B01 then { f with seals := f.seals + 1 } else if op = 0x0B02 then { f with breaks := f.breaks + 1 }
      else { f with scrap := true }) p)

/-- Quogus final test: the PROV fuse of a BLANK part (02 R71). -/
def finalTest (p : Pkg) : Pkg :=
  if p.sys.fuses.lc ≠ .blank ∨ p.mtr.nvBlock then p else lcChange { p.sys.fuses with prov := true } p

/-- QUOGUS_FINAL_TEST (02 R71). -/
def execQuogusFinalTest (s : State) : Out := run1 finalTest s

end Sys2Proof.Machine
end

