-- ==== Sys2Proof/Machine/PowerLine.lean ====
section
/-!
DEFINITION. The power-line links (15 R478 to R494): medium and contention, frames, segments and selective
acknowledgement, phase detection, repeaters and Tatting, and what the links carry. A received frame brings the codewords
of its segments, off the carriers (log 9); the layouts of BEACON and ROUTE payloads are the model's (log 47).
-/

namespace Sys2Proof.Machine

/-- A coupler. -/
def plAt (p : Pkg) (k : Nat) : PNet := p.pln.net.getD k {}

/-- Change a coupler. -/
def updPl (k : Nat) (f : PNet → PNet) (p : Pkg) : Pkg := { p with pln := { p.pln with net := upd p.pln.net k f } }

/-- A node of a coupler. -/
def pnAt (x : PNet) (n : Nat) : PNode := (x.nodes.find? (fun y => y.id == n)).getD { id := n }

/-- Change a node of a coupler. -/
def setPn (n : Nat) (f : PNode → PNode) (x : PNet) : PNet :=
  if x.nodes.any (fun y => y.id == n) then { x with nodes := x.nodes.map (fun y => if y.id = n then f y else y) }
  else { x with nodes := x.nodes ++ [f { id := n }] }

/-- Change a node of a coupler of the package. -/
def updPn (k n : Nat) (f : PNode → PNode) (p : Pkg) : Pkg := updPl k (setPn n f) p

/-- The coupler transmits: configured, in a mode from IDLE up and not RETIRED, on the requests of an active die that its own
decoder selects (15 R479, 01 R15). -/
def plcUp (p : Pkg) (k : Nat) : Bool :=
  (plAt p k).cfgd && drives p && decide (p.sys.mode.code ≥ 4) && p.sys.mode != .retired

/-- The network runs Tatting: more than 32 nodes with the coordinator (15 R491). -/
def tatting (x : PNet) : Bool := decide (x.table.length + 1 > 32)

/-! ### The physical profile (15 R480, R482) -/

/-- The code of a mode (15 R483). -/
def PMode.code : PMode → Nat
  | .robo => 0 | .dbpsk => 1 | .dqpsk => 2 | .d8psk => 3

/-- The next more robust mode (15 R486). -/
def PMode.robust : PMode → PMode
  | .robo => .robo | .dbpsk => .robo | .dqpsk => .dbpsk | .d8psk => .dqpsk

/-- Carriers of a band (15 R480). -/
def carriers (band : Nat) : Nat := if band = 0 then 37 else if band = 1 then 17 else if band = 2 then 28 else 223

/-- Symbols of a segment (15 R482). -/
def segSyms (band : Nat) (m : PMode) : Nat :=
  let b := match m with
    | .robo => carriers band / 4
    | .dbpsk => carriers band
    | .dqpsk => 2 * carriers band
    | .d8psk => 3 * carriers band
  (416 + b - 1) / b

/-- Airtime in ns of a frame of n segments: preamble, header and segments (15 R480, R483). -/
def airtime (band n : Nat) (m : PMode) : Nat := (4 + segSyms band .dbpsk + n * segSyms band m) * 750000

/-- The time a SACK takes after a frame (15 R485). -/
def sackTime (band : Nat) : Nat := 1500000 + airtime band 1 .dbpsk

/-- Segments set in a map. -/
def segCount (m : Nat) : Nat := sumN ((List.range 8).map (fun i => m / 2 ^ i % 2))

/-- The mode for an LQI in 0.25 dB (15 R486). -/
def modeFor (lqi : Nat) : PMode := if lqi ≥ 48 then .d8psk else if lqi ≥ 28 then .dqpsk else if lqi ≥ 12 then .dbpsk else .robo

/-- The medium is busy until at least a clock (15 R483). -/
def holdMedium (k t : Nat) (p : Pkg) : Pkg := updPl k (fun x => { x with busyTo := max x.busyTo t }) p

/-- The contention period after the medium was last busy begins: 3 ms later, on band BC after EN 50065-1's longer wait where
that is longer (15 R481, R484). -/
def contendAt (x : PNet) : Nat :=
  x.busyTo + (if x.band = 2 then max 3000000 (Config.bandCWait x.busyTo) else 3000000)

/-- The instant at which a slot of 1.5 ms begins in one of the contention periods of 60 slots that follow one another, from the
clock to the next boundary (15 R484; log 4). -/
def slotStart (p : Pkg) (x : PNet) (slot period : Nat) : Option Nat :=
  let t := contendAt x + period * 90000000 + slot * 1500000
  if p.clk ≤ t ∧ t < nextBoundary p then some t else none

/-! ### Headers, segments and their protection (15 R482, R483, R487) -/

/-- What a frame is, by its header (15 R483). -/
structure PHead where
  /-- TYPE; 15 R483. -/
  type : Nat
  /-- PRIO; 15 R483. -/
  prio : Nat
  /-- MODE; 15 R483. -/
  mode : Nat
  /-- NSEG; 15 R483. -/
  nseg : Nat
  /-- SRC; 15 R483. -/
  src  : Nat
  /-- DST; 15 R483. -/
  dst  : Nat
  /-- HOP_SRC; 15 R483. -/
  hopS : Nat := 0
  /-- HOP_DST; 15 R483. -/
  hopD : Nat
  /-- REP; 15 R483. -/
  rep  : Nat × Nat := (0, 0)
  /-- HOPS; 15 R483. -/
  hops : Nat := 15
  /-- SEGMAP; 15 R483. -/
  segmap : Nat
  /-- SEQ; 15 R483. -/
  seq  : Nat
  /-- CTR; 15 R483. -/
  ctr  : Nat
  /-- ZC_OFFSET; 15 R483. -/
  zc   : Nat
  /-- LQI; 15 R483. -/
  lqi  : Nat
  deriving DecidableEq, Repr

/-- The 32 header bytes of a frame of a network (15 R483). -/
def plcHeader (network : Nat) (h : PHead) : List Byte :=
  toBe 2 network ++ [byte h.type, byte (h.prio * 64 + h.mode * 16 + h.nseg)] ++ toBe 2 h.src ++ toBe 2 h.dst ++ toBe 2 h.hopS ++ toBe 2 h.hopD
    ++ toBe 2 h.rep.1 ++ toBe 2 h.rep.2 ++ [byte h.hops, byte h.segmap] ++ toBe 2 h.seq ++ toBe 4 h.ctr ++ toBe 2 h.zc ++ [byte h.lqi]
    ++ List.replicate 5 0

/-- The header of a frame (15 R483). -/
def plcHead (h : List Byte) : PHead :=
  let c := be h 3 1
  { type := be h 2 1, prio := c / 64, mode := c / 16 % 4, nseg := c % 16, src := be h 4 2, dst := be h 6 2, hopS := be h 8 2, hopD := be h 10 2
    rep := (be h 12 2, be h 14 2), hops := be h 16 1, segmap := be h 17 1, seq := be h 18 2, ctr := be h 20 4, zc := be h 24 2, lqi := be h 26 1 }

/-- A segment as its codeword: index, a zero byte, 32 data bytes, CRC-16 and 16 parity bytes (15 R482). -/
def plcSegment (i : Nat) (d : List Byte) : List Nat :=
  let b := [byte i, 0] ++ pad 32 d
  let c := (b ++ toBe 2 (crc16 b)).map (·.toNat)
  c ++ rsParity 16 c

/-- The index and data of a received segment; none where it does not decode or its CRC is wrong (15 R482, R488). -/
def segOf (g : PSegIn) : Option (Nat × List Byte) :=
  match rsDecode 16 g.erased (g.code.take 52) with
  | none => none
  | some (c, _, _) =>
    let b := pad 36 (c.map byte)
    if be b 34 2 = crc16 (b.take 34) then some (u8 b 0, slice b 2 32) else none

/-- The key that protects what goes to or comes from a node; broadcasts have one of their own (15 R487, 18 R542; log 47). -/
def plcKey (p : Pkg) (k n : Nat) : List Byte :=
  if n = 0x3FF then Config.bcastKey (plAt p k).network else (workKey p (.node k n)).getD []

/-- The nonce of a frame (15 R487). -/
def plcNonce (network : Nat) (h : PHead) : List Byte := toBe 2 network ++ toBe 2 h.src ++ toBe 2 h.dst ++ toBe 4 h.ctr ++ [0, 0]

/-- The header as associated data: with the fields zero that a retry or another hop changes (15 R487; log 47). -/
def plcAad (network : Nat) (h : PHead) : List Byte :=
  plcHeader network { h with mode := 0, hopS := 0, hopD := 0, rep := (0, 0), hops := 0, segmap := 0, zc := 0, lqi := 0 }

/-- The codewords of a frame with a payload under a key: the header segment, and the data segments of its SEGMAP (15 R482, R483,
R487). -/
def plcEncode (network : Nat) (key : List Byte) (h : PHead) (data : List Byte) : PSent :=
  let b := gcmSeal key (plcNonce network h) (plcAad network h) data
  { head := plcSegment 0 (plcHeader network h)
    segs := ((List.range h.nseg).filter (tb h.segmap)).map (fun i => plcSegment i (slice b (32 * i) 32)) }

/-- The payload of so many bytes in the data of a frame's segments; none where the tag fails (15 R487). -/
def plcOpen (network : Nat) (key : List Byte) (h : PHead) (len : Nat) (b : List Byte) : Option (List Byte) :=
  gcmOpen key (plcNonce network h) (plcAad network h) (b.take (len + 16))

/-! ### Phase of a node (15 R489) -/

/-- Period of a coupler's zero-crossing source in 10 µs, 0 while its phase a is lost (15 R489). -/
def zcPeriod (p : Pkg) (k : Nat) : Nat :=
  let m := p.mtr.meter.getD (4 + (plAt p k).zcSrc % 2) {}
  if m.freq = 0 ∨ (m.ph.getD 0 {}).lost then 0 else 100000000 / m.freq

/-- A node's lag against phase a for a frame, in 10 µs (15 R489). -/
def zcDelta (p : Pkg) (k t0 zc : Nat) : Option Nat :=
  let m := p.mtr.meter.getD (4 + (plAt p k).zcSrc % 2) {}
  let t := zcPeriod p k
  if t = 0 then none else some (((t0 - (m.ph.getD 0 {}).zc) / 10000 + t * (zc / t + 1) - zc) % t)

/-- ZC_OFFSET of an own frame that starts at an instant, in 10 µs: a free value while phase a is lost (15 R489; log 47). -/
def ownZc (k t : Nat) (p : Pkg) : Nat × Pkg :=
  let y := (p.mtr.meter.getD (4 + (plAt p k).zcSrc % 2) {}).ph.getD 0 {}
  match if y.lost then none else y.seen with
  | some z => ((t - z) / 10000 % 65536, p)
  | none => drawFree 16 p

/-- Median of eight lags (the lower middle one; log 47). -/
def medianOf (l : List Nat) : Nat := (l.mergeSort (fun a b => decide (a ≤ b))).getD ((l.length - 1) / 2) 0

/-- A node's phase (15 R489). -/
def nodePhase (p : Pkg) (k : Nat) (n : PNode) : PPhase :=
  let t := zcPeriod p k
  if t = 0 ∨ n.deltas.length < 8 then .unknown
  else
    let d := medianOf n.deltas * 360
    let within := fun (a b : Nat) => decide (a * t ≤ d ∧ d ≤ b * t)
    if within 340 360 || within 0 20 then .a else if within 100 140 then .b else if within 220 260 then .c
    else if within 160 200 then .aRev else if within 280 320 then .bRev else if within 40 80 then .cRev else .unknown

/-! ### Link costs and paths (15 R490, R491) -/

/-- Frames of the last 16 that received a SACK, in 1/255 (15 R490; log 47). -/
def shareOf (n : PNode) : Nat := if n.acks.isEmpty then 255 else (n.acks.filter id).length * 255 / n.acks.length

/-- Cost of a link: airtime in ms, the share of SACKs and the phases (15 R490). -/
def linkCostP (band nseg lqi share : Nat) (diff : Bool) : Rat :=
  (airtime band nseg (modeFor lqi) : Rat) / 1000000 + 20 * (1 - (share : Rat) / 255) + (if diff then 8 else 0)

/-- Phases that differ or are not both known (15 R490). -/
def phasesDiffer (x y : PPhase) : Bool := x != y || x == .unknown

/-- The coordinator's own link to a node (15 R490): its phase is the source's, phase a. -/
def ownCost (p : Pkg) (k nseg n : Nat) : Rat :=
  let x := pnAt (plAt p k) n
  linkCostP (plAt p k).band nseg x.peerLqi (shareOf x) (phasesDiffer .a (nodePhase p k x))

/-- A link between two nodes as a beacon of the first gives it (15 R490). -/
def nodeCost (p : Pkg) (k nseg a b : Nat) : Option Rat :=
  let x := plAt p k
  ((pnAt x a).links.find? (fun l => l.1 == b)).map (fun l =>
    linkCostP x.band nseg l.2.1 l.2.2 (phasesDiffer (nodePhase p k (pnAt x a)) (nodePhase p k (pnAt x b))))

/-- Nodes heard in the last 30 s (15 R495). -/
def nodesHeard (p : Pkg) (k : Nat) : List Nat :=
  ((plAt p k).nodes.filter (fun n => match n.heard with
    | some t => decide (p.clk ≤ t + 30000000000)
    | none => false)).map (·.id)

/-- Paths to a node with at most two repeaters: cost, first and second repeater (15 R491). -/
def pathsTo (p : Pkg) (k nseg n : Nat) : List (Rat × Nat × Nat) :=
  let hs := (nodesHeard p k).filter (· != n)
  let one := hs.filterMap (fun a => (nodeCost p k nseg a n).map (fun c => (ownCost p k nseg a + c, a, 0)))
  let two := (hs.map (fun a => (hs.filter (· != a)).filterMap (fun b =>
    match nodeCost p k nseg a b, nodeCost p k nseg b n with
    | some c, some d => some (ownCost p k nseg a + c + d, a, b)
    | _, _ => none))).flatten
  (if (nodesHeard p k).contains n then [(ownCost p k nseg n, 0, 0)] else []) ++ one ++ two

/-- The path in REPEAT: a new one only if its cost is below 7/8 of the present path's, or that has failed (15 R491). -/
def pickPath (p : Pkg) (k nseg n : Nat) : Option (Rat × Nat × Nat) :=
  let l := pathsTo p k nseg n
  let x := pnAt (plAt p k) n
  let best := l.foldl (fun a b => match a with
    | none => some b
    | some y => if b.1 < y.1 then some b else some y) (none : Option (Rat × Nat × Nat))
  let old := if x.hops = 0 ∨ x.fails ≥ 3 then none else l.find? (fun y => y.2.1 == x.rep1 && y.2.2 == x.rep0)
  match best, old with
  | some b, some o => if b.1 * 8 < o.1 * 7 then some b else some o
  | b, none => b
  | none, some o => some o

/-- The path to a node computed again and entered in its registers (15 R491, R495). -/
def repath (k nseg n : Nat) (p : Pkg) : Pkg :=
  if tatting (plAt p k) then p
  else match pickPath p k nseg n with
    | none => p
    | some (c, a, b) =>
      updPn k n (fun x => { x with rep1 := a, rep0 := b, hops := 1 + bit (a != 0) + bit (b != 0), cost := min 0xFFFF c.floor.toNat
                                   fails := if x.rep1 = a ∧ x.rep0 = b then x.fails else 0 }) p

/-! ### Queueing (15 R484 to R487, R490 to R492) -/

/-- The next CTR; the counter is journaled every 4,096 frames (15 R487). -/
def nextCtr (k : Nat) (p : Pkg) : Nat × Pkg :=
  let c := (plAt p k).ctr
  (c, updPl k (fun x => { x with ctr := c + 1, nvCtr := if (c + 1) % 4096 = 0 ∧ !p.mtr.nvBlock then c + 1 else x.nvCtr }) p)

/-- Segments of a payload with its tag (15 R482, R487). -/
def nsegOf (d : List Byte) : Nat := min 8 ((d.length + 16 + 31) / 32)

/-- The first hop towards a node: none while a route is still to be found (15 R491). -/
def firstHop (x : PNet) (n : Nat) : Nat :=
  let y := pnAt x n
  if tatting x then (if y.used.isSome then y.rep1 else 0) else if y.rep1 = 0 then n else y.rep1

/-- A frame joins the queue of a coupler (15 R479, R484). -/
def plcQueue (k : Nat) (type : PType) (prio dst : Nat) (data : List Byte) (host : Bool) (p : Pkg) : Pkg :=
  let bc := decide (dst = 0x3FF)
  let p0 := if bc then p else repath k (nsegOf data) dst p
  let (c, p1) := nextCtr k p0
  let x := plAt p1 k
  let y := pnAt x dst
  let hop := if bc then 0x3FF else firstHop x dst
  let f : PFrame := { type := type, prio := prio, dst := dst, hop := hop, rep := if tatting x ∨ bc then (0, 0) else (y.rep1, y.rep0)
                      mode := if bc then .robo else modeFor (pnAt x hop).peerLqi, nseg := nsegOf data, segmap := 2 ^ nsegOf data - 1
                      seq := if bc then x.bcSeq else y.txSeq, ctr := c, data := data, copies := if bc then 2 else 0, host := host }
  let p2 := if bc then updPl k (fun x => { x with bcSeq := (x.bcSeq + 1) % 65536 }) p1
    else updPn k dst (fun y => { y with txSeq := (y.txSeq + 1) % 65536 }) p1
  updPl k (fun x => { x with queue := x.queue ++ [f] }) p2

/-- The payload of a ROUTE frame: 1 request, 2 reply, 3 error; id, origin, target, cost (15 R491; log 47). -/
def routeBody (op id origin target cost : Nat) : List Byte :=
  [byte op, byte id] ++ toBe 2 origin ++ toBe 2 target ++ toBe 2 (min cost 0xFFFF)

/-- A route is sought by a flooded request (15 R491). -/
def seekRoute (k n : Nat) (p : Pkg) : Pkg :=
  let x := plAt p k
  plcQueue k .route 1 0x3FF (routeBody 1 x.reqId 0 n 0) false (updPl k (fun x => { x with reqId := (x.reqId + 1) % 256 }) p)

/-- Data for a node is queued, with a route sought where there is none (15 R491, R492). -/
def plcSend (k prio dst : Nat) (data : List Byte) (host : Bool) (p : Pkg) : Pkg :=
  let p1 := plcQueue k .data prio dst data host p
  let x := plAt p1 k
  if dst ≠ 0x3FF ∧ tatting x ∧ firstHop x dst = 0 then seekRoute k dst p1 else p1

/-! ### Sending (15 R484, R485, R488) -/

/-- The window of slots of a priority (15 R484). -/
def inWindow (prio slot : Nat) : Bool :=
  match prio with
  | 3 => inR 0 3 slot
  | 2 => inR 4 11 slot
  | 1 => inR 12 27 slot
  | _ => inR 28 59 slot

/-- The frame at a place of the queue. -/
def pfAt (x : PNet) (i : Nat) : Option PFrame := x.queue[i]?

/-- A frame leaves the queue. -/
def dropFrame (k i : Nat) (p : Pkg) : Pkg := updPl k (fun x => { x with queue := x.queue.eraseIdx i }) p

/-- The code of a frame type (15 R483). -/
def PType.code : PType → Nat
  | .data => 1 | .sack => 2 | .beacon => 3 | .route => 4

/-- A waiting frame as it goes on the line with a ZC_OFFSET (15 R483, R487). -/
def plcSent (p : Pkg) (k zc : Nat) (f : PFrame) : PSent :=
  let x := plAt p k
  plcEncode x.network (plcKey p k f.dst)
    { type := f.type.code, prio := f.prio, mode := f.mode.code, nseg := f.nseg, src := f.src, dst := f.dst, hopD := f.hop, rep := f.rep
      hops := f.hops, segmap := f.segmap, seq := f.seq, ctr := f.ctr, zc := zc, lqi := if f.dst = 0x3FF then 0 else (pnAt x f.hop).lqi } f.data

/-- A frame goes on the line at an instant, and the medium is busy until its end and a SACK's (15 R483, R485). -/
def plcStart (k t : Nat) (f : PFrame) (p : Pkg) : Pkg :=
  let band := (plAt p k).band
  let (zc, p1) := ownZc k t p
  let out := plcSent p k zc f
  holdMedium k (t + airtime band (segCount f.segmap) f.mode + (if f.dst = 0x3FF then 0 else sackTime band))
    (updPl k (fun x => { x with tx := out :: x.tx }) p1)

/-- A frame that has drawn a slot of its window starts there, if the medium has stayed idle (15 R484, R485). -/
def slotSend (k i slot period : Nat) (p : Pkg) : Pkg :=
  let x := plAt p k
  match pfAt x i, slotStart p x slot period with
  | some f, some t =>
    if !plcUp p k ∨ f.sent ∨ f.hop = 0 ∨ !inWindow f.prio slot then p
    else
      let p1 := plcStart k t f p
      if f.dst ≠ 0x3FF then updPl k (fun x => { x with queue := upd x.queue i (fun f => { f with sent := true }) }) p1
      else if f.copies ≤ 1 then
        dropFrame k i (if f.host then updPl k (fun x => { x with txRes := .delivered }) p1 else p1)
      else updPl k (fun x => { x with queue := upd x.queue i (fun f => { f with copies := f.copies - 1 }) }) p1
  | _, _ => p

/-- CONTENTION_SLOT (15 R484). -/
def execContentionSlot (k : Fin 4) (i slot period : Nat) (s : State) : Out := run1 (slotSend k.val i slot period) s

/-- A frame is complete: its last SACK reports every segment (15 R488). -/
def frameDone (k i : Nat) (f : PFrame) (p : Pkg) : Pkg :=
  let p1 := updPn k f.hop (fun y => { y with acks := cap 16 (true :: y.acks) }) p
  let p2 := updPn k f.dst (fun y => { y with fails := 0, used := y.used.map (fun _ => p.clk) }) p1
  dropFrame k i (if f.host then updPl k (fun x => { x with txRes := .delivered }) p2 else p2)

/-- A path that has failed three frames in a row is given up; in Tatting the origin is told (15 R491). -/
def pathFailed (k : Nat) (f : PFrame) (p : Pkg) : Pkg :=
  let x := plAt p k
  if (pnAt x f.dst).fails < 3 then p
  else if tatting x then
    let p1 := updPn k f.dst (fun y => { y with used := none, hops := 0, rep1 := 0, rep0 := 0, cost := 0xFFFF }) p
    if f.src ≠ 0 then plcQueue k .route 1 f.src (routeBody 3 0 f.src f.dst 0) false p1 else p1
  else repath k f.nseg f.dst p

/-- A frame has failed after 7 retries (15 R488). -/
def frameFailed (k i : Nat) (f : PFrame) (p : Pkg) : Pkg :=
  let p1 := updPl k (fun x => { x with retxFail := inc8 x.retxFail, failCyc := (x.failCyc.1, inc8 x.failCyc.2)
                                       txRes := if f.host then .failed else x.txRes }) p
  pathFailed k f (dropFrame k i (updPn k f.dst (fun y => { y with fails := y.fails + 1 }) p1))

/-- A frame is tried again with the segments missing, one mode more robust, or fails (15 R486, R488). -/
def retry (k i : Nat) (f : PFrame) (missing : Nat) (sacked : Bool) (p : Pkg) : Pkg :=
  let p1 := updPn k f.hop (fun y => { y with acks := cap 16 (sacked :: y.acks) }) p
  if f.tries ≥ 7 then frameFailed k i f p1
  else updPl k (fun x => { x with retx := inc16 x.retx, queue := upd x.queue i (fun f =>
    { f with sent := false, tries := f.tries + 1, segmap := missing, mode := f.mode.robust }) }) p1

/-- A header received: of this network, with the header segment good (15 R478, R482). -/
def headIn (x : PNet) (g : PSegIn) : Option PHead :=
  (segOf g).bind (fun h => if be h.2 0 2 = x.network then some (plcHead h.2) else none)

/-- The sent frame that a SACK answers (15 R488). -/
def sackedFrame (x : PNet) (h : PHead) : Option Nat := (idxs (fun f => f.sent && f.hop == h.src && f.seq == h.seq) x.queue).head?

/-- The bytes of a SACK's segment, of a header, for the sent frame at a place: it completes or is tried again; the tag must
pass (15 R485, R487, R488). -/
def sackRead (k i : Nat) (h : PHead) (b : List Byte) (p : Pkg) : Pkg :=
  let x := plAt p k
  match plcOpen x.network (plcKey p k h.src) h 1 b with
  | none => updPl k (fun x => { x with authErr := inc8 x.authErr }) p
  | some d =>
    let f := (pfAt x i).getD {}
    let p1 := updPn k h.src (fun y => { y with peerLqi := h.lqi }) p
    let missing := (2 ^ f.nseg - 1) &&& (255 - u8 d 0)
    if missing = 0 then frameDone k i f p1 else retry k i f missing true p1

/-- A SACK to this coupler for a sent frame (15 R485, R488). -/
def sackIn (k : Nat) (a : SackIn) (p : Pkg) : Pkg :=
  let x := plAt p k
  match headIn x a.head with
  | none => p
  | some h =>
    match sackedFrame x h with
    | none => p
    | some i =>
      if !awake p ∨ h.type ≠ 2 ∨ h.hopD ≠ 0 then p
      else match segOf a.seg with
        | none => updPl k (fun x => { x with segBad := inc8 x.segBad }) p
        | some g => sackRead k i h g.2 p

/-- SACK (15 R488). -/
def execSack (k : Fin 4) (f : SackIn) (s : State) : Out := run1 (sackIn k.val f) s

/-- No SACK: the whole frame again (15 R488). -/
def sackTimeout (k i : Nat) (p : Pkg) : Pkg :=
  match pfAt (plAt p k) i with
  | some f => if f.sent ∧ awake p then retry k i f (2 ^ f.nseg - 1) false p else p
  | none => p

/-- SACK_TIMEOUT (15 R488). -/
def execSackTimeout (k : Fin 4) (i : Nat) (s : State) : Out := run1 (sackTimeout k.val i) s

/-- After a switchover every unacknowledged frame is sent again with its SEQ and CTR (15 R479). -/
def plcSwitch (p : Pkg) : Pkg :=
  { p with pln := { net := p.pln.net.map (fun x => { x with queue := x.queue.map (fun f => { f with sent := false }) }) } }

/-! ### Receiving (15 R483, R485, R487, R488) -/

/-- A SACK goes out, where the coupler transmits, 1.5 ms after the frame it answers (15 R479, R485, R487; log 47). -/
def sendSack (k hop seq bitmap : Nat) (p : Pkg) : Pkg :=
  if plcUp p k then
    let (c, p1) := nextCtr k p
    let (zc, p2) := ownZc k (p.clk + 1500000) p1
    let x := plAt p2 k
    let out := plcEncode x.network (plcKey p2 k hop)
      { type := 2, prio := 0, mode := 1, nseg := 1, src := 0, dst := hop, hopD := hop, segmap := 1, seq := seq, ctr := c, zc := zc
        lqi := (pnAt x hop).lqi } [byte bitmap]
    holdMedium k (p.clk + sackTime x.band) (updPl k (fun x => { x with sacks := out :: x.sacks }) p2)
  else p

/-- A REPORT: into the ring and to the node's consumer (15 R492, R494; log 17). -/
def reportIn (k src prio flags seq t1 : Nat) (d : List Byte) (p : Pkg) : Pkg :=
  let r : PRec := { time := t1, src := src, kind := u8 d 0, prio := prio, flags := flags, seq := seq, data := d.drop 4 }
  let p1 := updPl k (fun x => { x with ring := (x.ring ++ [r]).drop (x.ring.length + 1 - 1024), next := (x.next + 1) % 2 ^ 64 }) p
  match (plAt p k).table.find? (fun n => n.id == src) with
  | none => p1
  | some n => match n.user with
    | .cooling | .lsw => coolingData 72 87 k src (d.drop 4) p1
    | .imd => imdFrame n.index (d.drop 4) p1
    | _ => p1

/-- A BEACON: the node's neighbours (15 R490; log 47). -/
def beaconIn (k src : Nat) (d : List Byte) (p : Pkg) : Pkg :=
  updPn k src (fun y => { y with links := (List.range (d.length / 4)).map (fun i => (be d (4 * i) 2, be d (4 * i + 2) 1, be d (4 * i + 3) 1)) }) p

/-- A route learnt (15 R491). -/
def learn (k n via hops cost : Nat) (p : Pkg) : Pkg :=
  let p1 := updPn k n (fun y => { y with used := some p.clk, rep1 := via, rep0 := 0, hops := min 15 hops, cost := min 0xFFFF cost, fails := 0 }) p
  updPl k (fun x => { x with queue := x.queue.map (fun f => if f.dst = n ∧ f.hop = 0 then { f with hop := via } else f) }) p1

/-- A ROUTE payload in Tatting (15 R491; log 47). -/
def routeIn (k via hops : Nat) (d : List Byte) (p : Pkg) : Pkg :=
  let id := be d 1 1
  let o := be d 2 2
  let t := be d 4 2
  let c := be d 6 2 + (ownCost p k 1 via).floor.toNat
  let n := 16 - hops
  match be d 0 1 with
  | 1 =>
    let better := ((plAt p k).reqs.find? (fun r => r.1 == o && r.2.1 == id)).all (fun r => decide (c < r.2.2))
    if o = 0 ∨ !better then p
    else
      let p1 := learn k o via n c (updPl k (fun x => { x with reqs := cap 64 ((o, id, c) :: x.reqs.filter (fun r => !(r.1 == o && r.2.1 == id))) }) p)
      if t = 0 then plcQueue k .route 1 o (routeBody 2 id o t 0) false p1
      else if hops = 0 then p1 else plcQueue k .route 1 0x3FF (routeBody 1 id o t c) false p1
  | 2 =>
    let p1 := learn k t via n c p
    if o = 0 then p1 else plcQueue k .route 1 o (routeBody 2 id o t c) false p1
  | 3 => updPn k t (fun y => { y with used := none, hops := 0, rep1 := 0, cost := 0xFFFF }) p
  | _ => p

/-- A frame for another node is forwarded with one hop less (15 R491). -/
def forward (k src dst prio hops seq ctr : Nat) (d : List Byte) (p : Pkg) : Pkg :=
  if hops = 0 then p
  else
    let x := plAt p k
    let hop := firstHop x dst
    let f : PFrame := { src := src, dst := dst, prio := prio, hop := hop, hops := hops - 1, mode := modeFor (pnAt x hop).peerLqi
                        nseg := nsegOf d, segmap := 2 ^ nsegOf d - 1, seq := seq, ctr := ctr, data := d }
    let p1 := updPl k (fun x => { x with queue := x.queue ++ [f] }) p
    if tatting x ∧ hop = 0 then seekRoute k dst p1 else p1

/-- A complete frame whose tag verifies, with its payload: delivered once (15 R488, R491, R492). -/
def plcDeliver (k : Nat) (h : PHead) (f : PlcIn) (d : List Byte) (p : Pkg) : Pkg :=
  let p1 := updPn k h.src (fun y =>
    let top := match y.rxHigh with
      | none => h.seq
      | some t => if (h.seq + 65536 - t) % 65536 < 32768 then h.seq else t
    { y with rxHigh := some top, rxDone := (h.seq :: y.rxDone).filter (fun s => decide ((top + 65536 - s) % 65536 ≤ 256)) }) p
  if h.dst ≠ 0 ∧ h.dst ≠ 0x3FF then forward k h.src h.dst h.prio h.hops h.seq h.ctr d p1
  else match h.type with
    | 1 => if u8 d 0 = 2 then
        reportIn k h.src h.prio (bit (h.hopS != h.src) + 2 * bit (h.mode == 0)) h.seq f.t1 (d.take 68) p1 else p1
    | 3 => beaconIn k h.src d p1
    | 4 => if tatting (plAt p1 k) then routeIn k h.hopS h.hops d p1 else p1
    | _ => p1

/-- A node as a valid frame of it shows it (15 R486, R489, R495). -/
def nodeHeard (k : Nat) (h : PHead) (f : PlcIn) (p : Pkg) : Pkg :=
  let p1 := updPn k h.hopS (fun y => { y with lqi := min 255 f.snr, peerLqi := h.lqi }) p
  updPn k h.src (fun y => { y with heard := some p.clk, deltas := match zcDelta p k f.t0 h.zc with
    | some d => cap 8 (d :: y.deltas)
    | none => y.deltas }) p1

/-- Every segment of a frame is held: its data, in order, is opened (15 R487, R488). -/
def plcWhole (k : Nat) (h : PHead) (f : PlcIn) (b : List Byte) (p : Pkg) : Pkg :=
  let x := plAt p k
  let p1 := updPl k (fun x => { x with holds := x.holds.filter (fun y => !(y.src == h.src && y.seq == h.seq)) }) p
  let bc := decide (h.dst = 0x3FF)
  let full := 2 ^ h.nseg - 1
  let y := pnAt x h.src
  let old := match y.rxHigh with
    | none => false
    | some t => let d := (t + 65536 - h.seq) % 65536
                decide (d < 32768 ∧ d > 256)
  match (plcOpen x.network (plcKey p k h.src) h f.len b).filter (fun _ => x.table.any (fun n => n.id == h.src)) with
  | none => updPl k (fun x => { x with authErr := inc8 x.authErr }) p1
  | some d =>
    if y.rxDone.contains h.seq then
      let p2 := updPl k (fun x => { x with dup := inc8 x.dup }) p1
      if bc then p2 else sendSack k h.hopS h.seq full p2
    else if old then p1
    else
      let p2 := plcDeliver k h f d (nodeHeard k h f p1)
      if bc then p2 else sendSack k h.hopS h.seq full p2

/-- A decoded frame addressed to the coordinator or to all: its good segments are held (15 R488). -/
def plcHeld (k : Nat) (h : PHead) (f : PlcIn) (p : Pkg) : Pkg :=
  let x := plAt p k
  let cur := (x.holds.find? (fun y => y.src == h.src && y.seq == h.seq)).getD { src := h.src, seq := h.seq, since := p.clk }
  let good := (f.segs.filterMap segOf).filter (fun g => decide (g.1 < h.nseg))
  let segs := good ++ cur.segs.filter (fun s => good.all (fun g => g.1 != s.1))
  let map_ := sumN (((segs.map (·.1)).eraseDups).map (2 ^ ·))
  let p1 := updPl k (fun x =>
    { x with holds := { cur with segs := segs } :: x.holds.filter (fun y => !(y.src == h.src && y.seq == h.seq)) }) p
  if map_ = 2 ^ h.nseg - 1 then
    plcWhole k h f ((List.range h.nseg).map (fun i => ((segs.find? (fun s => s.1 == i)).map (·.2)).getD [])).flatten p1
  else if h.dst = 0x3FF then p1 else sendSack k h.hopS h.seq map_ p1

/-- A power-line frame at a coupler (15 R478, R483, R488). -/
def plcFrame (k : Nat) (f : PlcIn) (p : Pkg) : Pkg :=
  let x := plAt p k
  if !x.cfgd then p
  else
    let bad := (f.segs.filter (fun g => (segOf g).isNone)).length
    let p1 := updPl k (fun x => { x with impulse := satAdd 255 x.impulse (f.head.impulse + sumN (f.segs.map (·.impulse))) }) p
    if (segOf f.head).isNone then updPl k (fun x => { x with segBad := inc8 x.segBad }) p1
    else
      let p2 := holdMedium k (p.clk + sackTime x.band) p1
      match (headIn x f.head).filter (fun h => awake p && (h.hopD == 0 || h.hopD == 0x3FF) && inR 1 8 h.nseg && [1, 3, 4].contains h.type) with
      | none => p2
      | some h => plcHeld k h f (updPl k (fun x => { x with segBad := satAdd 255 x.segBad bad }) p2)

/-- PLC_FRAME_RECEIVED (15 R483). -/
def execPlcFrameReceived (k : Fin 4) (f : PlcIn) (s : State) : Out := run1 (plcFrame k.val f) s

/-- Good segments of a source and SEQ are dropped after 2 s (15 R488). -/
def holdExpiry (k src seq : Nat) (p : Pkg) : Pkg :=
  updPl k (fun x => { x with holds := x.holds.filter (fun y => !(y.src == src && y.seq == seq && due p (y.since + 2000000000))) }) p

/-- SEGMENT_HOLD_EXPIRY (15 R488). -/
def execSegmentHoldExpiry (k : Fin 4) (src seq : Nat) (s : State) : Out := run1 (holdExpiry k.val src seq) s

/-! ### What the coordinator sends by itself (15 R490 to R493) -/

/-- Every 10 s a BEACON with the neighbours (15 R490; log 47). -/
def beaconSend (k : Nat) (p : Pkg) : Pkg :=
  let x := plAt p k
  let due_ := match x.beacon with
    | none => true
    | some t => due p (t + 10000000000)
  if !plcUp p k ∨ !due_ then p
  else
    let d := ((x.nodes.filter (fun n => n.heard.isSome)).take 60).map (fun n => toBe 2 n.id ++ [byte n.lqi, byte (shareOf n)])
    plcQueue k .beacon 1 0x3FF d.flatten false (updPl k (fun x => { x with beacon := some p.clk }) p)

/-- BEACON_SEND (15 R490). -/
def execBeaconSend (k : Fin 4) (s : State) : Out := run1 (beaconSend k.val) s

/-- STATUS to a LEGACY node: every 1 s, and at once on a change of RSTATE (15 R492). -/
def statusTo (k : Nat) (n : PNodeCfg) (r : Nat) (p : Pkg) : Pkg :=
  let last := (plAt p k).status.find? (fun s => s.1 == n.id)
  let now := rstate p r
  let changed := match last with
    | none => false
    | some s => s.2.2 != now
  let periodic := match last with
    | none => true
    | some s => due p (s.2.1 + 1000000000)
  if !changed ∧ !periodic then p
  else
    plcSend k (if changed then 3 else 2) n.id ([1, 0, 0, 0] ++ toBe 7 (statusFrame p r / 256)) false
      (updPl k (fun x => { x with status := (n.id, p.clk, now) :: x.status.filter (fun s => s.1 != n.id) }) p)

/-- STATUS frames that are due (15 R492). -/
def statusSend (k : Nat) (p : Pkg) : Pkg :=
  if !plcUp p k then p
  else (plAt p k).table.foldl (fun p n => match n.role with
    | .legacy r => statusTo k n r p
    | .aux => p) p

/-- PLC_STATUS_SEND (15 R492). -/
def execPlcStatusSend (k : Fin 4) (s : State) : Out := run1 (statusSend k.val) s

/-- A Tatting route unused for 300 s expires (15 R491). -/
def routeExpiry (k node : Nat) (p : Pkg) : Pkg :=
  match (pnAt (plAt p k) node).used with
  | some t => if tatting (plAt p k) ∧ due p (t + 300000000000) then
      updPn k node (fun y => { y with used := none, hops := 0, rep1 := 0, rep0 := 0, cost := 0xFFFF }) p else p
  | none => p

/-- PLC_ROUTE_EXPIRY (15 R491). -/
def execPlcRouteExpiry (k : Fin 4) (node : Nat) (s : State) : Out := run1 (routeExpiry k.val node) s

/-- PLN_Ck_TX_CTRL written: its fields, and with GO a HOST frame (15 R493; log 47). -/
def txCtrl (k v : Nat) (p : Pkg) : Pkg :=
  let len := fld v 26 22
  if len > 16 then p
  else
    let x := plAt p k
    let p1 := updPl k (fun x => { x with txPrio := fld v 30 29, txLen := len, txDst := fld v 9 0 }) p
    if !tb v 31 then p1
    else if x.txRes = .queued then updPl k (fun x => { x with txRef := inc8 x.txRef }) p1
    else
      let dst := fld v 9 0
      if dst ≠ 0x3FF ∧ !(x.table.any (fun n => n.id == dst)) then updPl k (fun x => { x with txRes := .failed }) p1
      else plcSend k (fld v 30 29) dst ([3, 0, 0, 0] ++ ((x.txD.map (toLe 4)).flatten.take len)) true
        (updPl k (fun x => { x with txRes := .queued }) p1)

/-- PLN_TX_GO (15 R493). -/
def execPlnTxGo (k : Fin 4) (val : Nat) (s : State) : Out := run1 (txCtrl k.val val) s

/-- The boundary's share: busy share and failures of the cycle (15 R495). -/
def plcCounts (p : Pkg) : Pkg :=
  { p with pln := { net := p.pln.net.map (fun x =>
      { x with busyMs := cap 1000 (decide (x.busyTo + 1000000 > p.clk) :: x.busyMs), failCyc := (x.failCyc.2, 0) }) } }

end Sys2Proof.Machine
end

