-- ==== Sys2Proof/Machine/Redundancy.lean ====
section
/-!
DEFINITION. Redundancy (11 R351 to R382): heartbeats and failure criteria, the arbiter, mirrors and Sampler reports,
switchover, readmission, and the safe-stop sequence; with the Hoop decoders, clocks, references and memories of
01 R23 to R35.
-/

namespace Sys2Proof.Machine

/-! ### What every failure and switchover shares (11 R353, R371, R373) -/

/-- A march or a vector set has failed (11 R366, R369). -/
def Shadow.failed (s : Shadow) : Bool := s.lastFail == 0x10 || s.lastFail == 0x11

/-- Code of a criterion (11 R382). -/
def Crit.code : Crit → Nat
  | .heartbeat => 1 | .lockstep => 2 | .memory => 3 | .self => 4 | .planned => 5 | .sampler => 6

/-- A criterion of 11 R356 is the die's last failure, unless a test that failed is (11 R368). -/
def DieRec.notes (c : Crit) (now : Nat) (x : DieRec) : DieRec :=
  if c.code ≤ 4 ∧ !x.shadow.failed then { x with shadow := { x.shadow with lastFail := c.code, failTime := now } } else x

/-- DUO_LAST and its time, and the die's own last failure (11 R368, R382). -/
def noteLast (d : Die) (c : Crit) (src : Nat) (p : Pkg) : Pkg :=
  let q := updDie d (DieRec.notes c p.tim.now) p
  { q with duo := { q.duo with last := some (d, c, src), lastTime := p.tim.now } }

/-- SYS_MODE.DEGRADED follows the arbiter's state (11 R353). -/
def setArb (a : ArbState) (p : Pkg) : Pkg :=
  { p with duo := { p.duo with arb := a }, sys := { p.sys with degraded := a == .sync || a == .solo } }

/-- The arbiter leaves DUAL before a flip: every DUO_SWITCH that waits is FAILED (11 R373, R381). -/
def dropSwitches (p : Pkg) : Pkg :=
  let p1 := p.duo.swWork.foldl (fun p id => finishWork id .faulted p) p
  { p1 with duo := { p1.duo with swWork := [] } }

/-- Position of a die among the memories and dies of the package. -/
def dieIx : Die → Nat
  | .a => 0
  | .b => 1

/-- A die is reset under 02 R72 and FAILED; a DUO_READMIT of it ends (02 R72, 11 R353, R381). -/
def dieReset (d : Die) (p : Pkg) : Pkg :=
  let kept := fun (x : DieRec) => if x.shadow.lastFail = 0 then (x.lastFail, x.failTime) else (x.shadow.lastFail, x.shadow.failTime)
  let p1 := updDie d (fun x => { st := .failed, failedAt := some p.clk, readmits := x.readmits, report := x.report, hbMiss := x.hbMiss
                                 lastFail := (kept x).1, failTime := (kept x).2 })
    (dropDie d p)
  let c : ResetCause := match d with
    | .a => .dieA
    | .b => .dieB
  let p2 := { p1 with sys := { p1.sys with cause := setCause p1.sys.cause c, wiped := upd p1.sys.wiped (dieIx d) (fun _ => false)
                                           clkFaults := p1.sys.clkFaults.filter (fun x => x.1 != d) } }
  match p2.duo.rdWork with
  | some (id, k) => if k = d then finishWork id .faulted { p2 with duo := { p2.duo with rdWork := none } } else p2
  | none => p2

/-- The non-active die is reset and FAILED: SOLO (11 R353). -/
def standbyFails (d : Die) (p : Pkg) : Pkg :=
  let p1 := dieReset d p
  let p2 := { p1 with duo := { p1.duo with evt := { p1.duo.evt with stbyReset := true } } }
  setArb .solo (dropSwitches p2)

/-- A die would be permitted to take over: STANDBY, its newest report PASS and published less than 10 ms ago
(11 R357). -/
def mayTakeOver (p : Pkg) (d : Die) : Bool :=
  let x := dieOf p d
  x.st == .standby && x.report.any (fun r => r.1.verdict == .pass && decide (p.clk - r.2 < 10000000))

/-- Hoop goes to a new die: pin transmitters, acknowledgements, CAN transmissions, scans and injections at once, slots
and streams at the next boundary (06 R212, 11 R371, 12 R404, R408, 14 R471). -/
def takeOver (d : Die) (p : Pkg) : Pkg :=
  let p1 := updDie d (fun x => { x with st := .active, soakFrom := none }) p
  let p2 := { p1 with duo := { p1.duo with hoop := some d, switches := inc16 p1.duo.switches, turns := p1.duo.turns + 1, swDue := true } }
  canSwitchover (lanesAbort (resendAcks (redeliver (resumeFe p2))))

/-- No die may take over: Hoop to none, both dies FAILED (11 R353). -/
def noDie (d : Die) (p : Pkg) : Pkg :=
  let p1 := dieReset d p
  let p2 := if (dieOf p1 d.other).st = .failed then p1
    else dieReset d.other { p1 with duo := { p1.duo with evt := { p1.duo.evt with stbyReset := true } } }
  hoopNone (dropSwitches p2)

/-- A die meets a criterion of 11 R356; src is the cluster whose slots were missed, 0xF otherwise (11 R353, R354,
R371). -/
def dieFault (c : Crit) (src : Nat) (d : Die) (p : Pkg) : Pkg :=
  let x := dieOf p d
  if p.duo.arb = .init ∨ p.duo.arb = .none ∨ x.st = .held ∨ x.st = .failed then p
  else
    let p1 := noteLast d c src p
    if activeDie p ≠ some d then standbyFails d p1
    else if p.duo.arb = .dual ∧ mayTakeOver p d.other then
      let p2 := takeOver d.other (dieReset d (dropSwitches p1))
      setArb .solo { p2 with duo := { p2.duo with evt := { p2.duo.evt with switch := true } } }
    else noDie d p1

/-! ### Clocks, references, memories (01 R31, R32, R35) -/

/-- A clock of a Stitch die is lost or off: a fault of the die, or of one lane in domain 5 (01 R31). -/
def clockFault (d : Die) (dom : Nat) (lane : Option (Fin 8)) (p : Pkg) : Pkg :=
  if dom = 4 then
    match lane with
    | some l => if activeDie p = some d then laneClockLoss l.val p else p
    | none => p
  else
    let l := (d, dom + 1) :: p.sys.clkFaults.filter (fun x => x != (d, dom + 1))
    dieFault .self 0xF d { p with sys := { p.sys with clkFaults := l } }

/-- CLOCK_FAULT: domain numbers 1 to 12 count from 0 here (01 R31). -/
def execClockFault (die : Die) (dom : Fin 12) (lane : Option (Fin 8)) (s : State) : Out := run1 (clockFault die dom.val lane) s

/-- The reference every PLL uses (01 R32). -/
def useRef (p : Pkg) : Pkg :=
  { p with sys := { p.sys with refUsed := if p.sys.ref0Ok then some 0 else if p.sys.ref1Ok then some 1 else none } }

/-- A reference becomes invalid; with both lost, both dies declare a fault, the active one's treated first
(01 R32, 11 R354). -/
def refLost (k : Nat) (p : Pkg) : Pkg :=
  let p1 := useRef (if k = 0 then { p with sys := { p.sys with ref0Ok := false } } else { p with sys := { p.sys with ref1Ok := false } })
  if p1.sys.refUsed.isSome then p1
  else
    let d := (activeDie p1).getD .a
    if mayTakeOver p1 d.other then noDie d (noteLast d .self 0xF p1) else dieFault .self 0xF d.other (dieFault .self 0xF d p1)

/-- REFCLK_LOSS (01 R32). -/
def execRefclkLoss (ref : Fin 2) (s : State) : Out := run1 (refLost ref.val) s

/-- REFCLK_VALID (01 R32). -/
def execRefclkValid (ref : Fin 2) (s : State) : Out :=
  run1 (fun p => useRef (if ref.val = 0 then { p with sys := { p.sys with ref0Ok := true } }
    else { p with sys := { p.sys with ref1Ok := true } })) s

/-- The record of a meter in a slot no longer verifies (01 R35, 09 R311). -/
def badEnergy (k i : Nat) (p : Pkg) : Pkg :=
  updMt k (fun x => { x with slots := upd x.slots i (fun r => r.map (fun r => { r with ok := false })) }) p

/-- A journal record holds a double-bit error. An event record is held by the journal alone; of the records that live
memory holds too, the previous copy counts from the next restart, unless the record is written again (01 R35; log 97). -/
def badRecord (r : JournalRec) (p : Pkg) : Pkg :=
  match r with
  | .energy k i => badEnergy k i p
  | .event n => { p with bil := { p.bil with events := p.bil.events.map (fun e => if e.index = n then { e with ok := false } else e) } }
  | .out id => { p with ldg := { p.ldg with badOut := p.ldg.nv.outs.filter (fun x => x.id == id) ++ p.ldg.badOut } }
  | .taken id => { p with ldg := { p.ldg with badIn := p.ldg.nv.ins.filter (fun x => x.id == id) ++ p.ldg.badIn } }
  | .window s => { p with dfn := { p.dfn with badWin := p.dfn.nv.wins.filter (fun w => w.src == s) ++ p.dfn.badWin } }
  | .receipt n => { p with bil := { p.bil with badRcpt := p.bil.rcpts.filter (fun x => x.no == n) ++ p.bil.badRcpt } }

/-- Position of a memory among the corrected-error counts (01 R35). -/
def EccMem.ix : EccMem → Nat
  | .stitch d => dieIx d
  | .capture => 2
  | .secure => 3
  | .journal _ => 4

/-- A double-bit error (01 R35, 02 R72, 09 R306, 11 R377). -/
def doubleBit (m : EccMem) (p : Pkg) : Pkg :=
  match m with
  | .stitch d => dieFault .memory 0xF d p
  | .capture => requestReset .mem (safeStopFault (ssTrigger 5 p.sys.hoopG.owner p))
  | .secure => requestReset .mem (safeStopFault p)
  | .journal r => badRecord r p

/-- MEMORY_ECC_ERROR: a corrected error is counted (01 R35). -/
def execMemoryEccError (mem : EccMem) (double : Bool) (s : State) : Out :=
  run1 (fun p => if double then doubleBit mem p else { p with sys := { p.sys with eccCount := upd p.sys.eccCount mem.ix inc32 } }) s

/-! ### Hoop decoders (01 R23 to R27, 02 R79, 11 R377, R379) -/

/-- What an interval between successive Hoop edges is, in ps (01 R24). -/
def hoopIv (ps : Nat) : HoopIv :=
  if inR 32000 48000 ps then .code .a else if inR 68000 92000 ps then .code .b else .bad

/-- An interval at a decoder: an invalid one is counted, the third in a row decodes none, and the second of one code in a
row decodes its die (01 R25). -/
def HoopDecoder.interval (clk ps : Nat) (h : HoopDecoder) : HoopDecoder :=
  let iv := hoopIv ps
  let run := if h.iv = iv then min 3 (h.run + 1) else 1
  let h1 := { h with iv := iv, run := run }
  match iv with
  | .bad => { h1 with errors := inc8 h.errors, owner := if run ≥ 3 then none else h.owner }
  | .code d =>
    if run ≥ 2 then { h1 with owner := some d, kind := some d, since := if h.owner.isSome then h.since else clk } else h1

/-- 120 ns without an edge: no owner, and no run of intervals (01 R25). -/
def HoopDecoder.silence (h : HoopDecoder) : HoopDecoder := { h with owner := none, iv := .bad, run := 0 }

/-- The Ground die's decoder takes a new value. From an owner to none, the safe-stop sequence starts, and no owner is
accepted until it is latched; a change of owner reaches the pins (01 R27, 02 R65, 07 R226, 11 R377). -/
def groundDecode (h : HoopDecoder) (p : Pkg) : Pkg :=
  let old := p.sys.hoopG
  let h1 := if p.sys.noOwnerHold then { h with owner := none, kind := old.kind, since := old.since } else h
  let p1 := { p with sys := { p.sys with hoopG := h1 } }
  if old.owner.isSome ∧ h1.owner.isNone then
    let p2 := ssTrigger 1 h1.kind { p1 with sys := { p1.sys with noOwnerHold := !p.duo.ss.latched } }
    if inMode p2 [.armed, .deliver, .derate, .isolated, .service] then toSafeStop p2 else p2
  else if old.owner ≠ h1.owner then ownerSettle p p1 else p1

/-- A Stitch die's decoder holds this. -/
def putDecoder (d : Die) (h : HoopDecoder) (y : Sys) : Sys :=
  match d with
  | .a => { y with hoopA := h }
  | .b => { y with hoopB := h }

/-- A Stitch die's decoder takes a new value: once it selects the active die, that die's transmitters are enabled, and
CAN frames that wait may start (01 R17). -/
def stitchDecode (d : Die) (h : HoopDecoder) (p : Pkg) : Pkg :=
  let p1 := { p with sys := putDecoder d h p.sys }
  if drives p1 ∧ !drives p then (List.range 16).foldl (fun p c => tryQueue c p) p1 else p1

/-- The decoder of a die. -/
def HoopWho.decoder (p : Pkg) : HoopWho → HoopDecoder
  | .ground => p.sys.hoopG
  | .stitch d => decoderOf p d

/-- A decoder takes a new value. -/
def hoopPut (w : HoopWho) (h : HoopDecoder) (p : Pkg) : Pkg :=
  match w with
  | .ground => groundDecode h p
  | .stitch d => stitchDecode d h p

/-- Intervals at a decoder, in ps, oldest first (01 R24, R25). -/
def hoopEdges (w : HoopWho) (ivals : List Nat) (p : Pkg) : Pkg :=
  ivals.foldl (fun p ps => hoopPut w ((w.decoder p).interval p.clk ps) p) p

/-- HOOP_DECODE_CHANGE (01 R25). -/
def execHoopDecodeChange (who : HoopWho) (ivals : List Nat) (s : State) : Out := run1 (hoopEdges who ivals) s

/-- 120 ns without an edge at a decoder (01 R25). -/
def hoopSilent (w : HoopWho) (p : Pkg) : Pkg := hoopPut w (w.decoder p).silence p

/-- HOOP_TIMEOUT: intervals, and after them 120 ns without an edge where the operand says so (01 R25). -/
def execHoopTimeout (who : HoopWho) (h : HoopIn) (s : State) : Out :=
  run1 (fun p => let p1 := hoopEdges who h.ivals p; if h.silent then hoopSilent who p1 else p1) s

/-! ### Heartbeats and faults (11 R355 to R358) -/

/-- Both dies' newest lane CRCs of a cluster are of one slot and differ (11 R358). -/
def crcDiffers (p : Pkg) (c : Nat) : Bool :=
  match p.duo.a.crc.getD c none, p.duo.b.crc.getD c none with
  | some x, some y => x.1 == y.1 && x.2 != y.2
  | _, _ => false

/-- A die sends heartbeats: out of reset (11 R352, R355). -/
def DieRec.beats (x : DieRec) : Bool := x.st == .active || x.st == .standby || x.st == .candidate

/-- A heartbeat in time: a gap of one slot is one missed; a fast-cycle slot's CRC is compared with the other die's
(11 R355, R356, R358). -/
def heartbeat (d : Die) (src : Nat) (fast : Bool) (slot crc : Nat) (p : Pkg) : Pkg :=
  let x := dieOf p d
  if !x.beats then p
  else
    let miss := (x.slots.getD src none).any (fun o => (slot + 65536 - o) % 65536 == 2)
    let p1 := updDie d (fun x =>
      { x with slots := upd x.slots src (fun _ => some (slot % 65536)), hbMiss := if miss then inc16 x.hbMiss else x.hbMiss
               crc := if fast then upd x.crc src (fun _ => some (slot % 65536, crc % 2 ^ 32)) else x.crc }) p
    let ok := (activeDie p).any (fun k => decide ((dieOf p k.other).shadow.good.getD src 0 ≥ 2))
    if fast ∧ src < 8 ∧ ok ∧ crcDiffers p1 src then { p1 with duo := { p1.duo with crcDiff := inc32 p1.duo.crcDiff } } else p1

/-- LANE_CRC: the outputs u of lanes in Q8.40, 6 bytes each (11 R355, 00 R629). -/
def laneCrc (us : List Int) : Nat := crc32 ((us.map (fun u => toLe 6 (uns 48 u))).flatten)

/-- The outputs that a die sums up: the active die's are those of the cluster's fast lanes in ascending order; the other
die computes its own in shadow, and they are given (11 R355, R364). -/
def crcOuts (p : Pkg) (d : Die) (c : Nat) (own : List Int) : List Int :=
  if activeDie p = some d then
    ((List.range 128).filter (fun l => let x := (laneAt p l).cfg; x.used && !x.slow && x.cluster == c)).map (fun l => (laneAt p l).run.u)
  else own

/-- HEARTBEAT: own gives the lane outputs of a die that is not active (11 R355). -/
def execHeartbeat (die : Die) (src : Fin 9) (fast : Bool) (slot : Nat) (own : List Int) (s : State) : Out :=
  run1 (fun p => heartbeat die src.val fast slot (laneCrc (crcOuts p die src.val own)) p) s

/-- The deadline of a second consecutive missed heartbeat: both are counted (11 R356). -/
def heartbeatMissed (d : Die) (src : Nat) (p : Pkg) : Pkg :=
  if !(dieOf p d).beats then p
  else dieFault .heartbeat (if src = 8 then 0xF else src) d (updDie d (fun x => { x with hbMiss := satAdd 65535 x.hbMiss 2 }) p)

/-- HEARTBEAT_MISSED (11 R356). -/
def execHeartbeatMissed (die : Die) (src : Fin 9) (s : State) : Out := run1 (heartbeatMissed die src.val) s

/-- FAULT_FRAME: LOCKSTEP, MEMORY or SELF; a frame carries no other criterion (11 R356). -/
def execFaultFrame (die : Die) (crit : Crit) (s : State) : Out :=
  run1 (if crit = .lockstep ∨ crit = .memory ∨ crit = .self then dieFault crit 0xF die else id) s

/-- WATCHDOG_EXPIRY: a SELF fault (11 R356). -/
def execWatchdogExpiry (die : Die) (s : State) : Out := run1 (dieFault .self 0xF die) s

/-- A fast cycle; an overrun is a SELF fault of the active die (04 R138, R139, 11 R356). -/
def fastStep (n : Nat) (f : FastIn) (p : Pkg) : Pkg :=
  let p1 := fastCycle n f p
  match activeDie p1 with
  | some d => if f.overrun ∧ cycleDue p n then dieFault .self 0xF d p1 else p1
  | none => p1

/-- FAST_CYCLE (04 R138). -/
def execFastCycle (c : Fin 8) (f : FastIn) (s : State) : Out := run1 (fastStep c.val f) s

/-! ### Mirrors and Sampler reports (11 R359 to R369) -/

/-- A die shadows the active one (11 R364, R372). -/
def shadows (p : Pkg) (d : Die) : Bool := awake p && ((dieOf p d).st == .standby || (dieOf p d).st == .candidate)

/-- A mirror frame is lost on the Couching link (01 R21, 11 R361). -/
def mirrorLost (p : Pkg) : Pkg :=
  { p with duo := { p.duo with evt := { p.duo.evt with mirrorLoss := true } }
           sys := { p.sys with linkDrops := upd p.sys.linkDrops 2 inc32 } }

/-- A port whose gate lines the loopback compares: a switching port that is enabled (11 R366). -/
def loopPort (p : Pkg) (q : Nat) : Bool := (ptAt p q).cfg.use_ == .switching && (ptAt p q).run.en

/-- Edges that differ by more than 1 ns, or in level, are a loopback mismatch (11 R366). -/
def LoopIn.differs (x : LoopIn) : Bool := x.level || decide (x.ps.natAbs > 1000)

/-- The loopback comparisons of a cycle, at most 8 ports of those enabled, are entered (11 R366, R368). -/
def loopEnter (now : Nat) (l : List LoopIn) (s : Shadow) : Shadow :=
  let bad := l.any (·.differs)
  { s with edges := (s.edges + l.length) % 2 ^ 32, looped := (l.map (·.port.val)).foldl (fun a q => if a.contains q then a else q :: a) s.looped
           lastFail := if bad then 0x12 else s.lastFail, failTime := if bad then now else s.failTime }

/-- The comparisons that the Ground die makes for a cycle. -/
def loopsOf (p : Pkg) (l : List LoopIn) : List LoopIn := cap 8 (l.filter (fun x => loopPort p x.port.val))

/-- A fast mirror frame: compared where the frame before was good too, then adopted; a lost one is counted. A compared
cycle with a loopback mismatch counts as one that differs (11 R361, R362, R365 to R367). -/
def fastMirror (c : Nat) (d : Die) (ok agree : Bool) (loop : List LoopIn) (p : Pkg) : Pkg :=
  let l := loopsOf p loop
  if !shadows p d then p
  else if ok then
    updDie d (fun x =>
      let s := x.shadow
      let cmp := s.synced && decide (s.good.getD c 0 ≥ 1)
      let same := agree && !l.any (·.differs)
      let s1 := { s with good := upd s.good c (fun n => min 2 (n + 1)), goodAt := upd s.goodAt c (fun _ => p.clk)
                         run := if !cmp then s.run else if same then 0 else min 65535 (s.run + 1)
                         mismatch := if cmp && !same then inc32 s.mismatch else s.mismatch }
      { x with shadow := loopEnter p.tim.now l s1 }) { p with vcmd := { p.vcmd with port := p.vcmd.port.map (fun x => { x with mir := x.mirNext }) } }
  else
    let p1 := updDie d (fun x => { x with shadow := loopEnter p.tim.now l { x.shadow with good := upd x.shadow.good c (fun _ => 0)
                                                                                          fastLost := inc16 x.shadow.fastLost } }) p
    mirrorLost { p1 with duo := { p1.duo with fastLost := inc16 p1.duo.fastLost } }

/-- FAST_MIRROR_RECEIVED (11 R365, R366). -/
def execFastMirrorReceived (c : Fin 8) (die : Die) (ok : Bool) (f : MirrorIn) (s : State) : Out :=
  run1 (fastMirror c.val die ok f.agree f.loop) s

/-- The supervisory mirror at the non-active die: adopted, or lost and counted (11 R361, 14 R456). -/
def supMirror (d : Die) (ok : Bool) (p : Pkg) : Pkg :=
  if !shadows p d then p
  else if ok then
    let p1 := updDie d (fun x => { x with shadow := { x.shadow with supAt := p.clk } }) p
    { p1 with duo := { p1.duo with supAck := p1.duo.mirrors.2 } }
  else
    let p1 := updDie d (fun x => { x with shadow := { x.shadow with supLost := inc16 x.shadow.supLost } }) p
    mirrorLost { p1 with duo := { p1.duo with supLost := inc8 p1.duo.supLost } }

/-- SUPERVISORY_MIRROR_RECEIVED (11 R361). -/
def execSupervisoryMirrorReceived (die : Die) (ok : Bool) (s : State) : Out := run1 (supMirror die ok) s

/-! ### The self-tests and the report (11 R366 to R369) -/

/-- Banks of 256 KB in a die's 24 MB of main SRAM (01 R34, 11 R366). -/
def marchRound : Nat := 96

/-- Vector sets that cover every lane and, with them, every multiply-accumulate unit: one per lane, 8 per supervisory
cycle (11 R366, R369; log 63). -/
def laneRound : Nat := 128

/-- The self-tests of a cycle, paused above T_QUIET (11 R366, R368, 19 R570). -/
def runTests (t : TestIn) (quiet : Bool) (now : Nat) (s : Shadow) : Shadow :=
  if quiet then s
  else
    let bad := if !t.marchOk then 0x10 else if t.lanes = some false then 0x11 else 0
    { s with banks := (s.banks + t.banks) % 2 ^ 32, sets := if t.lanes = some true then (s.sets + 8) % 2 ^ 32 else s.sets
             lastFail := if bad ≠ 0 then bad else s.lastFail, failTime := if bad ≠ 0 then now else s.failTime }

/-- Time since the last good fast mirror frame of a cluster, or since it entered its present state where that is later,
in ns (11 R362; log 63). -/
def mirrorAge (p : Pkg) (s : Shadow) (c : Nat) : Nat := p.clk - max (s.goodAt.getD c 0) (clAt p c).run.since

/-- The clusters that run. -/
def runningCl (p : Pkg) : List Nat := (List.range 8).filter (fun c => (clAt p c).run.st.running)

/-- The fast mirror age in ns: the largest over the running clusters (11 R362). -/
def fastAge (p : Pkg) (s : Shadow) : Nat := (runningCl p).foldl (fun a c => max a (mirrorAge p s c)) 0

/-- A running cluster's fast mirror is older than four of its heartbeat slots, each half a carrier period of fine ticks of
78.125 ps (11 R355, R369). -/
def fastStale (p : Pkg) (s : Shadow) : Bool :=
  (runningCl p).any (fun c => decide (mirrorAge p s c * 12800 > 2 * (clAt p c).cfg.period * 1000))

/-- Every switching port that is enabled has had a loopback edge compared (11 R369). -/
def loopCovered (p : Pkg) (s : Shadow) : Bool := (List.range 96).all (fun q => !loopPort p q || s.looped.contains q)

/-- The verdict: the first that applies of 11 R369. -/
def verdictOf (p : Pkg) (s : Shadow) : Verdict :=
  if s.failed then .failTest
  else if s.run ≥ 3 then .failMismatch
  else if !s.synced ∨ s.sets < laneRound ∨ !loopCovered p s then .coverage
  else if fastStale p s ∨ p.clk - s.supAt > 2000000 then .staleMirror
  else .pass

/-- A report as published (11 R368). -/
def reportOf (p : Pkg) (d : Die) : Sampler :=
  let x := dieOf p d
  let s := x.shadow
  let f := if s.lastFail = 0 then (x.lastFail, x.failTime) else (s.lastFail, s.failTime)
  { verdict := verdictOf p s, die := d, seq := (s.seq + 1) % 2 ^ 32, time := p.tim.now, banks := s.banks
    rounds := s.banks / marchRound, sets := s.sets, edges := s.edges, lastFail := f.1, failTime := f.2
    mismatch := s.mismatch, run := s.run, fastLost := s.fastLost, ageFast := min 0xFFFFFFFF (fastAge p s / 100)
    ageSup := min 65535 ((p.clk - s.supAt) / 1000), supLost := s.supLost }

/-- The candidate becomes STANDBY: DUAL, and a DUO_READMIT of it is DONE (11 R353, R374, R381). -/
def toDual (d : Die) (p : Pkg) : Pkg :=
  let p1 := updDie d (fun x => { x with st := .standby, soak := true, soakFrom := none }) p
  let p2 := setArb .dual { p1 with duo := { p1.duo with evt := { p1.duo.evt with readmitted := true } } }
  match p2.duo.rdWork with
  | some (id, k) => if k = d then finishWork id .ok { p2 with duo := { p2.duo with rdWork := none } } else p2
  | none => p2

/-- The standby becomes CANDIDATE, with no soak on its return (11 R353). -/
def standbyStale (d : Die) (p : Pkg) : Pkg :=
  setArb .sync (dropSwitches (updDie d (fun x => { x with st := .candidate, soak := false, soakFrom := none }) p))

/-- A Sampler report reaches the arbiter (11 R353, R368, R374). -/
def samplerTake (d : Die) (p : Pkg) : Pkg :=
    let r := reportOf p d
    let v := r.verdict
    let p1 := updDie d (fun x => { x with report := some (r, p.clk)
                                          shadow := { x.shadow with seq := r.seq, fastLost := 0, supLost := 0 }
                                          soakFrom := if v = .pass ∧ x.st = .candidate then some (x.soakFrom.getD p.clk) else none }) p
    if v = .failTest ∨ v = .failMismatch then
      let p2 := if v = .failMismatch then { p1 with duo := { p1.duo with evt := { p1.duo.evt with mismatch := true } } } else p1
      standbyFails d (noteLast d .sampler 0xF p2)
    else if v = .staleMirror ∧ (dieOf p1 d).st = .standby then standbyStale d p1
    else if v = .pass ∧ (dieOf p1 d).st = .candidate ∧ !(dieOf p1 d).soak then toDual d p1
    else p1

/-- A non-active die's self-tests of the cycle and its report: a failed march or vector set is a SELF fault of the die,
whose reset comes before a report (11 R356, R366, R368). -/
def samplerReport (d : Die) (t : TestIn) (p : Pkg) : Pkg :=
  if !shadows p d then p
  else
    let p1 := updDie d (fun x => { x with shadow := runTests t p.thm.quiet p.tim.now x.shadow }) p
    if (dieOf p1 d).shadow.failed then dieFault .self 0xF d p1 else samplerTake d p1

/-- SAMPLER_REPORT (11 R368). -/
def execSamplerReport (t : TestIn) (s : State) : Out := run1 (samplerReport t.die t) s

/-- The standby's newest report is older than 10 ms (11 R353). -/
def samplerStale (d : Die) (p : Pkg) : Pkg :=
  let x := dieOf p d
  if x.st = .standby ∧ due p ((x.report.map (·.2)).getD 0 + 10000000) then standbyStale d p else p

/-- SAMPLER_STALE (11 R353). -/
def execSamplerStale (die : Die) (s : State) : Out := run1 (samplerStale die) s

/-- SOAK has passed since the candidate's first PASS, with no other report (11 R374). -/
def soakDone (d : Die) (p : Pkg) : Pkg :=
  let x := dieOf p d
  if x.st = .candidate ∧ p.duo.arb = .sync ∧ x.soak ∧ dueO p (x.soakFrom.map (· + p.duo.soak * 1000000)) then toDual d p else p

/-- SOAK_COMPLETE (11 R374). -/
def execSoakComplete (die : Die) (s : State) : Out := run1 (soakDone die) s

/-- The full synchronisation of a candidate is complete (11 R363). -/
def fullSync (d : Die) (p : Pkg) : Pkg :=
  if (dieOf p d).st = .candidate ∧ !(dieOf p d).shadow.synced then
    let p1 := updDie d (fun x => { x with shadow := { x.shadow with synced := true, supAt := p.clk, goodAt := List.replicate 8 p.clk } }) p
    (List.range 96).foldl (fun p q => updPin q (fun x => x.setLines d (x.lines d.other)) p) p1
  else p

/-- FULL_SYNC_COMPLETE (11 R363). -/
def execFullSyncComplete (die : Die) (s : State) : Out := run1 (fullSync die) s

/-! ### Return of a repaired die (11 R374 to R376, R381) -/

/-- Automatic readmissions begun in the last 24 h of the time counter (11 R376). -/
def readmitCount (p : Pkg) (d : Die) : Nat :=
  ((dieOf p d).readmits.filter (fun t => decide (p.tim.now < t + 86400000000000))).length

/-- A FAILED die leaves its reset: TESTING, with the firmware that the active die booted from (11 R353, R375). -/
def startTest (d : Die) (p : Pkg) : Pkg := updDie d (fun x => { x with st := .testing, shadow := {}, failedAt := none }) p

/-- A FAILED die is eligible for automatic readmission (11 R376). -/
def autoReadmit (d : Die) (p : Pkg) : Pkg :=
  let x := dieOf p d
  if x.st ≠ .failed ∨ p.duo.arb ≠ .solo ∨ !p.duo.auto ∨ !dueO p (x.failedAt.map (· + 1000000000)) ∨
      readmitCount p d ≥ p.duo.maxReadmit then p
  else startTest d (updDie d (fun x => { x with readmits := cap 255 (p.tim.now :: x.readmits) }) p)

/-- AUTO_READMISSION (11 R376). -/
def execAutoReadmission (die : Die) (s : State) : Out := run1 (autoReadmit die) s

/-- A TESTING die finishes its tests: full synchronisation follows, or FAILED (11 R353, R363, R375). -/
def dieTested (d : Die) (ok : Bool) (p : Pkg) : Pkg :=
  if (dieOf p d).st ≠ .testing ∨ p.duo.arb ≠ .solo then p
  else if ok then
    let fw := ((activeDie p).map (fun k => (dieOf p k).fw)).getD none
    let p1 := updDie d (fun x => { x with st := .candidate, soak := true, soakFrom := none, shadow := {}, fw := fw }) p
    setArb .sync { p1 with sys := { p1.sys with wiped := upd p1.sys.wiped (dieIx d) (fun _ => true) } }
  else standbyFails d p

/-- DIE_TEST_COMPLETE (11 R353). -/
def execDieTestComplete (die : Die) (ok : Bool) (s : State) : Out := run1 (dieTested die ok) s

/-- DUO_READMIT's checks (11 R381). -/
def specDuoReadmit : OpSpec where
  op := 0x0602
  lenOk d := d.length == 4
  role := needOpr
  params p d := inR 0 1 (u8 d 0) && zeros d 1 3 && activeDie p != some (if u8 d 0 = 0 then .a else .b)
  modes := notRetired

/-- DUO_READMIT: the command's checks (11 R381). -/
def execDuoReadmit (ep : Fin 3) (slot : Fin 64) (s : State) : Out := run1 (submit specDuoReadmit true (slotIx ep slot) noAns) s

/-- DUO_READMIT applied: a FAILED die is readmitted whatever its count, which is cleared (11 R376, R381). -/
def applyDuoReadmit (id : Nat) (d : List Byte) (p : Pkg) : Pkg :=
  let k : Die := if u8 d 0 = 0 then .a else .b
  if (dieOf p k).st ≠ .failed then finishWork id .ok p
  else
    let p1 := updDie k (fun x => { x with readmits := [] }) p
    if p.duo.arb ≠ .solo then finishWork id .faulted p1
    else
      let p2 := startTest k p1
      runWork id { p2 with duo := { p2.duo with rdWork := some (id, k) } }

/-! ### Planned switchover (11 R373, R381) -/

/-- DUO_SWITCH's checks (11 R381). -/
def specDuoSwitch : OpSpec where
  op := 0x0601
  lenOk d := d.length == 4
  role := needOpr
  params _ d := zeros d 0 4
  modes := notRetired
  guard p _ := if p.duo.arb = .solo ∨ p.duo.arb = .none then 2 else 0
  busy p _ := p.duo.arb == .sync

/-- DUO_SWITCH: the command's checks (11 R381). -/
def execDuoSwitch (ep : Fin 3) (slot : Fin 64) (s : State) : Out := run1 (submit specDuoSwitch true (slotIx ep slot) noAns) s

/-- DUO_SWITCH applied: it waits for its slot in DUAL (11 R373, R381). -/
def applyDuoSwitch (id : Nat) (p : Pkg) : Pkg :=
  if p.duo.arb = .dual then runWork id { p with duo := { p.duo with swWork := p.duo.swWork ++ [id] } }
  else finishWork id .faulted p

/-- Both dies' newest lane CRCs of a cluster are of one slot and equal, and the standby has the fast mirror of that cycle
and of the one before (11 R373). -/
def slotAgrees (p : Pkg) (d : Die) (c : Nat) : Bool :=
  (match p.duo.a.crc.getD c none, p.duo.b.crc.getD c none with
   | some x, some y => x == y
   | _, _ => false) && decide ((dieOf p d).shadow.good.getD c 0 ≥ 2)

/-- The slot of a planned flip to a die: a fast-cycle slot of a running cluster that agrees, an idle slot where none runs,
with no supervisory mirror in transit (11 R373; log 63). -/
def flipSlot (p : Pkg) (d : Die) : Bool :=
  ((runningCl p).isEmpty || (runningCl p).any (slotAgrees p d)) && p.duo.supAck == p.duo.mirrors.2

/-- The arbiter flips Hoop at a slot that meets 11 R373; the former active die is CANDIDATE without a reset. -/
def plannedFlip (p : Pkg) : Pkg :=
  match activeDie p, p.duo.swWork with
  | some d, id :: _ =>
    if p.duo.arb ≠ .dual ∨ !mayTakeOver p d.other ∨ !flipSlot p d.other then p
    else
      let p1 := finishWork id .ok (noteLast d .planned 0xF p)
      let p2 := takeOver d.other (dropSwitches { p1 with duo := { p1.duo with swWork := p1.duo.swWork.drop 1 } })
      let p3 := updDie d (fun x => { x with st := .candidate, soak := false, soakFrom := none
                                            shadow := { x.shadow with synced := true, supAt := p.clk, run := 0, fastLost := 0, supLost := 0
                                                                      good := List.replicate 8 0, goodAt := List.replicate 8 p.clk } }) p2
      setArb .sync { p3 with duo := { p3.duo with evt := { p3.duo.evt with planned := true } } }
  | _, _ => p

/-- PLANNED_FLIP (11 R373). -/
def execPlannedFlip (s : State) : Out := run1 plannedFlip s

/-! ### Safe-stop by the Ground die (11 R377 to R380) -/

/-- A trigger reaches the Ground die (11 R377; log 61). -/
def safeStopTrigger (k : Nat) (p : Pkg) : Pkg :=
  let o := p.sys.hoopG.owner
  match k with
  | 0 => hoopSilent .ground p
  | 1 => if inMode p [.armed, .deliver, .derate, .isolated, .service] then safeStopFault p else ssTrigger 2 o p
  | 4 => requestReset .mem (safeStopFault (ssTrigger 5 o p))
  | k => ssTrigger (k + 1) o (clustersHalt p)

/-- SAFE_STOP_TRIGGER: trigger code trig + 1 (11 R377). -/
def execSafeStopTrigger (trig : Fin 5) (s : State) : Out := run1 (safeStopTrigger trig.val) s

/-- Isolators of a region (11 R378). -/
def isolatorsOf (p : Pkg) (r : Nat) : List Nat := ((dcdcOf p r).map (fun n => fnPorts p n .isolator)).flatten

/-- A DC-meter sample below 5 A becomes available: the region's isolators open (11 R378). -/
def isolatorOpen (r : Nat) (amps : Int) (t : Nat) (p0 : Pkg) : Pkg :=
  let p := advance t p0
  if !p.duo.ss.running ∨ amps.natAbs ≥ 5000 then p
  else ssComplete ((isolatorsOf p r).foldl (fun p q => ssOpen false amps q p) p)

/-- SAFE_STOP_ISOLATOR_OPEN, the sample in mA (11 R378). -/
def execSafeStopIsolatorOpen (r : Fin 4) (amps : Int) (t : Nat) (s : State) : Out := run1 (isolatorOpen r.val amps t) s

/-- Static ports of the AFE clusters measured by an AC meter, each BYPASS before each PRECHARGE (11 R378). -/
def acPorts (p : Pkg) (m : Nat) : List Nat :=
  let cl := (afes p).filter (fun n => (clAt p n).cfg.acMeter == m)
  (cl.map (fun n => fnPorts p n .bypass)).flatten ++ (cl.map (fun n => fnPorts p n .precharge)).flatten

/-- An AC static port opens; which of the phase currents its entry holds is not stated: a free value (11 R380; log 65). -/
def acOpen (forced : Bool) (q : Nat) (p : Pkg) : Pkg :=
  let (v, p1) := drawFree 16 p
  ssOpen forced (sext 16 v * 100) q p1

/-- The samples of an AC meter show every phase below 5 A over 1 ms: bypass, then pre-charge (11 R378). -/
def bypassOpen (m t : Nat) (p0 : Pkg) : Pkg :=
  let p := advance t p0
  if !p.duo.ss.running ∨ p.duo.ss.acLow.getD m 0 ≤ 1000000 then p
  else ssComplete ((acPorts p m).foldl (fun p q => acOpen false q p) p)

/-- SAFE_STOP_BYPASS_OPEN (11 R378). -/
def execSafeStopBypassOpen (m : Fin 2) (t : Nat) (s : State) : Out := run1 (bypassOpen m.val t) s

/-- 500 ms after the trigger every static port still on opens with FORCED (11 R378). -/
def forceTimeout (p : Pkg) : Pkg :=
  if !p.duo.ss.running ∨ !due p (p.duo.ss.clk + 500000000) then p
  else
    let now := fun r => (mcAt p (2 * r + 1)).now / 2 ^ 91
    let p1 := (List.range 4).foldl (fun p r => (isolatorsOf p r).foldl (fun p q => ssOpen true (now r) q p) p) p
    let p2 := (acPorts p1 0 ++ acPorts p1 1).foldl (fun p q => if p.duo.ss.left_.contains q then acOpen true q p else p) p1
    ssComplete (p2.duo.ss.left_.foldl (fun p q => acOpen true q p) p2)

/-- SAFE_STOP_FORCE_TIMEOUT (11 R378). -/
def execSafeStopForceTimeout (s : State) : Out := run1 forceTimeout s

end Sys2Proof.Machine
end

