-- ==== Sys2Proof/Machine/Registers.lean ====
section
/-!
DEFINITION. The register blocks SYS, MBX, PWR, CE, VCMD and EYE as the readback space shows them and as PARAM_WRITE
changes them (21 R612 to R616, R624 to R627).
-/

namespace Sys2Proof.Machine

/-! ### What every block shares (00 R10, R11, 21 R614, R626) -/

/-- A register put together from (value, msb, lsb) of its fields; reserved bits are zero (00 R10). -/
def pk (l : List (Nat × Nat × Nat)) : Nat := l.foldl (fun a x => a + x.1 % 2 ^ (x.2.1 + 1 - x.2.2) * 2 ^ x.2.2) 0

/-- An offset lies in an array of n registers or groups of a stride. -/
def inB (off base stride n : Nat) : Bool := base ≤ off && off < base + stride * n

/-- A 32-bit word out of bytes, zero beyond them. -/
def wordAt (l : List Byte) (k : Nat) : Nat := leNat ((l.drop (4 * k)).take 4)

/-- The low and high halves of a 64-bit quantity (21 R614). -/
def half (v k : Nat) : Nat := if k = 0 then v % 2 ^ 32 else v / 2 ^ 32 % 2 ^ 32

/-- Which bits of a register PARAM_WRITE changes, and under which conditions (21 R625, R626). -/
structure RegOpen where
  /-- RW, WO and RWS bits. -/
  rw    : Nat := 0
  /-- RW1C bits. -/
  w1c   : Nat := 0
  /-- Modes of the RW bits. -/
  modes : Mode → Bool := notRetired
  /-- METROLOGY in place of OPERATOR. -/
  met   : Bool := false
  /-- Life-cycle SERVICE only. -/
  svc   : Bool := false
  /-- Further condition on value and mask, else BAD_PARAMETER. -/
  ok    : Nat → Nat → Bool := fun _ _ => true
  /-- Guard code of a further condition, 0 when it passes. -/
  guard : Nat → Nat → Nat := fun _ _ => 0

/-! ### SYS (21 R613) -/

/-- SYS_RESET_CAUSE (02 R74). -/
def causeWord (c : ResetCauses) : Nat :=
  pk [(c.retries, 31, 24), (bit c.retry, 9, 9), (bit c.dieB, 8, 8), (bit c.dieA, 7, 7), (bit c.lc, 6, 6), (bit c.mem, 5, 5)
      , (bit c.thermal, 4, 4), (bit c.cmd, 3, 3), (bit c.pin, 2, 2), (bit c.por, 1, 1), (bit c.first, 0, 0)]

/-- SYS_MODE (02 R63). -/
def modeWord (s : Sys) : Nat :=
  pk [(s.prev.code, 19, 16), (bit s.degraded, 15, 15), (bit s.grant.isSome, 14, 14), (s.lastGuard, 11, 4), (s.mode.code, 3, 0)]

/-- SYS_LC (02 R70). -/
def lcWord (f : LcFuses) : Nat :=
  pk [(bit f.scrap, 27, 27), (bit f.prov, 26, 26), (f.seals, 25, 20), (f.breaks, 19, 14), (f.lc.code, 3, 0)]

/-- SYS registers (21 R613). -/
def sysRead (p : Pkg) (off : Nat) : Nat :=
  match off with
  | 0 => modeWord p.sys
  | 4 => lcWord p.sys.lcRead
  | 8 => causeWord p.sys.cause
  | _ => 0

/-- What PARAM_WRITE changes in SYS (21 R626). -/
def sysOpen (off : Nat) : RegOpen := if off = 8 then { w1c := 0x3FF } else {}

/-- A write of SYS_RESET_CAUSE: RETRY clears RETRIES with it (02 R74). -/
def causeWrite (v m : Nat) (c : ResetCauses) : ResetCauses :=
  let retry := w1c v m 9 c.retry
  { first := w1c v m 0 c.first, por := w1c v m 1 c.por, pin := w1c v m 2 c.pin, cmd := w1c v m 3 c.cmd, thermal := w1c v m 4 c.thermal
    mem := w1c v m 5 c.mem, lc := w1c v m 6 c.lc, dieA := w1c v m 7 c.dieA, dieB := w1c v m 8 c.dieB, retry := retry
    retries := if tb v 9 ∧ tb m 9 then 0 else c.retries }

/-- A write in SYS. -/
def sysWrite (off v m : Nat) (p : Pkg) : Pkg :=
  if off = 8 then { p with sys := { p.sys with cause := causeWrite v m p.sys.cause } } else p

/-! ### MBX (03 R119, 21 R624) -/

/-- State of a link's health word (01 R631). -/
def linkState (configured up : Bool) : UnitState := if !configured then .unused else if up then .active else .ready

/-- Slots of an endpoint in a state. -/
def slotsIn (p : Pkg) (e : Nat) (st : SlotState) : Nat :=
  (((p.mbx.slots.drop (64 * e)).take 64).filter (fun s => s.state == st)).length

/-- MBX_EPn_STAT (03 R119). -/
def epStat (p : Pkg) (e : Nat) : Nat :=
  pk [(bit (epUp p e), 31, 31), (slotsIn p e .pending, 30, 24), (slotsIn p e .done, 22, 16)
      , ((p.mbx.sessions.filter (fun s => s.ep == e)).length, 15, 8), (if e = 2 then p.mbx.queue.length else 0, 4, 0)]

/-- MBX_EPn_ERR (03 R119). -/
def epErr (x : EpErr) : Nat := pk [(x.tag, 31, 24), (x.replay, 23, 16), (x.malformed, 15, 8), (x.pushDrop, 7, 0)]

/-- MBX_EPn_HEALTH (03 R119, 01 R631). -/
def epHealth (p : Pkg) (e : Nat) : Nat :=
  let conf := e = 2 ∨ (p.mbx.addrs.getD e none).isSome
  health p 5 (linkState conf (epUp p e)) false false false (bit (epUp p e) * 2 ^ 15 + (p.mbx.err.getD e {}).lastCycle % 256)

/-- Client n in configuration-image order (03 R119). -/
def clientN (p : Pkg) (n : Nat) : Option ClientCfg := p.mbx.clients[n]?

/-- An item's entry in MBX_Cn_WORKj (21 R624). -/
def workEntry (p : Pkg) (client : Nat) (w : WorkItem) : List Byte :=
  let sq := ((seqOf p client).acc.find? (fun a => a.result.workId == w.id)).map (·.seq)
  toLe 8 w.id ++ [byte w.state.code, 0] ++ toLe 2 w.status.code ++ toLe 4 (sq.getD 0)

/-- MBX registers (03 R119, 21 R624). -/
def mbxRead (p : Pkg) (off : Nat) : Nat :=
  if inB off 0 4 3 then epStat p (off / 4)
  else if inB off 0x10 4 3 then epErr (p.mbx.err.getD ((off - 0x10) / 4) {})
  else if inB off 0x30 4 3 then epHealth p ((off - 0x30) / 4)
  else if off = 0x20 then min 1000 (sumN p.mbx.busy / 1000000)
  else if off = 0x24 then p.mbx.boots % 65536
  else if off = 0x28 then p.mbx.clients.length
  else if inB off 0x80 4 32 then ((clientN p ((off - 0x80) / 4)).map (fun c => (seqOf p c.id).high)).getD 0
  else if inB off 0x100 4 32 then ((clientN p ((off - 0x100) / 4)).map (fun c => (openItems p c.id).length)).getD 0
  else if inB off 0x1000 0x500 3 then
    let k := off - 0x1000
    wordAt (slotRecord p (slotAt p (k / 0x500 * 64 + k % 0x500 / 20))) (k % 0x500 % 20 / 4)
  else if inB off 0x20000 0x1000 32 then
    let k := off - 0x20000
    match clientN p (k / 0x1000) with
    | none => 0
    | some c => match (openItems p c.id)[k % 0x1000 / 16]? with
      | some w => wordAt (workEntry p c.id w) (k % 16 / 4)
      | none => 0
  else 0

/-- What PARAM_WRITE changes in MBX (21 R626). -/
def mbxOpen (off : Nat) : RegOpen := if inB off 0x10 4 3 then { w1c := 0xFFFFFFFF } else {}

/-- A write in MBX (03 R119). -/
def mbxWrite (off v m : Nat) (p : Pkg) : Pkg :=
  if inB off 0x10 4 3 then
    updErr ((off - 0x10) / 4) (fun e => { e with tag := w1cF v m 31 24 e.tag, replay := w1cF v m 23 16 e.replay
                                                 malformed := w1cF v m 15 8 e.malformed, pushDrop := w1cF v m 7 0 e.pushDrop }) p
  else p

/-! ### PWR (04 R161) -/

/-- Clusters that satisfy a test, as bits. -/
def clBits (p : Pkg) (f : Cluster → Bool) : Nat := bitsN (p.pwr.cl.map f)

/-- Code of a cluster's type (04 R161). -/
def ClType.code : ClType → Nat
  | .unused => 0 | .afe => 1 | .dcdc => 2

/-- Code of a cluster's state (04 R161). -/
def ClState.code : ClState → Nat
  | .off => 0 | .prebias => 1 | .match_ => 2 | .ramp => 3 | .regulate => 4 | .rampDown => 5 | .faulted => 6

/-- Code of a port's use (04 R161). -/
def PortUse.code : PortUse → Nat
  | .unused => 0 | .switching => 1 | .static_ => 2

/-- Code of a phase's state (04 R161). -/
def PhaseSt.code : PhaseSt → Nat
  | .active => 0 | .shedding => 1 | .shed => 2 | .returning => 3

/-- PWR_CLn_EVT (04 R161). -/
def clEvtWord (e : ClEvt) : Nat :=
  bitsN [e.shedStep, e.loadstep, e.preFail, e.syncFb, e.trimSat, e.revblock, e.overrun]

/-- A signed quantity in a coarser unit, towards zero, as 32 bits (log 66). -/
def coarse (x : Int) (k : Int) : Nat := uns 32 (x.tdiv k)

/-- Registers of cluster n. PWR_CLn_TARGET shows the target commanded, also while a start aims at the outlet's voltage
(04 R146, R161; log 113). -/
def clRead (p : Pkg) (n k : Nat) : Nat :=
  let c := clAt p n
  let ord := fun i => ((List.range 4).map (fun j => (c.cfg.order.getD (4 * i + j) 0xFF) % 256 * 256 ^ j)).foldl (· + ·) 0
  match k with
  | 0x00 => pk [(c.cfg.type.code, 31, 30), (bit c.cfg.centred, 29, 28), (c.cfg.fcDiv, 27, 25), ((swPorts p n).length, 24, 20)
                , ((stPorts p n).length, 19, 15)]
  | 0x04 => c.cfg.period
  | 0x08 => pk [(bit c.dyn.locked, 31, 31), (bit c.dyn.srcSync, 30, 30), (bit c.cfg.syncIn, 29, 28), (c.cfg.samplePt, 25, 16)
                , (c.rw.offset, 9, 0)]
  | 0x0C => c.run.target
  | 0x10 => uns 32 (c.run.ref.tdiv 80000000)
  | 0x14 => pk [(c.rw.rate, 8, 0)]
  | 0x18 => pk [(c.run.st.code, 31, 28), ((livePhases p n).length, 27, 23), ((availPhases p n).length, 22, 18)
                , (bit c.dyn.frozen, 17, 17), (bit c.run.cold, 16, 16), (c.run.cause, 7, 0)]
  | 0x1C => pk [(bit c.rw.shedEn, 31, 31), (c.rw.minPh, 28, 24), (c.rw.addLvl, 15, 8), (c.rw.shedLvl, 7, 0)]
  | 0x20 => pk [(c.rw.hold, 31, 16), (c.rw.dwell, 15, 0)]
  | 0x24 => pk [(bit c.rw.balEn, 31, 31), (c.rw.kb, 15, 0)]
  | 0x28 => c.cfg.iPh
  | 0x2C => c.cfg.vRated
  | 0x30 => coarse c.dyn.load 100
  | 0x34 => coarse c.dyn.vout 10
  | 0x38 => c.run.vpre
  | 0x3C => c.run.droop % 65536
  | 0x40 => clEvtWord c.dyn.evt
  | 0x44 => c.cfg.dmin
  | 0x48 => c.cfg.dmax
  | 0x4C => pk [(c.cfg.prechg, 31, 16), (c.cfg.isoSettle, 15, 8)]
  | k => if inB k 0x50 4 6 then ord ((k - 0x50) / 4) else 0

/-- STATE of a port's health word (01 R631). -/
def portUnit (p : Pkg) (q : Nat) : UnitState :=
  match clusterOf p q with
  | none => .unused
  | some n =>
    if (ptAt p q).cfg.use_ = .unused then .unused
    else if (eyAt p q).force ≠ .follow then .test
    else if (clAt p n).run.st = .off then .ready
    else if (clAt p n).run.st = .faulted then .faulted
    else .active

/-- PWR_Pp_HEALTH (04 R161). -/
def portHealth (p : Pkg) (q : Nat) : Nat :=
  let x := (ptAt p q).run
  let e := eyAt p q
  health p 1 (portUnit p q) e.latched ((ptAt p q).cfg.use_ == .static_) false
    (pk [(bit x.en, 15, 15), (if e.latched then 2 else x.st.code, 14, 13), (bit x.revLast, 12, 12), (bit x.trimSat, 11, 11)
         , (bit (!e.faultN), 10, 10), (e.faultCnt, 7, 0)])

/-- Registers of port q (04 R161). -/
def portRead (p : Pkg) (q k : Nat) : Nat :=
  let x := ptAt p q
  match k with
  | 0x00 => portHealth p q
  | 0x04 => pk [((clusterOf p q).getD 0, 31, 29), (bit (clusterOf p q).isSome, 28, 28), (x.cfg.use_.code, 27, 26)
                , (x.cfg.group, 25, 24), (x.cfg.offset, 19, 0)]
  | 0x08 => x.run.duty
  | 0x0C => uns 32 x.run.trim
  | 0x10 => coarse x.run.i 100
  | _ => 0

/-- Registers of region r (04 R161). -/
def rgRead (p : Pkg) (r k : Nat) : Nat :=
  let g := rgAt p r
  match k with
  | 0x00 => g.cap.getD 0xFFFFFFFF
  | 0x04 => p.ldg.lent.getD r 0
  | 0x08 => g.icap
  | 0x0C => g.bind
  | 0x10 => uns 32 g.pout
  | _ => 0

/-- PWR registers (04 R161). -/
def pwrRead (p : Pkg) (off : Nat) : Nat :=
  if off = 0 then pk [(p.pwr.overruns, 31, 16), (clBits p (fun c => c.run.st == .faulted), 15, 8), (clBits p (fun c => c.run.st.running), 7, 0)]
  else if inB off 0x100 0x80 8 then clRead p ((off - 0x100) / 0x80) ((off - 0x100) % 0x80)
  else if inB off 0x800 0x20 96 then portRead p ((off - 0x800) / 0x20) ((off - 0x800) % 0x20)
  else if inB off 0x1400 0x20 4 then rgRead p ((off - 0x1400) / 0x20) ((off - 0x1400) % 0x20)
  else 0

/-- What PARAM_WRITE changes in PWR; values outside a field's stated range are refused (04 R121, R159, R161, 05 R188,
21 R626; log 66). -/
def pwrOpen (p : Pkg) (off : Nat) : RegOpen :=
  if off = 0 then { w1c := 0xFFFF0000 }
  else if inB off 0x100 0x80 8 then
    let n := (off - 0x100) / 0x80
    let c := clAt p n
    let on := c.cfg.type != .unused
    match (off - 0x100) % 0x80 with
    | 0x08 => { rw := 0x3FF, ok := fun v m => on && offsetOk p n (wr v m 9 0 c.rw.offset) }
    | 0x14 => { rw := 0x1FF, ok := fun v m => on && inR 1 500 (wr v m 8 0 c.rw.rate) }
    | 0x1C => { rw := 0x9F00FFFF, ok := fun v m =>
                  on && inR 1 (phases p n).length (wr v m 28 24 c.rw.minPh) && inR 0 90 (wr v m 7 0 c.rw.shedLvl) &&
                    inR (wr v m 7 0 c.rw.shedLvl + 10) 100 (wr v m 15 8 c.rw.addLvl) }
    | 0x20 => { rw := 0xFFFFFFFF, ok := fun v m =>
                  on && inR 10 60000 (wr v m 31 16 c.rw.hold) && inR 1 10000 (wr v m 15 0 c.rw.dwell) }
    | 0x24 => { rw := 0x8000FFFF, ok := fun _ _ => on }
    | 0x40 => { w1c := 0x7F }
    | _ => {}
  else if inB off 0x1400 0x20 4 ∧ (off - 0x1400) % 0x20 = 0 then
    let g := (rgAt p ((off - 0x1400) / 0x20)).cap.getD 0xFFFFFFFF
    { rw := 0xFFFFFFFF, ok := fun v m => let w := wr v m 31 0 g; inR 0 3750 w || w == 0xFFFFFFFF }
  else {}

/-- A write in PWR (04 R161). -/
def pwrWrite (off v m : Nat) (p : Pkg) : Pkg :=
  if off = 0 then { p with pwr := { p.pwr with overruns := w1cF v m 31 16 p.pwr.overruns } }
  else if inB off 0x100 0x80 8 then
    let n := (off - 0x100) / 0x80
    let rw := fun f => updCl n (fun c => { c with rw := f c.rw }) p
    match (off - 0x100) % 0x80 with
    | 0x08 => setOffset n (wr v m 9 0 (clAt p n).rw.offset) p
    | 0x14 => rw (fun w => { w with rate := wr v m 8 0 w.rate })
    | 0x1C => rw (fun w => { w with shedEn := wrB v m 31 w.shedEn, minPh := wr v m 28 24 w.minPh, addLvl := wr v m 15 8 w.addLvl
                                    shedLvl := wr v m 7 0 w.shedLvl })
    | 0x20 => rw (fun w => { w with hold := wr v m 31 16 w.hold, dwell := wr v m 15 0 w.dwell })
    | 0x24 => rw (fun w => { w with balEn := wrB v m 31 w.balEn, kb := wr v m 15 0 w.kb })
    | 0x40 => clEvt n (fun e => { overrun := w1c v m 6 e.overrun, revblock := w1c v m 5 e.revblock, trimSat := w1c v m 4 e.trimSat
                                  syncFb := w1c v m 3 e.syncFb, preFail := w1c v m 2 e.preFail, loadstep := w1c v m 1 e.loadstep
                                  shedStep := w1c v m 0 e.shedStep }) p
    | _ => p
  else if inB off 0x1400 0x20 4 then
    updRg ((off - 0x1400) / 0x20) (fun g =>
      let w := wr v m 31 0 (g.cap.getD 0xFFFFFFFF)
      { g with cap := if w = 0xFFFFFFFF then none else some w }) p
  else p

/-! ### CE (05 R191) -/

/-- A coefficient set in the order of its registers (05 R191). -/
def Coefs.list (c : Coefs) : List Int := [c.b0, c.b1, c.b2, c.b3, c.a1, c.a2, c.a3, c.ff]

/-- Code of OUT (05 R191). -/
def LaneOut.code : LaneOut → Nat
  | .duty => 0 | .ref => 1 | .actuator => 2 | .none => 3

/-- Code of REF_KIND (05 R191). -/
def RefKind.code : RefKind → Nat
  | .zero => 0 | .cluster => 1 | .lane => 2 | .setpoint => 3 | .dq => 4

/-- Code of FF_KIND (05 R191). -/
def FfKind.code : FfKind → Nat
  | .none => 0 | .product => 1 | .ratio => 2 | .lane => 3

/-- Code of a repetitive controller's state (05 R191). -/
def RcState.code : RcState → Nat
  | .off => 0 | .learn => 1 | .hold => 2 | .coast => 3

/-- Code of a following-error action (05 R185). -/
def FeAction.code : FeAction → Nat
  | .flag => 0 | .derate => 1 | .safeStop => 2

/-- A following-error action by its code (05 R185). -/
def FeAction.ofCode : Nat → FeAction
  | 1 => .derate | 2 => .safeStop | _ => .flag

/-- STATE of a lane's health word (01 R631). -/
def laneUnit (p : Pkg) (x : Lane) : UnitState :=
  let st := (clAt p x.cfg.cluster).run.st
  if !x.cfg.used then .unused
  else if x.cfg.slow then (if x.run.derated then .derated else .active)
  else if x.run.feStop then .faulted
  else if x.run.derated then .derated
  else if st.running then .active
  else .ready

/-- CE_Llll_HEALTH; a SLOW lane whose source is invalid is EXCLUDED (05 R191, 16 R506). -/
def laneHealth (p : Pkg) (x : Lane) : Nat :=
  health p 2 (laneUnit p x) false false (x.cfg.used && x.cfg.slow && !(p.lsw.src.getD x.cfg.fb {}).valid)
    (pk [(bit x.run.sat, 15, 15), (bit x.run.asat, 14, 14), (bit (decide (x.run.feCnt > 0)), 13, 13), (x.run.feTaken, 12, 11)
         , (bit x.run.held, 10, 10), (bit x.run.ffGuard, 9, 9), (bit x.run.preLast, 8, 8), (x.run.satCnt, 7, 0)])

/-- Registers of a lane (05 R191). -/
def laneRead (p : Pkg) (l k : Nat) : Nat :=
  let x := laneAt p l
  let c := x.cfg
  match k with
  | 0x00 => pk [(bit c.used, 31, 31), (bit c.order3, 30, 30), (bit c.slow, 29, 29), (if c.slow then 0 else c.cluster, 28, 26)
                , (c.out.code, 25, 24), (c.outIdx, 23, 17), (c.refKind.code, 16, 14), (c.refLane, 13, 7), (c.fb, 6, 0)]
  | 0x04 => pk [(c.ffKind.code, 31, 30), (c.ffA, 29, 23), (c.ffB, 22, 16), (bit c.aw, 15, 15), (bit c.caplink, 14, 14)]
  | 0x08 => c.base
  | 0x4C => uns 32 x.rw.lo
  | 0x50 => uns 32 x.rw.hi
  | 0x54 => uns 32 x.rw.setpt
  | 0x58 => uns 32 x.rw.feLimit
  | 0x5C => pk [(x.rw.feAct.code, 31, 30), (x.rw.feDer, 23, 16), (x.rw.feTime, 15, 0)]
  | 0x60 => pk [(bit c.rc, 31, 31), (c.zcSrc, 30, 28), (c.slot, 27, 22), (x.rc.st.code, 21, 20), (x.rw.lead, 19, 15)
                , (x.rw.qfilt, 14, 7), (x.rc.req.code, 6, 5)]
  | 0x64 => uns 32 x.rw.gain
  | 0x68 => uns 32 x.rw.forget_
  | 0x6C => c.obase
  | 0x70 => uns 32 x.rw.rcClamp
  | 0x74 => laneHealth p x
  | 0x78 => uns 32 (toQ24 x.run.e)
  | 0x7C => uns 32 (toQ24 x.run.u)
  | k =>
    if inB k 0x0C 4 8 then uns 32 (x.rw.staged.list.getD ((k - 0x0C) / 4) 0)
    else if inB k 0x2C 4 8 then uns 32 (x.run.act.list.getD ((k - 0x2C) / 4) 0)
    else 0

/-- CE_EVT (05 R191). -/
def ceEvtWord (e : CeEvt) : Nat := bitsN [e.asat, e.feFlag, e.feDer, e.feStop, e.rcCoast, e.swapRef]

/-- CE registers (05 R191). -/
def ceRead (p : Pkg) (off : Nat) : Nat :=
  let n := fun (f : LaneCfg → Bool) => (p.ce.lane.filter (fun x => x.cfg.used && f x.cfg)).length
  if off = 0 then pk [(n (·.rc), 23, 16), (n (·.slow), 15, 8), (n (fun c => !c.slow), 7, 0)]
  else if off = 4 then pk [(p.ce.worst, 24, 16), (p.ce.peak, 8, 0)]
  else if off = 8 then ceEvtWord p.ce.evt
  else if inB off 0x10 4 4 then bitsN (((p.ce.lane.drop (32 * ((off - 0x10) / 4))).take 32).map (fun x => x.run.swap.isSome))
  else if inB off 0x100 4 64 then
    let m := p.ce.rcm.getD ((off - 0x100) / 4) {}
    pk [(if nValid m.n then m.n else 0, 31, 23), (m.index, 22, 14)]
  else if inB off 0x1000 0x80 128 then laneRead p ((off - 0x1000) / 0x80) ((off - 0x1000) % 0x80)
  else if inB off 0x10000 0x400 64 then
    uns 32 ((p.ce.rcm.getD ((off - 0x10000) / 0x400) {}).mem.getD ((off - 0x10000) % 0x400 / 4) 0)
  else 0

/-- What PARAM_WRITE changes in CE (05 R191, 21 R626; log 66). -/
def ceOpen (p : Pkg) (off : Nat) : RegOpen :=
  if off = 4 then { w1c := 0x1FF }
  else if off = 8 then { w1c := 0x3F }
  else if inB off 0x1000 0x80 128 then
    let x := laneAt p ((off - 0x1000) / 0x80)
    let on := x.cfg.used
    match (off - 0x1000) % 0x80 with
    | 0x4C | 0x50 | 0x54 => { rw := 0xFFFFFFFF, ok := fun _ _ => on }
    | 0x64 => { rw := 0xFFFFFFFF, ok := fun v m => on && inR 1 0x40000000 (wr v m 31 0 (uns 32 x.rw.gain)) }
    | 0x68 => { rw := 0xFFFFFFFF, ok := fun v m => on && inR 966367642 0x40000000 (wr v m 31 0 (uns 32 x.rw.forget_)) }
    | 0x58 => { rw := 0xFFFFFFFF, ok := fun v m => on && decide (wrI v m x.rw.feLimit > 0) }
    | 0x5C => { rw := 0xC0FFFFFF, ok := fun v m =>
                  on && inR 0 2 (wr v m 31 30 x.rw.feAct.code) && inR 10 100 (wr v m 23 16 x.rw.feDer) && decide (wr v m 15 0 x.rw.feTime > 0) }
    | 0x60 => { rw := 0x000FFF80, ok := fun v m => on && inR 0 64 (wr v m 14 7 x.rw.qfilt) }
    | 0x70 => { rw := 0xFFFFFFFF, ok := fun v m => on && decide (wrI v m x.rw.rcClamp ≥ 0) }
    | k => if inB k 0x0C 4 8 then { rw := 0xFFFFFFFF, ok := fun _ _ => on } else {}
  else {}

/-- A staged coefficient written (05 R175). -/
def Coefs.setAt (k v m : Nat) (c : Coefs) : Coefs :=
  match k with
  | 0 => { c with b0 := wrI v m c.b0 }
  | 1 => { c with b1 := wrI v m c.b1 }
  | 2 => { c with b2 := wrI v m c.b2 }
  | 3 => { c with b3 := wrI v m c.b3 }
  | 4 => { c with a1 := wrI v m c.a1 }
  | 5 => { c with a2 := wrI v m c.a2 }
  | 6 => { c with a3 := wrI v m c.a3 }
  | _ => { c with ff := wrI v m c.ff }

/-- A write of a lane's registers (05 R191). -/
def LaneRw.set (k v m : Nat) (w : LaneRw) : LaneRw :=
  match k with
  | 0x4C => { w with lo := wrI v m w.lo }
  | 0x50 => { w with hi := wrI v m w.hi }
  | 0x54 => { w with setpt := wrI v m w.setpt }
  | 0x58 => { w with feLimit := wrI v m w.feLimit }
  | 0x5C => { w with feAct := FeAction.ofCode (wr v m 31 30 w.feAct.code), feDer := wr v m 23 16 w.feDer, feTime := wr v m 15 0 w.feTime }
  | 0x60 => { w with lead := wr v m 19 15 w.lead, qfilt := wr v m 14 7 w.qfilt }
  | 0x64 => { w with gain := wrI v m w.gain }
  | 0x68 => { w with forget_ := wrI v m w.forget_ }
  | 0x70 => { w with rcClamp := wrI v m w.rcClamp }
  | k => if inB k 0x0C 4 8 then { w with staged := w.staged.setAt ((k - 0x0C) / 4) v m } else w

/-- A write in CE (05 R191). -/
def ceWrite (off v m : Nat) (p : Pkg) : Pkg :=
  if off = 4 then { p with ce := { p.ce with peak := w1cF v m 8 0 p.ce.peak } }
  else if off = 8 then
    ceEvt (fun e => { swapRef := w1c v m 5 e.swapRef, rcCoast := w1c v m 4 e.rcCoast, feStop := w1c v m 3 e.feStop
                      feDer := w1c v m 2 e.feDer, feFlag := w1c v m 1 e.feFlag, asat := w1c v m 0 e.asat }) p
  else if inB off 0x1000 0x80 128 then
    updLane ((off - 0x1000) / 0x80) (fun x => { x with rw := x.rw.set ((off - 0x1000) % 0x80) v m }) p
  else p

/-! ### VCMD (06 R217) -/

/-- Code of SRC (06 R217). -/
def CmdSrc.code : CmdSrc → Nat
  | .purl => 0 | .register => 1 | .both => 2 | .v2g => 3

/-- Code of OWNER (06 R217). -/
def Owner.code : Owner → Nat
  | .none => 0 | .purl _ => 1 | .register => 2 | .v2g _ => 3

/-- Registers of region r (06 R217). -/
def vrRead (p : Pkg) (r k : Nat) : Nat :=
  let v := vrAt p r
  match k with
  | 0x00 => pk [(v.src.code, 31, 30), (bit v.autoOpen, 29, 29)]
  | 0x04 => v.target
  | 0x08 => pk [(v.slew, 8, 0)]
  | 0x0C => v.ilim.getD 0xFFFFFFFF
  | 0x10 => pk [(bit v.reached, 31, 31), (bit v.slewing, 30, 30), (v.cmdBy.code, 29, 28), (v.seq, 23, 16), (v.lastCause, 15, 8), (v.writes, 7, 0)]
  | 0x14 => bit v.session.isSome
  | _ => 0

/-- A Purl port owns its region's session (06 R217). -/
def ppOwner (p : Pkg) (u : Nat) : Bool := (vrAt p (regionOf u)).session == some (.purl u)

/-- VCMD_Pp_HEALTH (06 R217, 01 R631). -/
def ppHealth (p : Pkg) (u : Nat) : Nat :=
  let x := ppAt p u
  let r := regionOf u
  health p 5 (linkState (!(dcdcOf p r).isEmpty && purlSrc p r) x.up) false false false
    (pk [(bit x.up, 15, 15), (bit (ppOwner p u), 14, 14), (x.errLast, 7, 0)])

/-- Registers of Purl port u (06 R217). -/
def ppRead (p : Pkg) (u k : Nat) : Nat :=
  let x := ppAt p u
  match k with
  | 0x0 => pk [(bit x.up, 31, 31), (bit (ppOwner p u), 30, 30), (bit x.linkLost, 29, 29), (x.crcErr, 23, 16), (x.discard, 15, 8), (x.codeErr, 7, 0)]
  | 0x4 => pk [(x.queue.length, 12, 8), (x.newest, 7, 0)]
  | 0x8 => ppHealth p u
  | _ => 0

/-- VCMD registers (06 R217). -/
def vcmdRead (p : Pkg) (off : Nat) : Nat :=
  if off = 0 then vrRead p 0 4
  else if off = 4 then vrRead p 0 8
  else if inB off 0x100 0x20 4 then vrRead p ((off - 0x100) / 0x20) ((off - 0x100) % 0x20)
  else if inB off 0x200 0x10 8 then ppRead p ((off - 0x200) / 0x10) ((off - 0x200) % 0x10)
  else 0

/-- A region's register-path registers as PARAM_WRITE reaches them (06 R213 to R216, 21 R626). -/
def vrOpen (p : Pkg) (r k : Nat) : RegOpen :=
  let v := vrAt p r
  match k with
  | 0x04 => { rw := 0xFFFFFFFF, modes := idleToIsolated, ok := fun x m => regSrc p r && decide (wr x m 31 0 v.target ≤ vLow p r) }
  | 0x08 => { rw := 0x1FF, modes := idleToIsolated, ok := fun x m => regSrc p r && inR 1 500 (wr x m 8 0 v.slew) }
  | 0x14 => { rw := 1, modes := idleToIsolated, ok := fun _ _ => regSrc p r }
  | _ => {}

/-- What PARAM_WRITE changes in VCMD (21 R626). -/
def vcmdOpen (p : Pkg) (off : Nat) : RegOpen :=
  if off = 0 then vrOpen p 0 4
  else if off = 4 then vrOpen p 0 8
  else if inB off 0x100 0x20 4 then vrOpen p ((off - 0x100) / 0x20) ((off - 0x100) % 0x20)
  else if inB off 0x200 0x10 8 ∧ (off - 0x200) % 0x10 = 0 then { w1c := 0x20FFFFFF }
  else {}

/-- A write of a region's register-path registers (06 R213 to R216). -/
def vrWrite (r k v m : Nat) (p : Pkg) : Pkg :=
  match k with
  | 0x04 => targetWrite r (wr v m 31 0 (vrAt p r).target) p
  | 0x08 => slewWrite r (wr v m 8 0 (vrAt p r).slew) p
  | 0x14 => if tb m 0 then sessionWrite r (tb v 0) p else p
  | _ => p

/-- A write in VCMD (06 R217). -/
def vcmdWrite (off v m : Nat) (p : Pkg) : Pkg :=
  if off = 0 then vrWrite 0 4 v m p
  else if off = 4 then vrWrite 0 8 v m p
  else if inB off 0x100 0x20 4 then vrWrite ((off - 0x100) / 0x20) ((off - 0x100) % 0x20) v m p
  else if inB off 0x200 0x10 8 then
    updPp ((off - 0x200) / 0x10) (fun x =>
      { x with linkLost := w1c v m 29 x.linkLost, crcErr := w1cF v m 23 16 x.crcErr, discard := w1cF v m 15 8 x.discard
               codeErr := w1cF v m 7 0 x.codeErr }) p
  else p

/-! ### EYE (07 R243) -/

/-- Code of a latch's cause (07 R243). -/
def LatchCause.code : LatchCause → Nat
  | .driver => 0 | .pattern => 1 | .noack => 2

/-- Code of a force (07 R235). -/
def Force.code : Force → Nat
  | .follow => 0 | .off => 1 | .low => 2 | .high => 3

/-- EYE_Pp_STAT (07 R243). -/
def eyeStat (p : Pkg) (q : Nat) : Nat :=
  let e := eyAt p q
  let x := pinAt p q
  pk [(bit e.latched, 31, 31), (e.cause.code, 30, 29), (bit e.clr.isSome, 28, 28), (e.mode.code, 27, 26), (bit e.ack, 25, 25)
      , (bit e.faultN, 24, 24), (bit x.en, 23, 23), (bit x.pulse, 22, 22), (e.faultCnt, 7, 0)]

/-- EYE registers (07 R243). -/
def eyeRead (p : Pkg) (off : Nat) : Nat :=
  if off = 0 then pk [((p.eye.port.filter (·.latched)).length, 31, 24), (p.eye.bothRef, 23, 16), (p.eye.patErr, 15, 0)]
  else if inB off 0x100 4 8 then
    let n := (off - 0x100) / 4
    pk [(bit (p.eye.fused.getD n false), 31, 31), (p.eye.holdMax.getD n 0, 25, 4), (p.eye.dt.getD n 0, 3, 0)]
  else if inB off 0x200 8 96 then
    let q := (off - 0x200) / 8
    if (off - 0x200) % 8 = 0 then eyeStat p q else (eyAt p q).force.code
  else 0

/-- What PARAM_WRITE changes in EYE (07 R235, R236, 21 R626). -/
def eyeOpen (p : Pkg) (off : Nat) : RegOpen :=
  if off = 0 then { w1c := 0x00FFFFFF }
  else if inB off 0x200 8 96 ∧ (off - 0x200) % 8 = 4 then
    let q := (off - 0x200) / 8
    let f := fun v m => forceBad p q (wr v m 2 0 (eyAt p q).force.code)
    { rw := 7, met := true, svc := true, modes := (· == .service)
      ok := fun v m => (f v m).all (fun x => x.1 != .badParameter), guard := fun v m => if (f v m).isSome then 8 else 0 }
  else {}

/-- A write in EYE (07 R235, R243). -/
def eyeWrite (off v m client : Nat) (p : Pkg) : Pkg :=
  if off = 0 then
    { p with eye := { p.eye with bothRef := w1cF v m 23 16 p.eye.bothRef, patErr := w1cF v m 15 0 p.eye.patErr
                                 patSeen := w1cF v m 15 0 p.eye.patSeen } }
  else if inB off 0x200 8 96 ∧ (off - 0x200) % 8 = 4 then
    let q := (off - 0x200) / 8
    forceWrite q (wr v m 2 0 (eyAt p q).force.code) client p
  else p

end Sys2Proof.Machine
end

