-- ==== Sys2Proof/Machine/Registers2.lean ====
section
/-!
DEFINITION. The register blocks LDG, MTR, BIL and DUO as the readback space shows them and as PARAM_WRITE changes them
(21 R612 to R616, R624 to R627).
-/

namespace Sys2Proof.Machine

/-! ### LDG (08 R282, 21 R624) -/

/-- Code of LDG_STAT.STATE (08 R282). -/
def LdgState.code : LdgState → Nat
  | .unjoined => 0 | .joining => 1 | .joined => 2 | .fenced => 3 | .leaving => 4 | .left_ => 5

/-- A held range with its marks (21 R624). -/
structure HeldRange where
  /-- Range; 21 R624. -/
  r       : TRange := {}
  /-- Floor; 21 R624. -/
  floor   : Bool := false
  /-- LEAVING; 21 R624. -/
  leaving : Bool := false
  deriving DecidableEq, Repr

/-- Parts of l that lie in k. -/
def meetAll (k l : List TRange) : List TRange := subAll (subAll k l) l

/-- A range put in its place by its first index. -/
def insRange (x : HeldRange) : List HeldRange → List HeldRange
  | [] => [x]
  | y :: l => if x.r.first ≤ y.r.first then x :: y :: l else y :: insRange x l

/-- Held ranges, cut where their marks change, ascending (21 R624). -/
def heldRanges (p : Pkg) : List HeldRange :=
  let fl := floorR p
  let out := p.ldg.nv.outs.map (·.range)
  let all := p.ldg.nv.ranges
  let part := fun (f v : Bool) =>
    let a := if f then meetAll fl all else subAll fl all
    (if v then meetAll out a else subAll out a).map (fun r => ({ r := r, floor := f, leaving := v } : HeldRange))
  (part true true ++ part true false ++ part false true ++ part false false).foldr insRange []

/-- LDG_LEASE (08 R282). -/
def leaseWord (p : Pkg) : Nat :=
  let age := match p.ldg.granted with | some t => min 0xFFFF ((p.clk - t) / 1000000) | none => 0xFFFF
  let rem := match p.ldg.leaseTo with | some t => min 0xFFFF ((t - p.tim.now) / 1000000) | none => 0
  pk [(age, 31, 16), (rem, 15, 0)]

/-- LDG_QUORUM (08 R282); zero until a map takes effect. -/
def quorumWord (p : Pkg) : Nat :=
  if p.ldg.nv.map_.isNone then 0
  else pk [(pairs p, 31, 22), (quorum p, 21, 12), (((p.ldg.reqs.head?).map (fun q => q.grants.length)).getD 0, 11, 2)]

/-- LDG_EVT (08 R282). -/
def ldgEvtWord (e : LdgEvt) : Nat :=
  bitsN [e.unmet, e.xferRef, e.renewLate, e.expired, e.fenced, e.reclBy, e.tempWd, e.mapOld]

/-- LDG registers (08 R282, 21 R624). -/
def ldgRead (p : Pkg) (off : Nat) : Nat :=
  let g := p.ldg
  let map := g.nv.map_
  match off with
  | 0x00 => pk [(g.nv.st.code, 31, 28), (bit (leaseOk p), 27, 27), (bit (isVoice p), 26, 26), (bit g.nv.pendMap.isSome, 25, 25)]
  | 0x04 => (map.map (·.ver)).getD 0
  | 0x08 => (map.map (·.n)).getD 0
  | 0x0C => pk [(g.nv.ranges.length, 31, 25), (heldTok p, 24, 0)]
  | 0x10 => pk [(bit g.nv.floorSet, 31, 31), (floorOf p (nodeAddr p), 24, 0)]
  | 0x14 => usable p % 2 ^ 25
  | 0x18 => g.temp
  | 0x1C => g.target
  | 0x20 => pk [(bitsN g.floorUse, 31, 28), (g.loss, 15, 0)]
  | 0x24 => leaseWord p
  | 0x28 => quorumWord p
  | 0x2C => (map.map (fun m => pk [(reclaimWait p / 1000000, 31, 16), (m.skew, 15, 8)])).getD 0
  | 0x30 => pk [(g.nv.outs.length, 31, 24), ((g.nv.ins.filter (fun x => x.st == .pending)).length, 23, 16), (g.xferDone, 15, 0)]
  | 0x34 => ldgEvtWord g.evt
  | k =>
    if inB k 0x100 0x10 4 then
      let r := (k - 0x100) / 0x10
      if k % 0x10 = 0 then g.demand.getD r 0 else if k % 0x10 = 4 then g.weight.getD r 0 else 0
    else if inB k 0x200 8 64 then
      match (heldRanges p)[(k - 0x200) / 8]? with
      | some x => wordAt (rangeWords x.floor x.leaving x.r) (k % 8 / 4)
      | none => 0
    else if inB k 0x400 0x20 48 then
      match (g.nv.xlog.filter (xferShown p))[(k - 0x400) / 0x20]? with
      | some x => wordAt (xferBytes x) (k % 0x20 / 4)
      | none => 0
    else 0

/-- What PARAM_WRITE changes in LDG: the ranges of LDG_POLICY's parameters (08 R281, 21 R626). -/
def ldgOpen (p : Pkg) (off : Nat) : RegOpen :=
  if off = 0x20 then { rw := 0xF000FFFF, ok := fun v m => inR 0 2000 (wr v m 15 0 p.ldg.loss) }
  else if off = 0x34 then { w1c := 0xFF }
  else if inB off 0x100 0x10 4 ∧ off % 0x10 = 4 then
    { rw := 0xFF, ok := fun v m => inR 1 255 (wr v m 7 0 (p.ldg.weight.getD ((off - 0x100) / 0x10) 0)) }
  else {}

/-- A write in LDG (08 R282). -/
def ldgWrite (off v m : Nat) (p : Pkg) : Pkg :=
  if off = 0x20 then
    let f := mapI (fun i b => wrB v m (28 + i) b) p.ldg.floorUse
    { p with ldg := { p.ldg with floorUse := f, loss := wr v m 15 0 p.ldg.loss } }
  else if off = 0x34 then
    ldgEvt (fun e => { unmet := w1c v m 0 e.unmet, xferRef := w1c v m 1 e.xferRef, renewLate := w1c v m 2 e.renewLate
                       expired := w1c v m 3 e.expired, fenced := w1c v m 4 e.fenced, reclBy := w1c v m 5 e.reclBy
                       tempWd := w1c v m 6 e.tempWd, mapOld := w1c v m 7 e.mapOld }) p
  else if inB off 0x100 0x10 4 ∧ off % 0x10 = 4 then
    { p with ldg := { p.ldg with weight := upd p.ldg.weight ((off - 0x100) / 0x10) (fun w => wr v m 7 0 w) } }
  else p

/-! ### MTR (09 R315) -/

/-- MTR_STAT (09 R315). -/
def mtrStat (p : Pkg) : Nat :=
  let lost := (List.range 6).map (fun i => ((mtAt p (4 + i / 3)).ph.getD (i % 3) {}).lost)
  pk [(bitsN lost, 31, 26), (bit p.mtr.trial, 25, 25), (p.mtr.epoch, 23, 20), (8 - p.mtr.banks.length, 19, 16)]

/-- MTR_EVT (09 R315). -/
def mtrEvtWord (e : MtrEvt) : Nat :=
  bitsN [e.pulseLim, e.tempSubst, e.phaseLost, e.overrange, e.saveGap, e.fallback, e.calBurnt]

/-- MTR_PULSEk_CFG (09 R315). -/
def pulseWord (u : PulseOut) : Nat := pk [(bit u.en, 31, 31), (bit u.trial, 30, 30), (u.meter, 29, 27), (u.qty, 26, 24), (u.k, 16, 0)]

/-- Phase loss of an AC voltage channel (09 R301, R315). -/
def chanLost (p : Pkg) (c : Nat) : Bool :=
  match meterOf c with
  | some m => isAc m && decide (c - firstCh m < 3) && ((mtAt p m).ph.getD (c - firstCh m) {}).lost
  | none => false

/-- MTR_CHc_HEALTH (09 R315, 01 R631). -/
def chanHealth (p : Pkg) (c : Nat) : Nat :=
  let x := mcAt p c
  let st := if x.act.kind = 0 then UnitState.unused else .active
  health p 3 st false false false
    (pk [(bit x.ovrLast, 15, 15), (bit x.tsubst, 14, 14), (bit (chanLost p c), 13, 13), (x.ovrCnt, 7, 0)])

/-- Registers of channel c (09 R315). -/
def chanRead (p : Pkg) (c k : Nat) : Nat :=
  let x := mcAt p c
  match k with
  | 0x00 => pk [(x.act.kind, 31, 28), ((meterOf c).getD 0xF, 27, 24), (x.act.step, 23, 21)]
  | 0x04 => x.act.scale
  | 0x08 => uns 32 x.staged.gain
  | 0x0C => uns 32 x.staged.offset
  | 0x10 => uns 32 x.staged.phase
  | 0x14 => uns 32 x.value
  | 0x18 => x.ripple
  | 0x1C => chanHealth p c
  | _ => 0

/-- Registers of meter m: the accumulators as of the last completed interval (09 R303, R305, R315). -/
def meterRead (p : Pkg) (m k : Nat) : Nat :=
  let x := mtAt p m
  let a := p.mtr.shown.getD m []
  match k with
  | 0x00 => pk [(if isAc m then 2 else 1, 31, 28), (bit (isAc m && (bankOf p).nom60.getD (m - 4) false), 27, 27)]
  | 0x04 => pMax p m
  | 0x50 => uns 32 x.p
  | 0x54 => uns 32 x.q
  | 0x58 => x.s
  | 0x5C => x.freq
  | 0x60 => half x.gap 0
  | 0x64 => half x.gap 1
  | 0x68 => half x.seq 0
  | 0x6C => half x.seq 1
  | k =>
    if inB k 0x08 8 6 then half (a.getD ((k - 8) / 8) 0) (k % 8 / 4)
    else if inB k 0x38 4 6 then a.getD ((k - 0x38) / 4) 0 / 1000000 % 2 ^ 32
    else if inB k 0x70 8 3 then half ((x.ph.getD ((k - 0x70) / 8) {}).zc) (k % 8 / 4)
    else 0

/-- MTR registers (09 R315). -/
def mtrRead (p : Pkg) (off : Nat) : Nat :=
  if off = 0 then mtrStat p
  else if off = 4 then mtrEvtWord p.mtr.evt
  else if off = 8 then pk [(p.mtr.wrErr, 31, 24), (p.mtr.late, 23, 16)]
  else if off = 0x10 then pk [(bit p.mtr.burn.isSome, 31, 31), (bit p.mtr.trial, 30, 30)]
  else if inB off 0x80 8 4 then
    let u := p.mtr.pulse.getD ((off - 0x80) / 8) {}
    if off % 8 = 0 then pulseWord u else u.cnt
  else if inB off 0x100 0x20 32 then chanRead p ((off - 0x100) / 0x20) ((off - 0x100) % 0x20)
  else if inB off 0x500 0x10 32 then
    let x := mcAt p ((off - 0x500) / 0x10)
    match off % 0x10 with
    | 0 => uns 32 x.act.gain
    | 4 => uns 32 x.act.offset
    | 8 => uns 32 x.act.phase
    | _ => uns 32 x.tfact
  else if inB off 0x800 0x100 6 then meterRead p ((off - 0x800) / 0x100) ((off - 0x800) % 0x100)
  else if inB off 0x4000 0x800 2 ∧ (off - 0x4000) % 0x800 < 0x600 then
    let k := (off - 0x4000) % 0x800
    (p.mtr.harm.getD ((off - 0x4000) / 0x800 * 384 + k / 4) none).getD 0xFFFFFFFF
  else 0

/-- What PARAM_WRITE changes in MTR (09 R289, R292, R314, R315, 21 R626). -/
def mtrOpen (p : Pkg) (off : Nat) : RegOpen :=
  if off = 4 then { w1c := 0x7F }
  else if off = 8 then { w1c := 0xFFFF0000 }
  else if off = 0x10 then
    { rw := 0xC0000000, met := true, svc := true, guard := fun v m => if tb v 31 && tb m 31 && bankFull p then 0xA else 0 }
  else if inB off 0x80 8 4 ∧ off % 8 = 0 then
    let u := pulseWord (p.mtr.pulse.getD ((off - 0x80) / 8) {})
    { rw := 0xFF01FFFF, ok := fun v m => pulseOk p (wr v m 31 0 u) }
  else if inB off 0x100 0x20 32 ∧ ((off - 0x100) % 0x20 = 8 ∨ (off - 0x100) % 0x20 = 0xC ∨ (off - 0x100) % 0x20 = 0x10) then
    { rw := 0xFFFFFFFF, met := true, svc := true }
  else {}

/-- A write of MTR_CAL_CTRL: BURN acts by a 1, TRIAL is set (09 R289, R292). -/
def calCtrlWrite (v m : Nat) (p : Pkg) : Pkg :=
  let p1 := if tb m 30 then applyTrial (tb v 30) p else p
  if tb v 31 ∧ tb m 31 then applyCalBurn p1 else p1

/-- Change a metering channel. -/
def updMc (c : Nat) (f : MChan → MChan) (p : Pkg) : Pkg := { p with mtr := { p.mtr with chan := upd p.mtr.chan c f } }

/-- A write in MTR (09 R315). -/
def mtrWrite (off v m : Nat) (p : Pkg) : Pkg :=
  if off = 4 then
    mtrEvt (fun e => { pulseLim := w1c v m 0 e.pulseLim, tempSubst := w1c v m 1 e.tempSubst, phaseLost := w1c v m 2 e.phaseLost
                       overrange := w1c v m 3 e.overrange, saveGap := w1c v m 4 e.saveGap, fallback := w1c v m 5 e.fallback
                       calBurnt := w1c v m 6 e.calBurnt }) p
  else if off = 8 then
    { p with mtr := { p.mtr with wrErr := w1cF v m 31 24 p.mtr.wrErr, late := w1cF v m 23 16 p.mtr.late } }
  else if off = 0x10 then calCtrlWrite v m p
  else if inB off 0x80 8 4 ∧ off % 8 = 0 then
    let k := (off - 0x80) / 8
    applyPulse k (wr v m 31 0 (pulseWord (p.mtr.pulse.getD k {}))) p
  else if inB off 0x100 0x20 32 then
    updMc ((off - 0x100) / 0x20) (fun c =>
      let s := c.staged
      match (off - 0x100) % 0x20 with
      | 8 => { c with staged := { s with gain := wrI v m s.gain } }
      | 0xC => { c with staged := { s with offset := wrI v m s.offset } }
      | 0x10 => { c with staged := { s with phase := wrI v m s.phase } }
      | _ => c) p
  else p

/-! ### BIL (10 R350) -/

/-- The open receipt of region r, if any (10 R350). -/
def openRcpt (p : Pkg) (r : Nat) : Option Receipt := p.bil.rcpts.find? (fun x => x.st == .open_ && x.region == r)

/-- BIL_RGr_STATE: a session closes while its region's transition or its receipt's close is awaited (10 R350; log 70). -/
def bilState (p : Pkg) (r : Nat) : Nat :=
  let x := openRcpt p r
  let closing := (vrAt p r).closing || x.any (·.closeReq.isSome)
  pk [(if closing then 2 else if x.isSome then 1 else 0, 31, 28), (p.bil.tariff, 27, 24)
      , ((x.map (·.events.length)).getD 0, 23, 16), ((x.map (·.flags)).getD 0, 15, 8)]

/-- Registers of region r (10 R350). -/
def bilRgRead (p : Pkg) (r k : Nat) : Nat :=
  let g := p.bil.rg.getD r {}
  match k with
  | 0x00 => bilState p r
  | 0x04 => half g.rcpt 0
  | 0x08 => half g.rcpt 1
  | 0x0C => pk [(g.revCnt, 31, 24), (g.curCnt, 23, 16)]
  | 0x10 => g.dem
  | k =>
    if inB k 0x20 8 8 then half (g.tar.getD ((k - 0x20) / 8) 0) (k % 8 / 4)
    else if inB k 0x60 4 8 then g.maxDem.getD ((k - 0x60) / 4) 0
    else 0

/-- BIL_EVT (10 R350). -/
def bilEvtWord (e : BilEvt) : Nat :=
  bitsN [e.calAct, e.timeSet, e.reverse, e.bypEnergy, e.bypCur, e.neutral, e.rcptHigh, e.rcptFull, e.powerDown]

/-- BIL registers (10 R350). -/
def bilRead (p : Pkg) (off : Nat) : Nat :=
  let b := p.bil
  let t := b.tmp
  match off with
  | 0x00 => pk [((b.rcpts.filter (fun x => x.st != .acked)).length, 31, 21), (bit b.passive.isSome, 20, 20), (bit b.timeHold, 19, 19)]
  | 0x04 => bilEvtWord b.evt
  | 0x08 => b.period % 2 ^ 32
  | 0x0C => half b.closeT 0
  | 0x10 => half b.closeT 1
  | 0x14 => half b.holdT 0
  | 0x18 => half b.holdT 1
  | 0x1C => b.tariff % 16
  | 0x20 => (b.cal.map (·.id)).getD 0
  | 0x24 => (b.passive.map (·.id)).getD 0
  | 0x28 => half ((b.passive.map (·.act)).getD 0) 0
  | 0x2C => half ((b.passive.map (·.act)).getD 0) 1
  | 0x30 => pk [(b.demN, 15, 8), (b.demLen, 7, 0)]
  | 0x34 => half (b.rcptCtr % 2 ^ 48) 0
  | 0x38 => half (b.rcptCtr % 2 ^ 48) 1
  | 0x3C => half b.evIdx 0
  | 0x40 => half b.evIdx 1
  | 0x50 => pk [(t.irev, 31, 16), (t.revMs, 15, 0)]
  | 0x54 => pk [(t.bypRel, 31, 24), (t.bypWin, 23, 16), (t.bypAbs, 15, 0)]
  | 0x58 => pk [(t.curAbs, 31, 16), (t.curRel, 15, 8), (t.curTime, 7, 0)]
  | 0x5C => pk [(t.ndisp, 31, 24), (t.inMin, 23, 16), (t.neuTime, 15, 8), (bitsN t.fourW, 1, 0)]
  | 0x60 => t.lossA
  | 0x64 => uns 32 t.lossB
  | 0x68 => t.lossC
  | k =>
    if inB k 0x100 0x80 4 then bilRgRead p ((k - 0x100) / 0x80) ((k - 0x100) % 0x80)
    else if inB k 0x400 0x10 2 then
      let a := b.ac.getD ((k - 0x400) / 0x10) {}
      match k % 0x10 with
      | 0 => pk [(a.bypCnt, 31, 24), (a.neuCnt, 23, 16)]
      | 4 => a.disp
      | 8 => uns 32 a.diff
      | _ => 0
    else 0

/-- What PARAM_WRITE changes in BIL (21 R626). -/
def bilOpen (off : Nat) : RegOpen := if off = 4 then { w1c := 0x1FF } else {}

/-- A write in BIL (10 R350). -/
def bilWrite (off v m : Nat) (p : Pkg) : Pkg :=
  if off = 4 then
    let e := p.bil.evt
    { p with bil := { p.bil with evt :=
        { calAct := w1c v m 0 e.calAct, timeSet := w1c v m 1 e.timeSet, reverse := w1c v m 2 e.reverse, bypEnergy := w1c v m 3 e.bypEnergy
          bypCur := w1c v m 4 e.bypCur, neutral := w1c v m 5 e.neutral, rcptHigh := w1c v m 6 e.rcptHigh, rcptFull := w1c v m 7 e.rcptFull
          powerDown := w1c v m 8 e.powerDown } } }
  else p

/-! ### DUO (11 R382) -/

/-- Code of ARB (11 R382). -/
def ArbState.code : ArbState → Nat
  | .init => 0 | .dual => 1 | .sync => 2 | .solo => 3 | .none => 4

/-- Code of a die's state (11 R352). -/
def DieState.code : DieState → Nat
  | .held => 0 | .testing => 1 | .candidate => 2 | .standby => 3 | .active => 4 | .failed => 5

/-- Code of an owner: none, A or B (11 R382). -/
def ownerCode : Option Die → Nat
  | none => 0 | some .a => 1 | some .b => 2


/-- Code of a verdict (11 R368). -/
def Verdict.code : Verdict → Nat
  | .pass => 0 | .failTest => 1 | .failMismatch => 2 | .staleMirror => 3 | .coverage => 4

/-- A Sampler report's 64 bytes (11 R368). -/
def samplerBytes (r : Sampler) : List Byte :=
  let b := [byte r.verdict.code, byte (if r.die = .a then 0 else 1), 0, 0] ++ toLe 4 r.seq ++ toLe 8 r.time ++ toLe 4 r.banks ++ toLe 4 r.rounds
    ++ toLe 4 r.sets ++ toLe 4 r.edges ++ toLe 2 r.lastFail ++ [0, 0] ++ toLe 8 r.failTime ++ toLe 4 r.mismatch ++ toLe 2 r.run
    ++ toLe 2 r.fastLost ++ toLe 4 r.ageFast ++ toLe 2 r.ageSup ++ toLe 2 r.supLost
  b ++ toLe 4 (crc32 b)

/-- DUO_EVT (11 R382). -/
def duoEvtWord (e : DuoEvt) : Nat :=
  bitsN [e.switch, e.planned, e.mirrorLoss, e.mismatch, e.stbyReset, e.readmitted, e.none_, e.safeStop]

/-- DUO_LAST (11 R382). -/
def lastWord (x : Option (Die × Crit × Nat)) : Nat :=
  match x with
  | none => 0
  | some (d, c, s) => pk [(1, 31, 31), (if d = .a then 0 else 1, 30, 30), (c.code, 27, 24), (s, 23, 20)]

/-- DUO registers (11 R382). -/
def duoRead (p : Pkg) (off : Nat) : Nat :=
  let d := p.duo
  match off with
  | 0x00 => pk [(d.arb.code, 31, 28), (ownerCode p.sys.hoopG.owner, 27, 26), (ownerCode d.hoop, 25, 24), (d.a.st.code, 23, 20)
                , (d.b.st.code, 19, 16), (d.switches, 15, 0)]
  | 0x04 => pk [(bit d.auto, 31, 31), (d.maxReadmit, 23, 20), (d.soak, 15, 0)]
  | 0x08 => duoEvtWord d.evt
  | 0x0C => lastWord d.last
  | 0x10 => half d.lastTime 0
  | 0x14 => half d.lastTime 1
  | 0x18 => pk [(p.sys.hoopG.errors, 23, 16), (p.sys.hoopA.errors, 15, 8), (p.sys.hoopB.errors, 7, 0)]
  | 0x1C => d.drops
  | 0x20 => pk [(d.fastLost, 31, 16), (d.supLost, 15, 8)]
  | 0x24 => d.crcDiff
  | 0x28 => pk [(d.a.hbMiss, 31, 16), (d.b.hbMiss, 15, 0)]
  | 0x2C => pk [(readmitCount p .a, 15, 8), (readmitCount p .b, 7, 0)]
  | 0x40 => pk [(bit d.ss.latched, 31, 31), (bit d.ss.running, 30, 30), (d.ss.first, 26, 24), (d.ss.mask, 18, 14)
                , ((d.ss.ports.filter (·.forced)).length, 13, 6)]
  | 0x44 => half d.ss.time 0
  | 0x48 => half d.ss.time 1
  | 0x4C => if d.ss.rec_ then 0x10600000 else 0
  | k =>
    if inB k 0x100 0x40 2 then
      let x := if (k - 0x100) / 0x40 = 0 then d.a else d.b
      match x.report with
      | some (r, _) => wordAt (samplerBytes r) (k % 0x40 / 4)
      | none => 0
    else 0

/-- What PARAM_WRITE changes in DUO (11 R382, 21 R626). -/
def duoOpen (p : Pkg) (off : Nat) : RegOpen :=
  match off with
  | 0x04 => { rw := 0x80F0FFFF, ok := fun v m => inR 100 60000 (wr v m 15 0 p.duo.soak) }
  | 0x08 => { w1c := 0xFF }
  | 0x18 => { w1c := 0x00FFFFFF }
  | 0x1C | 0x24 | 0x28 => { w1c := 0xFFFFFFFF }
  | 0x20 => { w1c := 0xFFFFFF00 }
  | _ => {}

/-- A write in DUO (11 R382). -/
def duoWrite (off v m : Nat) (p : Pkg) : Pkg :=
  let d := p.duo
  match off with
  | 0x04 =>
    { p with duo := { d with auto := wrB v m 31 d.auto, maxReadmit := wr v m 23 20 d.maxReadmit, soak := wr v m 15 0 d.soak } }
  | 0x08 =>
    let e := d.evt
    { p with duo := { d with evt :=
        { switch := w1c v m 0 e.switch, planned := w1c v m 1 e.planned, mirrorLoss := w1c v m 2 e.mirrorLoss, mismatch := w1c v m 3 e.mismatch
          stbyReset := w1c v m 4 e.stbyReset, readmitted := w1c v m 5 e.readmitted, none_ := w1c v m 6 e.none_, safeStop := w1c v m 7 e.safeStop } } }
  | 0x18 =>
    let s := p.sys
    { p with sys := { s with hoopG := { s.hoopG with errors := w1cF v m 23 16 s.hoopG.errors }
                             hoopA := { s.hoopA with errors := w1cF v m 15 8 s.hoopA.errors }
                             hoopB := { s.hoopB with errors := w1cF v m 7 0 s.hoopB.errors } } }
  | 0x1C => { p with duo := { d with drops := w1cF v m 31 0 d.drops } }
  | 0x20 => { p with duo := { d with fastLost := w1cF v m 31 16 d.fastLost, supLost := w1cF v m 15 8 d.supLost } }
  | 0x24 => { p with duo := { d with crcDiff := w1cF v m 31 0 d.crcDiff } }
  | 0x28 => { p with duo := { d with a := { d.a with hbMiss := w1cF v m 31 16 d.a.hbMiss }, b := { d.b with hbMiss := w1cF v m 15 0 d.b.hbMiss } } }
  | _ => p

end Sys2Proof.Machine
end

