-- ==== Sys2Proof/Machine/Vehicle.lean ====
section
/-!
DEFINITION. Vehicle links (14 R443 to R457): discovery, TLS, the ISO 15118-20 requests and what each does to the
region's session, authorization, loss of the link, and the release of TCP segments to the mirror.
-/

namespace Sys2Proof.Machine

/-- A 10BASE-T1S port. -/
def vpAt (p : Pkg) (u : Nat) : VPort := p.vlk.port.getD u {}
/-- Update of a 10BASE-T1S port. -/
def updVp (u : Nat) (f : VPort → VPort) (p : Pkg) : Pkg := { p with vlk := { p.vlk with port := upd p.vlk.port u f } }

/-- The region serves vehicles on its ports (06 R192, 01 R631). -/
def v2gSrc (p : Pkg) (r : Nat) : Bool := (vrAt p r).src == .v2g

/-- A valid frame at a port: counted, and handled where the port is configured and a die is active (14 R443, R476,
01 R632). -/
def frameAtPort (u : Nat) (f : Pkg → Pkg) (p : Pkg) : Pkg :=
  if !awake p then p
  else
    let p1 := updVp u (fun x => { x with rx := (x.rx + 1) % 2 ^ 32, frameAt := some p.clk }) p
    if v2gSrc p1 (u / 2) then f p1 else p1

/-! ### Responses (14 R451, R456) -/

/-- The limits that responses report: ICAP, LENT and the lowest V_RATED (14 R451). -/
def evseLimits (p : Pkg) (r : Nat) : Nat × Nat × Nat := ((rgAt p r).icap * 100, p.ldg.lent.getD r 0, vLow p r * 10)

/-- Present voltage and current (14 R450). -/
def present (p : Pkg) (r : Nat) : Int × Int := (voutOf p r, ioutOf p r)

/-- A response as every cause that is told shows in it (14 R451). -/
def toldIn (c : Option Nat) (x : VResp) : VResp :=
  match c with
  | some 6 | some 7 | some 9 => { x with code := .failed, term := true }
  | some _ => { x with term := true }
  | none => x

/-- A response goes to the port's TCP connection, held for the mirror (14 R451, R456; log 64). -/
def respond (u : Nat) (x : VResp) (p : Pkg) : Pkg :=
  let v := vgAt p (u / 2)
  let y := if v.talk = some u then toldIn v.told x else x
  updVp u (fun z => { z with heldSeg := z.heldSeg ++ [{ n := z.seq, resp := y, mir := p.duo.mirrors.2 + 1 }], seq := z.seq + 1 }) p

/-- A response with its code alone. -/
def respondCode (u : Nat) (c : VCode) (p : Pkg) : Pkg := respond u { code := c } p

/-- TCP_SEGMENT_RELEASE: the oldest held segment goes to the MAC once the standby has acknowledged the mirror that
carries its state, or with no standby (14 R456). -/
def segRelease (u : Nat) (p : Pkg) : Pkg :=
  match (vpAt p u).heldSeg with
  | [] => p
  | g :: l =>
    let alone := (dieOf p ((activeDie p).getD .a).other).st ≠ .standby
    if drives p ∧ (alone ∨ g.mir ≤ p.duo.supAck) then
      updVp u (fun x => { x with heldSeg := l, sent := x.sent ++ [g], out := g :: x.out }) p
    else p

/-- TCP_SEGMENT_RELEASE (14 R456). -/
def execTcpSegmentRelease (u : Fin 8) (s : State) : Out := run1 (segRelease u.val) s

/-- After a switchover every segment that the vehicle has not acknowledged is sent again (14 R456). -/
def vlkSwitch (p : Pkg) : Pkg :=
  { p with vlk := { p.vlk with port := p.vlk.port.map (fun x => { x with out := x.sent.reverse ++ x.out }) } }

/-! ### Sessions of the vehicle (14 R447, R450, R452, R454) -/

/-- The vehicle's session of a region ends with a cause: the charging session, and ownership (14 R447, R454). -/
def endV2g (r cause : Nat) (p : Pkg) : Pkg :=
  let p1 := match (vrAt p r).session with
    | some (.v2g _) => endSession r cause p
    | _ => p
  updVg r (fun v => { v with owner := none, endC := if (vgAt p r).owner.isSome then cause else v.endC, stage := .stopped, authAt := none, authReg := 0 }) p1

/-- The answer is FAILED and the session ends with cause 0x08 (14 R447, R449, R450). -/
def failEnd (u : Nat) (p : Pkg) : Pkg := endV2g (u / 2) 8 (respondCode u .failed p)

/-- A TCP connection of a port ends; an owner's session ends with it (14 R452, R457). -/
def tcpEnd (u : Nat) (p : Pkg) : Pkg :=
  let p1 := updVp u (fun x => { x with tcp := false, tls := false, proto := false, heldSeg := [], sent := [] }) p
  updVg (u / 2) (fun v => { v with talk := if v.talk = some u then none else v.talk }) p1

/-- A V2G request on a port with TLS and the protocol agreed: it acknowledges the responses before it (14 R448, R452). -/
def v2gReq (u : Nat) (f : Pkg → Pkg) : Pkg → Pkg := frameAtPort u (fun p =>
  if !(vpAt p u).tls ∨ !(vpAt p u).proto then p
  else
    let p1 := updVp u (fun x => { x with sent := [] }) p
    f (if (vgAt p1 (u / 2)).owner = some u then updVg (u / 2) (fun v => { v with reqAt := p.clk }) p1 else p1))

/-- A request of the vehicle in conversation; any other is answered FAILED (14 R454; log 64). -/
def inTalk (u : Nat) (f : Pkg → Pkg) : Pkg → Pkg := v2gReq u (fun p =>
  if (vgAt p (u / 2)).talk = some u then f p else respondCode u .failed p)

/-- The stage of a region's vehicle session (14 R476). -/
def stageTo (r : Nat) (g : VStage) (p : Pkg) : Pkg := updVg r (fun v => { v with stage := g }) p

/-! ### Discovery, TLS, protocol and setup (14 R446 to R448, R454) -/

/-- The MAC address of a port: 0x02, the port, and the low 32 bits of the serial, most significant byte first (14 R445). -/
def portMac (p : Pkg) (u : Nat) : List Byte := [2, byte u] ++ toBe 4 p.dfn.serial

/-- The link-local IPv6 address that a MAC address forms: fe80::/64 and its modified EUI-64 (14 R446). -/
def linkLocal (mac : List Byte) : List Byte :=
  [0xFE, 0x80] ++ List.replicate 6 0 ++ [mac.getD 0 0 ^^^ 2, mac.getD 1 0, mac.getD 2 0, 0xFF, 0xFE] ++ slice mac 3 3

/-- The answer to an SECC discovery request (14 R446). -/
def sdpAnswer (p : Pkg) (u : Nat) : SdpOut := { mac := portMac p u, addr := linkLocal (portMac p u), tcp := (vpAt p u).tcpPort }

/-- The SECC discovery request is answered with TLS and the TCP port (14 R446). -/
def seccDiscovery (u : Nat) : Pkg → Pkg := frameAtPort u (fun p =>
  let p1 := updVp u (fun x => { x with sdp := sdpAnswer p u :: x.sdp }) p
  if (vgAt p1 (u / 2)).owner.isNone then stageTo (u / 2) .discovery p1 else p1)

/-- SECC_DISCOVERY (14 R446). -/
def execSeccDiscovery (u : Fin 8) (s : State) : Out := run1 (seccDiscovery u.val) s

/-- A root certificate is one of the V2G roots of the configuration image (14 R448). -/
def rootOk (p : Pkg) (root : List Byte) : Bool := ((p.config.map (·.v2gRoots)).getD []).contains root

/-- A certificate is on the configuration image's list of revoked digests (14 R449). -/
def revokedCert (p : Pkg) (digest : List Byte) : Bool := ((p.config.map (·.revoked)).getD []).contains digest

/-- A TCP connection and its handshake: a second connection is reset; the parameters and the vehicle's certificate are
those of 14 R448; none is served while the entropy source fails (14 R446, R448, 18 R548). -/
def tlsHandshake (u : Nat) (h : TlsIn) : Pkg → Pkg := frameAtPort u (fun p =>
  let ok := h.paramsOk && p.config.isSome && p.key.entropy && (if h.cert then h.certOk && rootOk p h.root else !(vgAt p (u / 2)).cliAuth)
  if (vpAt p u).tcp then updVp u (fun x => { x with resets := x.resets + 1 }) p
  else if !ok then p
  else
    let p1 := updVp u (fun x => { x with tcp := true, tls := true, proto := false, seq := 0 }) p
    if (vgAt p1 (u / 2)).owner.isNone then stageTo (u / 2) .tls p1 else p1)

/-- TLS_HANDSHAKE (14 R448). -/
def execTlsHandshake (u : Fin 8) (h : TlsIn) (s : State) : Out := run1 (tlsHandshake u.val h) s

/-- supportedAppProtocol: the ISO 15118-20 DC namespace alone (14 R447). -/
def appProtocol (u : Nat) (dc20 : Bool) : Pkg → Pkg := frameAtPort u (fun p =>
  if !(vpAt p u).tls then p
  else respondCode u (if dc20 then .ok else .noNegotiation) (updVp u (fun x => { x with proto := dc20, sent := [] }) p))

/-- SUPPORTED_APP_PROTOCOL (14 R447). -/
def execSupportedAppProtocol (u : Fin 8) (dc20 : Bool) (s : State) : Out := run1 (appProtocol u.val dc20) s

/-- SessionSetup: the first port of the region to complete it owns the session (14 R454, R455). -/
def sessionSetup (u mac : Nat) : Pkg → Pkg := v2gReq u (fun p =>
  let r := u / 2
  let v := vgAt p r
  if v.owner = some u then respondCode u .ok p
  else if v.owner.isSome ∨ (vrAt p r).session.isSome then respondCode u .failed p
  else
    let p1 := updVp u (fun x => { x with mac := mac % 2 ^ 48 }) p
    respondCode u .ok (updVg r (fun v =>
      { v with owner := some u, talk := some u, stage := .setup, auth := .none_, mcs := false, dynamic := false, authAt := none
               authReg := 0, authOk := false, authBad := false, vid := (0, []), cable := none, weld := false, told := none
               openBad := none, reqAt := p.clk }) p1))

/-- SESSION_SETUP (14 R454). -/
def execSessionSetup (u : Fin 8) (mac : Nat) (s : State) : Out := run1 (sessionSetup u.val mac) s

/-! ### Authorization (14 R449, R455) -/

/-- Authorization succeeds by EIM: the identity is the vehicle's Ethernet address (14 R455). -/
def eimOk (u : Nat) (p : Pkg) : Pkg :=
  respondCode u .ok (updVg (u / 2) (fun v => { v with authOk := true, authAt := none, authReg := 0, vid := (1, toBe 6 (vpAt p u).mac) }) p)

/-- Authorization by EIM, under ACCEPT or HOST (14 R449). -/
def eimAuth (u : Nat) (p0 : Pkg) : Pkg :=
  let r := u / 2
  let p := updVg r (fun v => { v with auth := .eim }) p0
  let v := vgAt p r
  if v.authBad ∨ v.authReg = 2 then failEnd u p
  else if v.authOk ∨ !v.eimHost ∨ v.authReg = 1 then eimOk u p
  else respondCode u .ongoing (updVg r (fun v => { v with authAt := some (v.authAt.getD p.clk) }) p)

/-- Authorization by contract certificate: its chain, its validity against site time, in s, and the revocation list
(14 R449, R455). -/
def pncAuth (u : Nat) (chainOk : Bool) (root : List Byte) (notBefore notAfter : Nat) (emaid digest : List Byte) (p0 : Pkg) : Pkg :=
  let r := u / 2
  let p := updVg r (fun v => { v with auth := .pnc }) p0
  let t := p.tim.now / 1000000000
  if chainOk ∧ rootOk p root ∧ !revokedCert p digest ∧ notBefore ≤ t ∧ t ≤ notAfter then
    let id : Nat × List Byte := if (vgAt p r).vidPref then (3, digest.take 48) else (2, emaid.take 64)
    respondCode u .ok (updVg r (fun v => { v with authOk := true, vid := id }) p)
  else failEnd u p

/-- AuthorizationSetup and Authorization (14 R449). -/
def authorization (u : Nat) (a : AuthIn) : Pkg → Pkg := inTalk u (fun p0 =>
  let p := stageTo (u / 2) .authorization p0
  match a with
  | .setup => respondCode u .ok p
  | .eim => eimAuth u p
  | .pnc c rt b e em dg => pncAuth u c rt b e em dg p)

/-- AUTHORIZATION (14 R449). -/
def execAuthorization (u : Fin 8) (a : AuthIn) (s : State) : Out := run1 (authorization u.val a) s

/-- VLK_RGr_AUTH is written while a decision is pending (14 R449, 21 R626). -/
def vlkAuth (r val : Nat) (p : Pkg) : Pkg :=
  if (vgAt p r).authAt.isSome then updVg r (fun v => { v with authReg := val % 4 }) p else p

/-- VLK_AUTH_WRITE (14 R449). -/
def execVlkAuthWrite (r : Fin 4) (val : Nat) (s : State) : Out := run1 (vlkAuth r.val val) s

/-- 60 s without a write of VLK_RGr_AUTH: the answer is FAILED (14 R449). -/
def eimTimeout (r : Nat) (p : Pkg) : Pkg :=
  let v := vgAt p r
  if dueO p (v.authAt.map (· + 60000000000)) ∧ !(v.authReg = 1 ∨ v.authReg = 2) then
    updVg r (fun v => { v with authAt := none, authReg := 0, authBad := true }) p else p

/-- EIM_HOST_TIMEOUT (14 R449). -/
def execEimHostTimeout (r : Fin 4) (s : State) : Out := run1 (eimTimeout r.val) s

/-! ### Services, parameters, schedule (14 R447, R451) -/

/-- ServiceDiscovery, ServiceDetail and ServiceSelection: DC and MCS (14 R447). -/
def serviceReq (u : Nat) (q : ServiceIn) : Pkg → Pkg := inTalk u (fun p =>
  match q with
  | .discovery => respond u { svcs := [0, 1] } p
  | .detail k => respondCode u (if k ≤ 1 then .ok else .failed) p
  | .selection k dyn =>
    if k ≤ 1 then respondCode u .ok (updVg (u / 2) (fun v => { v with mcs := k == 1, dynamic := dyn }) p)
    else respondCode u .failed p)

/-- SERVICE_DISCOVERY (14 R447). -/
def execServiceDiscovery (u : Fin 8) (q : ServiceIn) (s : State) : Out := run1 (serviceReq u.val q) s

/-- DC_ChargeParameterDiscovery: the limits (14 R447, R451). -/
def chargeParams (u : Nat) : Pkg → Pkg := inTalk u (fun p =>
  respond u { limits := some (evseLimits p (u / 2)) } (stageTo (u / 2) .parameters p))

/-- DC_CHARGE_PARAMETER_DISCOVERY (14 R451). -/
def execDcChargeParameterDiscovery (u : Fin 8) (s : State) : Out := run1 (chargeParams u.val) s

/-- ScheduleExchange: one entry at the region's power limit, or the limits only (14 R447, R451). -/
def scheduleReq (u : Nat) (dyn : Bool) : Pkg → Pkg := inTalk u (fun p =>
  let l := evseLimits p (u / 2)
  respond u { sched := if dyn then none else some l.2.1, limits := some l } (updVg (u / 2) (fun v => { v with dynamic := dyn }) p))

/-- SCHEDULE_EXCHANGE (14 R447). -/
def execScheduleExchange (u : Fin 8) (dynamic : Bool) (s : State) : Out := run1 (scheduleReq u.val dynamic) s

/-! ### Transitions (14 R450, R451, 06 R205, R209) -/

/-- A COMMAND of the vehicle, in 10 mV and 100 mA: a transition only where target or limit differs from the command in
force; whether the target is within range (14 R450, 06 R205). -/
def v2gCommand (u tgt ilim : Nat) (p : Pkg) : Bool × Pkg :=
  let r := u / 2
  let v := vrAt p r
  let il := min 30000 ilim
  if v.session = some (.v2g u) ∧ v.cmdTgt = tgt ∧ v.ilim = some il then (true, p)
  else if tgt > vLow p r then (false, updVr r (fun v => { v with lastCause := 1 }) p)
  else if v.session.isNone then (true, updVr r (fun v => { v with lastCause := 2 }) p)
  else if v.session ≠ some (.v2g u) then (true, updVr r (fun v => { v with lastCause := 3 }) p)
  else if !cmdMode p r then (true, updVr r (fun v => { v with lastCause := 4 }) p)
  else
    let t : Transition := { kind := .command, src := .v2g u, turn := p.duo.turns }
    (true, setCommand r (.v2g u) tgt (some il) (vgAt p r).slew 0 (updVr r (fun v => { v with trans := some t }) (supersede r none false p)))

/-- The vehicle closes its session, unless it is closing (14 R450, 06 R209). -/
def v2gClose (u : Nat) (p : Pkg) : Pkg :=
  let r := u / 2
  if (vrAt p r).session ≠ some (.v2g u) then p
  else
    let t : Transition := { kind := .close, src := .v2g u, turn := p.duo.turns }
    let p1 := endSession r 8 p
    if (vrAt p1 r).closing then updVr r (fun v => { v with trans := some t }) p1
    else endTrans r .reached 0 none false (updVr r (fun v => { v with trans := some t }) p1)

/-- The first DC_CableCheckReq starts the session at the lesser of the vehicle's maximum voltage and V_RATED
(14 R450, R451, 06 R209). -/
def cableOpen (u maxV : Nat) (p0 : Pkg) : Pkg :=
  let r := u / 2
  let p := updVg r (fun v => { v with cable := some p0.clk }) p0
  let tgt := min (maxV / 10) (vLow p r)
  let c := if (dcdcOf p r).isEmpty then 3 else startCheck p r tgt none
  let v := vgAt p r
  if c ≠ 0 then tellVehicle r .open_ c (updVr r (fun v => { v with lastCause := c }) p)
  else startSession r (.v2g u) tgt none v.slew 0 v.vid.1 v.vid.2 p

/-- DC_CableCheck: Ongoing until REACHED and the insulation monitor valid for 1 s (14 R450, R470). -/
def cableCheck (u maxV : Nat) : Pkg → Pkg := inTalk u (fun p0 =>
  let r := u / 2
  if !(vgAt p0 r).authOk then respondCode u .failed p0
  else
    let p1 := stageTo r .cableCheck p0
    let p := if (vgAt p1 r).cable.isNone then cableOpen u maxV p1 else p1
    let v := vgAt p r
    if v.authBad ∨ v.openBad.isSome then respondCode u .failed p
    else if (vrAt p r).started ∧ v.imdOk.any (fun t => decide (p.clk ≥ t + 1000000000)) then respondCode u .finished p
    else respondCode u .ongoing p)

/-- DC_CABLE_CHECK (14 R450). -/
def execDcCableCheck (u : Fin 8) (maxV : Nat) (s : State) : Out := run1 (cableCheck u.val maxV) s

/-- 40 s after the first DC_CableCheckReq without Finished: FAILED and cause 0x08 (14 R450). -/
def cableTimeout (r : Nat) (p : Pkg) : Pkg :=
  let v := vgAt p r
  if v.stage = .cableCheck ∧ dueO p (v.cable.map (· + 40000000000)) then
    endV2g r 8 (updVg r (fun v => { v with authBad := true }) p) else p

/-- CABLE_CHECK_TIMEOUT (14 R450). -/
def execCableCheckTimeout (r : Fin 4) (s : State) : Out := run1 (cableTimeout r.val) s

/-- PRECHG_ILIM of the region's clusters: the least (14 R450; log 64). -/
def prechgOf (p : Pkg) (r : Nat) : Nat :=
  ((dcdcOf p r).map (fun n => (clAt p n).cfg.prechg)).foldl (fun a b => if a = 0 then b else min a b) 0

/-- DC_PreCharge (14 R450). -/
def preCharge (u v : Nat) : Pkg → Pkg := inTalk u (fun p =>
  let r := u / 2
  let x := v2gCommand u (v / 10) (prechgOf p r) (stageTo r .preCharge p)
  respond u { code := if x.1 then .ok else .failed, pres := some (present p r) } x.2)

/-- DC_PRE_CHARGE, in mV (14 R450). -/
def execDcPreCharge (u : Fin 8) (v : Nat) (s : State) : Out := run1 (preCharge u.val v) s

/-- PowerDelivery Start and Stop (14 R450). -/
def powerDelivery (u : Nat) (start : Bool) : Pkg → Pkg := inTalk u (fun p =>
  let r := u / 2
  if start then
    if !(dcdcOf p r).isEmpty ∧ (dcdcOf p r).all (fun n => (clAt p n).run.st == .regulate) then
      respondCode u .ok (stageTo r .chargeLoop p)
    else respondCode u .failed p
  else respondCode u .ok (v2gCommand u (vrAt p r).cmdTgt 0 (stageTo r .stopping p)).2)

/-- POWER_DELIVERY (14 R450). -/
def execPowerDelivery (u : Fin 8) (start : Bool) (s : State) : Out := run1 (powerDelivery u.val start) s

/-- DC_ChargeLoop: in either mode the voltage and current asked for, with present values and limits (14 R450, R451). -/
def chargeLoop (u : Nat) (dyn : Bool) (v i : Nat) : Pkg → Pkg := inTalk u (fun p0 =>
  let r := u / 2
  let p := updVg r (fun g => { g with dynamic := dyn, stage := .chargeLoop }) p0
  let x := v2gCommand u (v / 10) (i / 100) p
  respond u { code := if x.1 then .ok else .failed, pres := some (present p r), limits := some (evseLimits p r) } x.2)

/-- DC_CHARGE_LOOP, in mV and mA (14 R450). -/
def execDcChargeLoop (u : Fin 8) (dynamic : Bool) (v i : Nat) (s : State) : Out := run1 (chargeLoop u.val dynamic v i) s

/-- DC_WeldingDetection: the first closes the session (14 R450). -/
def welding (u : Nat) : Pkg → Pkg := inTalk u (fun p0 =>
  let r := u / 2
  let p := stageTo r .welding (if (vgAt p0 r).weld then p0 else v2gClose u p0)
  respond u { pres := some (present p r) } (updVg r (fun v => { v with weld := true }) p))

/-- DC_WELDING_DETECTION (14 R450). -/
def execDcWeldingDetection (u : Fin 8) (s : State) : Out := run1 (welding u.val) s

/-- SessionStop: the session closes, the response goes out, and the TCP connection closes after it (14 R450). -/
def sessionStop (u : Nat) : Pkg → Pkg := inTalk u (fun p =>
  let r := u / 2
  let p1 := respondCode u .ok (stageTo r .stopped (v2gClose u p))
  let p2 := updVp u (fun x => { x with tcp := false, tls := false, proto := false }) p1
  updVg r (fun v => { v with talk := none, owner := none, endC := if (vgAt p r).owner = some u then 8 else v.endC }) p2)

/-- SESSION_STOP (14 R450). -/
def execSessionStop (u : Fin 8) (s : State) : Out := run1 (sessionStop u.val) s

/-- Any other message: FAILED, and the session ends with cause 0x08 (14 R447). -/
def unsupported (u : Nat) : Pkg → Pkg := inTalk u (failEnd u)

/-- UNSUPPORTED_V2G_MESSAGE (14 R447). -/
def execUnsupportedV2gMessage (u : Fin 8) (s : State) : Out := run1 (unsupported u.val) s

/-- The owning port has had no valid request for 2 s, or its TCP connection closes: cause 0x0A (14 R452). -/
def v2gLost (r : Nat) (closed : Bool) (p : Pkg) : Pkg :=
  match (vgAt p r).owner with
  | none => match (vgAt p r).talk with
    | some u => if closed then tcpEnd u p else p
    | none => p
  | some u =>
    if !awake p then p
    else if closed then endV2g r 0xA (tcpEnd u p)
    else if due p ((vgAt p r).reqAt + 2000000000) then endV2g r 0xA p
    else p

/-- V2G_LINK_LOST (14 R452). -/
def execV2gLinkLost (r : Fin 4) (tcpClosed : Bool) (s : State) : Out := run1 (v2gLost r.val tcpClosed) s

end Sys2Proof.Machine
end

