-- ==== Sys2Proof/Machine/Registers3.lean ====
section
/-!
DEFINITION. The register blocks DFL, DFN, VLK, CAN and PLN as the readback space shows them and as PARAM_WRITE changes
them (21 R612 to R616, R624 to R627).
-/

namespace Sys2Proof.Machine

/-! ### DFL (12 R410) -/

/-- Lanes that satisfy a test, as bits. -/
def flBits (p : Pkg) (f : FLane → Bool) : Nat := bitsN (p.dfl.lane.map f)

/-- A lane's scan is running (12 R404). -/
def FLane.scanning (x : FLane) : Bool := x.scan.any (·.on)

/-- DFL_LANEn_CTRL (12 R410). -/
def flCtrl (x : FLane) : Nat := pk [(bit x.enable, 31, 31), (bit x.idleReq, 29, 29), (x.rxPre, 27, 26)]

/-- DFL_LANEn_STAT (12 R410). -/
def flStat (x : FLane) : Nat :=
  pk [(x.st.code, 31, 28), (bit x.data.txIdle, 27, 27), (bit x.data.rxIdle, 26, 26), (bit x.data.preTx, 25, 25), (bit x.data.preRx, 24, 24)
      , (bit x.stbyLock, 23, 23), (bit x.peerDie, 22, 22), (x.peerLane, 21, 19)]

/-- STATE of a lane's health word (01 R631). -/
def flUnit (x : FLane) : UnitState :=
  if !x.enable then .unused
  else if x.scanning || x.run.isSome then .test
  else if x.st ≠ .up then .ready
  else if x.degraded then .derated else .active

/-- DFL_LANEn_HEALTH (12 R410). -/
def flHealth (p : Pkg) (x : FLane) : Nat :=
  health p 5 (flUnit x) false false false
    (pk [(bit (x.st == .up), 15, 15), (bit x.degraded, 14, 14), (bit x.run.isSome, 13, 13), (bit x.scanning, 12, 12), (x.uncLast, 7, 0)])

/-- Registers of lane l (12 R410, 21 R618). -/
def flRead (p : Pkg) (l k : Nat) : Nat :=
  let x := flAt p l
  match k with
  | 0x00 => flCtrl x
  | 0x04 => flStat x
  | 0x08 => x.corr
  | 0x0C => x.uncorr
  | 0x10 => x.drop
  | 0x14 => pk [(x.retrains, 31, 16), (x.resyncs, 15, 8), (x.clkLoss, 7, 0)]
  | 0x18 => x.nlog
  | 0x1C => pk [(x.post, 15, 8), (x.pre, 7, 0)]
  | 0x20 => flHealth p x
  | 0x24 => x.picot
  | 0x28 => x.inj
  | 0x2C => if x.scan.isSome then 0x11080000 + 0x10000 * l else 0
  | _ => 0

/-- DFL registers (12 R410). -/
def dflRead (p : Pkg) (off : Nat) : Nat :=
  if off = 0 then
    pk [(flBits p (fun x => x.st == .up), 31, 24), (flBits p (·.data.txIdle), 23, 16), (flBits p (·.run.isSome), 15, 8), (flBits p (·.scanning), 7, 0)]
  else if off = 4 then p.dfl.window
  else if off = 8 then p.dfl.client
  else if inB off 0x100 0x40 8 then flRead p ((off - 0x100) / 0x40) ((off - 0x100) % 0x40)
  else 0

/-- What PARAM_WRITE changes in DFL (12 R406, R410, 21 R626). -/
def dflOpen (p : Pkg) (off : Nat) : RegOpen :=
  if off = 4 then { rw := 0xFFF, ok := fun v m => inR 0 3600 (wr v m 11 0 p.dfl.window) }
  else if inB off 0x100 0x40 8 then
    match (off - 0x100) % 0x40 with
    | 0x00 => { rw := 0xEC000000, ok := fun v m => inR 0 2 (wr v m 27 26 (flAt p ((off - 0x100) / 0x40)).rxPre) }
    | 0x08 | 0x0C | 0x10 | 0x14 | 0x24 => { w1c := 0xFFFFFFFF }
    | _ => {}
  else {}

/-- A write of DFL_LANEn_CTRL (12 R396, R400, R409). -/
def flCtrlWrite (l v m : Nat) (p : Pkg) : Pkg :=
  let p1 := updFl l (fun x => { x with rxPre := wr v m 27 26 x.rxPre }) p
  let p2 := if tb m 29 then idleReqWrite l (tb v 29) p1 else p1
  let p3 := if tb m 31 then laneEnable l (tb v 31) p2 else p2
  if tb v 30 ∧ tb m 30 then retrain l p3 else p3

/-- A write in DFL (12 R406, R410). -/
def dflWrite (off v m client : Nat) (p : Pkg) : Pkg :=
  if off = 4 then injWindowWrite (wr v m 11 0 p.dfl.window) client p
  else if inB off 0x100 0x40 8 then
    let l := (off - 0x100) / 0x40
    match (off - 0x100) % 0x40 with
    | 0x00 => flCtrlWrite l v m p
    | 0x08 => updFl l (fun x => { x with corr := w1cF v m 31 0 x.corr }) p
    | 0x0C => updFl l (fun x => { x with uncorr := w1cF v m 31 0 x.uncorr }) p
    | 0x10 => updFl l (fun x => { x with drop := w1cF v m 31 0 x.drop }) p
    | 0x14 => updFl l (fun x => { x with retrains := w1cF v m 31 16 x.retrains, resyncs := w1cF v m 15 8 x.resyncs
                                         clkLoss := w1cF v m 7 0 x.clkLoss }) p
    | 0x24 => updFl l (fun x => { x with picot := w1cF v m 31 0 x.picot }) p
    | _ => p
  else p

/-! ### DFN (13 R442) -/

/-- A route entry's word (13 R419). -/
def routeWord (r : Route) : Nat :=
  pk [(bit r.valid, 31, 31), (bit r.self_, 30, 30), (r.prim, 29, 27), (bit r.alt.isSome, 26, 26), (r.alt.getD 0, 25, 23), (r.hops, 22, 19)
      , (r.cost, 18, 0)]

/-- DFN_EVT (13 R442). -/
def dfnEvtWord (e : DfnEvt) : Nat :=
  bitsN [e.unlocked, e.rootChg, e.reroute, e.mirSw, e.localAcc, e.stale, e.peerLost, e.clash]

/-- DFN_TIME (13 R442). -/
def nTimeWord (t : NTime) : Nat :=
  pk [(bit t.locked, 31, 31), (bit t.pps, 30, 30), (bit t.root, 29, 29), (t.depth, 28, 25), (t.up.getD 0, 24, 22), (t.src, 15, 0)]

/-- Registers of lane l (13 R442). -/
def nlRead (p : Pkg) (l k : Nat) : Nat :=
  let x := nlAt p l
  match k with
  | 0x00 => match x.nbr with
    | some n => pk [(1, 31, 31), (n.lane, 30, 28), (if n.node ≠ 0 then n.node else n.disc, 15, 0)]
    | none => 0
  | 0x04 => pk [(x.l, 23, 16), (x.e, 15, 8), (x.u, 7, 0)]
  | 0x08 => uns 32 x.asym
  | 0x0C => match bestEx x with | some e => min 0xFFFFFFFF e.rtt | none => 0xFFFFFFFF
  | _ => 0

/-- DFN registers (13 R442). -/
def dfnRead (p : Pkg) (off : Nat) : Nat :=
  let d := p.dfn
  let map := p.ldg.nv.map_.isSome
  match off with
  | 0x00 => pk [(if map then 0 else d.disc, 31, 16), (nodeAddr p, 15, 0)]
  | 0x04 => half d.serial 0
  | 0x08 => half d.serial 1
  | 0x0C => min 1024 d.dests.length
  | 0x10 => dfnEvtWord d.evt
  | 0x14 => pk [(d.crc, 31, 16), (d.ttl, 15, 0)]
  | 0x18 => d.retx
  | 0x1C => d.dups
  | 0x20 => nTimeWord d.time
  | 0x24 => uns 32 d.time.offset
  | 0x28 => pk [(buddyOf p (nodeAddr p), 31, 16), (d.target, 15, 0)]
  | 0x2C => pk [((match d.mirState with | .local_ => 0 | .buddy => 1 | .standIn => 2), 31, 30)
                , (min 65535 (d.nv.owed.filter (·.local_)).length, 15, 0)]
  | 0x30 => d.load
  | k =>
    if inB k 0x100 0x20 8 then nlRead p ((k - 0x100) / 0x20) ((k - 0x100) % 0x20)
    else if inB k 0x200 4 16 then
      let c := d.cls.getD ((k - 0x200) / 4) ⟨1, 1, 1, 1⟩
      pk [(c.wl, 31, 28), (c.we, 27, 24), (c.wu, 23, 20), (c.sched, 19, 16)]
    else if inB k 0x8000 4 1024 then
      match d.dests[(k - 0x8000) / 4]? with
      | some x => pk [(1, 31, 31), (bit (reachable p x.addr), 30, 30), (x.addr, 15, 0)]
      | none => 0
    else if inB k 0x10000 0x40 1024 then
      routeWord (((d.dests.getD ((k - 0x10000) / 0x40) {}).routes).getD (k % 0x40 / 4) {})
    else 0

/-- What PARAM_WRITE changes in DFN (13 R442, 21 R626). -/
def dfnOpen (p : Pkg) (off : Nat) : RegOpen :=
  if off = 0x10 then { w1c := 0xFF }
  else if off = 0x14 ∨ off = 0x18 ∨ off = 0x1C then { w1c := 0xFFFFFFFF }
  else if inB off 0x100 0x20 8 ∧ (off - 0x100) % 0x20 = 8 then
    { rw := 0xFFFFFFFF, ok := fun v m =>
        let a := wrI v m (nlAt p ((off - 0x100) / 0x20)).asym
        decide (-1000000 ≤ a ∧ a ≤ 1000000) }
  else {}

/-- A write in DFN (13 R442). -/
def dfnWrite (off v m : Nat) (p : Pkg) : Pkg :=
  let d := p.dfn
  if off = 0x10 then
    dfnEvt (fun e => { unlocked := w1c v m 0 e.unlocked, rootChg := w1c v m 1 e.rootChg, reroute := w1c v m 2 e.reroute, mirSw := w1c v m 3 e.mirSw
                       localAcc := w1c v m 4 e.localAcc, stale := w1c v m 5 e.stale, peerLost := w1c v m 6 e.peerLost
                       clash := w1c v m 7 e.clash }) p
  else if off = 0x14 then { p with dfn := { d with crc := w1cF v m 31 16 d.crc, ttl := w1cF v m 15 0 d.ttl } }
  else if off = 0x18 then { p with dfn := { d with retx := w1cF v m 31 0 d.retx } }
  else if off = 0x1C then { p with dfn := { d with dups := w1cF v m 31 0 d.dups } }
  else if inB off 0x100 0x20 8 ∧ (off - 0x100) % 0x20 = 8 then
    updNl ((off - 0x100) / 0x20) (fun x => { x with asym := wrI v m x.asym }) p
  else p

/-! ### VLK (14 R476) -/

/-- VLK_STAT.ACTIVE of port u: a valid frame in the last 100 ms (14 R476). -/
def vpActive (p : Pkg) (u : Nat) : Bool := (vpAt p u).frameAt.any (fun t => decide (p.clk < t + 100000000))

/-- Port u owns its region's session (14 R454). -/
def vpOwner (p : Pkg) (u : Nat) : Bool := (vgAt p (u / 2)).owner == some u

/-- Ports 0 to 7 that satisfy a test, as bits. -/
def vpBits (f : Nat → Bool) : Nat := bitsN ((List.range 8).map f)

/-- Code of STAGE (14 R476). -/
def VStage.code : VStage → Nat
  | .none_ => 0 | .discovery => 1 | .tls => 2 | .setup => 3 | .authorization => 4 | .parameters => 5 | .cableCheck => 6 | .preCharge => 7
  | .chargeLoop => 8 | .stopping => 9 | .welding => 10 | .stopped => 11

/-- Code of AUTH_MODE (14 R476). -/
def VAuth.code : VAuth → Nat
  | .none_ => 0 | .eim => 1 | .pnc => 2

/-- Registers of port u (14 R476). -/
def vpRead (p : Pkg) (u k : Nat) : Nat :=
  let x := vpAt p u
  match k with
  | 0x00 => pk [(bit x.plcaEn, 31, 31), (x.nodeId, 23, 16), (x.nodeCnt, 15, 8), (x.toTimer, 7, 0)]
  | 0x04 => pk [(x.maxBc, 15, 8), (x.btmr, 7, 0)]
  | 0x08 => x.rx
  | 0x0C => pk [(x.fcs, 31, 16), (x.coll, 15, 8), (x.beacon, 7, 0)]
  | 0x10 => health p 5 (linkState ((vrAt p (u / 2)).src == .v2g) (vpActive p u)) false false false
              (pk [(bit (vpActive p u), 15, 15), (bit x.tls, 14, 14)])
  | _ => 0

/-- Registers of region r (14 R476). -/
def vgRead (p : Pkg) (r k : Nat) : Nat :=
  let v := vgAt p r
  match k with
  | 0x00 => pk [(bit v.eimHost, 31, 30), (bit v.vidPref, 29, 29), (bit v.cliAuth, 28, 28), (v.slew, 8, 0)]
  | 0x04 => pk [(v.stage.code, 31, 28), (v.auth.code, 27, 26), (v.owner.getD 0 % 2, 25, 25), (bit v.mcs, 24, 24), (bit v.imdOk.isSome, 23, 23)
                , (v.endC, 15, 8)]
  | 0x08 => if v.authAt.isSome then v.authReg else 0
  | _ => 0

/-- VLK registers (14 R476). -/
def vlkRead (p : Pkg) (off : Nat) : Nat :=
  if off = 0 then
    pk [(vpBits (vpActive p), 31, 24), (vpBits (fun u => (vpAt p u).plcaOk), 23, 16), (vpBits (fun u => (vpAt p u).tls), 15, 8)
        , (vpBits (vpOwner p), 7, 0)]
  else if inB off 0x100 0x20 8 then vpRead p ((off - 0x100) / 0x20) ((off - 0x100) % 0x20)
  else if inB off 0x400 0x20 4 then vgRead p ((off - 0x400) / 0x20) ((off - 0x400) % 0x20)
  else 0

/-- What PARAM_WRITE changes in VLK (14 R449, R476, 21 R626). -/
def vlkOpen (p : Pkg) (off : Nat) : RegOpen :=
  if inB off 0x100 0x20 8 ∧ (off - 0x100) % 0x20 = 0xC then { w1c := 0xFFFFFFFF }
  else if inB off 0x400 0x20 4 ∧ (off - 0x400) % 0x20 = 8 then
    let g := vgAt p ((off - 0x400) / 0x20)
    { rw := 3, ok := fun v m => g.authAt.isSome && inR 1 2 (wr v m 1 0 g.authReg) }
  else {}

/-- A write in VLK (14 R449, R476). -/
def vlkWrite (off v m : Nat) (p : Pkg) : Pkg :=
  if inB off 0x100 0x20 8 ∧ (off - 0x100) % 0x20 = 0xC then
    updVp ((off - 0x100) / 0x20) (fun x => { x with fcs := w1cF v m 31 16 x.fcs, coll := w1cF v m 15 8 x.coll, beacon := w1cF v m 7 0 x.beacon }) p
  else if inB off 0x400 0x20 4 ∧ (off - 0x400) % 0x20 = 8 then
    let r := (off - 0x400) / 0x20
    vlkAuth r (wr v m 1 0 (vgAt p r).authReg) p
  else p

/-! ### CAN (14 R477) -/

/-- Code of CAN_CHc_ERR.STATE (14 R477). -/
def CanState.code : CanState → Nat
  | .active => 0 | .passive => 1 | .busOff => 2

/-- STATE of a channel's health word (01 R631). -/
def canUnit (x : CanCh) : UnitState :=
  if x.nom = 0 then .unused
  else if x.st = .busOff then .faulted
  else if x.asleep then .ready
  else if x.st = .passive then .derated else .active

/-- CAN_CHc_CTRL (14 R477). -/
def canCtrl (x : CanCh) : Nat :=
  pk [(bit x.sleep, 31, 31), (bit x.wakeFrame, 30, 30), (bit x.autoRec, 29, 29), (bit x.loopback, 27, 27)]

/-- Registers of channel c (14 R477). -/
def canChRead (x : CanCh) (k : Nat) : Nat :=
  match k with
  | 0x00 => canCtrl x
  | 0x04 => pk [(x.nom, 31, 16), (x.dat, 15, 0)]
  | 0x08 => pk [(x.tec, 31, 24), (x.rec_, 23, 16), (x.st.code, 15, 14), (x.lec, 13, 11)]
  | 0x0C => half x.next 0
  | 0x10 => half x.next 1
  | 0x14 => bitsN [false, x.evt.edgeLost, x.evt.txTimeout, x.evt.cut, x.evt.late, x.evt.busOff, x.evt.wake]
  | 0x18 => pk [(bit x.prk.isSome, 31, 31), (x.cycle, 30, 27), (x.slot, 26, 21), ((x.prk.map (·.cycleUs)).getD 0, 15, 0)]
  | 0x1C => pk [(x.late, 31, 16), (x.skipped, 15, 0)]
  | 0x20 => pk [(x.queue.length, 5, 0)]
  | 0x24 => x.txCnt
  | 0x28 => x.wakeId
  | 0x2C => x.wakeMask
  | 0x30 => half x.wakeData 0
  | 0x34 => half x.wakeData 1
  | 0x38 => half x.wakeDm 0
  | 0x3C => half x.wakeDm 1
  | _ => 0

/-- CAN_CHc_HEALTH (14 R477). -/
def canHealth (p : Pkg) (x : CanCh) : Nat :=
  health p 5 (canUnit x) false false false (pk [(x.st.code, 15, 14), (bit x.asleep, 13, 13), (x.lateCyc.1, 7, 0)])

/-- CAN registers (14 R477). -/
def canRead (p : Pkg) (off : Nat) : Nat :=
  if off = 0 then pk [(bitsN (p.can.ch.map (fun x => x.st == .busOff)), 31, 16), (bitsN (p.can.ch.map (·.asleep)), 15, 0)]
  else if inB off 0x100 0x40 16 then canChRead (canAt p ((off - 0x100) / 0x40)) ((off - 0x100) % 0x40)
  else if inB off 0x800 4 16 then canHealth p (canAt p ((off - 0x800) / 4))
  else 0

/-- What PARAM_WRITE changes in CAN (14 R477, 21 R626). -/
def canOpen (off : Nat) : RegOpen :=
  if inB off 0x100 0x40 16 then
    match (off - 0x100) % 0x40 with
    | 0x00 => { rw := 0xF8000000 }
    | 0x14 => { w1c := 0x7E }
    | 0x1C => { w1c := 0xFFFFFFFF }
    | 0x28 | 0x2C | 0x30 | 0x34 | 0x38 | 0x3C => { rw := 0xFFFFFFFF }
    | _ => {}
  else {}

/-- One half of a 64-bit field after a masked write (21 R614). -/
def wrHalf (v m k old : Nat) : Nat :=
  if k = 0 then old / 2 ^ 32 * 2 ^ 32 + wr v m 31 0 (old % 2 ^ 32) else wr v m 31 0 (old / 2 ^ 32) * 2 ^ 32 + old % 2 ^ 32

/-- A write of a channel's registers (14 R460, R472, R477). -/
def canChWrite (c k v m : Nat) (p : Pkg) : Pkg :=
  match k with
  | 0x00 =>
    let p1 := updCan c (fun x => { x with sleep := wrB v m 31 x.sleep, wakeFrame := wrB v m 30 x.wakeFrame, autoRec := wrB v m 29 x.autoRec
                                          loopback := wrB v m 27 x.loopback }) p
    if tb v 28 ∧ tb m 28 then canRecover c p1 else p1
  | 0x14 =>
    canEvt c (fun e => { edgeLost := w1c v m 1 e.edgeLost, txTimeout := w1c v m 2 e.txTimeout, cut := w1c v m 3 e.cut, late := w1c v m 4 e.late
                         busOff := w1c v m 5 e.busOff, wake := w1c v m 6 e.wake }) p
  | 0x1C => updCan c (fun x => { x with late := w1cF v m 31 16 x.late, skipped := w1cF v m 15 0 x.skipped }) p
  | 0x28 => updCan c (fun x => { x with wakeId := wr v m 31 0 x.wakeId }) p
  | 0x2C => updCan c (fun x => { x with wakeMask := wr v m 31 0 x.wakeMask }) p
  | 0x30 => updCan c (fun x => { x with wakeData := wrHalf v m 0 x.wakeData }) p
  | 0x34 => updCan c (fun x => { x with wakeData := wrHalf v m 1 x.wakeData }) p
  | 0x38 => updCan c (fun x => { x with wakeDm := wrHalf v m 0 x.wakeDm }) p
  | 0x3C => updCan c (fun x => { x with wakeDm := wrHalf v m 1 x.wakeDm }) p
  | _ => p

/-- A write in CAN (14 R477). -/
def canWrite (off v m : Nat) (p : Pkg) : Pkg :=
  if inB off 0x100 0x40 16 then canChWrite ((off - 0x100) / 0x40) ((off - 0x100) % 0x40) v m p else p

/-! ### PLN (15 R495) -/

/-- Code of RESULT (15 R495). -/
def PResult.code : PResult → Nat
  | .idle => 0 | .queued => 1 | .delivered => 2 | .failed => 3

/-- Code of PHASE (15 R495). -/
def PPhase.code : PPhase → Nat
  | .a => 0 | .b => 1 | .c => 2 | .aRev => 3 | .bRev => 4 | .cRev => 5 | .unknown => 7

/-- PLN_Ck_TX_CTRL (15 R495). -/
def txWord (x : PNet) : Nat := pk [(x.txPrio, 30, 29), (x.txRes.code, 28, 27), (x.txLen, 26, 22), (x.txDst, 9, 0)]

/-- Registers of coupler k (15 R495, 21 R618). -/
def plRead (p : Pkg) (k j : Nat) : Nat :=
  let x := plAt p k
  match j with
  | 0x00 => pk [(x.band, 31, 30), (x.zcSrc, 29, 27), (if x.cfgd then x.table.length + 1 else 0, 26, 16), (x.network, 15, 0)]
  | 0x04 => x.cs
  | 0x08 => (x.busyMs.filter id).length
  | 0x0C => pk [(x.segBad, 31, 24), (x.impulse, 23, 16), (x.authErr, 15, 8), (x.dup, 7, 0)]
  | 0x10 => pk [(x.retx, 31, 16), (x.retxFail, 15, 8), (x.txRef, 7, 0)]
  | 0x14 => half x.next 0
  | 0x18 => half x.next 1
  | 0x1C => 0x11000000 + 0x20000 * k
  | 0x20 => txWord x
  | 0x34 => health p 5 (linkState x.cfgd (plcUp p k)) false false false (pk [(bit (plcUp p k), 15, 15), (x.failCyc.1, 7, 0)])
  | j => if inB j 0x24 4 4 then x.txD.getD ((j - 0x24) / 4) 0 else 0

/-- Registers of node n on coupler k; one of which nothing is known reads its reset value (15 R495). -/
def pnRead (p : Pkg) (k n half_ : Nat) : Nat :=
  let y := pnAt (plAt p k) n
  if half_ = 0 then
    let here := y.heard.any (fun t => decide (p.clk < t + 30000000000))
    pk [(bit here, 31, 31), ((nodePhase p k y).code, 30, 28), ((modeFor y.peerLqi).code, 27, 26), (y.hops, 25, 22), (y.rep1, 19, 10), (y.rep0, 9, 0)]
  else pk [(y.lqi, 31, 24), (if y.acks.isEmpty then 0 else shareOf y, 23, 16), (y.cost, 15, 0)]

/-- PLN registers (15 R495). -/
def plnRead (p : Pkg) (off : Nat) : Nat :=
  if off = 0 then pk [(bitsN ((List.range 4).map (plcUp p)), 31, 28), (bitsN (p.pln.net.map (fun x => x.cfgd && tatting x)), 27, 24)]
  else if inB off 0x100 0x40 4 then plRead p ((off - 0x100) / 0x40) ((off - 0x100) % 0x40)
  else if inB off 0x10000 0x2000 4 then
    let k := off - 0x10000
    pnRead p (k / 0x2000) (k % 0x2000 / 8) (k % 8 / 4)
  else 0

/-- What PARAM_WRITE changes in PLN (15 R493, R495, 21 R626). -/
def plnOpen (p : Pkg) (off : Nat) : RegOpen :=
  if inB off 0x100 0x40 4 then
    let k := (off - 0x100) / 0x40
    match (off - 0x100) % 0x40 with
    | 0x0C | 0x10 => { w1c := 0xFFFFFFFF }
    | 0x20 => { rw := 0xE7C003FF, ok := fun v m => inR 0 16 (wr v m 26 22 (plAt p k).txLen) }
    | j => if inB j 0x24 4 4 then { rw := 0xFFFFFFFF } else {}
  else {}

/-- A write in PLN: GO acts by a written 1 (15 R493, R495). -/
def plnWrite (off v m : Nat) (p : Pkg) : Pkg :=
  if inB off 0x100 0x40 4 then
    let k := (off - 0x100) / 0x40
    match (off - 0x100) % 0x40 with
    | 0x0C => updPl k (fun x => { x with segBad := w1cF v m 31 24 x.segBad, impulse := w1cF v m 23 16 x.impulse
                                         authErr := w1cF v m 15 8 x.authErr, dup := w1cF v m 7 0 x.dup }) p
    | 0x10 => updPl k (fun x => { x with retx := w1cF v m 31 16 x.retx, retxFail := w1cF v m 15 8 x.retxFail, txRef := w1cF v m 7 0 x.txRef }) p
    | 0x20 => txCtrl k (wr v m 31 0 (txWord (plAt p k))) p
    | j => if inB j 0x24 4 4 then updPl k (fun x => { x with txD := upd x.txD ((j - 0x24) / 4) (fun d => wr v m 31 0 d) }) p else p
  else p

end Sys2Proof.Machine
end

