-- ==== Sys2Proof/Machine/Registers4.lean ====
section
/-!
DEFINITION. The register blocks LSW, BAT, KEY, TIM, THM and SUP as the readback space shows them and as PARAM_WRITE
changes them (21 R612 to R616, R624 to R627).
-/

namespace Sys2Proof.Machine

/-- Towards zero (log 66). -/
def truncQ (r : Rat) : Int := r.num.tdiv r.den

/-! ### LSW (16 R510) -/

/-- Code of USE (16 R510). -/
def LUse.code : LUse → Nat
  | .unused => 0 | .switch => 1 | .pwm => 2

/-- Code of a commanded state (16 R510). -/
def LCmd.code : LCmd → Nat
  | .off => 0 | .on => 1 | .pwm => 2

/-- Code of CSTATE (16 R510). -/
def CState.code : CState → Nat
  | .off => 0 | .blank => 1 | .on => 2 | .tripped => 3 | .latched => 4

/-- Code of CAUSE (16 R510). -/
def LCause.code : LCause → Nat
  | .thermal => 0 | .short => 1 | .budget => 2

/-- Code of FAILSAFE (16 R498). -/
def LSafe.code : LSafe → Nat
  | .off => 0 | .on => 1 | .hold => 2

/-- STATE of a channel's health word (01 R631). -/
def lchUnit (x : LCh) : UnitState :=
  if x.use = .unused then .unused
  else match x.st with
    | .off => .ready
    | .latched => .faulted
    | _ => .active

/-- Thermal trips of the last 1 s (16 R510). -/
def retriesOf (p : Pkg) (x : LCh) : Nat := min 15 (x.trips.filter (fun t => decide (p.clk < t + 1000000000))).length

/-- LSW_CHc_HEALTH (16 R510). -/
def lchHealth (p : Pkg) (x : LCh) : Nat :=
  health p 4 (lchUnit x) (x.st == .latched) false false
    (pk [(x.st.code, 15, 13), (x.cause.code, 12, 11), (bit x.limit, 10, 10), (bit x.open_, 9, 9), (bit x.fs, 8, 8), (retriesOf p x, 7, 4)])

/-- Registers of channel c (16 R510). -/
def lchRead (p : Pkg) (c k : Nat) : Nat :=
  let x := lchAt p c
  match k with
  | 0x00 => pk [(x.use.code, 31, 30), (x.olMode, 29, 28), (x.olTh, 27, 22), (x.blank, 21, 16), (x.retryMax, 15, 12), (bit x.auto, 11, 11)
                , (x.failsafe.code, 10, 9)]
  | 0x04 => pk [(x.freq, 31, 16), (x.fsDuty, 15, 0)]
  | 0x08 => pk [(x.cmd.code, 31, 30), (bit x.lane, 29, 29), (x.duty, 15, 0)]
  | 0x0C => pk [(x.i, 31, 16), (uns 16 x.tj, 15, 0)]
  | 0x10 => pk [(x.eLast, 31, 16), (x.over40, 15, 0)]
  | 0x14 => lchHealth p x
  | _ => 0

/-- I_TH in 100 mA: all ones with no model, zero before a configuration image and before the first update (16 R508,
R510; log 71). -/
def iThWord (p : Pkg) (x : Cable) : Nat :=
  if p.config.isNone then 0 else if !x.on then 0xFFFF else (truncQ (x.iTh.getD 0 / 100)).toNat

/-- Registers of region r (16 R510). -/
def cableRead (p : Pkg) (r k : Nat) : Nat :=
  let x := p.lsw.rg.getD r {}
  match k with
  | 0x00 => pk [(uns 16 (truncQ (x.tEst.getD 0 / 100)), 31, 16), (uns 16 (x.tCool.tdiv 100), 15, 0)]
  | 0x04 => pk [(x.iRated, 31, 16), (iThWord p x, 15, 0)]
  | 0x08 => pk [(x.rCable, 31, 16), (x.rTh, 15, 0)]
  | 0x0C => pk [(uns 16 x.tMax, 31, 16), (uns 16 x.tDerate, 15, 0)]
  | 0x10 => pk [(x.tau, 31, 16), (x.failPct, 15, 8)]
  | _ => 0

/-- LSW_ACTa (16 R510). -/
def actWord (x : LAct) : Nat :=
  pk [((match x.kind with | .none_ => 0 | .duty => 1 | .can _ _ _ _ => 2), 31, 30), ((x.out * 10000 / 2 ^ 40).toNat, 15, 0)]

/-- LSW_EVT (16 R510). -/
def lswEvtWord (e : LEvt) : Nat := bitsN [e.derate, e.shed, e.thermal, e.open_, e.budget, e.clamp, e.linkLoss]

/-- LSW registers (16 R510). -/
def lswRead (p : Pkg) (off : Nat) : Nat :=
  let l := p.lsw
  if off = 0 then bitsN (l.ch.map (·.conducts))
  else if off = 4 then bitsN (l.ch.map (fun x => x.st == .latched))
  else if off = 8 then lswEvtWord l.evt
  else if inB off 0x10 4 6 then
    let q := (off - 0x10) / 4
    let x := l.quad.getD q {}
    pk [(x.vs, 31, 16), (min 255 (sumN (((l.ch.drop (4 * q)).take 4).map (·.i)) / 100), 15, 8), (x.sheds, 7, 0)]
  else if inB off 0x100 0x20 24 then lchRead p ((off - 0x100) / 0x20) ((off - 0x100) % 0x20)
  else if inB off 0x400 0x20 4 then cableRead p ((off - 0x400) / 0x20) ((off - 0x400) % 0x20)
  else if inB off 0x800 4 128 then uns 32 (l.src.getD ((off - 0x800) / 4) {}).value
  else if inB off 0xA00 4 4 then bitsN (((l.src.drop (32 * ((off - 0xA00) / 4))).take 32).map (·.valid))
  else if inB off 0xC00 4 32 then actWord (l.act.getD ((off - 0xC00) / 4) {})
  else 0

/-- What PARAM_WRITE changes in LSW (21 R626). -/
def lswOpen (off : Nat) : RegOpen :=
  if off = 8 then { w1c := 0x7F }
  else if inB off 0x10 4 6 then { w1c := 0xFF }
  else if inB off 0x100 0x20 24 ∧ (off - 0x100) % 0x20 = 0x10 then { w1c := 0xFFFF }
  else {}

/-- A write in LSW (16 R510). -/
def lswWrite (off v m : Nat) (p : Pkg) : Pkg :=
  if off = 8 then
    lswEvt (fun e => { derate := w1c v m 0 e.derate, shed := w1c v m 1 e.shed, thermal := w1c v m 2 e.thermal, open_ := w1c v m 3 e.open_
                       budget := w1c v m 4 e.budget, clamp := w1c v m 5 e.clamp, linkLoss := w1c v m 6 e.linkLoss }) p
  else if inB off 0x10 4 6 then
    { p with lsw := { p.lsw with quad := upd p.lsw.quad ((off - 0x10) / 4) (fun x => { x with sheds := w1cF v m 7 0 x.sheds }) } }
  else if inB off 0x100 0x20 24 ∧ (off - 0x100) % 0x20 = 0x10 then
    updCh ((off - 0x100) / 0x20) (fun x => { x with over40 := w1cF v m 15 0 x.over40 }) p
  else p

/-! ### BAT (17 R528) -/

/-- Code of STATE (17 R528). -/
def BState.code : BState → Nat
  | .disabled => 0 | .absent => 1 | .seen => 2 | .active => 3 | .lost => 4

/-- CONF (17 R518). -/
def confOf (e : BEst) : BConf :=
  if e.soc.isNone then .none_ else if e.unc ≤ 2 then .high else if e.unc ≤ 5 then .medium else .low

/-- Code of CONF (17 R528). -/
def BConf.code : BConf → Nat
  | .none_ => 0 | .low => 1 | .medium => 2 | .high => 3

/-- Days since the last learning (17 R519). -/
def capAge (p : Pkg) (x : BStr) : Nat := if x.cap.learned then (p.tim.now - x.cap.learnAt) / 86400000000000 else 0

/-- CAP_SRC: NOMINAL, LEARNED or STALE (17 R519). -/
def capSrc (p : Pkg) (x : BStr) : Nat := if !x.cap.learned then 0 else if p.tim.now - x.cap.learnAt > 365 * 86400000000000 then 2 else 1

/-- A percentage in 0.01 %, rounded down (log 66). -/
def pct (r : Rat) : Nat := (truncQ (r * 100)).toNat

/-- BAT_Ss_STAT (17 R528). -/
def strStat (p : Pkg) (x : BStr) : Nat :=
  let e := x.est
  pk [(x.st.code, 31, 29), (bit e.eod, 28, 28), (bit e.eoc, 27, 27), (bit e.drift, 26, 26), (bit e.socV.isSome, 25, 25)
      , ((confOf e).code, 24, 23), (capSrc p x, 22, 21), ((e.learn.map (·.ints)).getD 0, 20, 17), (bit e.learn.isSome, 16, 16), (x.stale, 15, 8)]

/-- Registers of string s (17 R528). -/
def strRead (p : Pkg) (s k : Nat) : Nat :=
  let x := strAt p s
  let e := x.est
  match k with
  | 0x00 => strStat p x
  | 0x04 => pk [((e.soc.map pct).getD 0, 31, 16), ((e.socV.map pct).getD 0xFFFF, 15, 0)]
  | 0x08 => pk [(((socDis e).map pct).getD 0, 31, 16), (min 65535 (pct e.unc), 15, 0)]
  | 0x0C => pk [(x.cap.q.floor.toNat, 31, 16), (min 65535 (capAge p x), 15, 0)]
  | 0x10 => x.status.v
  | 0x14 => uns 32 e.i
  | 0x18 => pk [(uns 16 x.status.t, 31, 16)]
  | 0x1C => x.r.getD 0xFFFFFFFF
  | 0x20 => pk [(if e.eod then 0 else x.status.pDis, 31, 16), (if e.eoc then 0 else x.status.pChg, 15, 0)]
  | 0x24 => pk [(x.reason, 31, 28), (x.cap.lastQ, 15, 0)]
  | 0x28 => half (x.nv.serial.getD 0) 0
  | 0x2C => half (x.nv.serial.getD 0) 1
  | _ => 0

/-- BAT_EVT (17 R528). -/
def batEvtWord (e : BEvt) : Nat := bitsN [e.removed, e.swapped, e.lost, e.eod, e.eoc, e.drift, e.learned, e.disq]

/-- BAT registers (17 R528). -/
def batRead (p : Pkg) (off : Nat) : Nat :=
  let b := p.bat
  let bits := fun (f : BStr → Bool) => bitsN (b.str.map f)
  match off with
  | 0x00 => pk [(bits (fun x => x.st == .active), 31, 16), (bits (·.est.eod), 15, 0)]
  | 0x04 => pk [(bits (·.est.eoc), 31, 16), (bits (·.est.drift), 15, 0)]
  | 0x08 => batEvtWord b.evt
  | 0x0C => b.reserve
  | 0x10 => b.avail.floor.toNat
  | 0x14 => pk [(b.pDis, 31, 16), (b.pChg, 15, 0)]
  | k => if inB k 0x100 0x40 16 then strRead p ((k - 0x100) / 0x40) ((k - 0x100) % 0x40) else 0

/-- What PARAM_WRITE changes in BAT (21 R626). -/
def batOpen (off : Nat) : RegOpen :=
  if off = 8 then { w1c := 0xFF }
  else if inB off 0x100 0x40 16 ∧ (off - 0x100) % 0x40 = 0 then { w1c := 0xFF00 }
  else {}

/-- A write in BAT (17 R528). -/
def batWrite (off v m : Nat) (p : Pkg) : Pkg :=
  if off = 8 then
    batEvt (fun e => { removed := w1c v m 0 e.removed, swapped := w1c v m 1 e.swapped, lost := w1c v m 2 e.lost, eod := w1c v m 3 e.eod
                       eoc := w1c v m 4 e.eoc, drift := w1c v m 5 e.drift, learned := w1c v m 6 e.learned, disq := w1c v m 7 e.disq }) p
  else if inB off 0x100 0x40 16 ∧ (off - 0x100) % 0x40 = 0 then
    updStr ((off - 0x100) / 0x40) (fun x => { x with stale := w1cF v m 15 8 x.stale }) p
  else p

/-! ### KEY (18 R553) -/

/-- Code of ROOT (18 R553). -/
def Root.code : Root → Nat
  | .none_ => 0 | .ready => 1 | .destroyed => 2 | .failed => 3

/-- KEY_STAT (18 R553). -/
def keyStat (p : Pkg) : Nat :=
  let k := p.key
  pk [((rootOf k).code, 31, 28), (rootSlot k, 27, 27), (bit k.exported, 26, 26), (bit k.entropy, 25, 25), (bit (!k.opr.pub.isEmpty), 24, 24)
      , (bit (!k.met.pub.isEmpty), 23, 23), (nonceCount p, 7, 0)]

/-- KEY_ROLLBACK (18 R553). -/
def rollbackWord (k : Key) : Nat :=
  let ver := fun n => if k.fwOk.getD n false then (k.fw.getD n {}).secVer else 0xFF
  pk [(k.rollback, 31, 24), (ver 0, 23, 16), (ver 1, 15, 8), (bitsN k.revoked, 7, 4), (k.bootSlot, 3, 3)]

/-- KEY_EVT (18 R553). -/
def keyEvtWord (e : KeyEvt) : Nat := bitsN [e.sig, e.nonce, e.image, e.installed, e.raised, e.entropy]

/-- KEY registers (18 R553). -/
def keyRead (p : Pkg) (off : Nat) : Nat :=
  let k := p.key
  match off with
  | 0x00 => keyStat p
  | 0x04 => rollbackWord k
  | 0x08 => keyEvtWord k.evt
  | 0x0C => pk [(k.sigFail, 31, 24), (k.nonceFail, 23, 16), (k.imgFail, 15, 8), (k.entFail, 7, 0)]
  | 0x10 => pk [(k.opr.count, 31, 16), (k.met.count, 15, 0)]
  | 0x20 => wordAt (keyId k.opr.pub) 0
  | 0x24 => wordAt (keyId k.opr.pub) 1
  | 0x28 => wordAt (keyId k.met.pub) 0
  | 0x2C => wordAt (keyId k.met.pub) 1
  | o =>
    if inB o 0x100 0x80 5 ∧ (o - 0x100) % 0x80 < 100 ∧ rootOf k = .ready then
      wordAt (publicOf p (pubKey ((o - 0x100) / 0x80))) ((o - 0x100) % 0x80 / 4)
    else 0

/-- What PARAM_WRITE changes in KEY (21 R626). -/
def keyOpen (off : Nat) : RegOpen := if off = 8 then { w1c := 0x3F } else if off = 0xC then { w1c := 0xFFFFFFFF } else {}

/-- A write in KEY (18 R553). -/
def keyWrite (off v m : Nat) (p : Pkg) : Pkg :=
  let k := p.key
  if off = 8 then
    let e := k.evt
    { p with key := { k with evt := { sig := w1c v m 0 e.sig, nonce := w1c v m 1 e.nonce, image := w1c v m 2 e.image
                                      installed := w1c v m 3 e.installed, raised := w1c v m 4 e.raised, entropy := w1c v m 5 e.entropy } } }
  else if off = 0xC then
    { p with key := { k with sigFail := w1cF v m 31 24 k.sigFail, nonceFail := w1cF v m 23 16 k.nonceFail
                             imgFail := w1cF v m 15 8 k.imgFail, entFail := w1cF v m 7 0 k.entFail } }
  else p

/-! ### TIM (19 R580) -/

/-- Code of SYNC (19 R580). -/
def Sync.code : Sync → Nat
  | .unsync => 0 | .holdover => 1 | .fabric => 2 | .pps => 3

/-- TIM_STAT (19 R580). -/
def timStat (t : Tim) : Nat :=
  pk [(t.sync.code, 31, 28), (bit t.pps.valid, 27, 27), (bit (t.pps.aligned && t.sync != .unsync), 26, 26), (bit t.large, 25, 25)
      , (bit t.step_.isSome, 24, 24)]

/-- Phase: φ of the last edge, or the fabric offset while it is followed (19 R560, R580). -/
def phaseWord (p : Pkg) : Nat := if p.tim.sync = .fabric then uns 32 (p.dfn.time.offset.tdiv 1000) else uns 32 p.tim.pps.phi

/-- MISSED of the PPS input (19 R580). -/
def missedOf (p : Pkg) : Nat := min 255 (p.tim.pps.missed.filter (fun t => decide (p.clk < t + 10000000000))).length

/-- PPS_OUT is driven (19 R563). -/
def ppsDriving (p : Pkg) : Bool := p.tim.sync == .pps || p.tim.sync == .fabric

/-- TIM_EVT (19 R580). -/
def timEvtWord (e : TimEvt) : Nat := bitsN [e.jump, e.lost, e.offset, e.step, e.acqRef, e.acquired]

/-- TIM registers (19 R580). -/
def timRead (p : Pkg) (off : Nat) : Nat :=
  let t := p.tim
  match off with
  | 0x00 => timStat t
  | 0x04 => half t.now 0
  | 0x08 => half t.now 1
  | 0x0C => uns 32 (truncQ (t.a * 1000000000000))
  | 0x10 => phaseWord p
  | 0x14 => uns 32 t.e
  | 0x18 => uns 32 t.delay
  | 0x1C => half (uns 64 t.stepSum) 0
  | 0x20 => half (uns 64 t.stepSum) 1
  | 0x24 => half t.lastSet 0
  | 0x28 => half t.lastSet 1
  | 0x2C => timEvtWord t.evt
  | 0x30 => health p 5 (linkState true t.pps.valid) false false false
              (pk [(bit t.pps.valid, 15, 15), (bit (t.pps.aligned && t.sync != .unsync), 14, 14), (missedOf p, 7, 0)])
  | 0x34 => health p 5 (linkState true (ppsDriving p)) false false false (pk [(bit (ppsDriving p), 15, 15)])
  | k =>
    if inB k 0x40 4 24 then
      let b := t.hold.getD ((k - 0x40) / 4) {}
      pk [(b.n, 31, 24), (uns 24 b.e, 23, 0)]
    else 0

/-- What PARAM_WRITE changes in TIM (19 R580, 21 R626). -/
def timOpen (p : Pkg) (off : Nat) : RegOpen :=
  if off = 0x18 then
    { rw := 0xFFFFFFFF, ok := fun v m => let d := wrI v m p.tim.delay; decide (-100000 ≤ d ∧ d ≤ 100000) }
  else if off = 0x2C then { w1c := 0x3F }
  else {}

/-- A write in TIM (19 R580). -/
def timWrite (off v m : Nat) (p : Pkg) : Pkg :=
  if off = 0x18 then updTim (fun t => { t with delay := wrI v m t.delay }) p
  else if off = 0x2C then
    timEvt (fun e => { jump := w1c v m 0 e.jump, lost := w1c v m 1 e.lost, offset := w1c v m 2 e.offset, step := w1c v m 3 e.step
                       acqRef := w1c v m 4 e.acqRef, acquired := w1c v m 5 e.acquired }) p
  else p

/-! ### THM (19 R581) -/

/-- Sensor with the highest valid reading, the lowest of equals; 0 for none (19 R581). -/
def hottest (l : List Sensor) : Nat :=
  (l.zipIdx.foldl (fun (a : Option Int × Nat) x => match x.1.valid with
    | none => a
    | some t => if a.1.any (fun b => decide (t ≤ b)) then a else (some t, x.2)) (none, 0)).2

/-- THM_EVT (19 R581). -/
def thmEvtWord (e : ThmEvt) : Nat := bitsN [e.excl, e.warn, e.quiet, e.stop, e.shutdown]

/-- THM registers (19 R581). -/
def thmRead (p : Pkg) (off : Nat) : Nat :=
  let t := p.thm
  match off with
  | 0x00 => pk [(bit p.sys.thermHold, 31, 31), (bit t.warn, 30, 30), (bit t.quiet, 29, 29), (bit t.stop, 28, 28), (hottest t.sens, 15, 8)
                , ((t.sens.filter (fun x => x.reason != 0)).length, 7, 0)]
  | 0x04 => uns 16 t.max_
  | 0x08 => pk [(uns 16 t.tWarn, 31, 16), (uns 16 t.tQuiet, 15, 0)]
  | 0x0C => pk [(uns 16 t.tStop, 31, 16)]
  | 0x10 => thmEvtWord t.evt
  | 0x14 => t.shutdowns
  | k =>
    if inB k 0x100 8 40 then
      let x := t.sens.getD ((k - 0x100) / 8) {}
      if k % 8 = 0 then pk [(uns 16 (x.t.getD 0), 31, 16), (uns 16 x.dev, 15, 0)]
      else pk [(bit x.valid.isSome, 31, 31), (bit (x.reason != 0), 30, 30), (x.reason, 29, 28)]
    else 0

/-- What PARAM_WRITE changes in THM (21 R626). -/
def thmOpen (off : Nat) : RegOpen := if off = 0x10 then { w1c := 0x1F } else {}

/-- A write in THM (19 R581). -/
def thmWrite (off v m : Nat) (p : Pkg) : Pkg :=
  if off = 0x10 then
    let e := p.thm.evt
    { p with thm := { p.thm with evt := { excl := w1c v m 0 e.excl, warn := w1c v m 1 e.warn, quiet := w1c v m 2 e.quiet
                                          stop := w1c v m 3 e.stop, shutdown := w1c v m 4 e.shutdown } } }
  else p

/-! ### SUP (19 R582) -/

/-- SUP_EVT (19 R582). -/
def supEvtWord (e : SupEvt) : Nat := bitsN [e.warn, e.inhibit, e.vana, e.vio, e.short, e.autoClear]

/-- SUP registers (19 R582). -/
def supRead (p : Pkg) (off : Nat) : Nat :=
  let s := p.sup
  match off with
  | 0x00 => pk [(bit s.warn, 31, 31), (bit s.inhibit, 30, 30), (bit s.vanaOk, 29, 29), (bitsN s.vioOk, 15, 8)]
  | 0x04 => pk [(s.vhold, 31, 16), (s.vmain, 15, 0)]
  | 0x08 => s.vana
  | 0x0C => supEvtWord s.evt
  | 0x10 => pk [(s.warnInh, 31, 16), (s.save, 15, 0)]
  | _ => 0

/-- What PARAM_WRITE changes in SUP (21 R626). -/
def supOpen (off : Nat) : RegOpen := if off = 0xC then { w1c := 0x3F } else {}

/-- A write in SUP (19 R582). -/
def supWrite (off v m : Nat) (p : Pkg) : Pkg :=
  if off = 0xC then
    let e := p.sup.evt
    { p with sup := { p.sup with evt := { warn := w1c v m 0 e.warn, inhibit := w1c v m 1 e.inhibit, vana := w1c v m 2 e.vana
                                          vio := w1c v m 3 e.vio, short := w1c v m 4 e.short, autoClear := w1c v m 5 e.autoClear } } }
  else p

end Sys2Proof.Machine
end

