-- ==== Sys2Proof/Machine/Windows.lean ====
section
/-!
DEFINITION. The readback space as a whole: its regions, the register blocks by their bases, the capture, power-line,
scan and CAN windows, and the journal view (21 R610 to R623).
-/

namespace Sys2Proof.Machine

/-! ### Windows (21 R617 to R619) -/

/-- The safe-stop record's bytes (11 R380). -/
def safeStopBytes (x : SafeStop) : List Byte :=
  let entry := fun (e : SsPort) => [byte e.port, byte (bit e.forced)] ++ toLe 2 (uns 16 e.amps) ++ toLe 4 e.us
  toLe 8 x.time ++ [byte x.first, byte x.mask, byte (ownerCode x.owner), 0] ++ toLe 12 (bitsN x.enables) ++ toLe 8 x.lastLow
    ++ ((pad32 x.ports).map entry).flatten ++ pad 196608 x.fast
where
  /-- Thirty-two entries, the unused ones marked. -/
  pad32 (l : List SsPort) : List SsPort := (l ++ List.replicate 32 ({} : SsPort)).take 32

/-- A word of the capture window (21 R617). -/
def captureWord (p : Pkg) (o : Nat) : Nat :=
  if o < 0x400010 then wordAt p.pwr.capt.data (o / 4)
  else if inB o 0x600000 196896 1 ∧ p.duo.ss.rec_ then wordAt (safeStopBytes p.duo.ss) ((o - 0x600000) / 4)
  else 0

/-- The record of a ring at a place: `next` counts the records stored, the newest of which are retained, oldest first
(21 R618, R619). -/
def ringAt {α : Type} (l : List α) (next size n : Nat) : Option α :=
  let base := next - l.length
  l[(n + size - base % size) % size]?

/-- Bytes of a power-line ring record (15 R494). -/
def plcRecBytes (r : PRec) : List Byte :=
  toLe 8 r.time ++ toLe 2 r.src ++ [byte r.kind, byte r.prio, byte r.data.length, byte r.flags] ++ toLe 2 r.seq ++ pad 64 r.data

/-- A word of the power-line rings and scan windows (21 R618). -/
def plcWord (p : Pkg) (o : Nat) : Nat :=
  if inB o 0 0x20000 4 then
    let x := plAt p (o / 0x20000)
    let k := o % 0x20000
    if k < 81920 then
      match ringAt x.ring x.next 1024 (k / 80) with
      | some r => wordAt (plcRecBytes r) (k % 80 / 4)
      | none => 0
    else 0
  else if inB o 0x80000 0x10000 8 then
    let l := (o - 0x80000) / 0x10000
    match (flAt p l).scan with
    | some s => wordAt (scanWindow l s) (o % 0x10000 / 4)
    | none => 0
  else 0

/-- A word of the CAN receive rings (21 R619). -/
def canRingWord (p : Pkg) (o : Nat) : Nat :=
  let x := canAt p (o / 0x80000)
  let k := o % 0x80000
  if k < 327680 then
    match ringAt x.ring x.next 4096 (k / 80) with
    | some r => wordAt (recBytes r) (k % 80 / 4)
    | none => 0
  else 0

/-! ### The journal view (21 R620 to R623) -/

/-- Bytes of an energy record; what a record that fails its check holds is not stated (09 R307, R311, 18 R538; log 6). -/
def energyBytes (p : Pkg) (m s : Nat) (r : MtrRecord) : List Byte :=
  if !r.ok then ((List.range 16).map (fun i => toLe 8 (Config.freeValue (2 ^ 64 + (64 * m + s) * 16 + i)).toNat)).flatten
  else
    let b := [byte r.kind, byte r.meter, byte r.epoch, byte r.flags] ++ toLe 4 0 ++ toLe 8 r.seq ++ toLe 8 r.time
      ++ (r.acc.map (toLe 8)).flatten ++ (r.frac.map (toLe 4)).flatten ++ toLe 8 r.gap ++ [byte r.cause, 0, 0, 0]
    let c := b ++ sealBytes p b
    c ++ toLe 4 (crc32 c)

/-- A word of the energy region (21 R620). -/
def energyWord (p : Pkg) (o : Nat) : Nat :=
  let m := o / 0x2000
  let s := o % 0x2000 / 0x80
  match (mtAt p m).slots.getD s none with
  | some r => if m < 6 then wordAt (energyBytes p m s r) (o % 0x80 / 4) else 0
  | none => 0

/-- An entry of the holding table (21 R621). -/
def holdingBytes (p : Pkg) (h : Holding) : List Byte :=
  let fl := (meetAll h.floors h.ranges).map (fun r => ({ r := r, floor := true } : HeldRange))
  let rest := (subAll h.floors h.ranges).map (fun r => ({ r := r } : HeldRange))
  let l := ((fl ++ rest).foldr insRange []).take 64
  toLe 2 h.node ++ toLe 2 (bit h.fenced + 2 * bit ((mapMods p).any (fun m => m.node == h.node))) ++ [byte l.length, 0, 0, 0]
    ++ toLe 8 h.grantAt ++ pad 512 ((l.map (fun x => rangeWords x.floor false x.r)).flatten)

/-- A word of the ledger region: a voice's holding table (21 R621). -/
def holdingWord (p : Pkg) (o : Nat) : Nat :=
  if !isVoice p then 0
  else match (p.dfn.dests[o / 0x400]?).bind (fun d => p.ldg.nv.table.find? (fun h => h.node == d.addr)) with
    | some h => wordAt (holdingBytes p h) (o % 0x400 / 4)
    | none => 0

/-- A word of the work-id region (21 R622). -/
def workIdWord (p : Pkg) (o : Nat) : Nat :=
  if o < 8 then wordAt (toLe 8 ((p.mbx.workCtr + 1) % 2 ^ 48)) (o / 4)
  else if inB o 0x1000 0x20 1024 then
    match (p.dfn.dests[(o - 0x1000) / 0x20]?).bind (fun d => p.dfn.nv.wins.find? (fun w => w.src == d.addr)) with
    | some w => wordAt (toLe 2 w.src ++ [0, 0] ++ toLe 4 w.done.length ++ toLe 8 w.high) (o % 0x20 / 4)
    | none => 0
  else 0

/-- Entry j of the life-cycle log, oldest first, as an event record; the counts of seals and breaks after it are today's
less those of later entries (21 R620). -/
def lcEntry (p : Pkg) (j : Nat) : Option EvRec :=
  let later := p.sys.lcLog.take (p.sys.lcLog.length - 1 - j)
  let count := fun (f : Lc × Lc → Bool) => (later.filter (fun x => f x.2)).length
  match if j < p.sys.lcLog.length then p.sys.lcLog[p.sys.lcLog.length - 1 - j]? else none with
  | none => none
  | some (t, a, b) =>
    let seals := p.sys.fuses.seals - count (fun x => x.2 == .field)
    let breaks := p.sys.fuses.breaks - count (fun x => x.2 == .service)
    some { index := j, time := t, kind := 0x40, data := [byte a.code, byte b.code, byte seals, byte breaks] }

/-- A word of the events region (21 R620). -/
def eventWord (p : Pkg) (o : Nat) : Nat :=
  let w := fun (e : Option EvRec) => match e with
    | some x => wordAt (eventBytes p x) (o % 64 / 4)
    | none => 0
  if o < 0x7C000 then w (p.bil.events.find? (fun e => e.index % 7936 == o / 64)) else w (lcEntry p ((o - 0x7C000) / 64))

/-- STATE of a receipt slot (21 R623). -/
def RcptState.code : RcptState → Nat
  | .open_ => 1 | .closed => 2 | .acked => 3

/-- A receipt slot; while the receipt is open SIG reads as zero (21 R623). -/
def receiptSlot (x : Receipt) : List Byte :=
  pad 0x3F0 (if x.st = .open_ then receiptBody x else receiptBytes x) ++ [byte x.st.code] ++ List.replicate 7 0 ++ toLe 8 x.no

/-- A word of the journal view (21 R620). -/
def journalWord (p : Pkg) (o : Nat) : Nat :=
  if o < 0x80000 then energyWord p o
  else if o < 0x180000 then holdingWord p (o - 0x80000)
  else if o < 0x380000 then workIdWord p (o - 0x180000)
  else if o < 0x400000 then eventWord p (o - 0x380000)
  else if o < 0x500000 then
    match p.bil.rcpts.find? (fun x => x.slot == (o - 0x400000) / 0x400) with
    | some x => wordAt (receiptSlot x) (o % 0x400 / 4)
    | none => 0
  else 0

/-! ### The space (21 R610 to R612) -/

/-- A register by block and offset (21 R612). -/
def blockRead (p : Pkg) (b off : Nat) : Nat :=
  match b with
  | 0x00 => sysRead p off
  | 0x01 => mbxRead p off
  | 0x02 => pwrRead p off
  | 0x03 => ceRead p off
  | 0x04 => vcmdRead p off
  | 0x05 => eyeRead p off
  | 0x06 => ldgRead p off
  | 0x07 => mtrRead p off
  | 0x08 => bilRead p off
  | 0x09 => duoRead p off
  | 0x0A => dflRead p off
  | 0x0B => dfnRead p off
  | 0x0C => vlkRead p off
  | 0x0D => canRead p off
  | 0x0E => plnRead p off
  | 0x0F => lswRead p off
  | 0x10 => batRead p off
  | 0x11 => keyRead p off
  | 0x12 => timRead p off
  | 0x13 => thmRead p off
  | 0x14 => supRead p off
  | _ => 0

/-- The word at an address of the readback space (21 R610). -/
def spaceWord (p : Pkg) (a : Nat) : Nat :=
  if a < 0x01500000 then blockRead p (a / 0x100000) (a % 0x100000)
  else if inB a 0x10000000 0x800000 1 then captureWord p (a - 0x10000000)
  else if inB a 0x11000000 0x100000 1 then plcWord p (a - 0x11000000)
  else if inB a 0x12000000 0x800000 1 then canRingWord p (a - 0x12000000)
  else if inB a 0x20000000 0x800000 1 then journalWord p (a - 0x20000000)
  else 0

/-- A range lies wholly within one region of the space (21 R611). -/
def inSpace (a n : Nat) : Bool :=
  [(0, 0x01500000), (0x10000000, 0x10800000), (0x11000000, 0x11100000), (0x12000000, 0x12800000), (0x20000000, 0x20800000)].any
    (fun r => decide (r.1 ≤ a ∧ a + n ≤ r.2))

/-- What PARAM_WRITE changes at an address; nothing outside the register blocks (21 R625, R626). -/
def addrOpen (p : Pkg) (a : Nat) : RegOpen :=
  let off := a % 0x100000
  if a % 4 ≠ 0 then {}
  else match a / 0x100000 with
    | 0x00 => sysOpen off
    | 0x01 => mbxOpen off
    | 0x02 => pwrOpen p off
    | 0x03 => ceOpen p off
    | 0x04 => vcmdOpen p off
    | 0x05 => eyeOpen p off
    | 0x06 => ldgOpen p off
    | 0x07 => mtrOpen p off
    | 0x08 => bilOpen off
    | 0x09 => duoOpen p off
    | 0x0A => dflOpen p off
    | 0x0B => dfnOpen p off
    | 0x0C => vlkOpen p off
    | 0x0D => canOpen off
    | 0x0E => plnOpen p off
    | 0x0F => lswOpen off
    | 0x10 => batOpen off
    | 0x11 => keyOpen off
    | 0x12 => timOpen p off
    | 0x13 => thmOpen off
    | 0x14 => supOpen off
    | _ => {}

/-- A masked write of a register by a client takes effect (03 R117, 21 R627). -/
def regWrite (a v m client : Nat) (p : Pkg) : Pkg :=
  let off := a % 0x100000
  match a / 0x100000 with
  | 0x00 => sysWrite off v m p
  | 0x01 => mbxWrite off v m p
  | 0x02 => pwrWrite off v m p
  | 0x03 => ceWrite off v m p
  | 0x04 => vcmdWrite off v m p
  | 0x05 => eyeWrite off v m client p
  | 0x06 => ldgWrite off v m p
  | 0x07 => mtrWrite off v m p
  | 0x08 => bilWrite off v m p
  | 0x09 => duoWrite off v m p
  | 0x0A => dflWrite off v m client p
  | 0x0B => dfnWrite off v m p
  | 0x0C => vlkWrite off v m p
  | 0x0D => canWrite off v m p
  | 0x0E => plnWrite off v m p
  | 0x0F => lswWrite off v m p
  | 0x10 => batWrite off v m p
  | 0x11 => keyWrite off v m p
  | 0x12 => timWrite off v m p
  | 0x13 => thmWrite off v m p
  | 0x14 => supWrite off v m p
  | _ => p

end Sys2Proof.Machine
end

