-- ==== Sys2Proof/Machine/Readback.lean ====
section
/-!
DEFINITION. Reading the readback space and writing registers through the mailbox, and the recovery mailbox of the boot
ROM (03 R92, R115, R117, 21 R625 to R627).
-/

namespace Sys2Proof.Machine

/-! ### STATE_READ (03 R115) -/

/-- ADDRESS and LENGTH of a STATE_READ are in range (03 R115, 21 R611). -/
def readOk (d : List Byte) : Bool :=
  u32 d 0 % 4 == 0 && u16 d 4 % 4 == 0 && inR 4 4048 (u16 d 4) && zeros d 6 2 && inSpace (u32 d 0) (u16 d 4)

/-- The answer of STATE_READ from a snapshot (03 R115). -/
def stateRead (q : Pkg) (d : List Byte) : List Byte :=
  let a := u32 d 0
  toLe 8 q.sys.supCycles ++ toLe 4 a ++ toLe 2 (u16 d 4) ++ [0, 0]
    ++ ((List.range (u16 d 4 / 4)).map (fun i => toLe 4 (spaceWord q (a + 4 * i)))).flatten

/-- STATE_READ: the data is taken from the snapshot of the latest supervisory boundary (03 R115). -/
def execStateRead (ep : Fin 3) (slot : Fin 64) (s : State) : Out :=
  run1 (submit (specQuery 0x0F01 8 (fun _ d => readOk d)) true (slotIx ep slot) (fun p d => (stateRead (snapOf s) d, p))) s

/-! ### PARAM_WRITE (03 R117, 21 R625 to R627) -/

/-- The RW1C, RW, WO or RWS bits under the mask. -/
def openBits (o : RegOpen) (m : Nat) : Bool := m &&& (o.rw ||| o.w1c) != 0

/-- RW, WO or RWS bits are under the mask. -/
def rwBits (o : RegOpen) (m : Nat) : Bool := m &&& o.rw != 0

/-- Role that a PARAM_WRITE needs: METROLOGY for RWS fields and forces, else OPERATOR (03 R112, 21 R626). -/
def writeRole (p : Pkg) (r : Roles) (d : List Byte) : Bool :=
  let o := addrOpen p (u32 d 0)
  if o.met && rwBits o (u32 d 8) then r.met else r.opr

/-- The address has a writable bit under the mask and the values are in range (03 R117, 21 R626). -/
def writeOk (p : Pkg) (d : List Byte) : Bool :=
  let o := addrOpen p (u32 d 0)
  openBits o (u32 d 8) && (!rwBits o (u32 d 8) || o.ok (u32 d 4) (u32 d 8))

/-- Guard of a PARAM_WRITE: mode and life-cycle of its row, then its further condition (21 R626; log 67). -/
def writeGuard (p : Pkg) (d : List Byte) : Nat :=
  let o := addrOpen p (u32 d 0)
  if !rwBits o (u32 d 8) then 0
  else if !o.modes p.sys.mode || (o.svc && lcOf p != .service) then 8
  else o.guard (u32 d 4) (u32 d 8)

/-- PARAM_WRITE in the catalogue (03 R112, R117). -/
def specParamWrite (p : Pkg) : OpSpec where
  op := 0x0F05
  lenOk d := d.length == 12
  role := writeRole p
  params := writeOk
  modes := notRetired
  guard := writeGuard

/-- A code of EYE_Pp_FORCE that would imply both switches on reaches check 5 of R108: it is counted and logged
(07 R236). -/
def refusedForce (p0 : Pkg) (ix : Nat) (p : Pkg) : Pkg :=
  let s := slotAt p0 ix
  let d := s.payload
  let off := u32 d 0 % 0x100000
  let fresh : Bool := match seqCheck p0 s with | .fresh => true | _ => false
  if s.state = .pending ∧ s.opcode = 0x0F05 ∧ !s.checked ∧ s.waits.isNone ∧ d.length = 12 ∧ fresh ∧
      writeRole p0 ((clientOf p0 s.client).getD {}).roles d ∧ u32 d 0 / 0x100000 = 5 ∧ inB off 0x200 8 96 ∧ off % 8 = 4 ∧ u32 d 8 % 8 ≠ 0 then
    let q := (off - 0x200) / 8
    forceRefused q (wr (u32 d 4) (u32 d 8) 2 0 (eyAt p0 q).force.code) s.client p
  else p

/-- PARAM_WRITE: the command's checks (03 R117). -/
def execParamWrite (ep : Fin 3) (slot : Fin 64) (s : State) : Out :=
  run1 (fun p => refusedForce p (slotIx ep slot) (submit (specParamWrite p) true (slotIx ep slot) noAns p)) s

/-- PARAM_WRITE applied at its boundary (03 R105, R117, 21 R627). -/
def applyParamWrite (d : List Byte) (client : Nat) (p : Pkg) : Pkg := regWrite (u32 d 0) (u32 d 4) (u32 d 8) client p

/-! ### The recovery mailbox (03 R92) -/

/-- The endpoint carries messages while the boot ROM serves it (03 R92, R119). -/
def bootUp (p : Pkg) (ep : Nat) : Bool := if ep = 2 then p.sup.vioOk.getD 7 false else p.mbx.up.getD ep false

/-- The boot ROM answers in slot 0 of an endpoint. -/
def recoveryReply (ep : Nat) (st : Status) (payload : List Byte) (p : Pkg) : Pkg :=
  recoveryAnswer ep (finalise (64 * ep) st 0 0 payload p)

/-- The registers that the boot ROM lets STATE_READ see (03 R92). -/
def bootReadOk (d : List Byte) : Bool :=
  readOk d && (List.range (u16 d 4 / 4)).all (fun i => [0x0, 0x4, 0x8, 0x00100024].contains (u32 d 0 + 4 * i))

/-- A command in slot 0 of the boot ROM; STATE_READ answers from the snapshot q of a boundary (03 R92, R114, R115). -/
def bootCommand (q : Pkg) (ep : Nat) (op : Nat) (d : List Byte) (p : Pkg) : Pkg :=
  if op = 0x0F01 then
    if d.length ≠ 8 then recoveryReply ep .badLength [] p
    else if !bootReadOk d then recoveryReply ep .badParameter [] p
    else recoveryReply ep .ok (stateRead q d) p
  else if op = 0x0106 then
    if !specImageLoad.lenOk d then recoveryReply ep .badLength [] p
    else if !chunkOk d then recoveryReply ep .badParameter [] p
    else if specImageLoad.busy p d ∨ p.mtr.nvBlock then recoveryReply ep .busy [] p
    else
      let whole := covers (u32 d 4) (((loadOf p (imgKey d)).filter (fun l => l.total == u32 d 4)).elim [] (·.parts) ++ [(u32 d 8, d.length - 12)])
      let p1 := applyImageLoad (recoveryId ep) d p
      if whole then updSlot (64 * ep) (fun s => { s with waits := some (recoveryId ep) }) p1 else recoveryReply ep .ok [] p1
  else recoveryReply ep .badOpcode [] p

/-- A RECOVERY message: only in BOOT with no authenticated firmware, and only slot 0 (03 R92). -/
def recovery (q : Pkg) (m : MsgIn) (p : Pkg) : Pkg :=
  if p.sys.mode ≠ .boot ∨ !p.sup.started ∨ !p.key.recov then p
  else framedOn bootUp 8 m (fun p =>
    let b := m.body
    let ix := 64 * m.ep
    let refuse := fun (st : Status) (p : Pkg) =>
      let r : Result := { status := st, opcode := u16 b 0, client := u32 b 4, seq := u32 b 8, mode := p.sys.mode.code }
      sendOut { ep := m.ep, type := 8, body := resultBytes (generation p (slotAt p ix)) 0 r, peer := m.peer } m.v6 p
    if u8 b 12 ≠ 0 then refuse .notAuthorised p
    else if (slotAt p ix).state = .pending then refuse .busy p
    else if u16 b 2 + 32 ≠ b.length then refuse .badLength p
    else bootCommand q m.ep (u16 b 0) (b.drop 32) (updSlot ix (fun s => { placed b 0 s with push := false })
      { p with mbx := { p.mbx with recPeer := upd p.mbx.recPeer m.ep (fun _ => m.peer) } })) p


/-- RECOVERY (03 R92). -/
def execRecovery (msg : MsgIn) (s : State) : Out := run1 (recovery (snapOf s) msg) s

end Sys2Proof.Machine
end

