-- ==== Sys2Proof/Machine/Boundary.lean ====
section
/-!
DEFINITION. The supervisory boundary (01 R33, 02 R66, 03 R105, R115): the events of the cycle in their order, the work
accepted, lending and caps, slow lanes, models and estimates, the mirror, phase decisions, status frames, the counts of
the cycle that ends, and the readback snapshot.
-/

namespace Sys2Proof.Machine

/-! ### Events before host requests (02 R66) -/

/-- A change that the active die makes; none is made while Hoop selects no die (01 R632). -/
def ifAwake (f : Pkg → Pkg) (p : Pkg) : Pkg := if awake p then f p else p

/-- The active die reads the pattern counter: an increase is a self-declared fault of its own (07 R234). -/
def patternRead (p : Pkg) : Pkg :=
  let p1 := { p with eye := { p.eye with patSeen := p.eye.patErr } }
  match activeDie p with
  | some d => if p.eye.patErr > p.eye.patSeen then dieFault .self 0xF d p1 else p1
  | none => p

/-- The safe-stop action of a following error is taken (05 R185). -/
def owedStop (p : Pkg) : Pkg :=
  if p.ce.stopOwed then safeStopFault { p with ce := { p.ce with stopOwed := false } } else p

/-- A lease that expired in a mode without the row is acted on in IDLE (02 R69). -/
def owedLease (p : Pkg) : Pkg :=
  if p.sys.leaseOwed ∧ p.sys.mode = .idle ∧ !leaseOk p then isolate p else p

/-- Entry to DERATE by a region held below its request for the cycle that ends, with the cause of each region, and the
count of cycles without one (02 R65, 04 R156). -/
def derating (p : Pkg) : Pkg :=
  let held := p.pwr.rg.any (·.held)
  if p.sys.mode = .deliver ∧ held then
    setMode .derate { p with sys := { p.sys with freeCycles := 0, derateWhy := p.pwr.rg.map (fun g => if g.held then g.bind else 0) } }
  else if p.sys.mode = .derate then
    { p with sys := { p.sys with freeCycles := if held then 0 else min 100 (p.sys.freeCycles + 1) } }
  else p

/-- The new active die takes up slots, streams, lanes, power-line queues and vehicle links from the mirror
(03 R107, 13 R427). -/
def switchDue (p : Pkg) : Pkg :=
  if p.duo.swDue then
    let q := vlkSwitch (plcSwitch (streamsSwitch (lanesSwitch (rebuildSlots p))))
    { q with duo := { q.duo with swDue := false } }
  else p

/-! ### Accepted work (03 R105, R110) -/

/-- The catalogue's checks of the mutating opcodes, as their boundary evaluates mode and guard again (02 R66). A
DUO_SWITCH outside DUAL ends FAULTED instead (11 R376). -/
def workSpecs (p : Pkg) : List OpSpec :=
  [specModeRequest, specServiceGrant, specFaultClear, specSysReset, specImageLoad, specImageCommit, specVcmdWrite,
   specRegionLimit, specPhasePolicy, specCaptureStart, specEyeFaultClear, specCeCoefStage, specCeCoefSwap, specRcControl,
   specLdgPolicy, specLdgJoin, specLdgLeave, specReceiptAck, { specDuoSwitch with guard := fun _ _ => 0 }, specDuoReadmit,
   specEyeScan, specInject, specCanSchedule, specCanSend, specLswSet, specLswFaultClear, specBatStringCfg, specBatReserve,
   specLcSeal, specLcBreak, specLcScrap, specKeyInstall true true, specTimeStep, specThmLimits, specParamWrite p]

/-- The package without an item's own work, for the guards that ask for outstanding work (02 R64, 0x07). -/
def without (id : Nat) (p : Pkg) : Pkg :=
  { p with mbx := { p.mbx with work := p.mbx.work.filter (fun w => w.id != id) }
           dfn := { p.dfn with nv := { p.dfn.nv with owed := p.dfn.nv.owed.filter (fun r => r.id != id) } } }

/-- Guard code with which the package as the events of the cycle left it stops an accepted command, 0 for none. A new fault of the
cycle keeps a FAULT_CLEAR from taking effect (02 R66; log 108). -/
def guardNow (op id : Nat) (d : List Byte) (p : Pkg) : Nat :=
  match (workSpecs p).find? (fun o => o.op == op) with
  | none => 0
  | some o =>
    if !o.modes p.sys.mode then 8
    else if op = 0x0104 ∧ p.sys.faultCyc then 2
    else o.guard (without id p) d

/-- Commands that act on a switching cluster: those that set its commands, phases, caps or latches, and swaps, controls and writes
of RW fields of its fast lanes, clusters, ports and regions (03 R110; log 72). -/
def actsOnCluster (op : Nat) (d : List Byte) (p : Pkg) : Bool :=
  let fast := fun l => !(laneAt p l).cfg.slow
  op == 0x0201 || op == 0x0202 || op == 0x0203 || op == 0x0205 || (op == 0x0302 && (maskLanes p d).any fast) ||
    (op == 0x0303 && fast (u8 d 0)) ||
    (op == 0x0F05 && inR 2 5 (u32 d 0 / 0x100000) && rwBits (addrOpen p (u32 d 0)) (u32 d 8))

/-- A command's effect at its boundary, with the end of its work where that is the boundary. An image committed at this boundary
already, and one whose commit an earlier item has made, are the same state set twice: both complete (03 R105, R112). -/
def applyOp (q : Pkg) (op id client : Nat) (d : List Byte) (p : Pkg) : Pkg :=
  let ok := finishWork id .ok
  match op with
  | 0x0102 => ok (applyModeRequest d p)
  | 0x0103 => ok (applyServiceGrant d p)
  | 0x0104 => ok (applyFaultClear p)
  | 0x0105 => requestReset .cmd (ok p)
  | 0x0106 => applyImageLoad id d p
  | 0x0107 => if (readyOf p (u8 d 0)).isNone ∧ (readyOf q (u8 d 0)).isSome then ok p else applyCommit id d p
  | 0x0201 => ok (applyVcmdWrite d p)
  | 0x0202 => ok (applyRegionLimit d p)
  | 0x0203 => ok (applyPhasePolicy d p)
  | 0x0204 => applyCapture id d p
  | 0x0205 => applyEyeClear id d p
  | 0x0301 => ok (applyStage d p)
  | 0x0302 => applySwap id d p
  | 0x0303 => ok (applyRc d p)
  | 0x0401 => ok (applyLdgPolicy d p)
  | 0x0402 => ledgerSettle (applyLdgJoin id p)
  | 0x0403 => ledgerSettle (applyLdgLeave id p)
  | 0x0502 => ok (ackReceipt (u64 d 0) client p)
  | 0x0601 => applyDuoSwitch id p
  | 0x0602 => applyDuoReadmit id d p
  | 0x0701 => applyEyeScan id d p
  | 0x0702 => applyInject id d p
  | 0x0801 => ok (applyCanSchedule d p)
  | 0x0803 => applyCanSend id d p
  | 0x0901 => ok (applyLswSet d p)
  | 0x0902 =>
    let (st, q) := applyLswClear d p
    finishWork id st q
  | 0x0A01 => ok (applyBatCfg d p)
  | 0x0A02 => ok (applyBatReserve d p)
  | 0x0B01 => applyLc 0x0B01 id p
  | 0x0B02 => applyLc 0x0B02 id p
  | 0x0B03 => applyLc 0x0B03 id p
  | 0x0B06 => ok (applyKeyInstall d p)
  | 0x0C01 => applyTimeStep id d p
  | 0x0C02 => ok (applyThmLimits d p)
  | 0x0F05 => ok (applyParamWrite d client p)
  | _ => p

/-- One accepted item: stopped by a safe-stop, stopped by its mode or guard as the events of the cycle left the package q, or
applied (02 R66, 03 R105, R109, R110). -/
def applyItem (q : Pkg) (w : WorkItem) (p : Pkg) : Pkg :=
  match w.origin with
  | .ledger => p
  | .dlms _ => applyDlms w.id p
  | .client c =>
    let g := guardNow w.opcode w.id w.payload q
    if w.stopped ∧ actsOnCluster w.opcode w.payload p then finishWork w.id .faulted p
    else if g ≠ 0 then finishWork w.id .stateConflict { p with sys := { p.sys with lastGuard := g } }
    else applyOp q w.opcode w.id c w.payload p

/-- All work accepted since the previous boundary, in the order of acceptance: two items that set the same state both complete,
and the later value stands (03 R105). -/
def applyWork (p : Pkg) : Pkg :=
  (p.mbx.work.filter (fun w => w.state == .accepted)).foldl (fun q w => applyItem p w q) p

/-! ### The cycle that begins (01 R33, 04 R150, R156, 08 R249 to R251, R274, 11 R360) -/

/-- Lending, caps and clamps (04 R156, 08 R249, R251, R274). -/
def shareOut (p : Pkg) : Pkg :=
  let p1 := lendAll (withdrawTemp p)
  let p2 := (List.range 4).foldl (fun p r => regionClamps r (regionCap r p)) p1
  afeClamps p2

/-- The supervisory mirror goes to a standby or candidate die (11 R360). -/
def sendMirror (p : Pkg) : Pkg :=
  if shadows p .a || shadows p .b then mirrorFe { p with duo := { p.duo with mirrors := (p.duo.mirrors.1, p.duo.mirrors.2 + 1) } }
  else p

/-- Phase decisions, and isolators that wait for a boundary to close (04 R147, R150). -/
def clusterDecide (p : Pkg) : Pkg := (List.range 8).foldl (fun p n => closeIsolator n (phaseDecide n p)) p

/-- What the active die does at a boundary after its events and the work applied. -/
def newCycle (p : Pkg) : Pkg :=
  let p1 := loadSetpoints (runSlow (updSources (shareOut (cableModels (estimateAll p)))))
  regEnd (statusFrames (clusterDecide (sendMirror p1)))

/-! ### The counts of the cycle that ends -/

/-- Import from the grid in kW, rounded up (08 R262; log 73). -/
def importKw (p : Pkg) : Int := -(-((mtAt p 4).p + (mtAt p 5).p) / 1000)

/-- The counts and means of the cycle are taken, and those of the next begin at zero (03 R118, R119, 04 R149, R161,
06 R217, 14 R472, R477). -/
def endCycle (p0 : Pkg) : Pkg :=
  let p := netCosts (laneCounts (plcCounts (laneCycle p0)))
  { p with
      busyNs := 0
      sys := { p.sys with leaseCyc := false, faultCyc := false }
      mbx := { p.mbx with err := p.mbx.err.map (fun e => { e with lastCycle := e.now, now := 0 }), busy := cap 1000 (p.busyNs :: p.mbx.busy) }
      vcmd := { p.vcmd with port := p.vcmd.port.map (fun u => { u with errLast := u.errNow, errNow := 0 }) }
      can := { p.can with ch := p.can.ch.map (fun x => { x with lateCyc := (x.lateCyc.2, 0), sleepIn := x.sleep }) }
      pwr := { p.pwr with cl := p.pwr.cl.map (fun c => { c with dyn := { c.dyn with loadSum := 0, loadN := 0 } })
                          port := p.pwr.port.map (fun q => { q with run := { q.run with revLast := q.run.revNow, revNow := false } }) } }

/-- The Ground die's means of the cycle, and the import they show (08 R262, 09 R315). -/
def meterEnd (p0 : Pkg) : Pkg :=
  if metering p0 then
    let p := meterCycle p0
    { p with ldg := { p.ldg with import_ := cap 2 (importKw p :: p.ldg.import_) } }
  else p0

/-! ### The boundary -/

/-- Time reaches the boundary, and what is measured there is taken (01 R33, 19 R582). -/
def boundaryTick (b : BoundaryIn) (p0 : Pkg) : Pkg :=
  let p := advance (nextBoundary p0) p0
  lsMeasure b { p with sys := { p.sys with supCycles := p.sys.supCycles + 1, ldgDue := p.sys.ldgDue || p.tim.now % 10000000 == 0
                                           linkDrops := mapI (fun k n => satAdd 0xFFFFFFFF n (b.drops.getD k 0)) p.sys.linkDrops }
                       sup := { p.sup with vhold := b.vhold, vmain := b.vmain, vana := b.vana } }

/-- The active die's part of the boundary, in the order of 02 R66: faults, lease expiry, derating, host requests, and
then the new cycle. -/
def supervise (p : Pkg) : Pkg :=
  let p1 := ifAwake owedStop (ifAwake patternRead p)
  let p2 := ifAwake (fun p => derating (owedLease p)) p1
  let p3 := ifAwake (fun p => rollbackRaise (offsetsApply (applyWork (switchDue p)))) p2
  ifAwake newCycle p3

/-- The supervisory boundary of a package in operation; a package held in reset or retired only has its time move on,
and one without supply nothing (01 R33). -/
def boundary (b : BoundaryIn) (p : Pkg) : Pkg :=
  if p.sup.upAt.isNone then p
  else if !p.sup.started then advance (nextBoundary p) p
  else endCycle (supervise (meterEnd (boundaryTick b p)))

/-- SUPERVISORY_BOUNDARY: the readback snapshot is made after the work applied; an acquisition that falls at the
boundary is taken after it, and after the ledger cycle of the same instant (01 R33, 03 R115). -/
def execSupervisoryBoundary (b : BoundaryIn) (s : State) : Out :=
  let p := boundary b s.m
  .next { s with m := lasting s.m (if p.sys.ldgDue then p else acquireWaiting p), snap := lasting s.m p }

end Sys2Proof.Machine
end

