-- ==== Sys2Proof/Machine/Dispatch.lean ====
section
/-!
DEFINITION. The dispatch of commands to their meanings, one arm per constructor.
-/

namespace Sys2Proof.Machine

def exec (i : Instr) (s : State) : Host.Outcome State Fault Refusal :=
  match i with
  | .vmainRelease temps => Sys2Proof.Machine.execVmainRelease temps s
  | .resetNAsserted => Sys2Proof.Machine.execResetNAsserted s
  | .packageReset => Sys2Proof.Machine.execPackageReset s
  | .supplyWarn t => Sys2Proof.Machine.execSupplyWarn t s
  | .supplyWarnRecovered t => Sys2Proof.Machine.execSupplyWarnRecovered t s
  | .nvWriteInhibit t => Sys2Proof.Machine.execNvWriteInhibit t s
  | .porThreshold => Sys2Proof.Machine.execPorThreshold s
  | .supplyRailInvalid rail => Sys2Proof.Machine.execSupplyRailInvalid rail s
  | .supplyRailStartTimeout => Sys2Proof.Machine.execSupplyRailStartTimeout s
  | .autoClear => Sys2Proof.Machine.execAutoClear s
  | .recoveryRetry => Sys2Proof.Machine.execRecoveryRetry s
  | .thermalHoldRelease => Sys2Proof.Machine.execThermalHoldRelease s
  | .sensorSample temps => Sys2Proof.Machine.execSensorSample temps s
  | .clockFault die dom lane => Sys2Proof.Machine.execClockFault die dom lane s
  | .refclkLoss ref => Sys2Proof.Machine.execRefclkLoss ref s
  | .memoryEccError mem double => Sys2Proof.Machine.execMemoryEccError mem double s
  | .firmwareAuthenticated slot0 slot1 => Sys2Proof.Machine.execFirmwareAuthenticated slot0 slot1 s
  | .bootAuthFailed => Sys2Proof.Machine.execBootAuthFailed s
  | .selfTestComplete res => Sys2Proof.Machine.execSelfTestComplete res s
  | .supervisoryBoundary b => Sys2Proof.Machine.execSupervisoryBoundary b s
  | .derateRecovered => Sys2Proof.Machine.execDerateRecovered s
  | .supervisoryMirrorReceived die ok => Sys2Proof.Machine.execSupervisoryMirrorReceived die ok s
  | .ledgerCycle => Sys2Proof.Machine.execLedgerCycle s
  | .fastCycle c f => Sys2Proof.Machine.execFastCycle c f s
  | .fastMirrorReceived c die ok f => Sys2Proof.Machine.execFastMirrorReceived c die ok f s
  | .clusterStart c => Sys2Proof.Machine.execClusterStart c s
  | .prebiasMeasureStart c => Sys2Proof.Machine.execPrebiasMeasureStart c s
  | .prebiasMeasurementComplete c grid => Sys2Proof.Machine.execPrebiasMeasurementComplete c grid s
  | .clusterStop c => Sys2Proof.Machine.execClusterStop c s
  | .afeStartFailed c => Sys2Proof.Machine.execAfeStartFailed c s
  | .matchConditionHeld c => Sys2Proof.Machine.execMatchConditionHeld c s
  | .matchTimeout c => Sys2Proof.Machine.execMatchTimeout c s
  | .isoSettleExpiry c => Sys2Proof.Machine.execIsoSettleExpiry c s
  | .rampDownComplete c => Sys2Proof.Machine.execRampDownComplete c s
  | .faultedRecovery c => Sys2Proof.Machine.execFaultedRecovery c s
  | .phaseShedComplete p => Sys2Proof.Machine.execPhaseShedComplete p s
  | .phaseReturnComplete p => Sys2Proof.Machine.execPhaseReturnComplete p s
  | .freezeHoldExpiry c => Sys2Proof.Machine.execFreezeHoldExpiry c s
  | .reverseBlockEnd c => Sys2Proof.Machine.execReverseBlockEnd c s
  | .syncInEdge c t => Sys2Proof.Machine.execSyncInEdge c t s
  | .syncInEdgesMissing c => Sys2Proof.Machine.execSyncInEdgesMissing c s
  | .captureTrigger => Sys2Proof.Machine.execCaptureTrigger s
  | .captureFull data => Sys2Proof.Machine.execCaptureFull data s
  | .rcLearningStep l => Sys2Proof.Machine.execRcLearningStep l s
  | .rcCoast l => Sys2Proof.Machine.execRcCoast l s
  | .rcResume l => Sys2Proof.Machine.execRcResume l s
  | .modeRequest ep slot sigOk => Sys2Proof.Machine.execModeRequest ep slot sigOk s
  | .serviceGrant ep slot => Sys2Proof.Machine.execServiceGrant ep slot s
  | .grantExpiry => Sys2Proof.Machine.execGrantExpiry s
  | .faultClear ep slot => Sys2Proof.Machine.execFaultClear ep slot s
  | .sysReset ep slot => Sys2Proof.Machine.execSysReset ep slot s
  | .armTimeout => Sys2Proof.Machine.execArmTimeout s
  | .leaseWaitTimeout => Sys2Proof.Machine.execLeaseWaitTimeout s
  | .lcSeal ep slot sigOk => Sys2Proof.Machine.execLcSeal ep slot sigOk s
  | .lcBreak ep slot sigOk => Sys2Proof.Machine.execLcBreak ep slot sigOk s
  | .lcScrap ep slot sigOk => Sys2Proof.Machine.execLcScrap ep slot sigOk s
  | .command msg => Sys2Proof.Machine.execCommand msg s
  | .resultRead msg => Sys2Proof.Machine.execResultRead msg s
  | .openRequest msg sid nonce => Sys2Proof.Machine.execOpenRequest msg sid nonce s
  | .close msg => Sys2Proof.Machine.execClose msg s
  | .recovery msg => Sys2Proof.Machine.execRecovery msg s
  | .sessionIdleTimeout sid => Sys2Proof.Machine.execSessionIdleTimeout sid s
  | .spiReadTransaction len => Sys2Proof.Machine.execSpiReadTransaction len s
  | .reassemblyTimeout ep key => Sys2Proof.Machine.execReassemblyTimeout ep key s
  | .workAccepted item => Sys2Proof.Machine.execWorkAccepted item s
  | .sysInfo ep slot => Sys2Proof.Machine.execSysInfo ep slot s
  | .imageLoad ep slot => Sys2Proof.Machine.execImageLoad ep slot s
  | .imageVerificationComplete kind sigOk body => Sys2Proof.Machine.execImageVerificationComplete kind sigOk body s
  | .imageCommit ep slot => Sys2Proof.Machine.execImageCommit ep slot s
  | .vcmdWrite ep slot => Sys2Proof.Machine.execVcmdWrite ep slot s
  | .regionLimit ep slot => Sys2Proof.Machine.execRegionLimit ep slot s
  | .phasePolicy ep slot => Sys2Proof.Machine.execPhasePolicy ep slot s
  | .captureStart ep slot => Sys2Proof.Machine.execCaptureStart ep slot s
  | .eyeFaultClear ep slot => Sys2Proof.Machine.execEyeFaultClear ep slot s
  | .eyeClearProgress p => Sys2Proof.Machine.execEyeClearProgress p s
  | .eyeClearTimeout p => Sys2Proof.Machine.execEyeClearTimeout p s
  | .ceCoefStage ep slot => Sys2Proof.Machine.execCeCoefStage ep slot s
  | .ceCoefSwap ep slot => Sys2Proof.Machine.execCeCoefSwap ep slot s
  | .rcControl ep slot => Sys2Proof.Machine.execRcControl ep slot s
  | .ldgPolicy ep slot => Sys2Proof.Machine.execLdgPolicy ep slot s
  | .ldgJoin ep slot => Sys2Proof.Machine.execLdgJoin ep slot s
  | .ldgLeave ep slot => Sys2Proof.Machine.execLdgLeave ep slot s
  | .receiptFetch ep slot => Sys2Proof.Machine.execReceiptFetch ep slot s
  | .receiptAck ep slot => Sys2Proof.Machine.execReceiptAck ep slot s
  | .eventFetch ep slot => Sys2Proof.Machine.execEventFetch ep slot s
  | .duoSwitch ep slot => Sys2Proof.Machine.execDuoSwitch ep slot s
  | .plannedFlip => Sys2Proof.Machine.execPlannedFlip s
  | .duoReadmit ep slot => Sys2Proof.Machine.execDuoReadmit ep slot s
  | .dflEyeScan ep slot => Sys2Proof.Machine.execDflEyeScan ep slot s
  | .eyeScanPoint l errors => Sys2Proof.Machine.execEyeScanPoint l errors s
  | .dflFaultInject ep slot => Sys2Proof.Machine.execDflFaultInject ep slot s
  | .injectionEnd l => Sys2Proof.Machine.execInjectionEnd l s
  | .injWindowTick => Sys2Proof.Machine.execInjWindowTick s
  | .canSchedule ep slot => Sys2Proof.Machine.execCanSchedule ep slot s
  | .canRingRead ep slot => Sys2Proof.Machine.execCanRingRead ep slot s
  | .canSend ep slot => Sys2Proof.Machine.execCanSend ep slot s
  | .lswSet ep slot => Sys2Proof.Machine.execLswSet ep slot s
  | .lswFaultClear ep slot => Sys2Proof.Machine.execLswFaultClear ep slot s
  | .batStringCfg ep slot => Sys2Proof.Machine.execBatStringCfg ep slot s
  | .batReserve ep slot => Sys2Proof.Machine.execBatReserve ep slot s
  | .nonceGet ep slot nonce => Sys2Proof.Machine.execNonceGet ep slot nonce s
  | .attest ep slot => Sys2Proof.Machine.execAttest ep slot s
  | .keyInstall ep slot pointOk sigOk => Sys2Proof.Machine.execKeyInstall ep slot pointOk sigOk s
  | .timeStep ep slot sigOk => Sys2Proof.Machine.execTimeStep ep slot sigOk s
  | .timeStepEffective => Sys2Proof.Machine.execTimeStepEffective s
  | .thmLimits ep slot => Sys2Proof.Machine.execThmLimits ep slot s
  | .stateRead ep slot => Sys2Proof.Machine.execStateRead ep slot s
  | .workStatus ep slot => Sys2Proof.Machine.execWorkStatus ep slot s
  | .workList ep slot => Sys2Proof.Machine.execWorkList ep slot s
  | .slotList ep slot => Sys2Proof.Machine.execSlotList ep slot s
  | .paramWrite ep slot => Sys2Proof.Machine.execParamWrite ep slot s
  | .syncOffsetWrite c val mask => Sys2Proof.Machine.execSyncOffsetWrite c val mask s
  | .vcmdTargetWrite r val => Sys2Proof.Machine.execVcmdTargetWrite r val s
  | .vcmdSessionWrite r open_ => Sys2Proof.Machine.execVcmdSessionWrite r open_ s
  | .eyeForceWrite p val client => Sys2Proof.Machine.execEyeForceWrite p val client s
  | .calBurn => Sys2Proof.Machine.execCalBurn s
  | .calBurnComplete ok => Sys2Proof.Machine.execCalBurnComplete ok s
  | .calTrialWrite on => Sys2Proof.Machine.execCalTrialWrite on s
  | .pulseCfgWrite k val => Sys2Proof.Machine.execPulseCfgWrite k val s
  | .injWindowWrite val client => Sys2Proof.Machine.execInjWindowWrite val client s
  | .retrain l => Sys2Proof.Machine.execRetrain l s
  | .laneEnableWrite l on => Sys2Proof.Machine.execLaneEnableWrite l on s
  | .idleReqWrite l on => Sys2Proof.Machine.execIdleReqWrite l on s
  | .canSleepWrite c => Sys2Proof.Machine.execCanSleepWrite c s
  | .canRecover c => Sys2Proof.Machine.execCanRecover c s
  | .plnTxGo k val => Sys2Proof.Machine.execPlnTxGo k val s
  | .vlkAuthWrite r val => Sys2Proof.Machine.execVlkAuthWrite r val s
  | .purlReceiverUp e => Sys2Proof.Machine.execPurlReceiverUp e s
  | .purlReceiverLoss e => Sys2Proof.Machine.execPurlReceiverLoss e s
  | .purlCommand u frame t => Sys2Proof.Machine.execPurlCommand u frame t s
  | .purlSessionOpen u frame t => Sys2Proof.Machine.execPurlSessionOpen u frame t s
  | .purlSessionClose u frame t => Sys2Proof.Machine.execPurlSessionClose u frame t s
  | .keepalive u frame t => Sys2Proof.Machine.execKeepalive u frame t s
  | .purlLinkLost r => Sys2Proof.Machine.execPurlLinkLost r s
  | .purlAckTransmit u => Sys2Proof.Machine.execPurlAckTransmit u s
  | .gateLineEdge die p tick fault => Sys2Proof.Machine.execGateLineEdge die p tick fault s
  | .deadTimeExpiry p => Sys2Proof.Machine.execDeadTimeExpiry p s
  | .eyeFaultLatch e => Sys2Proof.Machine.execEyeFaultLatch e s
  | .driverAck p => Sys2Proof.Machine.execDriverAck p s
  | .configWordNoack p => Sys2Proof.Machine.execConfigWordNoack p s
  | .patternHoldExpiry p => Sys2Proof.Machine.execPatternHoldExpiry p s
  | .leaseRequestSend => Sys2Proof.Machine.execLeaseRequestSend s
  | .leaseReq msg => Sys2Proof.Machine.execLeaseReq msg s
  | .leaseGrant msg => Sys2Proof.Machine.execLeaseGrant msg s
  | .renewLate => Sys2Proof.Machine.execRenewLate s
  | .leaseLow => Sys2Proof.Machine.execLeaseLow s
  | .leaseExpiry => Sys2Proof.Machine.execLeaseExpiry s
  | .prepare msg => Sys2Proof.Machine.execPrepare msg s
  | .prepareResend id => Sys2Proof.Machine.execPrepareResend id s
  | .note msg => Sys2Proof.Machine.execNote msg s
  | .noteDeferTimeout id => Sys2Proof.Machine.execNoteDeferTimeout id s
  | .noteAck msg => Sys2Proof.Machine.execNoteAck msg s
  | .held msg => Sys2Proof.Machine.execHeld msg s
  | .summary msg => Sys2Proof.Machine.execSummary msg s
  | .reclaimStart target => Sys2Proof.Machine.execReclaimStart target s
  | .reclaimReq msg => Sys2Proof.Machine.execReclaimReq msg s
  | .reclaimVote msg => Sys2Proof.Machine.execReclaimVote msg s
  | .reclaimVoteTimeout target => Sys2Proof.Machine.execReclaimVoteTimeout target s
  | .reclaimDone msg => Sys2Proof.Machine.execReclaimDone msg s
  | .rejoin msg => Sys2Proof.Machine.execRejoin msg s
  | .joinReq msg => Sys2Proof.Machine.execJoinReq msg s
  | .joinAck msg => Sys2Proof.Machine.execJoinAck msg s
  | .leaveNote msg => Sys2Proof.Machine.execLeaveNote msg s
  | .siteMapActivation => Sys2Proof.Machine.execSiteMapActivation s
  | .mapGraceExpiry => Sys2Proof.Machine.execMapGraceExpiry s
  | .meteringSample t raw quad => Sys2Proof.Machine.execMeteringSample t raw quad s
  | .phaseLost m ph => Sys2Proof.Machine.execPhaseLost m ph s
  | .integrationIntervalEnd => Sys2Proof.Machine.execIntegrationIntervalEnd s
  | .energyJournalRecord m ok => Sys2Proof.Machine.execEnergyJournalRecord m ok s
  | .finalSaveRecord => Sys2Proof.Machine.execFinalSaveRecord s
  | .harmonicWindowEnd m groups => Sys2Proof.Machine.execHarmonicWindowEnd m groups s
  | .meterPulseEnd k => Sys2Proof.Machine.execMeterPulseEnd k s
  | .tariffSwitch => Sys2Proof.Machine.execTariffSwitch s
  | .demandPeriodClose => Sys2Proof.Machine.execDemandPeriodClose s
  | .billingClose => Sys2Proof.Machine.execBillingClose s
  | .calendarActivation => Sys2Proof.Machine.execCalendarActivation s
  | .powerFailRecord => Sys2Proof.Machine.execPowerFailRecord s
  | .tamperConditionStart cond => Sys2Proof.Machine.execTamperConditionStart cond s
  | .tamperConditionEnd cond => Sys2Proof.Machine.execTamperConditionEnd cond s
  | .dlmsAarq a => Sys2Proof.Machine.execDlmsAarq a s
  | .dlmsGet r objs => Sys2Proof.Machine.execDlmsGet r objs s
  | .dlmsSet r obj args cal => Sys2Proof.Machine.execDlmsSet r obj args cal s
  | .dlmsAction r obj args => Sys2Proof.Machine.execDlmsAction r obj args s
  | .dlmsAssociationTimeout id => Sys2Proof.Machine.execDlmsAssociationTimeout id s
  | .heartbeat die src fast slot own => Sys2Proof.Machine.execHeartbeat die src fast slot own s
  | .heartbeatMissed die src => Sys2Proof.Machine.execHeartbeatMissed die src s
  | .faultFrame die crit => Sys2Proof.Machine.execFaultFrame die crit s
  | .watchdogExpiry die => Sys2Proof.Machine.execWatchdogExpiry die s
  | .hoopDecodeChange who ivals => Sys2Proof.Machine.execHoopDecodeChange who ivals s
  | .hoopTimeout who h => Sys2Proof.Machine.execHoopTimeout who h s
  | .samplerReport t => Sys2Proof.Machine.execSamplerReport t s
  | .samplerStale die => Sys2Proof.Machine.execSamplerStale die s
  | .soakComplete die => Sys2Proof.Machine.execSoakComplete die s
  | .fullSyncComplete die => Sys2Proof.Machine.execFullSyncComplete die s
  | .autoReadmission die => Sys2Proof.Machine.execAutoReadmission die s
  | .dieTestComplete die ok => Sys2Proof.Machine.execDieTestComplete die ok s
  | .safeStopTrigger trig => Sys2Proof.Machine.execSafeStopTrigger trig s
  | .safeStopIsolatorOpen r amps t => Sys2Proof.Machine.execSafeStopIsolatorOpen r amps t s
  | .safeStopBypassOpen m t => Sys2Proof.Machine.execSafeStopBypassOpen m t s
  | .safeStopForceTimeout => Sys2Proof.Machine.execSafeStopForceTimeout s
  | .trainingFrame l f => Sys2Proof.Machine.execTrainingFrame l f s
  | .searchTimeout l => Sys2Proof.Machine.execSearchTimeout l s
  | .equaliseTimeout l => Sys2Proof.Machine.execEqualiseTimeout l s
  | .blockReceived l levels => Sys2Proof.Machine.execBlockReceived l levels s
  | .idleEnter l => Sys2Proof.Machine.execIdleEnter l s
  | .idleExit l => Sys2Proof.Machine.execIdleExit l s
  | .electricalIdleDetected l => Sys2Proof.Machine.execElectricalIdleDetected l s
  | .picotMarker l => Sys2Proof.Machine.execPicotMarker l s
  | .picotWaitTimeout l => Sys2Proof.Machine.execPicotWaitTimeout l s
  | .helloSend => Sys2Proof.Machine.execHelloSend s
  | .hello l pkt => Sys2Proof.Machine.execHello l pkt s
  | .neighbourAbsent l => Sys2Proof.Machine.execNeighbourAbsent l s
  | .lsaSend => Sys2Proof.Machine.execLsaSend s
  | .lsa l pkt => Sys2Proof.Machine.execLsa l pkt s
  | .lsaAgeOut origin => Sys2Proof.Machine.execLsaAgeOut origin s
  | .routeRecompute => Sys2Proof.Machine.execRouteRecompute s
  | .dataPacket l pkt => Sys2Proof.Machine.execDataPacket l pkt s
  | .streamAckSend src cls => Sys2Proof.Machine.execStreamAckSend src cls s
  | .streamAck l pkt => Sys2Proof.Machine.execStreamAck l pkt s
  | .rtoExpiry dst cls seq t => Sys2Proof.Machine.execRtoExpiry dst cls seq t s
  | .peerLost dst cls => Sys2Proof.Machine.execPeerLost dst cls s
  | .floodPacket l pkt => Sys2Proof.Machine.execFloodPacket l pkt s
  | .syncExchangeSend => Sys2Proof.Machine.execSyncExchangeSend s
  | .syncPacket l f => Sys2Proof.Machine.execSyncPacket l f s
  | .mirror src body ok => Sys2Proof.Machine.execMirror src body ok s
  | .mirrorTargetTimeout => Sys2Proof.Machine.execMirrorTargetTimeout s
  | .mirrorLocalTimeout => Sys2Proof.Machine.execMirrorLocalTimeout s
  | .mirrorCatchUp => Sys2Proof.Machine.execMirrorCatchUp s
  | .seccDiscovery u => Sys2Proof.Machine.execSeccDiscovery u s
  | .tlsHandshake u h => Sys2Proof.Machine.execTlsHandshake u h s
  | .supportedAppProtocol u dc20 => Sys2Proof.Machine.execSupportedAppProtocol u dc20 s
  | .sessionSetup u mac => Sys2Proof.Machine.execSessionSetup u mac s
  | .authorization u a => Sys2Proof.Machine.execAuthorization u a s
  | .eimHostTimeout r => Sys2Proof.Machine.execEimHostTimeout r s
  | .serviceDiscovery u q => Sys2Proof.Machine.execServiceDiscovery u q s
  | .dcChargeParameterDiscovery u => Sys2Proof.Machine.execDcChargeParameterDiscovery u s
  | .scheduleExchange u dynamic => Sys2Proof.Machine.execScheduleExchange u dynamic s
  | .dcCableCheck u maxV => Sys2Proof.Machine.execDcCableCheck u maxV s
  | .cableCheckTimeout r => Sys2Proof.Machine.execCableCheckTimeout r s
  | .dcPreCharge u v => Sys2Proof.Machine.execDcPreCharge u v s
  | .powerDelivery u start => Sys2Proof.Machine.execPowerDelivery u start s
  | .dcChargeLoop u dynamic v j => Sys2Proof.Machine.execDcChargeLoop u dynamic v j s
  | .dcWeldingDetection u => Sys2Proof.Machine.execDcWeldingDetection u s
  | .sessionStop u => Sys2Proof.Machine.execSessionStop u s
  | .unsupportedV2gMessage u => Sys2Proof.Machine.execUnsupportedV2gMessage u s
  | .v2gLinkLost r tcpClosed => Sys2Proof.Machine.execV2gLinkLost r tcpClosed s
  | .tcpSegmentRelease u => Sys2Proof.Machine.execTcpSegmentRelease u s
  | .canFrameReceived c f len t => Sys2Proof.Machine.execCanFrameReceived c f len t s
  | .basicCycleStart c t => Sys2Proof.Machine.execBasicCycleStart c t s
  | .prickingSlot c slot t => Sys2Proof.Machine.execPrickingSlot c slot t s
  | .canFrameSent c e t => Sys2Proof.Machine.execCanFrameSent c e t s
  | .canSendTimeout c work => Sys2Proof.Machine.execCanSendTimeout c work s
  | .busOff c => Sys2Proof.Machine.execBusOff c s
  | .busOffRecovery c => Sys2Proof.Machine.execBusOffRecovery c s
  | .canSleepEntry c => Sys2Proof.Machine.execCanSleepEntry c s
  | .canWake c w => Sys2Proof.Machine.execCanWake c w s
  | .imdTimeout r => Sys2Proof.Machine.execImdTimeout r s
  | .plcFrameReceived k f => Sys2Proof.Machine.execPlcFrameReceived k f s
  | .sack k f => Sys2Proof.Machine.execSack k f s
  | .contentionSlot k j slot period => Sys2Proof.Machine.execContentionSlot k j slot period s
  | .sackTimeout k j => Sys2Proof.Machine.execSackTimeout k j s
  | .segmentHoldExpiry k src seq => Sys2Proof.Machine.execSegmentHoldExpiry k src seq s
  | .beaconSend k => Sys2Proof.Machine.execBeaconSend k s
  | .plcStatusSend k => Sys2Proof.Machine.execPlcStatusSend k s
  | .plcRouteExpiry k node => Sys2Proof.Machine.execPlcRouteExpiry k node s
  | .lsCommandFrame f => Sys2Proof.Machine.execLsCommandFrame f s
  | .lsLinkLoss clamp => Sys2Proof.Machine.execLsLinkLoss clamp s
  | .lsThermalTrip c clamp => Sys2Proof.Machine.execLsThermalTrip c clamp s
  | .lsThermalRestart c => Sys2Proof.Machine.execLsThermalRestart c s
  | .lsBlankEnd c => Sys2Proof.Machine.execLsBlankEnd c s
  | .quadBudgetShed q meas clamp => Sys2Proof.Machine.execQuadBudgetShed q meas clamp s
  | .openLoadChange c on => Sys2Proof.Machine.execOpenLoadChange c on s
  | .stringIdSample n r => Sys2Proof.Machine.execStringIdSample n r s
  | .bmsStatus n data => Sys2Proof.Machine.execBmsStatus n data s
  | .bmsIdent n data => Sys2Proof.Machine.execBmsIdent n data s
  | .bmsLostTimeout n => Sys2Proof.Machine.execBmsLostTimeout n s
  | .driftTimer n => Sys2Proof.Machine.execDriftTimer n s
  | .batteryJournal => Sys2Proof.Machine.execBatteryJournal s
  | .entropyHealthFail => Sys2Proof.Machine.execEntropyHealthFail s
  | .ppsEdge stamp ref => Sys2Proof.Machine.execPpsEdge stamp ref s
  | .ppsLost => Sys2Proof.Machine.execPpsLost s
  | .timeRateTrim => Sys2Proof.Machine.execTimeRateTrim s
  | .timeJournal => Sys2Proof.Machine.execTimeJournal s
  | .timeAcquisition => Sys2Proof.Machine.execTimeAcquisition s
  | .supplyRailValid vana vio => Sys2Proof.Machine.execSupplyRailValid vana vio s
  | .refclkValid ref => Sys2Proof.Machine.execRefclkValid ref s
  | .nvWriteInhibitRelease => Sys2Proof.Machine.execNvWriteInhibitRelease s
  | .sgmiiLinkUp ep => Sys2Proof.Machine.execSgmiiLinkUp ep s
  | .sgmiiLinkDown ep => Sys2Proof.Machine.execSgmiiLinkDown ep s
  | .arpAndNeighbourSolicitation ep forUs => Sys2Proof.Machine.execArpAndNeighbourSolicitation ep forUs s
  | .icmpEcho ep data => Sys2Proof.Machine.execIcmpEcho ep data s
  | .entropySourcePass => Sys2Proof.Machine.execEntropySourcePass s
  | .seasonStart => Sys2Proof.Machine.execSeasonStart s
  | .laneTransmitBlock l => Sys2Proof.Machine.execLaneTransmitBlock l s
  | .carrierStart c => Sys2Proof.Machine.execCarrierStart c s
  | .workRecordExpiry id => Sys2Proof.Machine.execWorkRecordExpiry id s
  | .quogusFinalTest => Sys2Proof.Machine.execQuogusFinalTest s

end Sys2Proof.Machine
end

