-- ==== Sys2Proof/Safety.lean ====
section
/-!
DEFINITION. What statements call safe and complete: the modes that are final, fuses that stay burnt, outputs that stand
off, and the commands that meet every check of 03 R108.
-/

namespace Sys2Proof.Machine

/-- RETIRED has been entered: the invariant of 02 R65, "No event leaves RETIRED". -/
def State.Retired (s : State) : Prop := s.m.sys.mode = .retired

/-- At least these fuses are burnt: each count at or above the one named (02 R70). -/
def State.Burnt (f : LcFuses) (s : State) : Prop :=
  (f.prov = true → s.m.sys.fuses.prov = true) ∧ (f.scrap = true → s.m.sys.fuses.scrap = true) ∧
    f.seals ≤ s.m.sys.fuses.seals ∧ f.breaks ≤ s.m.sys.fuses.breaks

/-- A port shows both of its switches off at its pin (01 R38, 07 R221). -/
def Pkg.portOff (p : Pkg) (q : Nat) : Prop := (pinAt p q).en = false

/-- A command answers a next state that keeps the queue and the readback snapshot, and its package is so. -/
def Runs (c : Instr) (s : State) (post : Pkg → Prop) : Prop := ∃ m, exec c s = .next { s with m := m } ∧ post m

/-- A command answers a next state: this package, but that RETIRED and burnt fuses stay (02 R65, R70); the queue and the
readback snapshot stay as they are. -/
def Does (c : Instr) (s : State) (m : Pkg) : Prop := exec c s = .next { s with m := lasting s.m m }

/-- What the journal holds of the mode once a mode is entered: a change is journaled by the active die, while NV writes are
allowed (01 R55, 02 R78). -/
def modeJournal (m : Mode) (p : Pkg) : Option (Mode × Option Die) :=
  if p.sys.mode = m ∨ (awake p && !p.mtr.nvBlock) = false then p.sys.jMode else some (m, activeDie p)

/-- A slot holds a placed command of the opcode that has not been checked (03 R94, R108). -/
abbrev Placed (o : OpSpec) (ix : Nat) (p : Pkg) : Prop :=
  (slotAt p ix).state = .pending ∧ (slotAt p ix).opcode = o.op ∧ (slotAt p ix).checked = false ∧ (slotAt p ix).waits = none

/-- Checks 2 and 3 of 03 R108 are passed: the length fits the layout, and the client holds the role. -/
abbrev Passes23 (o : OpSpec) (ix : Nat) (p : Pkg) : Prop :=
  Placed o ix p ∧ o.lenOk (slotAt p ix).payload = true ∧
    o.role ((clientOf p (slotAt p ix).client).getD {}).roles (slotAt p ix).payload = true

/-- Checks 2 to 4 of 03 R108 are passed: a mutating command's sequence number is new as well. -/
abbrev Passes24 (o : OpSpec) (ix : Nat) (p : Pkg) : Prop :=
  Passes23 o ix p ∧ (o.query = true ∨ seqCheck p (slotAt p ix) = .fresh)

/-- Checks 2 to 5 of 03 R108 are passed: the fields are in range and a signed trailer is valid as well. -/
abbrev Passes25 (o : OpSpec) (sigOk : Bool) (ix : Nat) (p : Pkg) : Prop :=
  Passes24 o ix p ∧ (slotAt p ix).rsvOk = true ∧ o.params p (slotAt p ix).payload = true ∧
    sigFails o p (slotAt p ix) sigOk = none

/-- Every check of 03 R108 is passed: mode, guards and resources allow the command as well. A nonce that the command
presents is used up by then. -/
abbrev Passes (o : OpSpec) (sigOk : Bool) (ix : Nat) (p : Pkg) : Prop :=
  Passes25 o sigOk ix p ∧ check67 o (takeNonce o (slotAt p ix) p) (slotAt p ix) = none

/-- The package with the slot's command marked as checked, the nonce it presents used up, and the command journaled with its
work id (03 R100, R108). -/
def checkedOf (o : OpSpec) (ix : Nat) (p : Pkg) : Pkg :=
  journalSlot ix (updSlot ix (fun x => { x with checked := true }) (takeNonce o (slotAt p ix) p))

/-- The slot holds the final result of its command with a status, a guard and a payload (03 R96). -/
def Final (ix : Nat) (st : Status) (guard : Nat) (payload : List Byte) (before p : Pkg) : Prop :=
  (slotAt p ix).state = .done ∧
    (slotAt p ix).result = some { status := st, opcode := (slotAt before ix).opcode, client := (slotAt before ix).client,
                                  seq := (slotAt before ix).seq, mode := before.sys.mode.code, guard := guard,
                                  payload := payload }

/-- A message whose framing is good: the SPI length on EP2, the UDP port elsewhere, version, type and lengths, and room for
its answer (03 R81 to R85). -/
abbrev Framed (type : Nat) (m : MsgIn) (p : Pkg) : Prop :=
  m.frag = none ∧ (m.ep = 2 → m.spiLen = 3 + m.spiL ∧ inR 1 4128 m.spiL = true) ∧ m.header.length = 16 ∧
    u8 m.header 0 = 1 ∧ m.type = type ∧ u16 m.header 2 = m.body.length ∧ m.body.length ≤ 4096 ∧
    (m.ep = 2 → type ≠ 7 → queueRoom p = true) ∧ (m.ep ≠ 2 → m.port = 40740)

/-- A message of a type in an open session: a Stitch die is active, the endpoint is up, the framing is good, the tag
verifies and the counter is fresh (03 R84 to R86, R119). -/
abbrev InSession (type : Nat) (m : MsgIn) (x : Session) (p : Pkg) : Prop :=
  awake p = true ∧ epUp p m.ep = true ∧ Framed type m p ∧ sessionOf p m.session = some x ∧ tagOk p m = true ∧
    0 < m.counter ∧ m.counter < 2 ^ 63 ∧ m.counter ∉ x.seen ∧ x.high ≤ m.counter + 1024

/-- The session after the message: its counter taken, its idle time started again (03 R86, R89). -/
def heard (m : MsgIn) (x : Session) (p : Pkg) : Session :=
  { x with high := max x.high m.counter, last := p.clk, ep := m.ep, v6 := m.v6, peer := m.peer
           seen := (m.counter :: x.seen).filter (fun c => c + 1024 ≥ max x.high m.counter) }

/-- The package once the session has heard the message. -/
def heardIn (m : MsgIn) (x : Session) (p : Pkg) : Pkg := updSession x.id (fun _ => heard m x p) p

end Sys2Proof.Machine
end

