-- ==== Sys2Proof/Certificates/Slice0/Obligations.lean ====
section
/-!
DEFINITION. The statements about the model, one definition each: what the numbered rules of the spec say, over every
state and operand that their hypotheses allow.
-/

open Sys2Proof Sys2Proof.Machine

/-- The queue of commands is the model's own (log 3): a step takes its front (21_address_map_and_readback.md,
00_scope.md). -/
def Obligations.StepTakesTheFrontCommand : Prop :=
∀ (c : Instr) (l : List Instr) (s : State), step { s with pending := c :: l } = exec c { s with pending := l }

/-- With no command waiting the block idles; the model's choice, log 3 (21_address_map_and_readback.md, 00_scope.md).
-/
def Obligations.StepOnAnEmptyQueueIdles : Prop :=
∀ s : State, s.pending = [] → step s = .next s

/-- No command adds to the model's queue (log 3) (R632, 21_address_map_and_readback.md). -/
def Obligations.EveryStepConsumesOneCommand : Prop :=
∀ s t : State, step s = .next t → t.pending = s.pending.tail

/-- No command of the table stops the block: exec answers a next state for every command and state (R632,
95_what_each_step_holds.md). -/
def Obligations.EveryCommandAnswersANextState : Prop :=
∀ (c : Instr) (s : State), ∃ t, exec c s = .next t

/-- No step leaves mode RETIRED (R65). -/
def Obligations.NoEventLeavesRetired : Prop :=
∀ s t : State, s.m.sys.mode = .retired → step s = .next t → t.m.sys.mode = .retired

/-- No step unburns a fuse of the life-cycle (R70). -/
def Obligations.FuseCountsOnlyGrow : Prop :=
∀ s t : State, step s = .next t →
  (s.m.sys.fuses.prov = true → t.m.sys.fuses.prov = true) ∧ (s.m.sys.fuses.scrap = true → t.m.sys.fuses.scrap = true) ∧
    s.m.sys.fuses.seals ≤ t.m.sys.fuses.seals ∧ s.m.sys.fuses.breaks ≤ t.m.sys.fuses.breaks

/-- Every command but SUPERVISORY_BOUNDARY leaves the readback snapshot as it is (R115, R33). -/
def Obligations.ReadbackSnapshotMovesAtBoundariesOnly : Prop :=
∀ (c : Instr) (s t : State), exec c s = .next t → (∃ b, c = .supervisoryBoundary b) ∨ t.snap = s.snap

/-- Mode, life-cycle, image, key and time commands that pass every check of R108 wait for their acceptance (R108,
R111, R547, R112, R100). -/
def Obligations.PackageCommandsPassTheirChecks : Prop :=
∀ (s : State) (ep : Fin 3) (i : Fin 64) (pointOk sig : Bool), let ix := slotIx ep i
  (Passes specModeRequest sig ix s.m →
    exec (.modeRequest ep i sig) s = .next { s with m := checkedOf specModeRequest ix s.m }) ∧
  (Passes specServiceGrant true ix s.m →
    exec (.serviceGrant ep i) s = .next { s with m := checkedOf specServiceGrant ix s.m }) ∧
  (Passes specFaultClear true ix s.m →
    exec (.faultClear ep i) s = .next { s with m := checkedOf specFaultClear ix s.m }) ∧
  (Passes specSysReset true ix s.m →
    exec (.sysReset ep i) s = .next { s with m := checkedOf specSysReset ix s.m }) ∧
  (Passes specLcSeal sig ix s.m →
    exec (.lcSeal ep i sig) s = .next { s with m := checkedOf specLcSeal ix s.m }) ∧
  (Passes specLcBreak sig ix s.m →
    exec (.lcBreak ep i sig) s = .next { s with m := checkedOf specLcBreak ix s.m }) ∧
  (Passes specLcScrap sig ix s.m →
    exec (.lcScrap ep i sig) s = .next { s with m := checkedOf specLcScrap ix s.m }) ∧
  (Passes specImageLoad true ix s.m →
    exec (.imageLoad ep i) s = .next { s with m := checkedOf specImageLoad ix s.m }) ∧
  (Passes (specKeyInstall pointOk sig) true ix s.m →
    exec (.keyInstall ep i pointOk sig) s = .next { s with m := checkedOf (specKeyInstall pointOk sig) ix s.m }) ∧
  (Passes specTimeStep sig ix s.m →
    exec (.timeStep ep i sig) s = .next { s with m := checkedOf specTimeStep ix s.m }) ∧
  (Passes specThmLimits true ix s.m →
    exec (.thmLimits ep i) s = .next { s with m := checkedOf specThmLimits ix s.m }) ∧
  (Passes specImageCommit true ix s.m → (slotAt s.m ix).result = none →
    exec (.imageCommit ep i) s = .next { s with m := checkedOf specImageCommit ix s.m })

/-- Power, gate, regulator and ledger commands that pass every check of R108 wait for their acceptance (R108, R112,
R100). -/
def Obligations.PowerCommandsPassTheirChecks : Prop :=
∀ (s : State) (ep : Fin 3) (i : Fin 64), let ix := slotIx ep i
  (Passes specVcmdWrite true ix s.m →
    exec (.vcmdWrite ep i) s = .next { s with m := checkedOf specVcmdWrite ix s.m }) ∧
  (Passes specRegionLimit true ix s.m →
    exec (.regionLimit ep i) s = .next { s with m := checkedOf specRegionLimit ix s.m }) ∧
  (Passes specPhasePolicy true ix s.m →
    exec (.phasePolicy ep i) s = .next { s with m := checkedOf specPhasePolicy ix s.m }) ∧
  (Passes specCaptureStart true ix s.m →
    exec (.captureStart ep i) s = .next { s with m := checkedOf specCaptureStart ix s.m }) ∧
  (Passes specEyeFaultClear true ix s.m →
    exec (.eyeFaultClear ep i) s = .next { s with m := checkedOf specEyeFaultClear ix s.m }) ∧
  (Passes specCeCoefStage true ix s.m →
    exec (.ceCoefStage ep i) s = .next { s with m := checkedOf specCeCoefStage ix s.m }) ∧
  (Passes specCeCoefSwap true ix s.m →
    exec (.ceCoefSwap ep i) s = .next { s with m := checkedOf specCeCoefSwap ix s.m }) ∧
  (Passes specRcControl true ix s.m →
    exec (.rcControl ep i) s = .next { s with m := checkedOf specRcControl ix s.m }) ∧
  (Passes specLdgPolicy true ix s.m →
    exec (.ldgPolicy ep i) s = .next { s with m := checkedOf specLdgPolicy ix s.m }) ∧
  (Passes specLdgJoin true ix s.m →
    exec (.ldgJoin ep i) s = .next { s with m := checkedOf specLdgJoin ix s.m }) ∧
  (Passes specLdgLeave true ix s.m →
    exec (.ldgLeave ep i) s = .next { s with m := checkedOf specLdgLeave ix s.m })

/-- Receipt, redundancy, lane, CAN, load-switch, battery and register commands that pass every check wait for
acceptance (R108, R112, R100, R117, R235). -/
def Obligations.LinkAndFieldCommandsPassTheirChecks : Prop :=
∀ (s : State) (ep : Fin 3) (i : Fin 64), let ix := slotIx ep i
  (Passes specReceiptAck true ix s.m →
    exec (.receiptAck ep i) s = .next { s with m := checkedOf specReceiptAck ix s.m }) ∧
  (Passes specDuoSwitch true ix s.m →
    exec (.duoSwitch ep i) s = .next { s with m := checkedOf specDuoSwitch ix s.m }) ∧
  (Passes specDuoReadmit true ix s.m →
    exec (.duoReadmit ep i) s = .next { s with m := checkedOf specDuoReadmit ix s.m }) ∧
  (Passes specEyeScan true ix s.m →
    exec (.dflEyeScan ep i) s = .next { s with m := checkedOf specEyeScan ix s.m }) ∧
  (Passes specInject true ix s.m →
    exec (.dflFaultInject ep i) s = .next { s with m := checkedOf specInject ix s.m }) ∧
  (Passes specCanSchedule true ix s.m →
    exec (.canSchedule ep i) s = .next { s with m := checkedOf specCanSchedule ix s.m }) ∧
  (Passes specCanSend true ix s.m →
    exec (.canSend ep i) s = .next { s with m := checkedOf specCanSend ix s.m }) ∧
  (Passes specLswSet true ix s.m →
    exec (.lswSet ep i) s = .next { s with m := checkedOf specLswSet ix s.m }) ∧
  (Passes specLswFaultClear true ix s.m →
    exec (.lswFaultClear ep i) s = .next { s with m := checkedOf specLswFaultClear ix s.m }) ∧
  (Passes specBatStringCfg true ix s.m →
    exec (.batStringCfg ep i) s = .next { s with m := checkedOf specBatStringCfg ix s.m }) ∧
  (Passes specBatReserve true ix s.m →
    exec (.batReserve ep i) s = .next { s with m := checkedOf specBatReserve ix s.m }) ∧
  (Passes (specParamWrite s.m) true ix s.m → Runs (.paramWrite ep i) s fun m =>
    (slotAt m ix).checked = true ∧ m = { s.m with mbx := (checkedOf (specParamWrite s.m) ix s.m).mbx, dfn := (checkedOf (specParamWrite s.m) ix s.m).dfn, eye := m.eye, bil := m.bil })

/-- A query that passes its checks is answered at once with OK, and changes nothing else (R108, R112, R115, R116,
R349, R475, R550, R96). -/
def Obligations.QueriesAnswerFromTheStateOrTheSnapshot : Prop :=
∀ (s : State) (ep : Fin 3) (i : Fin 64), let ix := slotIx ep i; let d := (slotAt s.m ix).payload
  let answers := fun (o : OpSpec) (c : Instr) (a : List Byte) => Passes o true ix s.m → Runs c s fun m =>
    Final ix .ok 0 a s.m m ∧ m = { s.m with mbx := m.mbx, key := m.key }
  answers (specQuery 0x0101 0 (fun _ _ => true)) (.sysInfo ep i) (sysInfoAns s.m d).1 ∧
  answers (specQuery 0x0F02 8 (fun _ _ => true)) (.workStatus ep i) (workStatusAns s.m d).1 ∧
  answers (specQuery 0x0F03 6 (fun _ _ => true)) (.workList ep i) (workListAns s.m d).1 ∧
  answers (specQuery 0x0F04 1 (fun _ d => decide (u8 d 0 ≤ 2))) (.slotList ep i) (slotListAns s.m d).1 ∧
  answers (specQuery 0x0501 12 (fun p d => decide (u8 d 8 ≤ 1) && zeros d 9 3 &&
    ((receiptNo p (u64 d 0)).isSome || (mirroredReceipt p (u64 d 0)).isSome))) (.receiptFetch ep i) (receiptAns s.m d).1 ∧
  answers (specQuery 0x0503 16 (fun _ d => inR 1 63 (u16 d 8) && zeros d 10 6)) (.eventFetch ep i) (eventAns s.m d).1 ∧
  answers (specCanRingRead) (.canRingRead ep i) (ansCanRing s.m d).1 ∧
  answers (specAttest) (.attest ep i) (attestAns (snapOf s) s.m d).1 ∧
  answers (specQuery 0x0F01 8 (fun _ d => readOk d)) (.stateRead ep i) (stateRead (snapOf s) d)

/-- NONCE_GET answers a nonce that is then outstanding for the client (R547, R112, R108, R96). -/
def Obligations.NonceGetIssuesANonce : Prop :=
∀ (s : State) (ep : Fin 3) (i : Fin 64) (nonce : List Byte), let ix := slotIx ep i
  Passes specNonceGet true ix s.m → Runs (.nonceGet ep i nonce) s fun m =>
    Final ix .ok 0 (pad 32 nonce ++ toLe 8 (s.m.tim.now + 60000000000)) s.m m ∧
      nonceOk m (slotAt s.m ix).client (pad 32 nonce) = true ∧ m = { s.m with mbx := m.mbx, key := m.key }

/-- The checks of a placed command and the status of the first that fails (R108). -/
def Obligations.FirstFailingCheckDecidesTheStatus : Prop :=
(∀ (m : MsgIn) (x : Session) (p : Pkg), u8 m.body 12 < 64 → m.ep * 64 + u8 m.body 12 < p.mbx.slots.length →
    (slotAt p (m.ep * 64 + u8 m.body 12)).state ≠ .pending →
    (((clientOf p x.client).getD {}).slots.getD m.ep []).contains (u8 m.body 12) = true → u32 m.body 4 = x.client →
    u16 m.body 2 + 32 = m.body.length → isOpcode (u16 m.body 0) = false →
    (slotAt (command m x p) (m.ep * 64 + u8 m.body 12)).result.map (·.status) = some .badOpcode) ∧
∀ (o : OpSpec) (sig : Bool) (ix : Nat) (ans : Pkg → List Byte → List Byte × Pkg) (p : Pkg),
  let s := slotAt p ix
  let q := submit o sig ix ans p
  let p1 := takeNonce o s p
  (Placed o ix p → o.lenOk s.payload = false → Final ix .badLength 0 [] p q) ∧
  (Placed o ix p → o.lenOk s.payload = true → o.role ((clientOf p s.client).getD {}).roles s.payload = false →
    Final ix .notAuthorised 0 [] p q) ∧
  (∀ r, Passes23 o ix p → o.query = false → seqCheck p s = .dup r →
    (slotAt q ix).state = .done ∧ (slotAt q ix).result = some r ∧ r.status = .duplicate) ∧
  (Passes23 o ix p → o.query = false → seqCheck p s = .bad → Final ix .badParameter 0 [] p q) ∧
  (Passes24 o ix p → (s.rsvOk = false ∨ o.params p s.payload = false) → Final ix .badParameter 0 [] p q) ∧
  (∀ bad, Passes24 o ix p → s.rsvOk = true → o.params p s.payload = true → sigFails o p s sig = some bad →
    Final ix .stateConflict 0x0B [] p q) ∧
  (Passes25 o sig ix p → o.modes p.sys.mode = false → Final ix .stateConflict 8 [] p q) ∧
  (Passes25 o sig ix p → o.modes p.sys.mode = true → o.guard p1 s.payload ≠ 0 →
    Final ix .stateConflict (o.guard p1 s.payload) [] p q) ∧
  (Passes25 o sig ix p → o.modes p.sys.mode = true → o.guard p1 s.payload = 0 → o.busy p1 s.payload = true →
    Final ix .busy 0 [] p q) ∧
  (Passes25 o sig ix p → o.modes p.sys.mode = true → o.guard p1 s.payload = 0 → o.busy p1 s.payload = false →
    o.query = false → 256 ≤ (openItems p1 s.client).length → Final ix .busy 0 [] p q) ∧
  (Passes25 o sig ix p → o.modes p.sys.mode = true → o.guard p1 s.payload = 0 → o.busy p1 s.payload = false →
    o.query = false → (openItems p1 s.client).length < 256 → (slotAt q ix).state = .pending ∧ (slotAt q ix).checked = true)

/-- A command refused at check 6 changes nothing but its own result and LAST_GUARD (R109, R63, R108). -/
def Obligations.StateConflictHasNoSideEffect : Prop :=
∀ (o : OpSpec) (sig : Bool) (ix : Nat) (ans : Pkg → List Byte → List Byte × Pkg) (p : Pkg) (g : Nat),
  (∀ d, o.signed p d = none) → Passes25 o sig ix p →
  (o.modes p.sys.mode = false ∧ g = 8 ∨ o.modes p.sys.mode = true ∧ o.guard p (slotAt p ix).payload = g ∧ g ≠ 0) →
  let q := submit o sig ix ans p
  Final ix .stateConflict g [] p q ∧ q.sys = { p.sys with lastGuard := g } ∧
    (∀ k, k ≠ ix → slotAt q k = slotAt p k) ∧ q.mbx.seqs = p.mbx.seqs ∧ q.mbx.work = p.mbx.work ∧
    q = { p with sys := q.sys, mbx := q.mbx, key := q.key }

/-- Link changes, queries for an address, echoes, EP2 reads and the host-side time limits (R17, R81, R82, R83, R89,
R116, R119, R537). -/
def Obligations.HostPortEventsDoWhatTheySay : Prop :=
∀ s : State,
  (∀ ep : Fin 2, exec (.sgmiiLinkUp ep) s = .next { s with m := { s.m with mbx := { s.m.mbx with up := upd s.m.mbx.up ep.val (fun _ => true) } } }) ∧
  (∀ ep : Fin 2, exec (.sgmiiLinkDown ep) s = .next { s with m := { s.m with mbx := { s.m.mbx with up := upd s.m.mbx.up ep.val (fun _ => false) } } }) ∧
  (∀ ep : Fin 2, drives s.m = true → epUp s.m ep.val = true → (s.m.mbx.addrs.getD ep.val none).isSome = true →
    exec (.arpAndNeighbourSolicitation ep true) s =
      .next { s with m := { s.m with mbx := { s.m.mbx with tx := { ep := ep.val, type := 0x101 } :: s.m.mbx.tx } } } ∧
    ∀ data, exec (.icmpEcho ep data) s = .next { s with m := if s.m.mbx.echoOn = true
      then { s.m with mbx := { s.m.mbx with tx := { ep := ep.val, type := 0x102, body := data } :: s.m.mbx.tx } } else s.m }) ∧
  (muted s.m = true → (∀ (ep : Fin 2) b, exec (.arpAndNeighbourSolicitation ep b) s = .next s) ∧
    (∀ (ep : Fin 2) data, exec (.icmpEcho ep data) s = .next s) ∧ ∀ n, exec (.spiReadTransaction n) s = .next s) ∧
  (∀ (n : Nat) (o : OutMsg) (q : List OutMsg), s.m.mbx.queue = o :: q → epUp s.m 2 = true → muted s.m = false →
    exec (.spiReadTransaction n) s = .next { s with m := if msgLen o ≤ n
      then { s.m with mbx := { s.m.mbx with queue := q, tx := o :: s.m.mbx.tx } } else s.m }) ∧
  (∀ (id : Nat) (x : Session), sessionOf s.m id = some x →
    exec (.sessionIdleTimeout id) s = .next { s with m := if due s.m (x.last + s.m.mbx.idleMax * 1000000000) = true
      then { s.m with mbx := { s.m.mbx with sessions := s.m.mbx.sessions.filter (fun y => y.id != id) }
                      key := { s.m.key with regs := s.m.key.regs.filter (fun r => r.id != .session id) } } else s.m }) ∧
  (∀ (ep : Fin 2) (key : Nat), Runs (.reassemblyTimeout ep key) s fun m =>
    (∀ r ∈ s.m.mbx.reasm, r ∈ m.mbx.reasm ↔ ¬(r.ep = ep.val ∧ r.key = key ∧ due s.m (r.since + 50000000) = true)) ∧
      m = { s.m with mbx := { s.m.mbx with reasm := m.mbx.reasm } }) ∧
  (∀ id : Nat, Runs (.workRecordExpiry id) s fun m =>
    (∀ w ∈ s.m.mbx.work, w ∈ m.mbx.work ↔
      ¬(w.id = id ∧ (w.state = .done ∨ w.state = .failed) ∧ due s.m (w.endClk + 86400000000000) = true)) ∧
      m = { s.m with mbx := { s.m.mbx with work := m.mbx.work } })

/-- COMMAND, RESULT_READ, OPEN_REQUEST and CLOSE with good framing and a good tag have the effect of their type (R17,
R84, R85, R86, R88, R89, R94, R95, R97, R539). -/
def Obligations.EnvelopeMessagesOpenUseAndCloseSessions : Prop :=
∀ (s : State) (m : MsgIn) (x : Session), let i := u8 m.body 12; let ix := m.ep * 64 + i; let rx := m.ep * 64 + u8 m.body 0
  (InSession 1 m x s.m → i < 64 → ix < s.m.mbx.slots.length → (slotAt s.m ix).state ≠ .pending →
    (((clientOf s.m x.client).getD {}).slots.getD m.ep []).contains i = true → u32 m.body 4 = x.client →
    u16 m.body 2 + 32 = m.body.length → isOpcode (u16 m.body 0) = true →
    Runs (.command m) s fun t =>
      slotAt t ix = placed m.body x.id (slotAt s.m ix) ∧ (∀ k, k ≠ ix → slotAt t k = slotAt s.m k) ∧
      (m.ep ≠ 2 → muted s.m = false → ∃ o, t.mbx.tx = o :: s.m.mbx.tx ∧ o.type = 2 ∧ o.session = x.id ∧
        o.body = [byte i, 0] ++ toLe 2 0 ++ toLe 4 (generation s.m (slotAt t ix))) ∧
      t = { s.m with mbx := t.mbx }) ∧
  (∀ r, InSession 3 m x s.m → m.body.length = 4 → u8 m.body 0 < 64 →
    (slotAt s.m rx).state = .done → (slotAt s.m rx).result = some r →
    Runs (.resultRead m) s fun t =>
      slotAt t rx = { slotAt s.m rx with reads := inc16 (slotAt s.m rx).reads } ∧
      (∀ k, k ≠ rx → slotAt t k = slotAt s.m k) ∧
      (m.ep ≠ 2 → muted s.m = false → ∃ o, t.mbx.tx = o :: s.m.mbx.tx ∧ o.type = 4 ∧ o.session = x.id ∧
        o.body = resultBytes (generation s.m (slotAt s.m rx)) (slotAt s.m rx).reads r) ∧
      t = { s.m with mbx := t.mbx, key := t.key }) ∧
  (InSession 7 m x s.m → m.body = [] → Runs (.close m) s fun t =>
    sessionOf t x.id = none ∧ (∀ y ∈ s.m.mbx.sessions, y.id ≠ x.id → y ∈ t.mbx.sessions) ∧
      sessionKey t x.id = none ∧
      t = { s.m with mbx := { s.m.mbx with sessions := t.mbx.sessions }, key := { s.m.key with regs := t.key.regs } }) ∧
  (∀ (sid : Nat) (nonce : List Byte), awake s.m = true → rootOf s.m.key = .ready → epUp s.m m.ep = true →
    Framed 5 m s.m → m.body.length = 229 → m.session = 0 → (clientOf s.m (u32 m.body 0)).isSome = true → m.sigOk = true →
    s.m.key.entropy = true →
    Runs (.openRequest m sid nonce) s fun t =>
      (∃ y ∈ t.mbx.sessions, y.client = u32 m.body 0 ∧ y.ep = m.ep ∧ y.opened = s.m.clk ∧ (sessionKey t y.id).isSome = true ∧
        (m.ep ≠ 2 → muted s.m = false → ∃ o, t.mbx.tx = o :: s.m.mbx.tx ∧ o.type = 6 ∧ o.session = y.id)) ∧
      t.mbx.slots = s.m.mbx.slots ∧ t = { s.m with mbx := t.mbx, key := t.key, freeN := t.freeN })

/-- WORK_ACCEPTED gives a journaled command an ACCEPTED item and an OK result that names its work id (R100, R101,
R102, R103, R106, R347, R429, R433). -/
def Obligations.AcceptanceGivesWorkAnIdAndAFinalResult : Prop :=
∀ s : State, drives s.m = true → s.m.mtr.nvBlock = false →
  let new := nodeAddr s.m * 2 ^ 48 + (s.m.mbx.workCtr + 1) % 2 ^ 48
  (∀ (ep : Fin 3) (i : Fin 64), let ix := slotIx ep i; let x := slotAt s.m ix
    let post := fun (id : Nat) (m : Pkg) =>
      m.mbx.work = s.m.mbx.work ++ [{ id := id, origin := .client x.client, opcode := x.opcode, payload := x.payload, accTime := s.m.tim.now, local_ := acceptsLocal s.m, place := some (ix / 64, ix % 64) }] ∧
      (x.opcode ≠ 0x0106 ∨ completes s.m x.payload = false →
        (slotAt m ix).state = .done ∧ (slotAt m ix).result = some (workResult s.m id x)) ∧
      (x.opcode = 0x0106 → completes s.m x.payload = true → (slotAt m ix).waits = some id ∧ (slotAt m ix).state = .pending) ∧
      m = { s.m with mbx := m.mbx, dfn := m.dfn, key := m.key }
    x.state = .pending → x.checked = true → seqCheck s.m x = .fresh → (openItems s.m x.client).length < 256 →
    (∀ id, x.work = some id → mayAccept s.m id 1 = true →
      Runs (.workAccepted (.slot ep i)) s fun m => post id m ∧ m.mbx.workCtr = s.m.mbx.workCtr) ∧
    (∀ id, x.work = some id → mayAccept s.m id 1 = false → exec (.workAccepted (.slot ep i)) s = .next s) ∧
    (x.work = none → acceptsLocal s.m = true →
      Runs (.workAccepted (.slot ep i)) s fun m => post new m ∧ m.mbx.workCtr = (s.m.mbx.workCtr + 1) % 2 ^ 48) ∧
    (x.work = none → acceptsLocal s.m = false →
      exec (.workAccepted (.slot ep i)) s = .next { s with m := journalSlot ix s.m })) ∧
  (∀ (a : Nat) (d : DlmsPend), s.m.bil.dlmsPend.find? (fun d => d.id == a) = some d →
    (∀ id, d.work = some id → mayAccept s.m id 1 = true →
      Runs (.workAccepted (.dlms a)) s fun m =>
        m.mbx = { s.m.mbx with
          work := s.m.mbx.work ++ [{ id := id, origin := .dlms d.id, opcode := 0, accTime := s.m.tim.now, local_ := acceptsLocal s.m }] } ∧
        m.bil = (dlmsSend d.id (workApdu d.isSet true d.inv) { s.m with
          bil := { s.m.bil with dlmsPend := s.m.bil.dlmsPend.erase d, dlmsAcc := s.m.bil.dlmsAcc ++ [(id, d)] } }).bil ∧
        m = { s.m with mbx := m.mbx, bil := m.bil, dfn := m.dfn }) ∧
    (∀ id, d.work = some id → mayAccept s.m id 1 = false → exec (.workAccepted (.dlms a)) s = .next s))

/-- A chunk is stored at its offset, and the end of verification keeps or erases the whole image (R114, R544, R76,
R321, R322, R543, 18_keys_and_trust.md). -/
def Obligations.ImageChunksAreStoredAndVerified : Prop :=
(∀ (id : Nat) (d : List Byte) (p : Pkg), memWf p.store = true → chunkOk d = true →
  let q := applyImageLoad id d p
  let base := storeBase (u8 d 0) (u8 d 1)
  let old := (loadOf p (imgKey d)).filter (fun l => l.total == u32 d 4)
  let verifying := (loadOf p (imgKey d)).filter (fun l => l.verify.isSome)
  (verifying.any (fun l => l.total != u32 d 4) = true → q = finishWork id .busy p) ∧
  (verifying.any (fun l => l.total != u32 d 4) = false → memWf q.store = true ∧
    (∀ a, memRead a q.store =
      if base + u32 d 8 ≤ a ∧ a < base + u32 d 8 + (d.length - 12) then (d.drop 12).getD (a - (base + u32 d 8)) 0
      else if old.isNone = true ∧ base ≤ a ∧ a < base + storeSize (u8 d 0) then 0 else memRead a p.store) ∧
    q = { p with mbx := q.mbx, loads := q.loads, store := q.store })) ∧
∀ (s : State) (kind : Nat) (sig : Bool) (b : ImageIn) (l : ImgLoad),
  s.m.loads.find? (fun l => l.kind == kind && l.verify.isSome) = some l →
  let signed := sig = true ∧ trailerOk s.m kind (trailerOf s.m kind l.target l.total) = true
  let body := bodyOf s.m kind (memReadL (storeBase kind l.target) l.total s.m.store) b
  let rest := s.m.loads.filter (fun x => !(x.kind == kind && x.target == l.target))
  (∀ f, signed → body = some (.firmware f) → bodyOk s.m (.firmware f) = true → Runs (.imageVerificationComplete kind sig b) s fun m =>
    m.loads = rest ∧ m.key.fw = upd s.m.key.fw l.target (fun _ => f) ∧ m.key.next = some l.target ∧
      m = { s.m with loads := m.loads, key := m.key, mbx := m.mbx }) ∧
  (∀ x, signed → body = some x → (∀ f, x ≠ .firmware f) → bodyOk s.m x = true → Runs (.imageVerificationComplete kind sig b) s fun m =>
    m.loads = rest ∧ m.ready.head? = some { body := x, key := s.m.key.opr.pub } ∧
      m = { s.m with loads := m.loads, ready := m.ready, key := m.key, mbx := m.mbx }) ∧
  ((¬signed ∨ ∀ x, body = some x → bodyOk s.m x = false) → memWf s.m.store = true → Runs (.imageVerificationComplete kind sig b) s fun m =>
    m.loads = rest ∧ m.key.imgFail = inc8 s.m.key.imgFail ∧ m.ready = s.m.ready ∧
      (∀ a, memRead a m.store =
        if storeBase kind l.target ≤ a ∧ a < storeBase kind l.target + storeSize kind then 0 else memRead a s.m.store) ∧
      m = { s.m with loads := m.loads, store := m.store, key := m.key, mbx := m.mbx })

/-- In BOOT with no firmware slot authenticated, a RECOVERY message reads registers or stores a chunk (R17, R92, R114,
R115, R65, R119). -/
def Obligations.RecoveryMailboxServesTheBootRom : Prop :=
∀ (s : State) (m : MsgIn), let b := m.body; let d := b.drop 32; let ix := 64 * m.ep
  s.m.sys.mode = .boot → s.m.sup.started = true → s.m.key.recov = true → bootUp s.m m.ep = true → Framed 8 m s.m →
  u8 b 12 = 0 → (slotAt s.m ix).state ≠ .pending → ix < s.m.mbx.slots.length → u16 b 2 + 32 = b.length →
  let p := updSlot ix (fun x => { placed b 0 x with push := false })
    { s.m with mbx := { s.m.mbx with recPeer := upd s.m.mbx.recPeer m.ep (fun _ => m.peer) } }
  (u16 b 0 = 0x0F01 → d.length = 8 → bootReadOk d = true → Runs (.recovery m) s fun t =>
    (slotAt t ix).state = .done ∧
    (∃ r, (slotAt t ix).result = some r ∧ r.status = .ok ∧ r.opcode = 0x0F01 ∧ r.payload = stateRead (snapOf s) d) ∧
    (m.ep ≠ 2 → muted s.m = false → ∃ o, t.mbx.tx = o :: s.m.mbx.tx ∧ o.type = 8) ∧
    t = { s.m with mbx := t.mbx, key := t.key }) ∧
  (u16 b 0 = 0x0106 → inR 13 4064 d.length = true → chunkOk d = true →
    (loadOf s.m (imgKey d)).any (fun l => l.verify.isSome) = false → s.m.mtr.nvBlock = false →
    Runs (.recovery m) s fun t =>
      t.store = (applyImageLoad (recoveryId m.ep) d p).store ∧ t.loads = (applyImageLoad (recoveryId m.ep) d p).loads ∧
      (covers (u32 d 4) (((loadOf s.m (imgKey d)).filter (fun l => l.total == u32 d 4)).elim [] (·.parts) ++
          [(u32 d 8, d.length - 12)]) = false →
        (slotAt t ix).state = .done ∧ ∃ r, (slotAt t ix).result = some r ∧ r.status = .ok) ∧
      t = { s.m with mbx := t.mbx, key := t.key, store := t.store, loads := t.loads })

/-- What each supply event does: release, warn, inhibit, reset level, and the rails (R78, R79, R309, R310, R572, R574,
R575, R576, R577, R578, R585). -/
def Obligations.SupplyCrossingsStartAndEndTheHold : Prop :=
∀ s : State, let u := s.m.sup
  (∀ temps : List Int, u.upAt = none → s.m.sys.mode = .boot ∨ s.m.sys.mode = .reset →
    s.m.sys.lcRead.lc ≠ .scrapped → u.started = false →
    let hot := temps.any (fun t => t ≥ 1100)
    let up := { u with upAt := some s.m.clk, warn := false, inhibit := false, warnAt := none }
    (hot = true ∨ s.m.sys.thermHold = true ∨ u.vanaOk = false → Runs (.vmainRelease temps) s fun m =>
      m.sup = up ∧ m.mtr.nvBlock = false ∧ m.sys.thermHold = (s.m.sys.thermHold || hot) ∧ m.sys.mode = s.m.sys.mode ∧
        m.thm.sens = sampled temps s.m) ∧
    (hot = false → s.m.sys.thermHold = false → u.vanaOk = true → u.vioOk.contains false = false →
      Runs (.vmainRelease temps) s fun m => m.sup = { up with started := true } ∧ m.sys.mode = .boot)) ∧
  (∀ t : Nat, u.warn = false → u.upAt.isSome = true → let p := advance t s.m
    Runs (.supplyWarn t) s fun m =>
      m.sup = { u with warn := true, warnAt := some p.clk, evt := { u.evt with warn := true }, warnInh := 0xFFFF } ∧
      m.mtr.save = (if s.m.mtr.save = .none ∧ metering s.m = true then .running else s.m.mtr.save) ∧
      m.bil.warnAt = (if metering s.m = true then some p.tim.now else none) ∧
      (m.duo.ss.running = true ∨ m.duo.ss.latched = true) ∧ m.duo.ss.mask.testBit 3 = true ∧
      m = { p with sys := m.sys, pwr := m.pwr, vcmd := m.vcmd, eye := m.eye, mtr := m.mtr, bil := m.bil, duo := m.duo
                   vlk := m.vlk, bat := m.bat, sup := m.sup }) ∧
  (∀ t : Nat, u.warn = true → u.upAt.isSome = true → let p := advance t s.m
    Runs (.supplyWarnRecovered t) s fun m =>
      m.sup = { u with warn := false, warnAt := none, warnOff := some p.clk } ∧
      m.mtr = { s.m.mtr with save := if s.m.sys.pendingRst.isEmpty = true then .none else s.m.mtr.save } ∧
      (inMode s.m [.armed, .deliver, .derate, .isolated, .service] = true → m.sys.mode = .safeStop ∧ m.duo.ss.mask.testBit 1 = true) ∧
      m = { p with sys := m.sys, mbx := m.mbx, pwr := m.pwr, vcmd := m.vcmd, eye := m.eye, mtr := m.mtr, bil := m.bil
                   duo := m.duo, vlk := m.vlk, sup := m.sup }) ∧
  (∀ (t w : Nat), u.inhibit = false → u.warnAt = some w → let p := advance t s.m
    let us := min 0xFFFE ((p.clk - w) / 1000)
    exec (.nvWriteInhibit t) s = .next { s with m := { p with
      sup := { u with inhibit := true, warnInh := us
                      evt := { u.evt with inhibit := true, short := u.evt.short || decide (us < 2000) } }
      mtr := { s.m.mtr with nvBlock := true, burn := none
                            banks := s.m.mtr.banks ++ s.m.mtr.burn.toList.map (fun b => (b, false)) } } }) ∧
  (exec .nvWriteInhibitRelease s = .next { s with m := { s.m with sup := { u with inhibit := false }, mtr := { s.m.mtr with nvBlock := false } } }) ∧
  (∀ (vana : Nat) (vio : List Nat), u.started = true → exec (.supplyRailValid vana vio) s = .next { s with m := { s.m with
    sup := { u with vana := vana, vanaOk := inR 450 550 vana
                    vioOk := mapI (fun b old => (vio[b]?).elim old (fun v =>
                      (vioLevel v).any (fun n => decide (u.vioNom.getD b 0 = n)))) u.vioOk } } }) ∧
  (∀ (vana : Nat) (vio : List Nat), u.started = false → u.upAt.isSome = true → s.m.sys.mode ≠ .retired →
    s.m.sys.lcRead.lc ≠ .scrapped → s.m.sys.thermHold = false → inR 450 550 vana = true →
    u.vioOk.length ≤ vio.length → (∀ v ∈ vio, (vioLevel v).isSome = true) →
    Runs (.supplyRailValid vana vio) s fun m => m.sys.mode = .boot ∧ m.sup.started = true ∧ m.sup.vana = vana ∧
      m.sup.vanaOk = true ∧ m.sup.vioOk.contains false = false) ∧
  (∀ rail : Option (Fin 8), u.started = true → inMode s.m [.armed, .deliver, .derate, .isolated, .service] = true →
    Runs (.supplyRailInvalid rail) s fun m =>
      m.sys.mode = .safeStop ∧ (m.duo.ss.running = true ∨ m.duo.ss.latched = true) ∧ m.duo.ss.mask.testBit 1 = true ∧
      m.sup = { u with vanaOk := u.vanaOk && rail.isSome, vioOk := rail.elim u.vioOk (fun b => upd u.vioOk b.val (fun _ => false))
                       evt := rail.elim { u.evt with vana := true } (fun _ => { u.evt with vio := true }) } ∧
      m = { s.m with sys := m.sys, mbx := m.mbx, pwr := m.pwr, vcmd := m.vcmd, eye := m.eye, bil := m.bil
                     duo := m.duo, vlk := m.vlk, sup := m.sup }) ∧
  (u.started = false → dueO s.m (u.upAt.map (· + 1000000000)) = true → exec .supplyRailStartTimeout s = .next { s with m := { s.m with
    sup := { u with evt := { u.evt with vana := u.evt.vana || !u.vanaOk, vio := u.evt.vio || u.vioOk.contains false } } } })

/-- Asking for a package reset, asserting it, and what it leaves (R72, R73, R74, R76, R309, R377, R571, R574). -/
def Obligations.PackageResetsAreAskedForAndAsserted : Prop :=
let sound := fun (p : Pkg) => { p.ldg.nv with outs := p.ldg.nv.outs.filter (fun x => !p.ldg.badOut.contains x)
                                              ins := p.ldg.nv.ins.filter (fun x => !p.ldg.badIn.contains x) }
∀ s : State,
  (s.m.sys.mode ≠ .retired → s.m.sys.mode ≠ .reset → Runs .resetNAsserted s fun m =>
    m.sys.pendingRst = s.m.sys.pendingRst ++ [.pin] ∧ m.sys.rstSaveEnd = some (s.m.sys.rstSaveEnd.getD (s.m.clk + 2000000)) ∧
    m.mtr = { s.m.mtr with save := if s.m.mtr.save = .none then .running else s.m.mtr.save } ∧
    (m.duo.ss.running = true ∨ m.duo.ss.latched = true) ∧ m.duo.ss.mask.testBit 2 = true ∧ m.sys.mode = s.m.sys.mode ∧
    m = { s.m with sys := m.sys, pwr := m.pwr, vcmd := m.vcmd, eye := m.eye, mtr := m.mtr, duo := m.duo, vlk := m.vlk }) ∧
  (s.m.duo.arb = .none → dueO s.m s.m.sys.retryDue = true → s.m.sys.mode ≠ .retired → s.m.sys.mode ≠ .reset →
    Runs .recoveryRetry s fun m =>
      m.sys.pendingRst = s.m.sys.pendingRst ++ [.retry] ∧ m.sys.retryIval = min 900 (2 * s.m.sys.retryIval) ∧
      m.sys.cause = { s.m.sys.cause with retries := inc8 s.m.sys.cause.retries } ∧ m.sys.mode = s.m.sys.mode ∧
      m = { s.m with sys := m.sys, pwr := m.pwr, vcmd := m.vcmd, eye := m.eye, mtr := m.mtr, duo := m.duo, vlk := m.vlk }) ∧
  (s.m.sys.pendingRst = [] ∨ s.m.duo.ss.running = true ∨ (s.m.mtr.save ≠ .complete ∧ dueO s.m s.m.sys.rstSaveEnd = false) →
    exec .packageReset s = .next s) ∧
  (s.m.sys.pendingRst.contains .thermal = true → s.m.sys.pendingRst.contains .por = false → s.m.duo.ss.running = false →
    s.m.mtr.save = .complete → s.m.sys.mode ≠ .retired → s.m.sys.fuses = s.m.sys.lcRead → s.m.sys.lcRead.lc ≠ .scrapped →
    Runs .packageReset s fun m =>
      m.sys.mode = .reset ∧ m.sys.thermHold = true ∧ m.sys.cause.thermal = true ∧ m.sys.pendingRst = [] ∧
      m.sup = { s.m.sup with started := false } ∧
      m.pwr = {} ∧ m.ce = {} ∧ m.vcmd = {} ∧ m.dfl = {} ∧ m.vlk = {} ∧ m.can = {} ∧ m.lsw = {} ∧
      m.store = s.m.store ∧ m.loads = s.m.loads ∧ m.ready = s.m.ready ∧ m.config = s.m.config ∧
      m.tim.now = s.m.tim.nvNow ∧ m.clk = s.m.clk ∧ m.ldg.nv = sound s.m ∧ m.eye.fused = s.m.eye.fused ∧
      m.mbx = { boots := (s.m.mbx.boots + 1) % 65536, seqs := s.m.mbx.seqs, workCtr := s.m.mbx.workCtr, work := s.m.mbx.work }) ∧
  (s.m.sup.upAt.isSome = true → s.m.sys.mode ≠ .retired → s.m.sys.fuses = s.m.sys.lcRead →
    Runs .porThreshold s fun m =>
      m.sys.mode = .reset ∧ m.sys.thermHold = false ∧ m.sys.cause.por = true ∧ m.sys.resetBit = 1 ∧
      m.sup = { s.m.sup with upAt := none, started := false } ∧
      m.pwr = {} ∧ m.ce = {} ∧ m.vcmd = {} ∧ m.dfl = {} ∧ m.vlk = {} ∧ m.can = {} ∧ m.lsw = {} ∧
      m.store = s.m.store ∧ m.loads = s.m.loads ∧ m.ready = s.m.ready ∧ m.config = s.m.config ∧
      m.tim.now = s.m.tim.nvNow ∧ m.clk = s.m.clk ∧ m.ldg.nv = sound s.m ∧ m.eye.fused = s.m.eye.fused ∧
      m.mbx = { boots := (s.m.mbx.boots + 1) % 65536, seqs := s.m.mbx.seqs, workCtr := s.m.mbx.workCtr, work := s.m.mbx.work })

/-- From the held dies through authentication and self-test to the mode of the life-cycle state (R65, R69, R71, R78,
R353, R531, R544, R545, R548, R571, R576). -/
def Obligations.BootAndSelfTestLeadToTheLifeCyclesMode : Prop :=
∀ s : State, let k := s.m.key
  (s.m.sys.thermHold = true → s.m.thm.cool ≥ 100000 → s.m.sys.mode ≠ .retired → s.m.sup.upAt.isSome = true →
    s.m.sup.started = false → s.m.sys.lcRead.lc ≠ .scrapped → s.m.sup.vanaOk = true → s.m.sup.vioOk.contains false = false →
    Runs .thermalHoldRelease s fun m => m.sys.mode = .boot ∧ m.sup = { s.m.sup with started := true }) ∧
  (∀ (a b : FwSlot) (i : Nat), s.m.sys.mode = .boot → s.m.sup.started = true → k.next = some i → i < 2 →
    slotOk s.m ([a, b].getD i {}) = true →
    let d := fun x : DieRec => { x with st := .testing, fw := some (i, ([a, b].getD i {}).ver) }
    Does (.firmwareAuthenticated a b) s { s.m with
      sys := { s.m.sys with mode := .selfTest, prev := .boot, jMode := modeJournal .selfTest s.m }
      key := { k with fw := [a, b], fwOk := [slotOk s.m a, slotOk s.m b], bootSlot := i, next := none, recov := false }
      duo := { s.m.duo with a := d s.m.duo.a, b := d s.m.duo.b } }) ∧
  (s.m.sys.mode = .boot → s.m.sup.started = true → Does .bootAuthFailed s { s.m with
    key := { k with fwOk := [false, false], recov := true, fw := k.fw.map (fun f => { f with ok := false }) } }) ∧
  (∀ r : SelfTest, s.m.sys.mode = .selfTest → r.ground = true → r.selvedge = true → r.ls = true → r.a = true ∨ r.b = true →
    s.m.sys.lcRead.lc ≠ .provisioned ∨ rootOf k = .ready →
    Runs (.selfTestComplete r) s fun m =>
      m.sys.mode = (match s.m.sys.lcRead.lc with | .field => .idle | .service => .service | _ => .provision)) ∧
  (∀ r : SelfTest, s.m.sys.mode = .selfTest →
    r.ground = false ∨ r.selvedge = false ∨ r.ls = false ∨ (r.a = false ∧ r.b = false) →
    Runs (.selfTestComplete r) s fun m =>
      m.sys.mode = .safeStop ∧ m.duo.arb = .none ∧ m.duo.hoop = none ∧ (m.duo.ss.running = true ∨ m.duo.ss.latched = true) ∧
      m.duo.a.st = (if r.a = true then .held else .failed) ∧ m.duo.b.st = (if r.b = true then .held else .failed) ∧
      m = { s.m with sys := m.sys, eye := m.eye, duo := m.duo }) ∧
  (s.m.sys.fuses.lc = .blank → s.m.mtr.nvBlock = false → s.m.sys.mode ≠ .retired → s.m.sys.mode ≠ .reset →
    Runs .quogusFinalTest s fun m => m.sys.fuses = { s.m.sys.fuses with prov := true } ∧
      m.sys.pendingRst = s.m.sys.pendingRst ++ [.lc] ∧ m.sys.lcRead = s.m.sys.lcRead ∧
      m.sys.lcLog.head? = some (s.m.tim.now, .blank, ({ s.m.sys.fuses with prov := true } : LcFuses).lc)) ∧
  (k.entropy = true → Does .entropyHealthFail s { s.m with
    key := { k with entropy := false, entFail := inc8 k.entFail, evt := { k.evt with entropy := true } } }) ∧
  Does .entropySourcePass s { s.m with key := { k with entropy := true } } ∧
  (s.m.duo.ss.own = some (true, false) → s.m.sys.mode = .safeStop → awake s.m = true → s.m.duo.ss.latched = true →
    s.m.duo.ss.mask &&& 0x15 = 0 → latchedFault s.m = false → s.m.sys.faultCyc = false → s.m.sup.warn = false →
    dueO s.m (s.m.sup.warnOff.map (· + 1000000000)) = true →
    Runs .autoClear s fun m => m.sys.mode = .idle ∧ m.sys.prev = .safeStop ∧ m.duo.ss = { s.m.duo.ss with latched := false, own := none } ∧
      m.sup = { s.m.sup with evt := { s.m.sup.evt with autoClear := true } } ∧
      m = { s.m with sys := m.sys, eye := m.eye, duo := m.duo, key := m.key, sup := m.sup })

/-- Arm timeout, derating, grant, lease wait and temperature thresholds (R65, R67, R68, R69, R206, R570, R571). -/
def Obligations.ModeTimersEndWhatTheyTime : Prop :=
∀ s : State,
  (s.m.sys.mode = .armed → dueO s.m s.m.sys.armUntil = true → anySession s.m = false → Runs .armTimeout s fun m =>
    m.sys = { s.m.sys with mode := .idle, prev := .armed, jMode := modeJournal .idle s.m, armUntil := none } ∧
      m = { s.m with sys := m.sys, pwr := m.pwr, eye := m.eye }) ∧
  (s.m.sys.mode ≠ .armed ∨ dueO s.m s.m.sys.armUntil = false ∨ anySession s.m = true → exec .armTimeout s = .next s) ∧
  (s.m.sys.mode = .derate → s.m.sys.freeCycles ≥ 100 → Does .derateRecovered s { s.m with
    sys := { s.m.sys with mode := .deliver, prev := .derate, jMode := modeJournal .deliver s.m, freeCycles := 0, derateWhy := [] } }) ∧
  (s.m.sys.mode ≠ .derate ∨ s.m.sys.freeCycles < 100 → exec .derateRecovered s = .next s) ∧
  (∀ g : Grant, s.m.sys.grant = some g → s.m.sys.mode = .service → due s.m g.until_ = true → Runs .grantExpiry s fun m =>
    m.sys = { s.m.sys with grant := none } ∧
      m = { s.m with sys := m.sys, pwr := m.pwr, vcmd := m.vcmd, eye := m.eye, bil := m.bil, vlk := m.vlk }) ∧
  (∀ g : Grant, s.m.sys.grant = some g → due s.m g.until_ = false → exec .grantExpiry s = .next s) ∧
  (dueO s.m s.m.sys.leaseWait = true → s.m.ldg.everQ = false → s.m.sys.mode = .idle → Runs .leaseWaitTimeout s fun m =>
    m.sys = { s.m.sys with mode := .isolated, prev := .idle, jMode := modeJournal .isolated s.m, armUntil := none
                           leaseWait := none, leaseOwed := false, leaseCyc := true, freeCycles := 0 } ∧
      m = { s.m with sys := m.sys, pwr := m.pwr, vcmd := m.vcmd, eye := m.eye, bil := m.bil, vlk := m.vlk }) ∧
  (∀ (temps : List Int) (x : Int), dieMax (sampled temps s.m) = some x → Runs (.sensorSample temps) s fun m =>
    let h := s.m.thm
    m.thm.sens = sampled temps s.m ∧ m.thm.max_ = x ∧
      m.thm.warn = (decide (x > h.tWarn) || (h.warn && decide (x > h.tWarn - 50))) ∧
      m.thm.quiet = (decide (x > h.tQuiet) || (h.quiet && decide (x > h.tQuiet - 50))) ∧
      m.thm.stop = (decide (x > h.tStop) || (h.stop && decide (x > h.tStop - 50))) ∧
      (x > h.tStop → inMode s.m [.armed, .deliver, .derate, .isolated, .service] = true → m.sys.mode = .safeStop) ∧
      ((sampled temps s.m).any (fun y => decide (y.hot ≥ 3)) = true → s.m.sys.thermHold = false → s.m.sys.pendingRst = [] →
        s.m.sys.mode ≠ .retired → s.m.sys.mode ≠ .reset → m.sys.pendingRst = [.thermal] ∧ m.thm.shutdowns = inc16 h.shutdowns) ∧
      m = { s.m with sys := m.sys, mbx := m.mbx, pwr := m.pwr, vcmd := m.vcmd, eye := m.eye, mtr := m.mtr, bil := m.bil
                     duo := m.duo, vlk := m.vlk, thm := m.thm })

/-- Clock and reference loss, memory errors, and what each Hoop decoder makes of the line (R17, R24, R25, R27, R31,
R32, R35, R65, R377). -/
def Obligations.ClocksMemoriesAndDecodersKeepTheirState : Prop :=
∀ s : State, let y := s.m.sys
  (∀ (d : Die) (dom : Fin 12) (lane : Option (Fin 8)), dom.val ≠ 4 → Does (.clockFault d dom lane) s
    (dieFault .self 0xF d { s.m with sys := { y with clkFaults := (d, dom.val + 1) :: y.clkFaults.filter (fun x => x != (d, dom.val + 1)) } })) ∧
  (∀ (d : Die) (l : Fin 8), activeDie s.m = some d → Does (.clockFault d 4 (some l)) s (laneClockLoss l.val s.m)) ∧
  (∀ ref : Fin 2, (if ref.val = 0 then y.ref1Ok else y.ref0Ok) = true →
    Does (.refclkLoss ref) s { s.m with sys := if ref.val = 0 then { y with ref0Ok := false, refUsed := some 1 }
                                               else { y with ref1Ok := false, refUsed := some 0 } }) ∧
  (∀ (ref : Fin 2) (p : Pkg), (if ref.val = 0 then y.ref1Ok else y.ref0Ok) = false →
    p = { s.m with sys := if ref.val = 0 then { y with ref0Ok := false, refUsed := none } else { y with ref1Ok := false, refUsed := none } } →
    Does (.refclkLoss ref) s (let d := (activeDie p).getD .a
      if mayTakeOver p d.other = true then noDie d (noteLast d .self 0xF p) else dieFault .self 0xF d.other (dieFault .self 0xF d p))) ∧
  (∀ ref : Fin 2, Does (.refclkValid ref) s { s.m with sys := if ref.val = 0 then { y with ref0Ok := true, refUsed := some 0 }
      else { y with ref1Ok := true, refUsed := if y.ref0Ok = true then some 0 else some 1 } }) ∧
  (∀ mem : EccMem, Does (.memoryEccError mem false) s { s.m with sys := { y with eccCount := upd y.eccCount mem.ix inc32 } }) ∧
  (∀ d : Die, Does (.memoryEccError (.stitch d) true) s (dieFault .memory 0xF d s.m)) ∧
  Does (.memoryEccError .capture true) s (requestReset .mem (safeStopFault (ssTrigger 5 y.hoopG.owner s.m))) ∧
  Does (.memoryEccError .secure true) s (requestReset .mem (safeStopFault s.m)) ∧
  (∀ k i : Nat, Does (.memoryEccError (.journal (.energy k i)) true) s { s.m with mtr := { s.m.mtr with meter := upd s.m.mtr.meter k (fun x =>
      { x with slots := upd x.slots i (fun r => r.map (fun r => { r with ok := false })) }) } }) ∧
  (∀ n : Nat, Does (.memoryEccError (.journal (.event n)) true) s { s.m with bil := { s.m.bil with events := s.m.bil.events.map (fun e =>
      if e.index = n then { e with ok := false } else e) } }) ∧
  (∀ n : Nat, Does (.memoryEccError (.journal (.receipt n)) true) s { s.m with bil := { s.m.bil with
      badRcpt := s.m.bil.rcpts.filter (fun x => x.no == n) ++ s.m.bil.badRcpt } }) ∧
  (∀ id : Nat, Does (.memoryEccError (.journal (.out id)) true) s { s.m with ldg := { s.m.ldg with
      badOut := s.m.ldg.nv.outs.filter (fun x => x.id == id) ++ s.m.ldg.badOut } }) ∧
  (∀ (d k : Die) (i j : Nat), hoopIv i = .code k → hoopIv j = .code k → Runs (.hoopDecodeChange (.stitch d) [i, j]) s fun m =>
      m = { s.m with sys := m.sys, can := m.can } ∧ (decoderOf m d).owner = some k ∧ (decoderOf m d).errors = (decoderOf s.m d).errors ∧
        decoderOf m d.other = decoderOf s.m d.other ∧ m.sys.hoopG = y.hoopG) ∧
  (∀ (k : Die) (i j : Nat), hoopIv i = .code k → hoopIv j = .code k → y.noOwnerHold = false → Runs (.hoopDecodeChange .ground [i, j]) s fun m =>
      m = { s.m with sys := m.sys, eye := m.eye } ∧ m.sys = { y with hoopG := m.sys.hoopG } ∧
        m.sys.hoopG.owner = some k ∧ m.sys.hoopG.errors = y.hoopG.errors) ∧
  (∀ (k : Die) (i : Nat), hoopIv i = .code k → y.noOwnerHold = true → y.hoopG.owner = none → Runs (.hoopDecodeChange .ground [i]) s fun m =>
      m = { s.m with sys := { y with hoopG := m.sys.hoopG } } ∧ m.sys.hoopG.owner = none) ∧
  (∀ (w : HoopWho) (i : Nat), hoopIv i = .bad → (w.decoder s.m).iv ≠ .bad → (w = .ground → y.noOwnerHold = false) →
    Runs (.hoopDecodeChange w [i]) s fun m => m = { s.m with sys := m.sys } ∧ m.sys.mode = y.mode ∧
      w.decoder m = { w.decoder s.m with errors := inc8 (w.decoder s.m).errors, iv := .bad, run := 1 }) ∧
  (∀ d : Die, Does (.hoopTimeout (.stitch d) { silent := true }) s { s.m with sys := match d with
      | .a => { y with hoopA := { y.hoopA with owner := none, iv := .bad, run := 0 } }
      | .b => { y with hoopB := { y.hoopB with owner := none, iv := .bad, run := 0 } } }) ∧
  (∀ (d : Die) (i j l : Nat), hoopIv i = .bad → hoopIv j = .bad → hoopIv l = .bad → (decoderOf s.m d).iv ≠ .bad → (decoderOf s.m d).errors < 253 →
    Runs (.hoopTimeout (.stitch d) { ivals := [i, j, l] }) s fun m => m = { s.m with sys := m.sys } ∧
      (decoderOf m d).owner = none ∧ (decoderOf m d).errors = (decoderOf s.m d).errors + 3 ∧ decoderOf m d.other = decoderOf s.m d.other) ∧
  (y.hoopG.owner.isSome = true → y.noOwnerHold = false → Runs (.hoopTimeout .ground { silent := true }) s fun m =>
    (m.duo.ss.running = true ∨ m.duo.ss.latched = true) ∧ m.duo.ss.mask.testBit 0 = true ∧ m.sys.hoopG.owner = none ∧ m.sys.hoopG.errors = y.hoopG.errors ∧
      (inMode s.m [.armed, .deliver, .derate, .isolated, .service] = true → m.sys.mode = .safeStop))

/-- Heartbeats, missed heartbeats, fault frames, watchdogs and the planned flip (R352, R353, R354, R355, R356, R357,
R358, R371, R373). -/
def Obligations.FailingDiesLoseTheirPart : Prop :=
∀ s : State, let u := s.m.duo
  (∀ (d : Die) (src : Fin 9) (slot : Nat) (own : List Int), (dieOf s.m d).beats = true → Does (.heartbeat d src false slot own) s
    (updDie d (fun x => { x with
      slots := upd x.slots src.val (fun _ => some (slot % 65536))
      hbMiss := if ((dieOf s.m d).slots.getD src.val none).any (fun o => (slot + 65536 - o) % 65536 == 2) = true then inc16 x.hbMiss else x.hbMiss }) s.m)) ∧
  (∀ (d : Die) (src : Fin 9), (dieOf s.m d).beats = true → Does (.heartbeatMissed d src) s
    (dieFault .heartbeat (if src.val = 8 then 0xF else src.val) d (updDie d (fun x => { x with hbMiss := satAdd 65535 x.hbMiss 2 }) s.m))) ∧
  (∀ (d : Die) (c : Crit), c = .lockstep ∨ c = .memory ∨ c = .self → Does (.faultFrame d c) s (dieFault c 0xF d s.m)) ∧
  (∀ (d : Die) (c : Crit), ¬(c = .lockstep ∨ c = .memory ∨ c = .self) → exec (.faultFrame d c) s = .next s) ∧
  (∀ d : Die, activeDie s.m = some d → u.arb = .dual → (dieOf s.m d).st = .active → mayTakeOver s.m d.other = true →
    Runs (.watchdogExpiry d) s fun m =>
      m.duo.hoop = some d.other ∧ m.duo.arb = .solo ∧ (dieOf m d).st = .failed ∧ (dieOf m d.other).st = .active ∧
      m.duo.last = some (d, .self, 0xF) ∧ m.duo.evt.switch = true ∧ m.sys.degraded = true ∧ m.duo.switches = inc16 u.switches) ∧
  (∀ d : Die, activeDie s.m = some d.other → u.arb = .dual ∨ u.arb = .sync → (dieOf s.m d).st = .standby ∨ (dieOf s.m d).st = .candidate →
    Runs (.watchdogExpiry d) s fun m =>
      m.duo.hoop = u.hoop ∧ m.duo.arb = .solo ∧ (dieOf m d).st = .failed ∧ dieOf m d.other = dieOf s.m d.other ∧
      m.duo.last = some (d, .self, 0xF) ∧ m.duo.evt.stbyReset = true ∧
      m = { s.m with sys := m.sys, duo := m.duo, mbx := m.mbx, key := { s.m.key with regs := s.m.key.regs.filter (fun r => r.die != some d) } }) ∧
  (∀ (d : Die) (id : Nat) (l : List Nat), activeDie s.m = some d → u.swWork = id :: l → u.arb = .dual → mayTakeOver s.m d.other = true →
    flipSlot s.m d.other = true →
    Runs .plannedFlip s fun m =>
      m.duo.hoop = some d.other ∧ m.duo.arb = .sync ∧ (dieOf m d).st = .candidate ∧ (dieOf m d.other).st = .active ∧
      m.duo.evt.planned = true ∧ m.duo.swWork = [] ∧ m.duo.last = some (d, .planned, 0xF)) ∧
  (activeDie s.m = none ∨ u.swWork = [] ∨ u.arb ≠ .dual → exec .plannedFlip s = .next s)

/-- Mirrors, Sampler reports, soak and the return of a repaired die (R353, R361, R363, R365, R367, R368, R369, R374,
R375, R376). -/
def Obligations.MirrorsAndReportsMakeAStandby : Prop :=
∀ (s : State) (d : Die), let u := s.m.duo; let x := dieOf s.m d
  (∀ (c : Fin 8) (ok agree : Bool) (loop : List LoopIn), shadows s.m d = false → exec (.fastMirrorReceived c d ok { agree := agree, loop := loop }) s = .next s) ∧
  (∀ (c : Fin 8) (agree : Bool) (loop : List LoopIn), shadows s.m d = true → x.shadow.synced = true → x.shadow.good.getD c.val 0 ≥ 1 →
    Does (.fastMirrorReceived c d true { agree := agree, loop := loop }) s (let l := loopsOf s.m loop; let same := agree = true ∧ l.any (·.differs) = false
      updDie d (fun x => { x with shadow := loopEnter s.m.tim.now l { x.shadow with
        good := upd x.shadow.good c.val (fun n => min 2 (n + 1)), goodAt := upd x.shadow.goodAt c.val (fun _ => s.m.clk)
        run := if same then 0 else min 65535 (x.shadow.run + 1)
        mismatch := if same then x.shadow.mismatch else inc32 x.shadow.mismatch } })
        { s.m with vcmd := { s.m.vcmd with port := s.m.vcmd.port.map (fun x => { x with mir := x.mirNext }) } })) ∧
  (∀ (c : Fin 8) (agree : Bool) (loop : List LoopIn), shadows s.m d = true → x.shadow.synced = false ∨ x.shadow.good.getD c.val 0 = 0 →
    Does (.fastMirrorReceived c d true { agree := agree, loop := loop }) s (updDie d (fun x => { x with shadow := loopEnter s.m.tim.now (loopsOf s.m loop) { x.shadow with
      good := upd x.shadow.good c.val (fun n => min 2 (n + 1)), goodAt := upd x.shadow.goodAt c.val (fun _ => s.m.clk) } })
        { s.m with vcmd := { s.m.vcmd with port := s.m.vcmd.port.map (fun x => { x with mir := x.mirNext }) } })) ∧
  (∀ (c : Fin 8) (agree : Bool) (loop : List LoopIn), shadows s.m d = true → Runs (.fastMirrorReceived c d false { agree := agree, loop := loop }) s fun m =>
    m = updDie d (fun x => { x with shadow := loopEnter s.m.tim.now (loopsOf s.m loop) { x.shadow with
          good := upd x.shadow.good c.val (fun _ => 0), fastLost := inc16 x.shadow.fastLost } })
      { s.m with duo := { u with fastLost := inc16 u.fastLost, evt := { u.evt with mirrorLoss := true } }
                 sys := { s.m.sys with linkDrops := upd s.m.sys.linkDrops 2 inc32 } }) ∧
  (∀ ok : Bool, shadows s.m d = false → exec (.supervisoryMirrorReceived d ok) s = .next s) ∧
  (shadows s.m d = true → Runs (.supervisoryMirrorReceived d true) s fun m =>
    m = updDie d (fun x => { x with shadow := { x.shadow with supAt := s.m.clk } }) { s.m with duo := { u with supAck := u.mirrors.2 } }) ∧
  (shadows s.m d = true → Runs (.supervisoryMirrorReceived d false) s fun m =>
    m = updDie d (fun x => { x with shadow := { x.shadow with supLost := inc16 x.shadow.supLost } })
      { s.m with duo := { u with supLost := inc8 u.supLost, evt := { u.evt with mirrorLoss := true } }
                 sys := { s.m.sys with linkDrops := upd s.m.sys.linkDrops 2 inc32 } }) ∧
  (∀ ts : TestIn, shadows s.m d = false → exec (.samplerReport { ts with die := d }) s = .next s) ∧
  (∀ ts : TestIn, shadows s.m d = true →
    let p0 := updDie d (fun x => { x with shadow := runTests ts s.m.thm.quiet s.m.tim.now x.shadow }) s.m
    let r := reportOf p0 d
    let p := updDie d (fun x => { x with report := some (r, s.m.clk), shadow := { x.shadow with seq := r.seq, fastLost := 0, supLost := 0 }
                                         soakFrom := if r.verdict = .pass ∧ x.st = .candidate then some (x.soakFrom.getD s.m.clk) else none }) p0
    ((dieOf p0 d).shadow.failed = true → Does (.samplerReport { ts with die := d }) s (dieFault .self 0xF d p0)) ∧
      (r.verdict = .failMismatch → Does (.samplerReport { ts with die := d }) s (standbyFails d (noteLast d .sampler 0xF
        { p with duo := { p.duo with evt := { p.duo.evt with mismatch := true } } }))) ∧
      (r.verdict = .staleMirror → x.st = .standby → Does (.samplerReport { ts with die := d }) s (standbyStale d p)) ∧
      (r.verdict = .pass → x.st = .candidate → x.soak = false → Does (.samplerReport { ts with die := d }) s (toDual d p)) ∧
      (r.verdict = .coverage ∨ (r.verdict = .staleMirror ∧ x.st ≠ .standby) ∨ (r.verdict = .pass ∧ (x.st ≠ .candidate ∨ x.soak = true)) →
        Does (.samplerReport { ts with die := d }) s p)) ∧
  (∀ (r : Sampler) (t : Nat), x.st = .standby → x.report = some (r, t) →
    (due s.m (t + 10000000) = true → Does (.samplerStale d) s (standbyStale d s.m)) ∧
      (due s.m (t + 10000000) = false → exec (.samplerStale d) s = .next s)) ∧
  (x.st ≠ .standby → exec (.samplerStale d) s = .next s) ∧
  (∀ t : Nat, x.st = .candidate → u.arb = .sync → x.soak = true → x.soakFrom = some t →
    (due s.m (t + u.soak * 1000000) = true → Does (.soakComplete d) s (toDual d s.m)) ∧
      (due s.m (t + u.soak * 1000000) = false → exec (.soakComplete d) s = .next s)) ∧
  (x.st ≠ .candidate ∨ u.arb ≠ .sync ∨ x.soak = false ∨ x.soakFrom = none → exec (.soakComplete d) s = .next s) ∧
  (x.st = .candidate → x.shadow.synced = false → Does (.fullSyncComplete d) s
    ((List.range 96).foldl (fun p q => updPin q (fun x => x.setLines d (x.lines d.other)) p)
      (updDie d (fun x => { x with shadow := { x.shadow with synced := true, supAt := s.m.clk, goodAt := List.replicate 8 s.m.clk } }) s.m))) ∧
  (x.st ≠ .candidate ∨ x.shadow.synced = true → exec (.fullSyncComplete d) s = .next s) ∧
  (∀ t : Nat, x.st = .failed → u.arb = .solo → u.auto = true → x.failedAt = some t → due s.m (t + 1000000000) = true →
    readmitCount s.m d < u.maxReadmit → Does (.autoReadmission d) s
      (updDie d (fun x => { x with st := .testing, shadow := {}, failedAt := none, readmits := cap 255 (s.m.tim.now :: x.readmits) }) s.m)) ∧
  (x.st ≠ .failed ∨ u.arb ≠ .solo ∨ u.auto = false ∨ readmitCount s.m d ≥ u.maxReadmit → exec (.autoReadmission d) s = .next s) ∧
  (x.st = .testing → u.arb = .solo → Does (.dieTestComplete d true) s (setArb .sync
    (updDie d (fun x => { x with st := .candidate, soak := true, soakFrom := none, shadow := {}, fw := ((activeDie s.m).map (fun k => (dieOf s.m k).fw)).getD none })
      { s.m with sys := { s.m.sys with wiped := upd s.m.sys.wiped (dieIx d) (fun _ => true) } }))) ∧
  (x.st = .testing → u.arb = .solo → Does (.dieTestComplete d false) s (standbyFails d s.m)) ∧
  (∀ ok : Bool, x.st ≠ .testing ∨ u.arb ≠ .solo → exec (.dieTestComplete d ok) s = .next s)

/-- Safe-stop: the triggers, and the opening of isolators, bypass and pre-charge (R221, R377, R378, R379). -/
def Obligations.SafeStopTriggersStartAndItsStepsOpenThePorts : Prop :=
∀ s : State, let o := s.m.sys.hoopG.owner
  exec (.safeStopTrigger 0) s = exec (.hoopTimeout .ground { silent := true }) s ∧
  (inMode s.m [.armed, .deliver, .derate, .isolated, .service] = true → Runs (.safeStopTrigger 1) s fun m =>
    m.sys.mode = .safeStop ∧ m.sys.grant = none ∧ (m.duo.ss.running = true ∨ m.duo.ss.latched = true) ∧ m.duo.ss.mask.testBit 1 = true ∧
      m = { s.m with sys := m.sys, mbx := m.mbx, pwr := m.pwr, vcmd := m.vcmd, eye := m.eye, bil := m.bil, duo := m.duo, vlk := m.vlk }) ∧
  (inMode s.m [.armed, .deliver, .derate, .isolated, .service] = false → Runs (.safeStopTrigger 1) s fun m =>
    m.sys.mode = s.m.sys.mode ∧ (m.duo.ss.running = true ∨ m.duo.ss.latched = true) ∧ m.duo.ss.mask.testBit 1 = true ∧
      m = { s.m with sys := m.sys, eye := m.eye, duo := m.duo }) ∧
  (∀ k : Fin 5, k = 2 ∨ k = 3 → Runs (.safeStopTrigger k) s fun m =>
    m.sys.mode = s.m.sys.mode ∧ (m.duo.ss.running = true ∨ m.duo.ss.latched = true) ∧ m.duo.ss.mask.testBit k.val = true ∧
      m = { s.m with sys := m.sys, pwr := m.pwr, vcmd := m.vcmd, vlk := m.vlk, eye := m.eye, duo := m.duo }) ∧
  Does (.safeStopTrigger 4) s (requestReset .mem (safeStopFault (ssTrigger 5 o s.m))) ∧
  (∀ (k : Fin 5), s.m.duo.ss.running = true ∨ s.m.duo.ss.latched = true → k = 2 ∨ k = 3 →
    Does (.safeStopTrigger k) s (let p := clustersHalt s.m
      { p with duo := { p.duo with ss := { p.duo.ss with mask := p.duo.ss.mask ||| 2 ^ k.val } } })) ∧
  (∀ (r : Fin 4) (amps : Int) (t : Nat), s.m.duo.ss.running = false ∨ amps.natAbs ≥ 5000 →
    Does (.safeStopIsolatorOpen r amps t) s (advance t s.m)) ∧
  (∀ (r : Fin 4) (amps : Int) (t : Nat), s.m.duo.ss.running = true → amps.natAbs < 5000 →
    Does (.safeStopIsolatorOpen r amps t) s (let p := advance t s.m
      ssComplete ((isolatorsOf p r.val).foldl (fun p q => ssOpen false amps q p) p))) ∧
  (∀ (m : Fin 2) (t : Nat), s.m.duo.ss.running = false ∨ s.m.duo.ss.acLow.getD m.val 0 ≤ 1000000 →
    Does (.safeStopBypassOpen m t) s (advance t s.m)) ∧
  (∀ (m : Fin 2) (t : Nat), s.m.duo.ss.running = true → s.m.duo.ss.acLow.getD m.val 0 > 1000000 →
    Does (.safeStopBypassOpen m t) s (let p := advance t s.m
      ssComplete ((acPorts p m.val).foldl (fun p q => acOpen false q p) p))) ∧
  (s.m.duo.ss.running = false ∨ due s.m (s.m.duo.ss.clk + 500000000) = false → exec .safeStopForceTimeout s = .next s) ∧
  (s.m.duo.ss.running = true → due s.m (s.m.duo.ss.clk + 500000000) = true → Runs .safeStopForceTimeout s fun m =>
    m.duo.ss.left_ = [] ∧ m.duo.ss.running = false ∧ m.duo.ss.latched = true ∧ m.duo.ss.rec_ = true ∧ m.sys.noOwnerHold = false ∧
      m.sys.mode = s.m.sys.mode ∧ m = { s.m with eye := m.eye, duo := m.duo, sys := m.sys, freeN := m.freeN })

/-- The supervisory boundary and what it makes of accepted work (R33, R66, R105, R109, R110, R115, R632). -/
def Obligations.BoundariesTakeEventsThenWorkThenTheNewCycle : Prop :=
∀ (b : BoundaryIn) (s : State), let y := s.m.sys
  (s.m.sup.upAt = none → exec (.supervisoryBoundary b) s =
    .next { s with m := lasting s.m (if y.ldgDue = true then s.m else acquireWaiting s.m), snap := s.m }) ∧
  (s.m.sup.upAt.isSome = true → s.m.sup.started = false → exec (.supervisoryBoundary b) s =
    (let p := advance (nextBoundary s.m) s.m
     .next { s with m := lasting s.m (if y.ldgDue = true then p else acquireWaiting p), snap := p })) ∧
  (s.m.sup.upAt.isSome = true → s.m.sup.started = true → exec (.supervisoryBoundary b) s =
    (let p := endCycle (supervise (meterEnd (boundaryTick b s.m)))
     .next { s with m := lasting s.m (if p.sys.ldgDue = true then p else acquireWaiting p), snap := lasting s.m p })) ∧
  (∀ p : Pkg, activeDie p = none → supervise p = p) ∧
  (∀ (p : Pkg) (d : Die), activeDie p = some d → p.eye.patErr ≤ p.eye.patSeen → p.ce.stopOwed = false → p.sys.leaseOwed = false →
    (p.sys.mode = .idle ∨ p.sys.mode = .provision) → p.duo.swDue = false → supervise p =
      ifAwake newCycle (rollbackRaise (offsetsApply (applyWork { p with eye := { p.eye with patSeen := p.eye.patErr } })))) ∧
  (∀ (q p : Pkg) (w : WorkItem) (c : Nat), w.origin = .client c →
    (w.stopped = true → actsOnCluster w.opcode w.payload p = true → applyItem q w p = finishWork w.id .faulted p) ∧
      (¬(w.stopped = true ∧ actsOnCluster w.opcode w.payload p = true) → guardNow w.opcode w.id w.payload q ≠ 0 → applyItem q w p =
        finishWork w.id .stateConflict { p with sys := { p.sys with lastGuard := guardNow w.opcode w.id w.payload q } }) ∧
      (¬(w.stopped = true ∧ actsOnCluster w.opcode w.payload p = true) → guardNow w.opcode w.id w.payload q = 0 → applyItem q w p =
        applyOp q w.opcode w.id c w.payload p)) ∧
  (∀ (p : Pkg) (l : List WorkItem) (w : WorkItem), p.mbx.work = l ++ [w] → w.state = .accepted → applyWork p =
    applyItem p w ((l.filter (fun w => w.state == .accepted)).foldl (fun q w => applyItem p w q) p))

/-- A fast cycle of a switching cluster (R138, R139, R142, R144, R145, R146, R147, R149, R155, R356). -/
def Obligations.FastCyclesRegulateAClusterAndCheckItsLimits : Prop :=
∀ s : State,
  (∀ (c : Fin 8) (f : FastIn), cycleDue s.m c.val = false → exec (.fastCycle c f) s = .next s) ∧
  (∀ (c : Fin 8) (f : FastIn), cycleDue s.m c.val = true → f.overrun = false ∨ activeDie (fastCycle c.val f s.m) = none →
    Does (.fastCycle c f) s (fastCycle c.val f s.m)) ∧
  (∀ (c : Fin 8) (f : FastIn) (d : Die), cycleDue s.m c.val = true → f.overrun = true →
    activeDie (fastCycle c.val f s.m) = some d → Does (.fastCycle c f) s (dieFault .self 0xF d (fastCycle c.val f s.m))) ∧
  (∀ (n : Nat) (f : FastIn) (p : Pkg), cycleDue p n = true → f.overrun = false →
    fastCycle n f p = countMirror (reachCluster n (runCluster n f (moveCluster n (limits n (clusterTime n (measure n f p))))))) ∧
  (∀ (n k : Nat) (p : Pkg), breach (dropLatched n p) n = some k → limits n p = clusterFault n k (dropLatched n p)) ∧
  (∀ (n : Nat) (p : Pkg), breach (dropLatched n p) n = none → limits n p = tooFew n (dropLatched n p)) ∧
  (∀ (n : Nat) (p : Pkg), let c := clAt p n
    let step : Int := (min c.rw.rate c.run.cmdRate * fastTicks c.cfg * 625 : Nat)
    c.run.st = .ramp ∨ c.run.st = .match_ ∨ c.run.st = .regulate → stepRef n p =
      updRun n (fun r => { r with ref := clampI (r.ref - step) (r.ref + step) (effTarget p n) }) p) ∧
  (∀ (n : Nat) (p : Pkg), let c := clAt p n
    c.run.st ≠ .ramp ∧ c.run.st ≠ .match_ ∧ c.run.st ≠ .regulate → stepRef n p = p) ∧
  (∀ (n : Nat) (p : Pkg), let c := clAt p n
    c.run.watch = true → c.run.st = .regulate → c.run.ticks > 10 * ticksMs → droopWatch n p = updRun n (fun r => { r with watch := false }) p) ∧
  (∀ (n : Nat) (p : Pkg), let c := clAt p n
    c.run.watch = true → c.run.st ≠ .regulate → c.dyn.vout * 8 * 1000 < sumI c.run.meas * 996 → droopWatch n p =
      (let s := sumI c.run.meas; let fall := (rdiv ((s - c.dyn.vout * 8) * 10000) s.toNat).toNat
       clusterFault n 1 (clEvt n (fun e => { e with preFail := true }) (updRun n (fun r => { r with droop := max r.droop fall }) p)))) ∧
  (∀ (n : Nat) (p : Pkg), let c := clAt p n
    c.run.st = .ramp → c.run.ref = effTarget p n → c.cfg.type = .dcdc → c.run.isoOn = false → fnPorts p n .isolator ≠ [] →
      rampReached n p = goSt n .match_ p) ∧
  (∀ (n : Nat) (p : Pkg), let c := clAt p n
    c.run.st = .ramp → c.run.ref = effTarget p n → c.cfg.type ≠ .dcdc ∨ c.run.isoOn = true ∨ fnPorts p n .isolator = [] →
      rampReached n p = toRegulate n p) ∧
  (∀ (n : Nat) (write : Bool) (l : List Nat) (p : Pkg) (a : Int) (ls : List Int), let c := clAt p n
    (availPhases p n).filter (fun l => phaseSt p l == .shed || phaseSt p l == .shedding) = [l] → c.run.st = .regulate →
    c.dyn.loads = a :: ls → (c.dyn.load - ls.foldl min a) * 5 > (rating p n : Int) * 100 → loadStep n write p =
      updDyn n (fun d => { d with loads := cap 64 (d.load :: d.loads) }) (updDyn n (fun d =>
        { d with frozen := true, holdEnd := some (p.clk + c.rw.hold * 1000000), evt := { d.evt with loadstep := true, shedStep := true } })
          (startReturn n c.dyn.sAt write l p)))

/-- A switching cluster's way from OFF through PREBIAS, RAMP and MATCH to REGULATE, and back (R79, R142, R143, R147,
R148). -/
def Obligations.ClustersStartMatchAndStop : Prop :=
∀ (s : State) (n : Fin 8), let c := clAt s.m n.val
  (c.run.startPend = false ∨ c.run.st ≠ .off ∨ c.cfg.type = .unused → exec (.clusterStart n) s = .next s) ∧
  (∀ k : Nat, c.run.startPend = true → c.run.st = .off → c.cfg.type ≠ .unused → startCause s.m n.val = some k →
    Does (.clusterStart n) s (startFailed n.val (updRun n.val (fun r => { r with cause := k })
      (updRun n.val (fun r => { r with startPend := false }) s.m)))) ∧
  (c.run.startPend = true → c.run.st = .off → c.cfg.type = .dcdc → startCause s.m n.val = none →
    Does (.clusterStart n) s (goSt n.val .prebias (updRun n.val (fun r =>
      { r with cause := 0, cold := false, measuring := false, meas := [], droop := 0, watch := false, isoPend := false
               matchTk := none, below5 := false, settle := none })
        (enablesLow n.val (endForces n.val (updRun n.val (fun r => { r with startPend := false }) s.m)))))) ∧
  (c.run.st = .prebias → c.run.measuring = false → r79 s.m n.val = true →
    c.cfg.type ≠ .dcdc ∨ (∀ k ∈ feeders s.m c.cfg.link, (clAt s.m k).run.st = .regulate) →
    Does (.prebiasMeasureStart n) s (updRun n.val (fun r => { r with measuring := true, meas := [] }) s.m)) ∧
  (c.run.st ≠ .prebias ∨ c.run.measuring = true ∨ r79 s.m n.val = false → exec (.prebiasMeasureStart n) s = .next s) ∧
  (∀ grid : List Int, c.run.st ≠ .prebias ∨ c.run.measuring = false ∨ c.run.meas.length < 8 →
    exec (.prebiasMeasurementComplete n grid) s = .next s) ∧
  (∀ grid : List Int, c.run.st = .prebias → c.run.measuring = true → c.run.meas.length ≥ 8 →
    sumI (c.run.meas.take 8) * 5 ≥ 8 * c.cfg.vRated →
    let p := updRun n.val (fun r => { r with vpre := (sumI (c.run.meas.take 8) / 80).toNat }) s.m
    (c.cfg.type = .dcdc → c.dyn.vin * 5 ≤ c.cfg.vRated → Does (.prebiasMeasurementComplete n grid) s (abortStart n.val 0x0B p)) ∧
    (c.cfg.type = .afe → (s.m.mtr.meter.getD (4 + c.cfg.acMeter) {}).ph.any (·.lost) = true →
      Does (.prebiasMeasurementComplete n grid) s (abortStart n.val 0x0C p))) ∧
  (∀ grid : List Int, c.run.st = .prebias → c.run.measuring = true → c.run.meas.length ≥ 8 →
    let sum := sumI (c.run.meas.take 8)
    let warm := decide (sum * 5 ≥ 8 * c.cfg.vRated)
    (warm = true → c.cfg.type = .dcdc → c.dyn.vin * 5 > c.cfg.vRated) →
    (warm = true → c.cfg.type = .afe → (s.m.mtr.meter.getD (4 + c.cfg.acMeter) {}).ph.any (·.lost) = false) →
    let duty := fun q => firstDuty s.m n.val q warm sum grid
    let ref : Int := if warm = true then sum * 1000000 else 0
    Does (.prebiasMeasurementComplete n grid) s
      (let p := (availPhases s.m n.val).foldl (fun p l => l.foldl (fun p q => updPt q (fun r =>
         { r with st := .active, enPend := some true, enAt := c.dyn.sAt, raw := duty q, duty := duty q, shadow := some (duty q)
                  shadowAt := c.dyn.sAt, trim := 0, trimSat := false, revLeft := 0, periods := 0 }) p) p)
         (updRun n.val (fun r => { r with vpre := (sum / 80).toNat }) s.m)
       presetStart n.val duty (goSt n.val .ramp (updRun n.val (fun r =>
         { r with measuring := false, cold := !warm
                  watch := decide (0 < sum), revStart := c.cfg.type == .dcdc, enTicks := 0, ref := ref, refStart := ref
                  matchTk := none, clamp := if c.cfg.type = .dcdc then shareClamp p n.val else c.cfg.prechg * 100000 }) p)))) ∧
  (c.cfg.type = .dcdc → c.run.st = .prebias → c.run.measuring = false → feederFailed s.m n.val = true →
    Does (.afeStartFailed n) s (abortStart n.val 0x0A s.m)) ∧
  (c.cfg.type = .dcdc → c.run.st ≠ .prebias ∨ c.run.measuring = true ∨ feederFailed s.m n.val = false →
    exec (.afeStartFailed n) s = .next s) ∧
  Does (.matchConditionHeld n) s (updRun n.val (fun r =>
    if r.st = .match_ ∧ r.matchTk.getD 0 ≥ ticksMs ∧ r.isoOn = false then { r with isoPend := true } else r) s.m) ∧
  (c.run.st = .match_ → due s.m (c.run.since + 100000000) = true → Does (.matchTimeout n) s (abortStart n.val 2 s.m)) ∧
  (c.run.st ≠ .match_ ∨ due s.m (c.run.since + 100000000) = false → exec (.matchTimeout n) s = .next s) ∧
  (∀ t : Nat, c.run.st = .match_ → c.run.isoOn = true → c.run.settle = some t → due s.m t = true →
    Does (.isoSettleExpiry n) s (toRegulate n.val s.m)) ∧
  (c.run.st ≠ .match_ ∨ c.run.isoOn = false ∨ c.run.settle = none → exec (.isoSettleExpiry n) s = .next s) ∧
  (c.run.stopPend = false → exec (.clusterStop n) s = .next s) ∧
  (c.run.stopPend = true → let p := updRun n.val (fun r => { r with stopPend := false, startPend := false }) s.m
    (c.run.st = .prebias → Does (.clusterStop n) s (closingDone c.cfg.region (clusterOff n.val 0 p))) ∧
      (c.run.st = .ramp ∨ c.run.st = .match_ ∨ c.run.st = .regulate → Does (.clusterStop n) s (goSt n.val .rampDown (updRun n.val (fun r =>
        { r with clamp := rampClamp c, clamp0 := rampClamp c, below5 := false, isoPend := false, watch := false
                 revStart := false, refStart := c.dyn.vout * 8000000 }) p))) ∧
      (c.run.st = .off ∨ c.run.st = .rampDown ∨ c.run.st = .faulted → Does (.clusterStop n) s p)) ∧
  (c.run.st = .rampDown → c.cfg.type = .afe → c.run.clamp = 0 → Does (.rampDownComplete n) s (clusterOff n.val 0 s.m)) ∧
  (c.run.st = .rampDown → c.cfg.type = .dcdc → c.run.below5 = true →
    Does (.rampDownComplete n) s (closingDone c.cfg.region (clusterOff n.val 0 s.m))) ∧
  (c.run.st ≠ .rampDown → exec (.rampDownComplete n) s = .next s) ∧
  (c.run.st = .faulted → s.m.sys.mode ≠ .safeStop → (∀ q ∈ fusedPorts s.m n.val, portAvail s.m q = true) →
    due s.m (c.run.since + 1000000000) = true → Does (.faultedRecovery n) s (endDerate n.val (goSt n.val .off s.m))) ∧
  (c.run.st ≠ .faulted ∨ s.m.sys.mode = .safeStop ∨ due s.m (c.run.since + 1000000000) = false → exec (.faultedRecovery n) s = .next s)

/-- Shed and returning phases, the end of the freeze and of the reverse block, and the start of a carrier period
(R125, R126, R130, R136, R137, R144, R150, R151, R152, R154, R155). -/
def Obligations.PhasesShedReturnAndFollowTheCarrier : Prop :=
∀ s : State,
  (∀ (q : Fin 96) (n : Nat) (l : List Nat), phaseOf s.m q.val = some (n, l) → (ptAt s.m q.val).run.st = .shedding →
    (∀ k ∈ l, (ptAt s.m k).run.lowI = true) ∨ (ptAt s.m q.val).run.periods ≥ 32 → Does (.phaseShedComplete q) s
      (updPhase l (fun r => { r with st := .shed, enPend := some false, trim := 0, trimSat := false }) s.m)) ∧
  (∀ q : Fin 96, phaseOf s.m q.val = none ∨ (ptAt s.m q.val).run.st ≠ .shedding → exec (.phaseShedComplete q) s = .next s) ∧
  (∀ (q : Fin 96) (n : Nat) (l : List Nat), phaseOf s.m q.val = some (n, l) → (ptAt s.m q.val).run.st = .returning →
    (ptAt s.m q.val).run.periods ≥ 4 → Does (.phaseReturnComplete q) s (updPhase l (fun r => { r with st := .active }) s.m)) ∧
  (∀ q : Fin 96, phaseOf s.m q.val = none ∨ (ptAt s.m q.val).run.st ≠ .returning ∨ (ptAt s.m q.val).run.periods < 4 →
    exec (.phaseReturnComplete q) s = .next s) ∧
  (∀ (n : Fin 8), Does (.freezeHoldExpiry n) s (updDyn n.val (fun d =>
    if d.frozen = true ∧ dueO s.m d.holdEnd = true then { d with frozen := false, holdEnd := none, dwellN := 0 } else d) s.m)) ∧
  (∀ (n : Fin 8), Does (.reverseBlockEnd n) s (updRun n.val (fun r =>
    if r.revStart = true ∧ ((r.ref - r.refStart).natAbs * 100 ≥ r.vpre * 80000000 ∨ r.enTicks ≥ 20 * ticksMs) then { r with revStart := false }
    else r) s.m)) ∧
  (∀ (q : Fin 96) (mid : Bool) (t : Nat) (raw : Option Int), clusterOf s.m q.val = none → exec (.carrierStart { p := q, mid := mid, t := t, raw := raw }) s = .next s) ∧
  (∀ (q : Fin 96) (n t : Nat) (raw : Option Int), clusterOf s.m q.val = some n →
    (∀ mid : Bool, (ptAt s.m q.val).cfg.use_ ≠ .switching ∨ (clAt s.m n).cfg.type = .unused ∨ s.m.sup.warn = true → exec (.carrierStart { p := q, mid := mid, t := t, raw := raw }) s = .next s) ∧
    ((ptAt s.m q.val).cfg.use_ = .switching → (clAt s.m n).cfg.type ≠ .unused → s.m.sup.warn = false →
      let c := (clAt s.m n).cfg
      let lead := (swPorts s.m n).head? = some q.val
      let late := fun r : PortRun => decide (t < r.shadowAt + 15360)
      let now := fun r : PortRun => r.enPend == some false || (r.enPend == some true && decide (t ≥ r.enAt + 15360))
      let count := fun r : PortRun => !(now r && r.enPend == some true) && !(r.st == .returning && r.enPend.isSome)
      let lim : Int := (c.period / 512 : Nat)
      Does (.carrierStart { p := q, mid := false, t := t, raw := raw }) s (linesAt q.val 0 (lockCheck n
        ((fun p => if lead then updCl n (fun x => { x with dyn := if x.dyn.fcCount + 1 ≥ max x.cfg.fcDiv 1 then { x.dyn with fcCount := 0, fcDue := true }
                                                                  else { x.dyn with fcCount := x.dyn.fcCount + 1 } }) p else p)
          (updPt q.val (fun r => { r with
            inForce := if late r = true then r.inForce else r.shadow.orElse (fun _ => r.inForce)
            shadow := if late r = true then r.shadow else none
            en := if now r = true then r.enPend == some true && phaseAvail s.m q.val
                  else if r.revOff = true then phaseAvail s.m q.val && r.st != .shed else r.en
            enPend := if now r = true then none else r.enPend
            revOff := false
            revLeft := if count r = true then r.revLeft - 1 else r.revLeft
            periods := if (count r && (r.st == .shedding || r.st == .returning)) = true then min (r.periods + 1) 63 else r.periods
            shift := r.shift - clampI (-lim) lim r.shift }) (samplePhase q.val raw s.m))))) ∧
      Does (.carrierStart { p := q, mid := true, t := t, raw := raw }) s (linesAt q.val (c.period / 2) (lockCheck n
        ((fun p => if lead then updCl n (fun x => { x with dyn := { x.dyn with fcDue := x.dyn.fcDue || x.cfg.fcDiv == 0 } }) p else p)
          (updPt q.val (fun r => if c.centred = true ∧ late r = false then
              { r with inForce := r.shadow.orElse (fun _ => r.inForce), shadow := none } else r)
            (if c.fcDiv = 0 then samplePhase q.val raw s.m else s.m)))))))

/-- Gate lines, dead time, configuration words, latches, clears and forces of a port (R221, R224, R226, R231, R232,
R233, R234, R235, R236, R237, R238, R239). -/
def Obligations.GatesFollowTheirStagesAndLatch : Prop :=
∀ (s : State) (q : Fin 96), let e := eyAt s.m q.val; let x := pinAt s.m q.val
  (∀ (d : Die) (tick : Nat) (fault : Option (Bool × Bool)),
    let b := fault.getD (if drivesLines s.m d = true then (pulseAt s.m q.val tick, (ptAt s.m q.val).run.en) else x.lines d)
    let p := updPin q.val (fun x => match d with
      | .a => { x with pulseA := b.1, enA := b.2 }
      | .b => { x with pulseB := b.1, enB := b.2 }) s.m
    (s.m.sys.hoopG.owner ≠ some d ∨ e.mode ≠ .static_ ∨ b.1 = true ∨ (x.lines d).1 = false →
      Does (.gateLineEdge d q tick fault) s (settle q.val p)) ∧
    (s.m.sys.hoopG.owner = some d → e.mode = .static_ → b.1 = false → (x.lines d).1 = true → (clusterOf s.m q.val).isSome = true →
      q.val < s.m.eye.pin.length → Does (.gateLineEdge d q tick fault) s (settle q.val { p with eye := { p.eye with patErr := inc16 p.eye.patErr } }))) ∧
  Does (.deadTimeExpiry q) s (settle q.val (updPin q.val (fun x => { x with dead := false }) s.m)) ∧
  (∀ c : Instr, c = .deadTimeExpiry q ∨ (c = .eyeFaultLatch { p := q } ∧ s.m.sup.started = true) ∨ (∃ d tick fault, c = .gateLineEdge d q tick fault) → Runs c s fun m =>
    (pinAt m q.val).en = true → (eyAt m q.val).latched = false ∧ (eyAt m q.val).wordWait = false ∧ (pinAt m q.val).dead = false ∧
      (clusterOf m q.val).isSome = true) ∧
  (s.m.sup.started = true → Does (.eyeFaultLatch { p := q }) s (latchPort q.val .driver (updEy q.val (fun e =>
    { e with faultN := false, wordWait := false, clr := if e.clr.isSome = true then some .enLow else none }) s.m))) ∧
  (∀ low : Bool, low = false ∨ s.m.sup.started = false →
    Does (.eyeFaultLatch { p := q, low := low }) s (updEy q.val (fun e => { e with faultN := !low }) s.m)) ∧
  (e.mode = .switching → x.en = true → Does (.patternHoldExpiry q) s (latchPort q.val .pattern s.m)) ∧
  (e.mode ≠ .switching ∨ x.en = false → exec (.patternHoldExpiry q) s = .next s) ∧
  (e.wordWait = false → exec (.driverAck q) s = .next s ∧ exec (.configWordNoack q) s = .next s) ∧
  (e.wordWait = true → e.clr ≠ some .ack →
    Does (.driverAck q) s (settle q.val (updEy q.val (fun e => { e with wordWait := false, ack := true }) s.m)) ∧
    Does (.configWordNoack q) s (latchPort q.val .noack (updEy q.val (fun e => { e with wordWait := false, ack := false }) s.m))) ∧
  (e.wordWait = true → e.clr = some .ack →
    Does (.driverAck q) s (settle q.val (releaseShed q.val (endClears q.val .ok
      (updEy q.val (fun e => { e with wordWait := false, ack := true, latched := false }) s.m)))) ∧
    Does (.configWordNoack q) s (endClears q.val .faulted (latchPort q.val .noack
      (updEy q.val (fun e => { e with wordWait := false, ack := false }) s.m)))) ∧
  (e.clr = some .enLow ∨ e.clr = some .faultHigh →
    (e.faultN = true → (clusterOf s.m q.val).isSome = true → Does (.eyeClearProgress q) s (settle q.val (updEy q.val (fun e =>
      { e with clr := some .ack, word := configWord e.mode q.val, code := manchester (configWord e.mode q.val), wordWait := true, ack := false }) s.m))) ∧
    (e.faultN = true → clusterOf s.m q.val = none →
      Does (.eyeClearProgress q) s (endClears q.val .faulted (updEy q.val (fun e => { e with cause := .noack }) s.m))) ∧
    (e.faultN = false → exec (.eyeClearProgress q) s = .next s) ∧
    (due s.m (e.clrSince + 100000000) = true → Does (.eyeClearTimeout q) s (endClears q.val .faulted s.m)) ∧
    (due s.m (e.clrSince + 100000000) = false → exec (.eyeClearTimeout q) s = .next s)) ∧
  (e.clr = none ∨ e.clr = some .ack → exec (.eyeClearProgress q) s = .next s ∧ exec (.eyeClearTimeout q) s = .next s) ∧
  (∀ (v client n : Nat), clusterOf s.m q.val = some n → v % 8 ≤ 3 → ¬(v % 8 = 2 ∧ e.mode = .static_) → s.m.sys.mode = .service → lcOf s.m = .service →
    (clAt s.m n).run.st = .off → Does (.eyeForceWrite q v client) s (settle q.val (updEy q.val (fun e => { e with force := .ofCode (v % 8) }) s.m))) ∧
  (∀ (v client : Nat), v % 8 > 3 → Does (.eyeForceWrite q v client) s
    (logEvent 0x20 q.val client [byte (v % 8)] { s.m with eye := { s.m.eye with bothRef := inc8 s.m.eye.bothRef } })) ∧
  (∀ (v client : Nat), v % 8 ≤ 3 → (clusterOf s.m q.val = none ∨ s.m.sys.mode ≠ .service ∨ lcOf s.m ≠ .service ∨ (v % 8 = 2 ∧ e.mode = .static_)) →
    exec (.eyeForceWrite q v client) s = .next s)

/-- SYNC_IN edges, OFFSET, captures and repetitive control (R130, R131, R132, R159, R160, R180, R181, R182, R188). -/
def Obligations.SynchronisationCapturesAndLearningAdvance : Prop :=
∀ s : State,
  (∀ (n : Fin 8) (t : Nat), let c := clAt s.m n.val
    let fresh := updDyn n.val (fun x => { x with lastEdge := some t, edges := 1 }) s.m
    (c.cfg.syncIn = false ∨ c.cfg.type = .unused ∨ awake s.m = false → exec (.syncInEdge n t) s = .next s) ∧
    (c.cfg.syncIn = true → c.cfg.type ≠ .unused → awake s.m = true → c.dyn.lastEdge = none → Does (.syncInEdge n t) s fresh) ∧
    (∀ t0 : Nat, c.cfg.syncIn = true → c.cfg.type ≠ .unused → awake s.m = true → c.dyn.lastEdge = some t0 → t0 ≤ t →
      let per := c.cfg.period * c.cfg.syncMul
      ((t - t0) * 100 < per * 98 ∨ (t - t0) * 100 > per * 102 →
        (c.dyn.srcSync = true → exec (.syncInEdge n t) s = .next s) ∧ (c.dyn.srcSync = false → Does (.syncInEdge n t) s fresh)) ∧
      ((t - t0) * 100 ≥ per * 98 → (t - t0) * 100 ≤ per * 102 →
        let p := updDyn n.val (fun x => { x with lastEdge := some t, edges := min (x.edges + 1) 8 }) s.m
        ((clAt p n.val).dyn.edges ≥ 8 → c.dyn.srcSync = false → Does (.syncInEdge n t) s (changeSource n.val true t p)) ∧
        (c.dyn.srcSync = true → Does (.syncInEdge n t) s (shiftCluster n.val ((t : Int) - t0) p)) ∧
        ((clAt p n.val).dyn.edges < 8 → c.dyn.srcSync = false → Does (.syncInEdge n t) s p)))) ∧
  (∀ n : Fin 8, let c := clAt s.m n.val
    let p := updDyn n.val (fun x => { x with edges := 0, lastEdge := none }) s.m
    (c.cfg.syncIn = false → exec (.syncInEdgesMissing n) s = .next s) ∧
    (c.cfg.syncIn = true → c.dyn.srcSync = false → Does (.syncInEdgesMissing n) s p) ∧
    (c.cfg.syncIn = true → c.dyn.srcSync = true → Does (.syncInEdgesMissing n) s
      (changeSource n.val false (c.dyn.lastEdge.getD 0) (clEvt n.val (fun e => { e with syncFb := true }) p)))) ∧
  (∀ (n : Fin 8) (val mask : Nat), let new := wr val mask 9 0 (clAt s.m n.val).rw.offset
    ((clAt s.m n.val).cfg.type ≠ .unused → offsetOk s.m n.val new = true →
      Does (.syncOffsetWrite n val mask) s (updDyn n.val (fun d => { d with offPend := some new }) s.m)) ∧
      ((clAt s.m n.val).cfg.type = .unused ∨ offsetOk s.m n.val new = false → exec (.syncOffsetWrite n val mask) s = .next s)) ∧
  (∀ (n new : Nat) (p : Pkg), (clAt p n).dyn.offPend = some new → let p1 := updDyn n (fun d => { d with offPend := none }) p
    (offsetOk p n new = true → offsetTake n p = setOffset n new p1) ∧ (offsetOk p n new = false → offsetTake n p = p1)) ∧
  (s.m.pwr.capt.st = .armed → triggerOn s.m = true → Does .captureTrigger s
    { s.m with pwr := { s.m.pwr with capt := { s.m.pwr.capt with st := .filling } } }) ∧
  (s.m.pwr.capt.st ≠ .armed ∨ triggerOn s.m = false → exec .captureTrigger s = .next s) ∧
  (∀ data : List Byte, let c := s.m.pwr.capt
    (c.st = .filling → Does (.captureFull data) s (finishWork c.work .ok { s.m with pwr := { s.m.pwr with capt := { c with
      st := .full, data := pad 8 data ++ toLe 4 c.trigIdx ++ toLe 4 c.length ++ pad (c.chans.length * c.length * 2) (data.drop 8) } } })) ∧
      (c.st ≠ .filling → exec (.captureFull data) s = .next s)) ∧
  (∀ l : Fin 128, let x := laneAt s.m l.val; let k := x.cfg.slot; let m := rcmOf s.m x
    (x.cfg.used = false ∨ x.cfg.rc = false ∨ x.cfg.slow = true → exec (.rcLearningStep l) s = .next s) ∧
    (x.cfg.used = true → x.cfg.rc = true → x.cfg.slow = false → x.rc.clear = false → x.rc.st = .coast → nValid m.n = true →
      Does (.rcLearningStep l) s (updLane l.val (fun y => { y with rc := { y.rc with
        clear := false, eSum := 0, eN := 0, c := m.mem.getD ((m.index + x.rw.lead) % m.n) 0, fade := y.rc.fade - 1 } }) s.m)) ∧
    (x.cfg.used = true → x.cfg.rc = true → x.cfg.slow = false → x.rc.clear = false → x.rc.st = .off → nValid m.n = true → k < s.m.ce.rcm.length →
      let m1 : RcMem := { m with index := min (m.index + 1) (m.n - 1) }
      Does (.rcLearningStep l) s (updLane l.val (fun y => { y with rc := { y.rc with
        clear := false, eSum := 0, eN := 0, c := m1.mem.getD ((m1.index + x.rw.lead) % m1.n) 0, fade := y.rc.fade - 1 } })
          (updRcm k (fun _ => m1) s.m))) ∧
    (x.cfg.used = true → x.cfg.rc = true → x.cfg.slow = false → x.rc.clear = false → x.rc.st = .learn → nValid m.n = true →
      (clAt s.m x.cfg.cluster).run.st = .regulate → x.rc.eN ≠ 0 → k < s.m.ce.rcm.length →
      let m1 : RcMem := { m with mem := upd m.mem m.index (fun _ => learnEntry x.rw m (rdiv x.rc.eSum x.rc.eN)), index := min (m.index + 1) (m.n - 1) }
      Does (.rcLearningStep l) s (updLane l.val (fun y => { y with rc := { y.rc with
        clear := false, eSum := 0, eN := 0, c := m1.mem.getD ((m1.index + x.rw.lead) % m1.n) 0, fade := min (y.rc.fade + 1) 200 } })
          (updRcm k (fun _ => m1) s.m))) ∧
    (x.rc.st = .learn ∨ x.rc.st = .hold → (rcPhase s.m x).seen = none ∨ nValid m.n = false → Does (.rcCoast l) s
      (ceEvt (fun v => { v with rcCoast := true }) (updLane l.val (fun x => { x with rc := { x.rc with st := .coast, good := 0 } }) s.m))) ∧
    (∀ t : Nat, (rcPhase s.m x).seen = some t → due s.m (t + 40000000) = false → nValid m.n = true → exec (.rcCoast l) s = .next s) ∧
    (x.rc.st = .coast → x.rc.good ≥ 2 → x.rc.req = .learn ∨ x.rc.req = .hold → Does (.rcResume l) s
      (updRcm k (fun m => { m with index := 0 }) (updLane l.val (fun x => { x with rc := { x.rc with st := x.rc.req } }) s.m))) ∧
    (x.rc.st ≠ .coast ∨ x.rc.good < 2 ∨ (x.rc.req ≠ .learn ∧ x.rc.req ≠ .hold) → exec (.rcResume l) s = .next s))

/-- Training, blocks and electrical idle of an inter-vessel lane (R17, R385, R387, R389, R390, R391, R392, R396, R399,
R400, R401, R402). -/
def Obligations.LanesTrainReceiveAndIdle : Prop :=
∀ (s : State) (l : Fin 8), let x := flAt s.m l.val
  (∀ f : TrainIn, x.st = .down ∨ x.st = .disabled ∨ awake s.m = false → exec (.trainingFrame l f) s = .next s) ∧
  (∀ f : TrainIn, awake s.m = true → x.st = .up →
    (f.marker = false ∨ x.train.upMarks = 0 → Does (.trainingFrame l f) s
      (updFl l.val (fun x => { x with train := { x.train with upMarks := if f.marker = true then 1 else 0 } }) s.m)) ∧
    (f.marker = true → x.train.upMarks ≥ 1 → Does (.trainingFrame l f) s (laneFall l.val s.m))) ∧
  (∀ f : TrainIn, awake s.m = true → x.st ≠ .down → x.st ≠ .disabled → x.st ≠ .up → let p := updFl l.val (trainStep s.m.clk f) s.m
    ((flAt p l.val).st = .search ∨ (flAt p l.val).train.bad < 16 → Does (.trainingFrame l f) s p) ∧
      ((flAt p l.val).st ≠ .search → (flAt p l.val).train.bad ≥ 16 → Does (.trainingFrame l f) s (laneFall l.val p))) ∧
  (x.st = .search → due s.m (x.train.since + 10000000) = true → Does (.searchTimeout l) s
    (updFl l.val (fun x => { x with train := { x.train with since := s.m.clk, markers := 0, bad := 0 } }) s.m)) ∧
  (x.st ≠ .search ∨ due s.m (x.train.since + 10000000) = false → exec (.searchTimeout l) s = .next s) ∧
  (x.st = .equalise → due s.m (x.train.since + 50000000) = true → Does (.equaliseTimeout l) s (toSearch l.val true true s.m)) ∧
  (x.st ≠ .equalise ∨ due s.m (x.train.since + 50000000) = false → exec (.equaliseTimeout l) s = .next s) ∧
  (∀ levels : List Nat, (x.st ≠ .up ∧ x.st ≠ .countdown) ∨ x.data.rxIdle = true ∨ x.data.wait.isSome = true →
    exec (.blockReceived l levels) s = .next s) ∧
  (∀ (levels : List Nat), x.st = .up → x.data.rxIdle = false → x.data.wait = none → x.run = none →
    let ls := ((levels ++ List.replicate 1088 0).take 1088).map (· % 4)
    let g := if x.data.preRx = true then unprecode x.data.rxP ls else (ls, x.data.rxP)
    let u := rsUnblock (bytesOfSyms g.1)
    let c := scramble x.data.rxScr (u.1.getD (List.replicate 256 0))
    let p := updFl l.val (fun x => { x with corr := satAdd 0xFFFFFFFF x.corr u.2.1, errNow := (x.errNow.1 + u.2.2, x.errNow.2 + 1)
                                            data := { x.data with rxP := g.2, rxScr := c.2 } }) s.m
    (u.1 = none → Does (.blockReceived l levels) s (blockBad l.val p)) ∧
      (u.1.isSome = true → Does (.blockReceived l levels) s
        (takeFlits l.val ((List.range 8).map (fun k => ((c.1.drop (32 * k)).take 32).map byte)) p))) ∧
  (laneUp s.m l.val = true → Does (.idleEnter l) s
    (updFl l.val (fun x => { x with data := { x.data with rxIdle := true, wait := some (s.m.clk, true) } }) s.m)) ∧
  (laneUp s.m l.val = false → exec (.idleEnter l) s = .next s) ∧
  (x.st = .up → x.data.wait = none → Does (.electricalIdleDetected l) s
    (updFl l.val (fun x => { x with data := { x.data with wait := some (s.m.clk, false) } }) s.m)) ∧
  (x.st ≠ .up ∨ x.data.wait.isSome = true → exec (.electricalIdleDetected l) s = .next s) ∧
  (∀ (t : Nat) (asked : Bool), x.st = .up → x.data.wait = some (t, asked) →
    Does (.picotMarker l) s (updFl l.val (fun x => { x with
      resyncs := if asked = true then x.resyncs else inc8 x.resyncs
      data := { x.data with wait := none, rxIdle := false, rxScr := 0x7FFFFFFF, rxP := 0 } }) s.m) ∧
    (due s.m (t + (if asked = true then 2000000 else 2000)) = true → Does (.picotWaitTimeout l) s (laneFall l.val s.m)) ∧
    (due s.m (t + (if asked = true then 2000000 else 2000)) = false → exec (.picotWaitTimeout l) s = .next s)) ∧
  (x.st ≠ .up ∨ x.data.wait = none → exec (.picotMarker l) s = .next s ∧ exec (.picotWaitTimeout l) s = .next s) ∧
  (drives s.m = true → x.st = .up → x.data.txIdle = true → due s.m (x.data.txIdleAt + 205) = true →
    (nlAt s.m l.val).txq ≠ [] ∨ due s.m (x.data.txIdleAt + 1000000) = true →
    Does (.idleExit l) s (updFl l.val (fun x => { x with picot := inc32 x.picot, data := { x.data with
      txIdle := false, txScr := 0x7FFFFFFF, txP := 0, line := (List.range 512).map (fun i => i % 2 * 3) ++ marker } }) s.m)) ∧
  (x.st ≠ .up ∨ x.data.txIdle = false ∨ drives s.m = false ∨ due s.m (x.data.txIdleAt + 205) = false → exec (.idleExit l) s = .next s) ∧
  (x.st = .down ∨ x.st = .disabled ∨ (x.st = .up ∧ x.data.txIdle = true) ∨ drives s.m = false → exec (.laneTransmitBlock l) s = .next s) ∧
  (drives s.m = true → (x.st = .up ∧ x.data.txIdle = false) ∨ (x.st = .countdown ∧ x.train.counted = true) → Does (.laneTransmitBlock l) s (sendBlock l.val s.m)) ∧
  (drives s.m = true → x.st = .search ∨ x.st = .locked ∨ x.st = .equalise ∨ x.st = .ready ∨ (x.st = .countdown ∧ x.train.counted = false) →
    Does (.laneTransmitBlock l) s (sendTraining l.val s.m))

/-- Lane register writes, eye scans and fault injections (R396, R400, R403, R404, R405, R406, R407, R408). -/
def Obligations.LaneRegistersScansAndInjectionsAct : Prop :=
∀ (s : State) (l : Fin 8), let x := flAt s.m l.val
  (laneUp s.m l.val = true → Does (.retrain l) s (toSearch l.val false true s.m)) ∧
  (laneUp s.m l.val = false → exec (.retrain l) s = .next s) ∧
  (x.st = .disabled → Does (.laneEnableWrite l true) s (toSearch l.val true false (updFl l.val (fun x => { x with enable := true }) s.m))) ∧
  (x.st ≠ .disabled → Does (.laneEnableWrite l true) s (updFl l.val (fun x => { x with enable := true }) s.m)) ∧
  (x.st = .disabled → Does (.laneEnableWrite l false) s (updFl l.val (fun x => { x with enable := false }) s.m)) ∧
  (x.st ≠ .disabled → let p := updFl l.val (fun x => { x with
      enable := false, st := .disabled, train := { prbs := x.train.prbs }
      data := { x.data with txIdle := true, rxIdle := false, wait := none, line := [] } }) s.m
    (laneUp s.m l.val = true → Does (.laneEnableWrite l false) s (laneLost l.val (scanLost l.val p))) ∧
      (laneUp s.m l.val = false → Does (.laneEnableWrite l false) s p)) ∧
  (∀ on : Bool, Does (.idleReqWrite l on) s (updFl l.val (fun x => { x with idleReq := on }) s.m)) ∧
  (∀ errors : Nat, x.scan = none ∨ (∃ e, x.scan = some e ∧ e.on = false) → exec (.eyeScanPoint l errors) s = .next s) ∧
  (∀ (errors : Nat) (e : EyeScan), x.scan = some e → e.on = true →
    (e.counts.length + 1 < scanPoints e → Does (.eyeScanPoint l errors) s
      (updFl l.val (fun x => { x with scan := some { e with counts := e.counts ++ [min errors 0xFFFFFFFF] } }) s.m)) ∧
    (e.counts.length + 1 ≥ scanPoints e → Does (.eyeScanPoint l errors) s (finishWork e.work .ok
      (updFl l.val (fun x => { x with scan := some { e with counts := e.counts ++ [min errors 0xFFFFFFFF], on := false, t1 := s.m.tim.now } }) s.m)))) ∧
  (∀ (v client : Nat), v > 3600 ∨ s.m.sys.mode = .retired → exec (.injWindowWrite v client) s = .next s) ∧
  (∀ (v client : Nat), 1 ≤ v → v ≤ 3600 → s.m.sys.mode ≠ .retired →
    Does (.injWindowWrite v client) s { s.m with dfl := { s.m.dfl with window := v, client := client } }) ∧
  (∀ client : Nat, s.m.sys.mode ≠ .retired → lcOf s.m = .field → Does (.injWindowWrite 0 client) s
    ((List.range 8).foldl (fun p l => injEnd l .ok p) { s.m with dfl := { s.m.dfl with window := 0, client := client } })) ∧
  (s.m.dfl.window ≥ 2 ∨ lcOf s.m ≠ .field → Does .injWindowTick s { s.m with dfl := { s.m.dfl with window := s.m.dfl.window - 1 } }) ∧
  (s.m.dfl.window ≤ 1 → lcOf s.m = .field → Does .injWindowTick s
    ((List.range 8).foldl (fun p l => injEnd l .ok p) { s.m with dfl := { s.m.dfl with window := 0 } })) ∧
  (x.run = none → exec (.injectionEnd l) s = .next s) ∧
  (∀ i : Injection, x.run = some i →
    (due s.m i.until_ = true ∨ (i.maxEv ≠ 0 ∧ x.inj ≥ i.maxEv) ∨ (lcOf s.m = .field ∧ s.m.dfl.window = 0) →
      Does (.injectionEnd l) s (finishWork i.work .ok (updFl l.val (fun x => { x with run := none }) s.m))) ∧
    (due s.m i.until_ = false → i.maxEv = 0 ∨ x.inj < i.maxEv → lcOf s.m ≠ .field ∨ s.m.dfl.window ≠ 0 →
      exec (.injectionEnd l) s = .next s))

/-- HELLO, link state, routes and time exchanges (R413, R414, R415, R416, R419, R421, R422, R438, R439, R440). -/
def Obligations.NeighboursLinksAndTimeAreExchanged : Prop :=
∀ s : State,
  (awake s.m = false → exec .helloSend s = .next s ∧ exec .syncExchangeSend s = .next s ∧ exec .lsaSend s = .next s ∧
    ∀ (l : Fin 8) (b : List Byte) (f : SyncIn), exec (.hello l b) s = .next s ∧ exec (.lsa l b) s = .next s ∧ exec (.syncPacket l f) s = .next s) ∧
  (awake s.m = true → Does .helloSend s ((upLanes s.m).foldl (fun p l =>
    sendLocal l 1 (toBe 8 p.dfn.serial ++ toBe 2 (nodeAddr p) ++ toBe 2 p.dfn.disc ++ [byte l, byte (bit (activeDie p == some .b))]
      ++ toBe 4 ((p.ldg.nv.map_.map (·.ver)).getD 0) ++ toBe 2 (timeWord p)) p) s.m)) ∧
  (awake s.m = true → Does .syncExchangeSend s ((upLanes s.m).foldl (fun p l =>
    updNl l (fun x => { x with t1 := some (p.tim.now * 1000) }) (sendLocal l 1 (toBe 8 (p.tim.now * 1000)) p)) s.m)) ∧
  (∀ (l : Fin 8) (b : List Byte), laneUp s.m l.val = false → exec (.hello l b) s = .next s ∧ exec (.lsa l b) s = .next s) ∧
  (∀ (l : Fin 8) (b : List Byte), awake s.m = true → laneUp s.m l.val = true → pktOf b = none →
    ∀ c : Instr, c = .hello l b ∨ c = .lsa l b → Does c s { s.m with dfn := { s.m.dfn with crc := inc16 s.m.dfn.crc } }) ∧
  (∀ (l : Fin 8) (w : List Byte) (k : NPkt), awake s.m = true → laneUp s.m l.val = true → pktOf w = some k → k.dst = 0xFFFE →
    k.data.length ≠ 20 → exec (.hello l w) s = .next s) ∧
  (∀ (l : Fin 8) (w : List Byte) (k : NPkt), awake s.m = true → laneUp s.m l.val = true → pktOf w = some k → k.dst = 0xFFFE →
    k.data.length = 20 → let b := k.data
    let n : Nbr := { serial := be b 0 8, node := be b 8 2, disc := be b 10 2, lane := be b 12 1 % 8, die := be b 13 1 % 2
                     mapVer := be b 14 4, time := be b 18 2, heard := s.m.clk }
    let p := updNl l.val (fun x => { x with nbr := some n }) s.m
    let a := if n.node ≠ 0 then n.node else n.disc
    (∀ o : Nbr, (nlAt s.m l.val).nbr = some o → o.serial = n.serial → o.node = n.node → o.disc = n.disc →
      Does (.hello l w) s (timeState (timeSource (discover a n.serial (clash n.disc n.serial p))))) ∧
    ((nlAt s.m l.val).nbr = none → Does (.hello l w) s (timeState (timeSource (discover a n.serial (clash n.disc n.serial
      { p with dfn := { p.dfn with lsaDue := true, dirty := true } }))))) ) ∧
  (∀ (l : Fin 8) (n : Nbr), (nlAt s.m l.val).nbr = some n →
    (due s.m (n.heard + 30000000) = true → Does (.neighbourAbsent l) s (laneLost l.val s.m)) ∧
      (due s.m (n.heard + 30000000) = false → exec (.neighbourAbsent l) s = .next s)) ∧
  (∀ l : Fin 8, (nlAt s.m l.val).nbr = none → exec (.neighbourAbsent l) s = .next s) ∧
  (s.m.dfn.lsaDue = false → due s.m (s.m.dfn.lsaAt + 1000000000) = false → exec .lsaSend s = .next s) ∧
  (awake s.m = true → s.m.dfn.lsaDue = true ∨ due s.m (s.m.dfn.lsaAt + 1000000000) = true →
    let n := (s.m.dfn.lsaSeq + 1) % 2 ^ 32
    Does .lsaSend s (floodSend 0 (toBe 2 (myAddr s.m) ++ toBe 4 n ++ [byte (ownLinks s.m).length, 0]
      ++ ((ownLinks s.m).map (fun k => toBe 2 k.nbr ++ [byte k.lane, byte k.peer, byte k.l, byte k.e, byte k.u, 0])).flatten)
        { s.m with dfn := { s.m.dfn with lsaSeq := n, lsaAt := s.m.clk, lsaDue := false
                                         lane := s.m.dfn.lane.map (fun x => { x with flooded := (x.l, x.e, x.u) }) } })) ∧
  (∀ (l : Fin 8) (w : List Byte) (k : NPkt), awake s.m = true → laneUp s.m l.val = true → pktOf w = some k → k.dst = 0xFFFF →
    be k.data 0 2 = myAddr s.m ∨ k.data.length ≠ 8 + 8 * be k.data 6 1 → exec (.lsa l w) s = .next s) ∧
  (∀ (l : Fin 8) (w : List Byte) (k : NPkt) (x : Lsa), awake s.m = true → laneUp s.m l.val = true → pktOf w = some k → k.dst = 0xFFFF →
    s.m.dfn.lsas.find? (fun x => x.origin == be k.data 0 2) = some x → newer (be k.data 2 4) x.seq = false → exec (.lsa l w) s = .next s) ∧
  (∀ (l : Fin 8) (w : List Byte) (k : NPkt), awake s.m = true → laneUp s.m l.val = true → pktOf w = some k → k.kind = 3 → k.dst = 0xFFFF →
    let b := k.data
    be b 0 2 ≠ myAddr s.m → b.length = 8 + 8 * be b 6 1 →
    s.m.dfn.lsas.find? (fun x => x.origin == be b 0 2) = none →
      let p : Pkg := { s.m with dfn := { s.m.dfn with dirty := true, lsas :=
        { origin := be b 0 2, seq := be b 2 4, links := lsaLinks b, at_ := s.m.clk } :: s.m.dfn.lsas.filter (fun x => x.origin != be b 0 2) } }
      (k.ttl > 1 → Does (.lsa l w) s (discover (be b 0 2) 0 (((upLanes p).filter (· != l.val)).foldl (fun p m =>
        sendOn m { k with ttl := k.ttl - 1 } p) p))) ∧
      (k.ttl ≤ 1 → Does (.lsa l w) s (discover (be b 0 2) 0 p))) ∧
  (∀ (o : Nat) (x : Lsa), s.m.dfn.lsas.find? (fun x => x.origin == o) = some x →
    (due s.m (x.at_ + 3000000000) = true → Does (.lsaAgeOut o) s
      { s.m with dfn := { s.m.dfn with lsas := s.m.dfn.lsas.filter (fun y => y.origin != o), dirty := true } }) ∧
      (due s.m (x.at_ + 3000000000) = false → exec (.lsaAgeOut o) s = .next s)) ∧
  (s.m.dfn.dirty = false → exec .routeRecompute s = .next s) ∧
  (s.m.dfn.dirty = true → Does .routeRecompute s (s.m.dfn.held.foldl (fun p k => sendPkt k p) { s.m with dfn := { s.m.dfn with
    dests := mapI (fun i d => { d with routes := ((List.range 16).map (classRoutes s.m)).map (fun rs => rs.getD i {}) }) s.m.dfn.dests
    dirty := false, held := [] } })) ∧
  (∀ (l : Fin 8) (t1 t2 t3 : Nat), awake s.m = true → laneUp s.m l.val = true →
    Does (.syncPacket l (.request t1 t2 t3)) s (sendLocal l.val 1 (toBe 8 t1 ++ toBe 8 t2 ++ toBe 8 t3) s.m)) ∧
  (∀ (l : Fin 8) (t1 t2 t3 t4 : Nat), (nlAt s.m l.val).t1 = none → exec (.syncPacket l (.reply t1 t2 t3 t4)) s = .next s) ∧
  (∀ (l : Fin 8) (t1 t2 t3 t4 : Nat), awake s.m = true → laneUp s.m l.val = true → (nlAt s.m l.val).t1.isSome = true →
    let d1 : Int := (t2 : Int) - t1; let d2 : Int := (t4 : Int) - t3
    let e : SyncEx := { rtt := (d1 + d2).toNat, offset := (d1 - d2) / 2 }
    Does (.syncPacket l (.reply t1 t2 t3 t4)) s
      (upExchange l.val e (timeSource (updNl l.val (fun x => { x with t1 := none, exs := cap 8 (e :: x.exs) }) s.m))))

/-- Packets at a lane, streams with their acknowledgements, floods, and mirroring (R411, R416, R423, R424, R425, R426,
R428, R431, R432, R433, R434). -/
def Obligations.PacketsStreamsAndMirrorsAdvance : Prop :=
∀ s : State,
  (∀ (l : Fin 8) (b : List Byte), awake s.m = false ∨ laneUp s.m l.val = false →
    exec (.dataPacket l b) s = .next s ∧ exec (.streamAck l b) s = .next s ∧ exec (.floodPacket l b) s = .next s) ∧
  (∀ (l : Fin 8) (b : List Byte), awake s.m = true → laneUp s.m l.val = true → pktOf b = none →
    ∀ c : Instr, c = .dataPacket l b ∨ c = .streamAck l b ∨ c = .floodPacket l b →
      Does c s { s.m with dfn := { s.m.dfn with crc := inc16 s.m.dfn.crc } }) ∧
  (∀ (l : Fin 8) (b : List Byte) (k : NPkt), awake s.m = true → laneUp s.m l.val = true → pktOf b = some k →
    (k.dst = 0xFFFE ∨ k.dst = myAddr s.m ∨ k.dst = 0xFFFF →
      Does (.dataPacket l b) s (dataIn k s.m) ∧ Does (.streamAck l b) s (streamAck k s.m) ∧ Does (.floodPacket l b) s (floodIn l.val k s.m)) ∧
    (k.dst < 0xF000 → k.dst ≠ 0 → k.dst ≠ myAddr s.m → ∀ c : Instr, c = .dataPacket l b ∨ c = .streamAck l b ∨ c = .floodPacket l b →
      (k.ttl ≤ 1 → Does c s { s.m with dfn := { s.m.dfn with ttl := inc16 s.m.dfn.ttl } }) ∧
      (k.ttl > 1 → Does c s (sendPkt { k with ttl := k.ttl - 1 } s.m)))) ∧
  (∀ (p0 : Pkg) (k : NPkt), k.kind = 1 → k.dst ≠ 0xFFFF → k.dst ≠ 0xFFFE →
    let p : Pkg := { p0 with dfn := { p0.dfn with rxs := p0.dfn.rxs.filter (fun s => s.src != k.src || s.epoch == k.epoch) } }
    let r := rxFor k p; let ahead := (k.seq + 2 ^ 32 - r.next) % 2 ^ 32; let q := putRx r p
    (ahead ≥ 2 ^ 31 → dataIn k p0 = ackSend k.src k.cls { q with dfn := { q.dfn with dups := inc32 p.dfn.dups } }) ∧
    (64 < ahead → ahead < 2 ^ 31 → dataIn k p0 = q) ∧
    (ahead ≤ 64 → r.buf.any (fun x => x.1 == k.seq) = false → dataIn k p0 =
      ackFour k.src k.cls (deliverRun k.src k.cls 65 (putRx { r with buf := r.buf ++ [(k.seq, k.data)] } p)))) ∧
  (∀ (p : Pkg) (k : NPkt), k.kind ≠ 2 ∨ k.data.length ≠ 16 ∨ be k.data 2 2 ≠ myEpoch p → streamAck k p = p) ∧
  (∀ (l : Nat) (p : Pkg) (k : NPkt) (w : FloodWin), p.dfn.floods.find? (fun w => w.src == k.src) = some w → (floodStep w k.seq).1 = false →
    floodIn l k p = p) ∧
  (∀ (src : Nat) (cls : Fin 16) (r : RxStream), rxAt s.m src cls.val = some r →
    (r.owed > 0 → awake s.m = true → Does (.streamAckSend src cls) s (ackSend src cls.val s.m)) ∧
      (r.owed = 0 → exec (.streamAckSend src cls) s = .next s)) ∧
  (∀ (dst : Nat) (cls : Fin 16) (seq t : Nat) (x : TxStream) (u : Unacked), let p := advance t s.m
    p.dfn.txs.find? (fun s => s.dst == dst && s.cls == cls.val) = some x → x.out.find? (fun u => u.seq == seq) = some u →
    (awake p = true → p.clk ≥ u.sent + u.rto → Does (.rtoExpiry dst cls seq t) s (resend x u p)) ∧
      (p.clk < u.sent + u.rto → Does (.rtoExpiry dst cls seq t) s p)) ∧
  (∀ (dst : Nat) (cls : Fin 16) (x : TxStream), s.m.dfn.txs.find? (fun s => s.dst == dst && s.cls == cls.val) = some x →
    (x.out ≠ [] → x.lost = false → due s.m (x.acked + 10000000000) = true → Does (.peerLost dst cls) s
      (dfnEvt (fun e => { e with peerLost := true })
        { s.m with dfn := { s.m.dfn with txs := s.m.dfn.txs.map (fun x => if x.dst = dst ∧ x.cls = cls.val then { x with lost := true } else x) } })) ∧
      (x.out = [] ∨ x.lost = true ∨ due s.m (x.acked + 10000000000) = false → exec (.peerLost dst cls) s = .next s)) ∧
  (∀ (src : Nat) (b : List Byte) (ok : Bool), awake s.m = false ∨ nodeAddr s.m = 0 ∨ b.length < 12 ∨ ok = false ∨ s.m.mtr.nvBlock = true →
    exec (.mirror src b ok) s = .next s) ∧
  (∀ (src : Nat) (b : List Byte), awake s.m = true → nodeAddr s.m ≠ 0 → b.length ≥ 12 → s.m.mtr.nvBlock = false →
    let r : MirRec := { id := be b 0 8, kind := be b 8 1, data := b.drop 12 }
    let cs := (src, r) :: s.m.dfn.nv.copies.filter (fun x => !(x.1 == src && x.2.id == r.id && x.2.kind == r.kind))
    let q := if r.kind = 2 then mirrorTable src r.data s.m else s.m
    Does (.mirror src b true) s (ownAck r (streamSend src 2 (toBe 8 r.id ++ [0]) { q with dfn := { q.dfn with nv := { q.dfn.nv with copies := cs } } }))) ∧
  (nodeAddr s.m ≠ 0 → awake s.m = true → buddyLost s.m = true → Does .mirrorTargetTimeout s
    (setTarget (standIn s.m) (if standIn s.m = 0 then .local_ else .standIn) s.m)) ∧
  (nodeAddr s.m = 0 ∨ awake s.m = false ∨ buddyLost s.m = false → exec .mirrorTargetTimeout s = .next s) ∧
  (∀ t : Nat, s.m.dfn.noTarget = some t →
    (due s.m (t + 1000000000) = true → Does .mirrorLocalTimeout s (ledgerSettle { s.m with dfn := { s.m.dfn with mirState := .local_, target := 0 } })) ∧
      (due s.m (t + 1000000000) = false → exec .mirrorLocalTimeout s = .next s)) ∧
  (s.m.dfn.noTarget = none → exec .mirrorLocalTimeout s = .next s) ∧
  (nodeAddr s.m = 0 ∨ awake s.m = false → exec .mirrorCatchUp s = .next s) ∧
  (nodeAddr s.m ≠ 0 → awake s.m = true → let b := buddyOf s.m (nodeAddr s.m)
    (b ≠ 0 → reachable s.m b = true → Does .mirrorCatchUp s (setTarget b .buddy s.m)) ∧
    (b = 0 ∨ reachable s.m b = false → standIn s.m ≠ 0 → Does .mirrorCatchUp s (setTarget (standIn s.m) .standIn s.m)) ∧
    (b = 0 ∨ reachable s.m b = false → standIn s.m = 0 → exec .mirrorCatchUp s = .next s))

/-- PPS edges, the rate trim, the journal of the counter, acquisitions and steps (R556, R557, R558, R559, R560, R561,
R562, R564, R565). -/
def Obligations.TheCounterFollowsItsSources : Prop :=
∀ s : State, let t := s.m.tim; let x := t.pps
  let phi := fun stamp : Nat => ((stamp : Int) - t.delay) - nearSec ((stamp : Int) - t.delay)
  let close := fun stamp : Nat => if (phi stamp).natAbs < 18 then min 8 (x.close + 1) else 0
  let edge := fun (stamp ref : Nat) (valid : Bool) (span : Option (Nat × Nat)) => ({ x with
    valid := valid, good := min 8 (x.good + 1), close := close stamp, aligned := valid && decide (close stamp ≥ 8), phi := phi stamp
    last := some ref, lastClk := some ((s.m.clk : Int) + stamp - t.now).toNat, bad := 0, span := span } : Pps)
  let within := fun ref : Nat => x.last = none ∨ ∃ r, x.last = some r ∧ r + 24997500 ≤ ref ∧ ref ≤ r + 25002500
  let clampR := fun x : Rat => if x < -(1 / 1000) then -(1 / 1000) else if x > 1 / 1000 then 1 / 1000 else x
  (∀ stamp ref : Nat, within ref → x.valid = false → x.good < 7 →
    Does (.ppsEdge stamp ref) s (timeState (timeSource { s.m with tim := { t with pps := edge stamp ref false none } }))) ∧
  (∀ stamp ref : Nat, within ref → x.valid = true ∨ x.good ≥ 7 → x.span = none →
    Does (.ppsEdge stamp ref) s (timeState (timeSource { s.m with tim := { t with pps := edge stamp ref true (some (0, ref)) } }))) ∧
  (∀ stamp ref n r : Nat, within ref → x.valid = true → x.span = some (n, r) → n < 63 →
    Does (.ppsEdge stamp ref) s (timeState (timeSource { s.m with tim := { t with pps := edge stamp ref true (some (n + 1, r)) } }))) ∧
  (∀ stamp ref r : Nat, within ref → x.valid = true → x.span = some (63, r) →
    Does (.ppsEdge stamp ref) s (timeState (timeSource (freqMeasured (rdiv (((ref : Int) - r - 1600000000) * 10 ^ 12) 1600000000)
      { s.m with tim := { t with pps := edge stamp ref true (some (0, ref)) } })))) ∧
  (∀ stamp ref r : Nat, x.last = some r → ref < r + 24997500 ∨ r + 25002500 < ref →
    Does (.ppsEdge stamp ref) s { s.m with tim := { t with
      pps := { x with bad := min 3 (x.bad + 1), missed := cap 255 (s.m.clk :: x.missed), good := if x.valid then x.good else 0 }
      evt := { t.evt with jump := t.evt.jump || decide (x.bad + 1 ≥ 3) } } }) ∧
  (x.lastClk = none → exec .ppsLost s = .next s) ∧
  (∀ c : Nat, x.lastClk = some c → due s.m (c + 3000000000) = false → exec .ppsLost s = .next s) ∧
  (∀ c : Nat, x.lastClk = some c → due s.m (c + 3000000000) = true → Does .ppsLost s (timeState (timeSource { s.m with tim := { t with
      pps := { x with valid := false, aligned := false, good := 0, close := 0, bad := 0, last := none, lastClk := none, span := none
                      missed := cap 255 (List.replicate (3 - x.bad) s.m.clk ++ x.missed) }
      evt := { t.evt with lost := t.evt.lost || x.valid } } }))) ∧
  (t.sync = .unsync → Does .timeRateTrim s { s.m with tim := { t with fspan := none } }) ∧
  (t.sync = .pps →
    let f := match t.phiPrev with
      | some q => t.fEst + ((x.phi : Rat) - q) / 1000000000 / 16
      | none => t.fEst
    Does .timeRateTrim s { s.m with tim := { t with
      fspan := none, fEst := f, phiPrev := some (x.phi : Rat), a := clampR (-(f + (x.phi : Rat) / 8000000000)) } }) ∧
  (t.sync = .holdover → holdBin s.m = none →
    Does .timeRateTrim s { s.m with tim := { t with fspan := none, phiPrev := none, a := clampR (-t.fEst) } }) ∧
  (∀ b : Nat, t.sync = .holdover → holdBin s.m = some b → (t.hold.getD b {}).n ≠ 0 →
    let f := ((t.hold.getD b {}).e : Rat) / 10000000000
    Does .timeRateTrim s { s.m with tim := { t with
      fspan := none, fEst := f, phiPrev := none, a := clampR (-f), e := (t.hold.getD b {}).e * 100 } }) ∧
  (s.m.mtr.nvBlock = true ∨ s.m.mtr.save ≠ .none → exec .timeJournal s = .next s) ∧
  (s.m.mtr.nvBlock = false → s.m.mtr.save = .none → Does .timeJournal s { s.m with tim := { t with nvNow := t.now } }) ∧
  (t.step_ = none → exec .timeStepEffective s = .next s) ∧
  (∀ y : Step_, t.step_ = some y → t.now < y.eff ∨ s.m.sys.ldgDue = true → exec .timeStepEffective s = .next s) ∧
  (∀ y : Step_, t.step_ = some y → y.eff ≤ t.now → s.m.sys.ldgDue = false →
    let d : Int := (y.new : Int) - y.eff
    let p := moveOffset d (moveCounter d (updTim (fun t => { t with step_ := none, noAcq := false, acq := none }) s.m))
    let p' := updTim (fun t => { t with
      large := p.tim.large && decide (p.dfn.time.offset.natAbs ≥ 1000000000), sync := if t.sync = .unsync then .holdover else t.sync }) p
    let q := timEvt (fun e => { e with step := true }) (prickingCut p'.tim.now (timeShift d p'))
    Does .timeStepEffective s (finishWork y.work .ok (timeState (timeSource { q with
      bil := { q.bil with setAt := some (t.now, q.tim.now, q.clk) } })))) ∧
  (∀ d : Int, let p := moveCounter d s.m
    p.tim.now = ((t.now : Int) + d).toNat ∧ p.tim.stepSum = t.stepSum + d ∧ p.clk = s.m.clk) ∧
  (awake s.m = false ∨ t.sync ≠ .unsync ∨ t.noAcq = true ∨ s.m.sys.mode ≠ .idle ∨ agreed s.m = none →
    exec .timeAcquisition s = .next s) ∧
  (awake s.m = true → t.sync = .unsync → t.noAcq = false → s.m.sys.mode = .idle → ∀ off : Int, agreed s.m = some off →
    (t.now % 1000000 ≠ 0 → Does .timeAcquisition s { s.m with tim := { t with acq := some off } }) ∧
    (t.now % 1000000 = 0 → off < 0 → Does .timeAcquisition s { s.m with tim := { t with
      acq := none, noAcq := true, evt := { t.evt with acqRef := true } } }) ∧
    (t.now % 1000000 = 0 → 0 ≤ off →
      let p := moveOffset off (moveCounter off { s.m with tim := { t with acq := none } })
      Does .timeAcquisition s (deferred (timeState (timeSource { p with tim := { p.tim with
        sync := .holdover, evt := { p.tim.evt with acquired := true } } })))))

/-- Purl receivers and frames, acknowledgements, and the register path of a region (R192, R195, R197, R199, R200,
R202, R203, R204, R205, R208, R209, R213). -/
def Obligations.PurlFramesAndRegisterWritesCommandARegion : Prop :=
∀ (s : State) (u : Fin 8) (w : PurlIn) (t : Nat), let frame := w.bits; let p0 := advance t s.m; let r := regionOf u.val
  let seen := fun n : Nat => updPp u.val (fun x => { x with codeErr := satAdd 255 x.codeErr n, errNow := satAdd 255 x.errNow n })
  let p := seen (w.viols + w.line) p0; let x := ppAt p u.val
  let whole := purlOn p0 = true ∧ x.up = true ∧ x.upAt + 2000 ≤ p.clk ∧ w.short = false ∧ w.viols = 0
  let good := fun ty : Nat => whole ∧ frame % 256 = purlCrc frame ∧ frame / 2 ^ 61 = ty
  let p1 := updPp u.val (fun x => { x with lastOk := p.clk }) p
  let q := updPp u.val (fun x => { x with lastEnd := some p.clk }) p1
  let free := x.lastEnd = none ∨ ∃ e, x.lastEnd = some e ∧ e + 20000 ≤ p.clk
  let soon := ∃ e, x.lastEnd = some e ∧ p.clk < e + 20000
  let ahead := (fSeq frame + 256 - (ppAt p1 u.val).newest) % 256
  let newer := isRepeat p1 u.val frame = false ∧ 1 ≤ ahead ∧ ahead ≤ 127
  let stale := isRepeat p1 u.val frame = false ∧ ¬(1 ≤ ahead ∧ ahead ≤ 127)
  let v := vrAt q r
  let command := ({ kind := .command, src := .purl u.val, seq := fSeq frame, turn := q.duo.turns } : Transition)
  (∀ n : Nat, purlOn s.m = true → Does (.purlReceiverUp { u := u, viols := n }) s
    (updPp u.val (fun x => { x with up := true, idles := 4, upAt := if x.up = true then x.upAt else s.m.clk }) (seen n s.m))) ∧
  (∀ n : Nat, purlOn s.m = false → exec (.purlReceiverUp { u := u, viols := n }) s = .next s) ∧
  (∀ n : Nat, Does (.purlReceiverLoss { u := u, viols := n }) s
    (updPp u.val (fun x => { x with up := false, idles := 0 }) (if purlOn s.m = true then seen n s.m else s.m))) ∧
  (∀ c : Instr, c = .purlCommand u w t ∨ c = .purlSessionOpen u w t ∨ c = .purlSessionClose u w t ∨ c = .keepalive u w t →
    (purlOn p0 = false → Does c s p0) ∧
    (purlOn p0 = true → x.up = false ∨ p.clk < x.upAt + 2000 ∨ w.short = true ∨ w.viols ≠ 0 → Does c s p) ∧
    (whole → frame % 256 ≠ purlCrc frame → Does c s (updPp u.val (fun x => { x with crcErr := inc8 x.crcErr, errNow := inc8 x.errNow }) p)) ∧
    (whole → frame % 256 = purlCrc frame → frame / 2 ^ 61 < 1 ∨ frame / 2 ^ 61 > 3 → Does c s (discardFrame u.val p))) ∧
  (good 1 → soon → Does (.purlCommand u w t) s (discardFrame u.val p1)) ∧
  (good 1 → free → isRepeat p1 u.val frame = true → Does (.purlCommand u w t) s (repeatAck u.val q)) ∧
  (good 1 → free → stale → Does (.purlCommand u w t) s (discardFrame u.val p1)) ∧
  (good 1 → free → newer → commandCause q u.val frame ≠ 0 →
    Does (.purlCommand u w t) s (answer u.val frame .refused (commandCause q u.val frame) q)) ∧
  (good 1 → free → newer → (dcdcOf q r).isEmpty = false → rangeOk q r frame = true → tb frame 60 = false →
    v.session = some (.purl u.val) → purlSrc q r = true → cmdMode q r = true →
    Does (.purlCommand u w t) s (setCommand r (.purl u.val) (fTarget frame) (some (fIlim frame)) (fSlew frame) (fSeq frame)
      (updVr r (fun v => { v with trans := some command }) (answer u.val frame .accepted 0 (supersede r (some (fSeq frame)) false q))))) ∧
  (good 3 → tb frame 60 = true → free → isRepeat p1 u.val frame = true → Does (.purlSessionOpen u w t) s (repeatAck u.val q)) ∧
  (good 3 → tb frame 60 = true → free → isRepeat p1 u.val frame = false → openCause q u.val frame ≠ 0 →
    Does (.purlSessionOpen u w t) s (answer u.val frame .refused (openCause q u.val frame) q)) ∧
  (good 3 → tb frame 60 = true → free → isRepeat p1 u.val frame = false → (dcdcOf q r).isEmpty = false → rangeOk q r frame = true →
    purlSrc q r = true → startMode q r = true → v.session = none → v.closing = false → receiptFree q = true →
    wouldLend q r (fTarget frame) (some (fIlim frame)) = true →
    Does (.purlSessionOpen u w t) s (startSession r (.purl u.val) (fTarget frame) (some (fIlim frame)) (fSlew frame) (fSeq frame) 0 []
      (answer u.val frame .accepted 0 q))) ∧
  (good 3 → tb frame 60 = false → free → newer → closeCause q u.val frame ≠ 0 →
    Does (.purlSessionClose u w t) s (answer u.val frame .refused (closeCause q u.val frame) q)) ∧
  (good 3 → tb frame 60 = false → free → newer → (dcdcOf q r).isEmpty = false → fld frame 59 58 = 0 → v.session = some (.purl u.val) →
    let e := endSession r 8 (answer u.val frame .accepted 0 (endTrans r .refused 8 none false q))
    let e' := updVr r (fun v => { v with trans := some { kind := .close, src := .purl u.val, seq := fSeq frame, turn := q.duo.turns } }) e
    Does (.purlSessionClose u w t) s (if (vrAt e r).closing then e' else endTrans r .reached 0 none false e')) ∧
  (good 2 → fld frame 60 8 = 0 → Does (.keepalive u w t) s p1) ∧
  (good 2 → fld frame 60 8 ≠ 0 → Does (.keepalive u w t) s (discardFrame u.val p)) ∧
  (∀ g : Fin 4, let v := vrAt s.m g.val
    (∀ o : Nat, v.session = some (.purl o) → due s.m ((ppAt s.m o).lastOk + 100000000) = true →
      Does (.purlLinkLost g) s (endSession g.val 0xA (updPp o (fun x => { x with linkLost := true }) s.m))) ∧
    (∀ o : Nat, v.session = some (.purl o) → due s.m ((ppAt s.m o).lastOk + 100000000) = false → exec (.purlLinkLost g) s = .next s) ∧
    (v.session = none → exec (.purlLinkLost g) s = .next s) ∧
    (∀ on : Bool, regSrc s.m g.val = false → exec (.vcmdSessionWrite g on) s = .next s) ∧
    (regSrc s.m g.val = true → v.session = none → (dcdcOf s.m g.val).isEmpty = false → v.target ≤ vLow s.m g.val →
      startCheck s.m g.val v.target none = 0 →
      Does (.vcmdSessionWrite g true) s (updVr g.val (fun v => { v with regNew := true }) (startSession g.val .register v.target none v.slew 0 0 [] s.m))) ∧
    (regSrc s.m g.val = true → v.session.isSome = true → Does (.vcmdSessionWrite g false) s (endSession g.val 8 s.m)) ∧
    (∀ val : Nat, regSrc s.m g.val = false ∨ val > vLow s.m g.val → exec (.vcmdTargetWrite g val) s = .next s) ∧
    (∀ val : Nat, regSrc s.m g.val = true → val ≤ vLow s.m g.val →
      let y := updVr g.val (fun v => { v with target := val, writes := (v.writes + 1) % 256, reached := false }) s.m
      ((vrAt y g.val).session.isSome = true → Does (.vcmdTargetWrite g val) s (setCommand g.val .register (vrAt y g.val).target none (vrAt y g.val).slew 0
        (updVr g.val (fun v => { v with regSlew := true, regNew := true }) (supersede g.val none true y)))) ∧
      ((vrAt y g.val).session = none → (vrAt y g.val).autoOpen = false → Does (.vcmdTargetWrite g val) s y))) ∧
  (purlOn s.m = false ∨ drives s.m = false → exec (.purlAckTransmit u) s = .next s) ∧
  (purlOn s.m = true → drives s.m = true →
    ((ppAt s.m u.val).queue = [] → (ppAt s.m u.val).status = none →
      Does (.purlAckTransmit u) s (updPp u.val (fun x => { x with sending := none }) s.m)) ∧
    (∀ f : Nat, (ppAt s.m u.val).queue = [] → (ppAt s.m u.val).status = some f →
      Does (.purlAckTransmit u) s (updPp u.val (fun x => { x with sending := none, status := none, tx := f :: x.tx }) s.m)) ∧
    (∀ (a : Ack) (l : List Ack), (ppAt s.m u.val).queue = a :: l →
      Does (.purlAckTransmit u) s (updPp u.val (fun x => { x with queue := l, sending := some a, tx := ackFrame s.m a :: x.tx }) s.m)))

/-- Load-switch command frames and their loss, thermal trips, blanking, the quad budget and open load (R15, R496,
R497, R498, R499, R501, R502, R504, R574). -/
def Obligations.LoadSwitchChannelsFollowCommandsAndProtectThemselves : Prop :=
∀ (s : State) (c : Fin 24) (q : Fin 6) (clamp : List Nat) (energy : Nat), let x := lchAt s.m c.val
  let e := fun c => clamp.getD c 0
  (∀ d : Die, s.m.duo.hoop ≠ some d → Does (.lsCommandFrame { die := d, clamp := clamp }) s { s.m with duo := { s.m.duo with drops := inc32 s.m.duo.drops } }) ∧
  (∀ d : Die, s.m.duo.hoop = some d → drives s.m = true → s.m.lsw.up = true → s.m.sup.warn = false →
    let p := (List.range 24).foldl (fun p c => takeCmd (fun c => clamp.getD c 0) (lchAt p c).cmd (lchAt p c).duty c (updCh c (fun x => { x with fs := false }) p)) s.m
    Does (.lsCommandFrame { die := d, clamp := clamp }) s { p with lsw := { p.lsw with cmdAt := some s.m.clk } }) ∧
  (∀ d : Die, s.m.duo.hoop = some d → s.m.lsw.up = false ∨ s.m.sup.warn = true ∨ drives s.m = false →
    exec (.lsCommandFrame { die := d, clamp := clamp }) s = .next s) ∧
  (∀ (p : Pkg) (cmd : LCmd) (duty : Nat), let y := lchAt p c.val; let p1 := updCh c.val (fun x => { x with held := (cmd, duty) }) p
    (cmd = .off → y.st = .blank ∨ y.st = .on → takeCmd e cmd duty c.val p = switchOff c.val .off (e c.val) p1) ∧
    (cmd = .off → y.st = .tripped → takeCmd e cmd duty c.val p = updCh c.val (fun x => { x with st := .off }) p1) ∧
    (cmd = .off → y.st = .off ∨ y.st = .latched → takeCmd e cmd duty c.val p = p1) ∧
    (cmd ≠ .off → y.st = .off → takeCmd e cmd duty c.val p = updCh c.val (fun x => { x with st := .blank, blankAt := p1.clk }) p1) ∧
    (cmd ≠ .off → y.st ≠ .off → takeCmd e cmd duty c.val p = p1)) ∧
  (∀ (p : Pkg) (st : CState), switchOff c.val st energy p = { p with lsw := { p.lsw with
    ch := upd p.lsw.ch c.val (fun x => { x with st := st, limit := false, eLast := min energy 65535
                                                over40 := if energy > 400 then inc16 x.over40 else x.over40 })
    evt := { p.lsw.evt with clamp := p.lsw.evt.clamp || decide (energy > 400) } } }) ∧
  (s.m.lsw.cmdAt = none ∨ (∃ t, s.m.lsw.cmdAt = some t ∧ due s.m (t + 10000000) = false) ∨ s.m.lsw.ch.any (·.fs) = true →
    exec (.lsLinkLoss clamp) s = .next s) ∧
  (∀ t : Nat, s.m.lsw.cmdAt = some t → due s.m (t + 10000000) = true → s.m.lsw.ch.any (·.fs) = false →
    Does (.lsLinkLoss clamp) s (lswEvt (fun e => { e with linkLoss := true }) ((List.range 24).foldl (fun p c =>
      let x := lchAt p c
      let q := updCh c (fun x => { x with fs := true }) p
      match x.failsafe with
      | .off => takeCmd (fun c => clamp.getD c 0) .off 0 c q
      | .on => takeCmd (fun c => clamp.getD c 0) (if x.use = .pwm then .pwm else .on) (if x.use = .pwm then x.fsDuty else 0) c q
      | .hold => q) s.m))) ∧
  (x.conducts = false → exec (.lsThermalTrip c energy) s = .next s) ∧
  (x.conducts = true → let recent := x.trips.filter (fun t => s.m.clk < t + 1000000000)
    (x.auto = true ∧ recent.length < x.retryMax → Does (.lsThermalTrip c energy) s (lswEvt (fun e => { e with thermal := true })
      (updCh c.val (fun x => { x with trips := s.m.clk :: recent }) (switchOff c.val .tripped energy s.m)))) ∧
    (x.auto = false ∨ x.retryMax ≤ recent.length → Does (.lsThermalTrip c energy) s
      (updCh c.val (fun x => { x with cause := .thermal, trips := recent }) (switchOff c.val .latched energy s.m)))) ∧
  (x.st = .tripped → x.held.1 ≠ .off → due s.m (x.trips.headD 0 + 10000000) = true →
    Does (.lsThermalRestart c) s (updCh c.val (fun x => { x with st := .blank, blankAt := s.m.clk }) s.m)) ∧
  (x.st ≠ .tripped ∨ x.held.1 = .off ∨ due s.m (x.trips.headD 0 + 10000000) = false → exec (.lsThermalRestart c) s = .next s) ∧
  (x.st = .blank → due s.m (x.blankAt + x.blank * 1000000) = true →
    Does (.lsBlankEnd c) s (updCh c.val (fun x => { x with st := .on }) s.m)) ∧
  (x.st ≠ .blank ∨ due s.m (x.blankAt + x.blank * 1000000) = false → exec (.lsBlankEnd c) s = .next s) ∧
  (∀ meas : List (Nat × Int × Bool), let p := quadMeas q.val meas s.m
    (shedChoice p q.val = none → Does (.quadBudgetShed q meas energy) s (lswEvt (fun e => { e with budget := true }) p)) ∧
    (∀ k : Nat, shedChoice p q.val = some k →
      let p2 := updCh k (fun x => { x with cause := if (lchAt p k).limit then LCause.short else .budget }) (switchOff k .latched energy p)
      Does (.quadBudgetShed q meas energy) s (lswEvt (fun e => { e with shed := true })
        { p2 with lsw := { p2.lsw with quad := upd p2.lsw.quad q.val (fun x => { x with sheds := inc8 x.sheds }) } }))) ∧
  (∀ (p : Pkg) (k : Nat), shedChoice p q.val = some k →
    4 * q.val ≤ k ∧ k < 4 * q.val + 4 ∧ (lchAt p k).st = .on ∧
    (∀ j, 4 * q.val ≤ j → j < 4 * q.val + 4 → (lchAt p j).st = .on →
      ((lchAt p j).limit = true → (lchAt p k).limit = true ∧ (lchAt p j).tj ≤ (lchAt p k).tj) ∧
      ((lchAt p k).limit = false → (lchAt p j).i ≤ (lchAt p k).i))) ∧
  (Does (.openLoadChange c false) s (updCh c.val (fun x => { x with open_ := false }) s.m)) ∧
  ((x.olMode = 1 ∨ x.olMode = 2) ∧ x.st = .on ∨ x.olMode = 3 ∧ x.st = .off →
    Does (.openLoadChange c true) s (lswEvt (fun e => { e with open_ := true }) (updCh c.val (fun x => { x with open_ := true }) s.m))) ∧
  (¬((x.olMode = 1 ∨ x.olMode = 2) ∧ x.st = .on) → ¬(x.olMode = 3 ∧ x.st = .off) → exec (.openLoadChange c true) s = .next s)

/-- Identity samples, STATUS and IDENT frames, loss, drift and the battery journal (R512, R513, R516, R517, R525,
R526). -/
def Obligations.BatteryStringsComeGoAndAreJournaled : Prop :=
∀ (s : State) (n : Fin 16), let x := strAt s.m n.val
  let set := fun f : BStr → BStr => updStr n.val f s.m
  let sampled := fun r : Option Nat => set (fun x => { x with r := r })
  let inBand := fun r : Option Nat => ∃ v, r = some v ∧ x.cfg.rMin ≤ v ∧ v ≤ x.cfg.rMax
  let lost := batEvt (fun e => { e with lost := true }) (updStr n.val (fun x => { x with lostAt := s.m.clk }) (leaveActive n.val .lost s.m))
  (∀ r, x.st = .disabled → Does (.stringIdSample n r) s (sampled r)) ∧
  (∀ r, x.st = .absent → inBand r → x.run < 19 →
    Does (.stringIdSample n r) s (set (fun x => { x with r := r, run := x.run + 1 }))) ∧
  (∀ r, x.st = .absent → inBand r → 19 ≤ x.run →
    Does (.stringIdSample n r) s (set (fun x => { x with r := r, st := .seen, run := 0, gotSt := false, ident := none }))) ∧
  (∀ r, x.st = .absent → ¬inBand r → Does (.stringIdSample n r) s (set (fun x => { x with r := r, run := 0 }))) ∧
  (∀ r, x.st = .seen ∨ x.st = .active ∨ x.st = .lost → inBand r →
    Does (.stringIdSample n r) s (set (fun x => { x with r := r, run := 0 }))) ∧
  (∀ r, x.st = .seen ∨ x.st = .active ∨ x.st = .lost → ¬inBand r → x.run < 4 →
    Does (.stringIdSample n r) s (set (fun x => { x with r := r, run := x.run + 1 }))) ∧
  (∀ r, x.st = .seen ∨ x.st = .active ∨ x.st = .lost → ¬inBand r → 4 ≤ x.run →
    Does (.stringIdSample n r) s (batEvt (fun e => { e with removed := true }) (leaveActive n.val .absent (sampled r)))) ∧
  (∀ d : List Byte, d.length ≠ 16 → exec (.bmsStatus n d) s = .next s) ∧
  (∀ d : List Byte, d.length = 16 → x.status.count = some (be d 15 1) →
    Does (.bmsStatus n d) s (set (fun x => { x with stale := inc8 x.stale }))) ∧
  (∀ d : List Byte, d.length = 16 → x.status.count ≠ some (be d 15 1) →
    let f := parseStatus s.m.clk d
    let p := set (fun x => { x with status := f })
    (n.val < s.m.bat.str.length → f.fault = true ∨ f.closed = false →
      (x.st = .active → Does (.bmsStatus n d) s (goLost n.val p)) ∧ (x.st = .lost → Does (.bmsStatus n d) s p)) ∧
    (n.val < s.m.bat.str.length → f.fault = false → f.closed = true →
      (x.st = .active → Does (.bmsStatus n d) s p) ∧
      (x.st = .lost → x.cfg.aux = true ∨ s.m.clk < x.lostAt + 1000000000 →
        Does (.bmsStatus n d) s (updStr n.val (fun x => { x with st := .active, run := 0 }) p)) ∧
      (x.st = .lost → x.cfg.aux = false → x.lostAt + 1000000000 ≤ s.m.clk →
        Does (.bmsStatus n d) s (updStr n.val (fun x => { restartEst p x with st := .active, run := 0 }) p))) ∧
    (n.val < s.m.bat.str.length → x.st = .seen →
      Does (.bmsStatus n d) s (tryActive n.val (updStr n.val (fun x => { x with gotSt := true }) p))) ∧
    (n.val < s.m.bat.str.length → x.st = .disabled ∨ x.st = .absent → Does (.bmsStatus n d) s p)) ∧
  (∀ d : List Byte, d.length ≠ 8 ∨ x.st ≠ .seen → exec (.bmsIdent n d) s = .next s) ∧
  (∀ d : List Byte, d.length = 8 → x.st = .seen →
    Does (.bmsIdent n d) s (tryActive n.val (set (fun x => { x with ident := some (be d 0 8) })))) ∧
  (∀ p : Pkg, let y := strAt p n.val
    (y.st ≠ .seen ∨ y.gotSt = false ∨ y.ident = none → tryActive n.val p = p) ∧
    (∀ k, y.st = .seen → y.gotSt = true → y.ident = some k → y.nv.serial = some k →
      tryActive n.val p = updStr n.val (fun x => { resumeEst p x with st := .active, run := 0 }) p) ∧
    (∀ k, y.st = .seen → y.gotSt = true → y.ident = some k → y.nv.serial ≠ some k →
      tryActive n.val p = batEvt (fun e => { e with swapped := true }) (updStr n.val (fun x =>
        { restartEst p x with
          st := .active, run := 0, resume := false, cap := { x.cap with q := x.cfg.qNom, learned := false }
          nv := { serial := some k, cap := { x.cap with q := x.cfg.qNom, learned := false } } }) p))) ∧
  (x.st = .active → due s.m (x.status.at_.getD 0 + 300000000) = true → Does (.bmsLostTimeout n) s lost) ∧
  (x.st ≠ .active ∨ due s.m (x.status.at_.getD 0 + 300000000) = false → exec (.bmsLostTimeout n) s = .next s) ∧
  (x.est.driftN < 10000 → exec (.driftTimer n) s = .next s) ∧
  (10000 ≤ x.est.driftN → x.est.drift = true →
    Does (.driftTimer n) s (set (fun x => { x with est := { x.est with drift := !x.est.drift, driftN := 0 } }))) ∧
  (10000 ≤ x.est.driftN → x.est.drift = false →
    Does (.driftTimer n) s (batEvt (fun e => { e with drift := true }) (set (fun x => { x with est := { x.est with drift := !x.est.drift, driftN := 0 } })))) ∧
  (s.m.mtr.nvBlock = true ∨ due s.m (s.m.bat.jrnAt + 10000000000) = false → exec .batteryJournal s = .next s) ∧
  (s.m.mtr.nvBlock = false → due s.m (s.m.bat.jrnAt + 10000000000) = true → Does .batteryJournal s { s.m with bat := { s.m.bat with
    jrnAt := s.m.clk, str := s.m.bat.str.map (fun x => { x with nv := if x.est.soc.isNone then { x.nv with cap := x.cap }
      else { x.nv with cap := x.cap, soc := x.est.soc, unc := x.est.unc, at_ := s.m.tim.now } }) } })

/-- CAN frames received and sent, Pricking cycles and slots, time-outs, bus-off, sleep and wake (R460, R462, R463,
R465, R466, R468, R469, R470, R472, R473, R475). -/
def Obligations.CanChannelsKeepTheirScheduleQueueAndSleep : Prop :=
∀ (s : State) (c : Fin 16) (t : Nat), let p := advance t s.m; let x := canAt p c.val; let z := canAt s.m c.val
  (∀ (f : CanFrame) (len : Nat), awake p = false ∨ x.asleep = true ∧ x.wakeFrame = false → Does (.canFrameReceived c f len t) s p) ∧
  (∀ (f : CanFrame) (len : Nat), awake p = true → x.asleep = false ∨ x.wakeFrame = true →
    let wake := x.asleep && wakeMatch x f
    let q := ringStore c.val { time := siteAt s.m t, frame := f, own := false, wake := wake, len := len }
      (updCan c.val (fun x => { x with rec_ := if x.rec_ > 127 then 127 else x.rec_ - 1 }) p)
    (wake = true → Does (.canFrameReceived c f len t) s (consume c.val f (updCan c.val (fun x => { x with
      sleep := false, sleepIn := false, asleep := false, stb := false, cycleAt := none, ran := [], want := none, evt := { x.evt with wake := true } }) q))) ∧
    (wake = false → Does (.canFrameReceived c f len t) s (consume c.val f q))) ∧
  (let q := dropWanted c.val p; let y := canAt q c.val; let now := q.tim.now
    let starts := fun (pr : Pricking) (nxt : Option (Option Pricking)) => updCan c.val (fun x => { x with
      prk := some pr, nextPrk := nxt, cycleAt := some now, ran := [], slot := 0, cycle := now / (pr.cycleUs * 1000) % 16 }) q
    (∀ pr, y.nextPrk = none → y.prk = some pr → now % (pr.cycleUs * 1000) = 0 → Does (.basicCycleStart c t) s (starts pr none)) ∧
    (∀ pr, y.nextPrk = none → y.prk = some pr → now % (pr.cycleUs * 1000) ≠ 0 → Does (.basicCycleStart c t) s q) ∧
    (∀ pr, y.nextPrk = some (some pr) → now % (16 * pr.cycleUs * 1000) = 0 → now % (pr.cycleUs * 1000) = 0 →
      Does (.basicCycleStart c t) s (starts pr none)) ∧
    (∀ pr pr', y.nextPrk = some (some pr') → now % (16 * pr'.cycleUs * 1000) ≠ 0 → y.prk = some pr → now % (pr.cycleUs * 1000) = 0 →
      Does (.basicCycleStart c t) s (starts pr (some (some pr')))) ∧
    (∀ pr, y.nextPrk = some none → y.prk = some pr → now % (16 * pr.cycleUs * 1000) = 0 →
      Does (.basicCycleStart c t) s (updCan c.val (fun x => { x with prk := none, nextPrk := none, cycle := 0, slot := 0, cycleAt := none, ran := [] }) q))) ∧
  (∀ k : Fin 64, let q := updCan c.val (fun x => { x with slot := k.val, ran := k.val :: x.ran }) (dropWanted c.val p)
    (awake p = false → Does (.prickingSlot c k t) s p) ∧
    (awake p = true → x.prk = none → Does (.prickingSlot c k t) s (tryQueue c.val p)) ∧
    (∀ pr, awake p = true → x.prk = some pr → (presentSlot p x).map (·.1) ≠ some k.val → Does (.prickingSlot c k t) s p) ∧
    (∀ pr, awake p = true → x.prk = some pr → (presentSlot p x).map (·.1) = some k.val → x.ran.contains k.val = true →
      Does (.prickingSlot c k t) s (tryQueue c.val p)) ∧
    (∀ pr, awake p = true → x.prk = some pr → (presentSlot p x).map (·.1) = some k.val → x.ran.contains k.val = false →
      let e := slotEntry pr x.cycle k.val
      (e.1 = .free → Does (.prickingSlot c k t) s q) ∧
      (e.1 ≠ .free → x.asleep = true → Does (.prickingSlot c k t) s (skipSlot c.val q)) ∧
      (e.1 = .arbitration → x.asleep = false → Does (.prickingSlot c k t) s (tryQueue c.val q)) ∧
      (e.1 = .exclusive → x.asleep = false → x.buf.getD e.2 none = none → Does (.prickingSlot c k t) s (skipSlot c.val q)) ∧
      (e.1 = .exclusive ∧ (x.buf.getD e.2 none).isSome = true ∨ e.1 = .reference → x.asleep = false →
        Does (.prickingSlot c k t) s (tryWanted c.val (updCan c.val (fun x => { x with want := some k.val }) q))))) ∧
  (let free := updCan c.val (fun x => { x with tx := none }) p
    let after := fun q => tryQueue c.val (tryWanted c.val q)
    let count := fun (x : CanCh) => { x with txCnt := (x.txCnt + 1) % 2 ^ 32, tec := x.tec - 1, lec := 0 }
    (∀ e, x.tx = none → Does (.canFrameSent c e t) s p) ∧
    (∀ tx, x.tx = some tx → Does (.canFrameSent c .lost t) s (after free)) ∧
    (∀ tx l, x.tx = some tx → Does (.canFrameSent c (.error l) t) s (after (updCan c.val (fun x =>
      let y := { x with tec := satAdd 255 x.tec 8, lec := l.val }
      { y with st := canStateOf y }) free))) ∧
    (x.loopback = false →
      let sent := updCan c.val (fun x => { count x with st := canStateOf (count x) }) free
      (∀ q : TxQ, x.tx = some (.queued q) → Does (.canFrameSent c .sent t) s (after (finishWork q.work .ok
        (updCan c.val (fun x => { x with queue := x.queue.filter (fun y => y.work != q.work) }) sent)))) ∧
      (∀ f, x.tx = some (.ref f) → Does (.canFrameSent c .sent t) s (after sent)) ∧
      (∀ b f, x.tx = some (.buffer b f) → Does (.canFrameSent c .sent t) s (after (updCan c.val (fun x => { x with
        buf := upd x.buf b (fun o => match o with
          | some t => if t.oneShot then none else some t
          | none => none) }) sent))))) ∧
  (∀ work : Nat, z.queue.find? (fun q => q.work == work) = none → exec (.canSendTimeout c work) s = .next s) ∧
  (∀ (work : Nat) (q : TxQ), z.queue.find? (fun q => q.work == work) = some q →
    (due s.m (q.at_ + 1000000000) = true → Does (.canSendTimeout c work) s (finishWork work .faulted (updCan c.val (fun x =>
      { x with queue := x.queue.filter (fun y => y.work != work), evt := { x.evt with txTimeout := true } }) s.m))) ∧
    (due s.m (q.at_ + 1000000000) = false → exec (.canSendTimeout c work) s = .next s)) ∧
  Does (.busOff c) s (updCan c.val (fun x => { x with
    st := .busOff, tx := none, queue := [], recov := false, evt := { x.evt with busOff := true } })
      (z.queue.foldl (fun p q => finishWork q.work .faulted p) s.m)) ∧
  (z.st = .busOff → z.autoRec = true ∨ z.recov = true → Does (.busOffRecovery c) s
    (tryQueue c.val (updCan c.val (fun x => { x with st := .active, tec := 0, rec_ := 0, recov := false }) s.m))) ∧
  (z.st ≠ .busOff ∨ z.autoRec = false ∧ z.recov = false → exec (.busOffRecovery c) s = .next s) ∧
  Does (.canRecover c) s (updCan c.val (fun x => { x with recov := x.recov || x.st == .busOff }) s.m) ∧
  Does (.canSleepWrite c) s (updCan c.val (fun x => { x with sleep := true }) s.m) ∧
  Does (.canSleepEntry c) s (updCan c.val (fun x => if x.sleep && x.sleepIn && !x.asleep && x.tx.isNone then
    { x with asleep := true, stb := !x.wakeFrame, want := none } else x) s.m) ∧
  (∀ w, z.asleep = false ∨ awake s.m = false → exec (.canWake c w) s = .next s) ∧
  (z.asleep = true → awake s.m = true →
    (z.wakeFrame = false → Does (.canWake c .edge) s (wakeCan c.val (canEvt c.val (fun e => { e with edgeLost := true }) s.m))) ∧
    (z.wakeFrame = true → exec (.canWake c .edge) s = .next s) ∧
    (∀ f, z.wakeFrame = true → Does (.canWake c (.frame f t)) s (canReceive c.val f f.data.length t s.m)) ∧
    (sendOpen s.m c.val = true → Does (.canWake c .send) s (wakeCan c.val s.m)) ∧
    (sendOpen s.m c.val = false → exec (.canWake c .send) s = .next s)) ∧
  (∀ r : Fin 4, let v := s.m.vlk.rg.getD r.val {}
    (due s.m (v.imdAt.getD 0 + 1000000000) = true → Does (.imdTimeout r) s
      { s.m with vlk := { s.m.vlk with rg := upd s.m.vlk.rg r.val (fun v => { v with imdOk := none }) } }) ∧
    (due s.m (v.imdAt.getD 0 + 1000000000) = false → exec (.imdTimeout r) s = .next s))

/-- Power-line slots, SACKs and their time-out, received frames, beacons, status, routes and host frames (R479, R483,
R484, R485, R486, R487, R488, R490, R491, R492, R493). -/
def Obligations.PowerLineFramesAreSentAcknowledgedAndDelivered : Prop :=
∀ (s : State) (k : Fin 4), let x := plAt s.m k.val
  (∀ i slot period : Nat, pfAt x i = none → exec (.contentionSlot k i slot period) s = .next s) ∧
  (∀ (i slot period : Nat) (f : PFrame), pfAt x i = some f →
    plcUp s.m k.val = false ∨ f.sent = true ∨ f.hop = 0 ∨ slotStart s.m x slot period = none ∨ inWindow f.prio slot = false →
    exec (.contentionSlot k i slot period) s = .next s) ∧
  (∀ (i slot period start : Nat) (f : PFrame), pfAt x i = some f → plcUp s.m k.val = true → f.sent = false → f.hop ≠ 0 →
    slotStart s.m x slot period = some start → inWindow f.prio slot = true →
    (f.dst ≠ 0x3FF → Does (.contentionSlot k i slot period) s
      (updPl k.val (fun x => { x with queue := upd x.queue i (fun f => { f with sent := true }) }) (plcStart k.val start f s.m))) ∧
    (f.dst = 0x3FF → f.copies ≥ 2 → Does (.contentionSlot k i slot period) s
      (updPl k.val (fun x => { x with queue := upd x.queue i (fun f => { f with copies := f.copies - 1 }) }) (plcStart k.val start f s.m))) ∧
    (f.dst = 0x3FF → f.copies ≤ 1 → f.host = false → Does (.contentionSlot k i slot period) s
      (updPl k.val (fun x => { x with queue := x.queue.eraseIdx i }) (plcStart k.val start f s.m)))) ∧
  (∀ (i missing : Nat) (f : PFrame) (sacked : Bool) (p : Pkg), let q := updPn k.val f.hop (fun y => { y with acks := cap 16 (sacked :: y.acks) }) p
    (7 ≤ f.tries → retry k.val i f missing sacked p = frameFailed k.val i f q) ∧
    (f.tries < 7 → retry k.val i f missing sacked p = updPl k.val (fun x => { x with retx := inc16 x.retx, queue := upd x.queue i (fun f =>
      { f with sent := false, tries := f.tries + 1, segmap := missing, mode := f.mode.robust }) }) q)) ∧
  (∀ a : SackIn, headIn x a.head = none ∨
      (∃ h, headIn x a.head = some h ∧ (sackedFrame x h = none ∨ awake s.m = false ∨ h.type ≠ 2 ∨ h.hopD ≠ 0)) →
    exec (.sack k a) s = .next s) ∧
  (∀ (a : SackIn) (h : PHead) (i : Nat), headIn x a.head = some h → sackedFrame x h = some i → awake s.m = true → h.type = 2 → h.hopD = 0 →
    (segOf a.seg = none → Does (.sack k a) s (updPl k.val (fun x => { x with segBad := inc8 x.segBad }) s.m)) ∧
    (∀ g, segOf a.seg = some g → Does (.sack k a) s (sackRead k.val i h g.2 s.m))) ∧
  (∀ (i : Nat) (h : PHead) (b : List Byte) (p : Pkg), let f := (pfAt (plAt p k.val) i).getD {}
    let read := plcOpen (plAt p k.val).network (plcKey p k.val h.src) h 1 b
    let p1 := updPn k.val h.src (fun y => { y with peerLqi := h.lqi }) p
    let missing := fun d : List Byte => (2 ^ f.nseg - 1) &&& (255 - u8 d 0)
    (read = none → sackRead k.val i h b p = updPl k.val (fun x => { x with authErr := inc8 x.authErr }) p) ∧
    (∀ d, read = some d → missing d = 0 → sackRead k.val i h b p = frameDone k.val i f p1) ∧
    (∀ d, read = some d → missing d ≠ 0 → sackRead k.val i h b p = retry k.val i f (missing d) true p1)) ∧
  (∀ (i : Nat) (f : PFrame), pfAt x i = some f → f.sent = true → awake s.m = true →
    Does (.sackTimeout k i) s (retry k.val i f (2 ^ f.nseg - 1) false s.m)) ∧
  (∀ i : Nat, pfAt x i = none ∨ (∃ f, pfAt x i = some f ∧ f.sent = false) ∨ awake s.m = false → exec (.sackTimeout k i) s = .next s) ∧
  (∀ f : PlcIn, x.cfgd = false → exec (.plcFrameReceived k f) s = .next s) ∧
  (∀ f : PlcIn, x.cfgd = true →
    let p := updPl k.val (fun x => { x with impulse := satAdd 255 x.impulse (f.head.impulse + sumN (f.segs.map (·.impulse))) }) s.m
    let q := holdMedium k.val (p.clk + sackTime x.band) p
    let bad := (f.segs.filter (fun g => (segOf g).isNone)).length
    (segOf f.head = none → Does (.plcFrameReceived k f) s (updPl k.val (fun x => { x with segBad := inc8 x.segBad }) p)) ∧
    (segOf f.head ≠ none → awake s.m = false ∨ headIn x f.head = none → Does (.plcFrameReceived k f) s q) ∧
    (∀ h, segOf f.head ≠ none → headIn x f.head = some h → (h.hopD ≠ 0 ∧ h.hopD ≠ 0x3FF) ∨ inR 1 8 h.nseg = false ∨ [1, 3, 4].contains h.type = false →
      Does (.plcFrameReceived k f) s q) ∧
    (∀ h, segOf f.head ≠ none → awake s.m = true → headIn x f.head = some h → h.hopD = 0 ∨ h.hopD = 0x3FF → inR 1 8 h.nseg = true →
      [1, 3, 4].contains h.type = true →
      Does (.plcFrameReceived k f) s (plcHeld k.val h f (updPl k.val (fun x => { x with segBad := satAdd 255 x.segBad bad }) q)))) ∧
  (∀ (h : PHead) (f : PlcIn) (b : List Byte) (p : Pkg), let y := plAt p k.val
    let p1 := updPl k.val (fun x => { x with holds := x.holds.filter (fun y => !(y.src == h.src && y.seq == h.seq)) }) p
    let known := y.table.any (fun n => n.id == h.src)
    let read := plcOpen y.network (plcKey p k.val h.src) h f.len b
    (read = none ∨ known = false → plcWhole k.val h f b p = updPl k.val (fun x => { x with authErr := inc8 x.authErr }) p1) ∧
    (∀ d, read = some d → known = true → (pnAt y h.src).rxDone.contains h.seq = true → h.dst = 0x3FF →
      plcWhole k.val h f b p = updPl k.val (fun x => { x with dup := inc8 x.dup }) p1) ∧
    (∀ d, read = some d → known = true → (pnAt y h.src).rxDone.contains h.seq = false → (pnAt y h.src).rxHigh = none → h.dst ≠ 0x3FF →
      plcWhole k.val h f b p = sendSack k.val h.hopS h.seq (2 ^ h.nseg - 1) (plcDeliver k.val h f d (nodeHeard k.val h f p1)))) ∧
  (∀ src seq : Nat, Does (.segmentHoldExpiry k src seq) s (updPl k.val (fun x => { x with
    holds := x.holds.filter (fun y => !(y.src == src && y.seq == seq && due s.m (y.since + 2000000000))) }) s.m)) ∧
  (plcUp s.m k.val = false ∨ (∃ t, x.beacon = some t ∧ due s.m (t + 10000000000) = false) → exec (.beaconSend k) s = .next s) ∧
  (plcUp s.m k.val = true → x.beacon = none ∨ (∃ t, x.beacon = some t ∧ due s.m (t + 10000000000) = true) →
    Does (.beaconSend k) s (plcQueue k.val .beacon 1 0x3FF
      ((x.nodes.filter (fun n => n.heard.isSome)).take 60 |>.map (fun n => toBe 2 n.id ++ [byte n.lqi, byte (shareOf n)])).flatten false
      (updPl k.val (fun x => { x with beacon := some s.m.clk }) s.m))) ∧
  (plcUp s.m k.val = false → exec (.plcStatusSend k) s = .next s) ∧
  (plcUp s.m k.val = true → Does (.plcStatusSend k) s (x.table.foldl (fun p n => match n.role with
    | .legacy r => statusTo k.val n r p
    | .aux => p) s.m)) ∧
  (∀ (node t : Nat), (pnAt x node).used = some t → tatting x = true → due s.m (t + 300000000000) = true → Does (.plcRouteExpiry k node) s
    (updPn k.val node (fun y => { y with used := none, hops := 0, rep1 := 0, rep0 := 0, cost := 0xFFFF }) s.m)) ∧
  (∀ node : Nat, (pnAt x node).used = none ∨ tatting x = false → exec (.plcRouteExpiry k node) s = .next s) ∧
  (∀ v : Nat, fld v 26 22 > 16 → exec (.plnTxGo k v) s = .next s) ∧
  (∀ v : Nat, fld v 26 22 ≤ 16 → let p := updPl k.val (fun x => { x with txPrio := fld v 30 29, txLen := fld v 26 22, txDst := fld v 9 0 }) s.m
    (tb v 31 = false → Does (.plnTxGo k v) s p) ∧
    (tb v 31 = true → x.txRes = .queued → Does (.plnTxGo k v) s (updPl k.val (fun x => { x with txRef := inc8 x.txRef }) p)) ∧
    (tb v 31 = true → x.txRes ≠ .queued → fld v 9 0 ≠ 0x3FF → x.table.any (fun n => n.id == fld v 9 0) = false →
      Does (.plnTxGo k v) s (updPl k.val (fun x => { x with txRes := .failed }) p)) ∧
    (tb v 31 = true → x.txRes ≠ .queued → fld v 9 0 = 0x3FF ∨ x.table.any (fun n => n.id == fld v 9 0) = true →
      Does (.plnTxGo k v) s (plcSend k.val (fld v 30 29) (fld v 9 0) ([3, 0, 0, 0] ++ ((x.txD.map (toLe 4)).flatten.take (fld v 26 22))) true
        (updPl k.val (fun x => { x with txRes := .queued }) p))))

/-- Vehicle discovery, TLS, protocol, setup, authorization and services (R445, R446, R447, R448, R449, R451, R454,
R455, R456). -/
def Obligations.VehiclesConnectAgreeAndAreAuthorized : Prop :=
∀ (s : State) (u : Fin 8), let r := u.val / 2
  let p := updVp u.val (fun x => { x with rx := (x.rx + 1) % 2 ^ 32, frameAt := some s.m.clk }) s.m
  let q0 := updVp u.val (fun x => { x with sent := [] }) p
  let q := if (vgAt q0 r).owner = some u.val then updVg r (fun v => { v with reqAt := s.m.clk }) q0 else q0
  let here := awake s.m = true ∧ v2gSrc p r = true
  let agreed := here ∧ (vpAt p u.val).tls = true ∧ (vpAt p u.val).proto = true
  let talking := agreed ∧ (vgAt q r).talk = some u.val
  let z := updVg r (fun v => { v with stage := .authorization }) q
  let eim := updVg r (fun v => { v with auth := .eim }) z
  let pnc := updVg r (fun v => { v with auth := .pnc }) z
  (awake s.m = false → exec (.seccDiscovery u) s = .next s) ∧
  (here → (vgAt p r).owner = none → Does (.seccDiscovery u) s
    (updVg r (fun v => { v with stage := .discovery }) (updVp u.val (fun x => { x with sdp := sdpAnswer p u.val :: x.sdp }) p))) ∧
  (here → (vgAt p r).owner ≠ none → Does (.seccDiscovery u) s (updVp u.val (fun x => { x with sdp := sdpAnswer p u.val :: x.sdp }) p)) ∧
  (awake s.m = true → v2gSrc p r = false → Does (.seccDiscovery u) s p) ∧
  (∀ h : TlsIn, here → let good := h.paramsOk = true ∧ p.config.isSome = true ∧ p.key.entropy = true ∧ (h.cert = true ∧ (h.certOk && rootOk p h.root) = true ∨ h.cert = false ∧ (vgAt p r).cliAuth = false)
    ((vpAt p u.val).tcp = true → Does (.tlsHandshake u h) s (updVp u.val (fun x => { x with resets := x.resets + 1 }) p)) ∧
    ((vpAt p u.val).tcp = false → ¬good → Does (.tlsHandshake u h) s p) ∧
    ((vpAt p u.val).tcp = false → good →
      let o := updVp u.val (fun x => { x with tcp := true, tls := true, proto := false, seq := 0 }) p
      ((vgAt p r).owner = none → Does (.tlsHandshake u h) s (updVg r (fun v => { v with stage := .tls }) o)) ∧
      ((vgAt p r).owner ≠ none → Does (.tlsHandshake u h) s o))) ∧
  (here → (vpAt p u.val).tls = true → ∀ dc20 : Bool, Does (.supportedAppProtocol u dc20) s
    (respond u.val { code := if dc20 then .ok else .noNegotiation } (updVp u.val (fun x => { x with proto := dc20, sent := [] }) p))) ∧
  (here → (vpAt p u.val).tls = false → ∀ dc20 : Bool, Does (.supportedAppProtocol u dc20) s p) ∧
  (∀ mac : Nat, agreed → (vgAt q r).owner = none → (vrAt q r).session = none → Does (.sessionSetup u mac) s
    (respond u.val { code := .ok } (updVg r (fun v => { v with
      owner := some u.val, talk := some u.val, stage := .setup, auth := .none_, mcs := false, dynamic := false, authAt := none
      authReg := 0, authOk := false, authBad := false, vid := (0, []), cable := none, weld := false, told := none
      openBad := none, reqAt := s.m.clk }) (updVp u.val (fun x => { x with mac := mac % 2 ^ 48 }) q)))) ∧
  (∀ mac : Nat, agreed → (vgAt q r).owner = some u.val → Does (.sessionSetup u mac) s (respond u.val { code := .ok } q)) ∧
  (∀ mac : Nat, agreed → (vgAt q r).owner ≠ some u.val → (vgAt q r).owner ≠ none ∨ (vrAt q r).session ≠ none →
    Does (.sessionSetup u mac) s (respond u.val { code := .failed } q)) ∧
  (agreed → (vgAt q r).talk ≠ some u.val → Does (.authorization u .setup) s (respond u.val { code := .failed } q)) ∧
  (talking → Does (.authorization u .setup) s (respond u.val { code := .ok } z)) ∧
  (talking → (vgAt eim r).authBad = true ∨ (vgAt eim r).authReg = 2 →
    Does (.authorization u .eim) s (endV2g r 8 (respond u.val { code := .failed } eim))) ∧
  (talking → (vgAt eim r).authBad = false → (vgAt eim r).authReg ≠ 2 →
    ((vgAt eim r).authOk = true ∨ (vgAt eim r).eimHost = false ∨ (vgAt eim r).authReg = 1 → Does (.authorization u .eim) s
      (respond u.val { code := .ok } (updVg r (fun v => { v with authOk := true, authAt := none, authReg := 0, vid := (1, toBe 6 (vpAt eim u.val).mac) }) eim))) ∧
    ((vgAt eim r).authOk = false → (vgAt eim r).eimHost = true → (vgAt eim r).authReg ≠ 1 → Does (.authorization u .eim) s
      (respond u.val { code := .ongoing } (updVg r (fun v => { v with authAt := some (v.authAt.getD s.m.clk) }) eim)))) ∧
  (∀ (chain : Bool) (b e : Nat) (rt em dg : List Byte), talking → let t := s.m.tim.now / 1000000000
    (chain = true → rootOk s.m rt = true → revokedCert s.m dg = false → b ≤ t → t ≤ e → Does (.authorization u (.pnc chain rt b e em dg)) s
      (respond u.val { code := .ok } (updVg r (fun v => { v with authOk := true, vid := if (vgAt pnc r).vidPref then (3, dg.take 48) else (2, em.take 64) }) pnc))) ∧
    (chain = false ∨ rootOk s.m rt = false ∨ revokedCert s.m dg = true ∨ t < b ∨ e < t → Does (.authorization u (.pnc chain rt b e em dg)) s
      (endV2g r 8 (respond u.val { code := .failed } pnc)))) ∧
  (talking → Does (.serviceDiscovery u .discovery) s (respond u.val { svcs := [0, 1] } q) ∧
    (∀ k, Does (.serviceDiscovery u (.detail k)) s (respond u.val { code := if k ≤ 1 then .ok else .failed } q)) ∧
    (∀ k dyn, k ≤ 1 → Does (.serviceDiscovery u (.selection k dyn)) s
      (respond u.val { code := .ok } (updVg r (fun v => { v with mcs := k == 1, dynamic := dyn }) q))) ∧
    (∀ k dyn, k > 1 → Does (.serviceDiscovery u (.selection k dyn)) s (respond u.val { code := .failed } q))) ∧
  (∀ g : Fin 4, let v := vgAt s.m g.val
    (∀ val : Nat, v.authAt.isSome = true → Does (.vlkAuthWrite g val) s (updVg g.val (fun v => { v with authReg := val % 4 }) s.m)) ∧
    (∀ val : Nat, v.authAt = none → exec (.vlkAuthWrite g val) s = .next s) ∧
    (∀ t, v.authAt = some t → due s.m (t + 60000000000) = true → v.authReg ≠ 1 → v.authReg ≠ 2 → Does (.eimHostTimeout g) s
      (updVg g.val (fun v => { v with authAt := none, authReg := 0, authBad := true }) s.m)) ∧
    (v.authAt = none ∨ (∃ t, v.authAt = some t ∧ due s.m (t + 60000000000) = false) ∨ v.authReg = 1 ∨ v.authReg = 2 →
      exec (.eimHostTimeout g) s = .next s)) ∧
  ((vpAt s.m u.val).heldSeg = [] ∨ drives s.m = false → exec (.tcpSegmentRelease u) s = .next s) ∧
  (∀ (g : VSeg) (l : List VSeg), (vpAt s.m u.val).heldSeg = g :: l → drives s.m = true →
    let alone := (dieOf s.m ((activeDie s.m).getD .a).other).st ≠ .standby
    (alone ∨ g.mir ≤ s.m.duo.supAck → Does (.tcpSegmentRelease u) s
      (updVp u.val (fun x => { x with heldSeg := l, sent := x.sent ++ [g], out := g :: x.out }) s.m)) ∧
    (¬alone → s.m.duo.supAck < g.mir → exec (.tcpSegmentRelease u) s = .next s))

/-- Vehicle charging: parameters, cable check, precharge, delivery, loop, welding, stop and loss (R447, R450, R451,
R452, R205, R209). -/
def Obligations.VehiclesChargeUnderTheStatedTransitions : Prop :=
∀ (s : State) (u : Fin 8), let r := u.val / 2
  let p := updVp u.val (fun x => { x with rx := (x.rx + 1) % 2 ^ 32, frameAt := some s.m.clk }) s.m
  let q0 := updVp u.val (fun x => { x with sent := [] }) p
  let q := if (vgAt q0 r).owner = some u.val then updVg r (fun v => { v with reqAt := s.m.clk }) q0 else q0
  let here := awake s.m = true ∧ v2gSrc p r = true
  let agreed := here ∧ (vpAt p u.val).tls = true ∧ (vpAt p u.val).proto = true
  let talking := agreed ∧ (vgAt q r).talk = some u.val
  let stage := fun g : VStage => updVg r (fun v => { v with stage := g }) q
  let limits := fun x : Pkg => ((rgAt x r).icap * 100, x.ldg.lent.getD r 0, vLow x r * 10)
  let shown := fun x : Pkg => (voutOf x r, ioutOf x r)
  let ask := fun (x : Pkg) (ok : Bool × Pkg → VResp) (t i : Nat) => let y := v2gCommand u.val t i x
    respond u.val (ok y) y.2
  (agreed → (vgAt q r).talk ≠ some u.val → ∀ c ∈ [Instr.dcChargeParameterDiscovery u, .scheduleExchange u false, .scheduleExchange u true,
      .dcCableCheck u 0, .dcPreCharge u 0, .powerDelivery u true, .powerDelivery u false, .dcChargeLoop u true 0 0, .dcWeldingDetection u, .sessionStop u,
      .unsupportedV2gMessage u], Does c s (respond u.val { code := .failed } q)) ∧
  (∀ (t i : Nat) (x : Pkg), let v := vrAt x r
    let il := min 30000 i
    let mine := v.session = some (.v2g u.val)
    (mine → v.cmdTgt = t → v.ilim = some il → v2gCommand u.val t i x = (true, x)) ∧
    (¬(mine ∧ v.cmdTgt = t ∧ v.ilim = some il) →
      (t > vLow x r → v2gCommand u.val t i x = (false, updVr r (fun v => { v with lastCause := 1 }) x)) ∧
      (t ≤ vLow x r → v.session = none → v2gCommand u.val t i x = (true, updVr r (fun v => { v with lastCause := 2 }) x)) ∧
      (t ≤ vLow x r → v.session ≠ none → ¬mine → v2gCommand u.val t i x = (true, updVr r (fun v => { v with lastCause := 3 }) x)) ∧
      (t ≤ vLow x r → mine → cmdMode x r = false → v2gCommand u.val t i x = (true, updVr r (fun v => { v with lastCause := 4 }) x)) ∧
      (t ≤ vLow x r → mine → cmdMode x r = true → v2gCommand u.val t i x = (true, setCommand r (.v2g u.val) t (some il) (vgAt x r).slew 0
        (updVr r (fun v => { v with trans := some { kind := .command, src := .v2g u.val, turn := x.duo.turns } }) (supersede r none false x)))))) ∧
  (∀ x : Pkg, ((vrAt x r).session ≠ some (.v2g u.val) → v2gClose u.val x = x) ∧
    ((vrAt x r).session = some (.v2g u.val) → let y := endSession r 8 x
      let z := updVr r (fun v => { v with trans := some { kind := .close, src := .v2g u.val, turn := x.duo.turns } }) y
      v2gClose u.val x = if (vrAt y r).closing then z else endTrans r .reached 0 none false z)) ∧
  (∀ (g cause : Nat) (x : Pkg), let y := match (vrAt x g).session with
      | some (.v2g _) => endSession g cause x
      | _ => x
    endV2g g cause x = updVg g (fun v => { v with
      owner := none, endC := if (vgAt x g).owner.isSome then cause else v.endC, stage := .stopped, authAt := none, authReg := 0 }) y) ∧
  (talking →
    Does (.dcChargeParameterDiscovery u) s (respond u.val { limits := some (limits q) } (stage .parameters)) ∧
    (∀ dyn : Bool, Does (.scheduleExchange u dyn) s (respond u.val
      { sched := if dyn then none else some (q.ldg.lent.getD r 0), limits := some (limits q) } (updVg r (fun v => { v with dynamic := dyn }) q))) ∧
    (∀ maxV : Nat, (vgAt q r).authOk = false → Does (.dcCableCheck u maxV) s (respond u.val { code := .failed } q)) ∧
    (∀ maxV : Nat, (vgAt q r).authOk = true → let z := stage .cableCheck
      let o := updVg r (fun v => { v with cable := some z.clk }) z
      let tgt := min (maxV / 10) (vLow o r)
      let c := if (dcdcOf o r).isEmpty then 3 else startCheck o r tgt none
      let w := if (vgAt z r).cable.isSome then z
        else if c ≠ 0 then tellVehicle r .open_ c (updVr r (fun v => { v with lastCause := c }) o)
        else startSession r (.v2g u.val) tgt none (vgAt o r).slew 0 (vgAt o r).vid.1 (vgAt o r).vid.2 o
      let ready := (vrAt w r).started = true ∧ ∃ t, (vgAt w r).imdOk = some t ∧ t + 1000000000 ≤ w.clk
      ((vgAt w r).authBad = true ∨ (vgAt w r).openBad.isSome = true → Does (.dcCableCheck u maxV) s (respond u.val { code := .failed } w)) ∧
      ((vgAt w r).authBad = false → (vgAt w r).openBad = none →
        (ready → Does (.dcCableCheck u maxV) s (respond u.val { code := .finished } w)) ∧
        (¬ready → Does (.dcCableCheck u maxV) s (respond u.val { code := .ongoing } w)))) ∧
    (∀ v : Nat, let x := stage .preCharge
      Does (.dcPreCharge u v) s (ask x (fun y => { code := if y.1 then .ok else .failed, pres := some (shown q) }) (v / 10) (prechgOf q r))) ∧
    (dcdcOf q r ≠ [] ∧ (∀ n ∈ dcdcOf q r, (clAt q n).run.st = .regulate) → Does (.powerDelivery u true) s (respond u.val { code := .ok } (stage .chargeLoop))) ∧
    (¬(dcdcOf q r ≠ [] ∧ ∀ n ∈ dcdcOf q r, (clAt q n).run.st = .regulate) → Does (.powerDelivery u true) s (respond u.val { code := .failed } q)) ∧
    Does (.powerDelivery u false) s (ask (stage .stopping) (fun _ => { code := .ok }) (vrAt q r).cmdTgt 0) ∧
    (∀ (dyn : Bool) (v i : Nat), let x := updVg r (fun g => { g with dynamic := dyn, stage := .chargeLoop }) q
      Does (.dcChargeLoop u dyn v i) s
        (ask x (fun y => { code := if y.1 then .ok else .failed, pres := some (shown x), limits := some (limits x) }) (v / 10) (i / 100))) ∧
    (let x := if (vgAt q r).weld = true then q else v2gClose u.val q
     let y := updVg r (fun v => { v with stage := .welding }) x
     Does (.dcWeldingDetection u) s (respond u.val { pres := some (shown y) } (updVg r (fun v => { v with weld := true }) y))) ∧
    (let x := respond u.val { code := .ok } (updVg r (fun v => { v with stage := .stopped }) (v2gClose u.val q))
     Does (.sessionStop u) s (updVg r (fun v => { v with talk := none, owner := none, endC := if (vgAt q r).owner = some u.val then 8 else v.endC })
      (updVp u.val (fun x => { x with tcp := false, tls := false, proto := false }) x))) ∧
    Does (.unsupportedV2gMessage u) s (endV2g r 8 (respond u.val { code := .failed } q))) ∧
  (∀ g : Fin 4, let v := vgAt s.m g.val
    (∀ t, v.stage = .cableCheck → v.cable = some t → due s.m (t + 40000000000) = true →
      Does (.cableCheckTimeout g) s (endV2g g.val 8 (updVg g.val (fun v => { v with authBad := true }) s.m))) ∧
    (v.stage ≠ .cableCheck ∨ v.cable = none ∨ (∃ t, v.cable = some t ∧ due s.m (t + 40000000000) = false) → exec (.cableCheckTimeout g) s = .next s) ∧
    (∀ w : Nat, let o := updVp w (fun x => { x with tcp := false, tls := false, proto := false, heldSeg := [], sent := [] }) s.m
      let shut := updVg (w / 2) (fun v => { v with talk := if v.talk = some w then none else v.talk }) o
      (v.owner = none → v.talk = some w → Does (.v2gLinkLost g true) s shut) ∧
      (v.owner = some w → awake s.m = true →
        Does (.v2gLinkLost g true) s (endV2g g.val 10 shut) ∧
        (due s.m (v.reqAt + 2000000000) = true → Does (.v2gLinkLost g false) s (endV2g g.val 10 s.m)))) ∧
    (∀ closed : Bool, v.owner = none ∧ v.talk = none ∨ v.owner = none ∧ closed = false ∨ v.owner ≠ none ∧ awake s.m = false ∨
        closed = false ∧ due s.m (v.reqAt + 2000000000) = false → exec (.v2gLinkLost g closed) s = .next s))

/-- Calibration burns, trial, journal records, the final save, pulses and lost phases (R289, R290, R291, R292, R298,
R306, R308, R309, R313, R314, R301). -/
def Obligations.MetersKeepTheirBanksJournalAndPulses : Prop :=
∀ s : State, let t := s.m.mtr
  let bank := { bankOf s.m with chan := t.chan.map (fun c => { c.act with gain := c.staged.gain, offset := c.staged.offset, phase := c.staged.phase }) }
  let free := lcOf s.m = .service ∧ t.burn = none ∧ t.banks.length < 8 ∧ t.nvBlock = false
  (free → Does .calBurn s { s.m with mtr := { t with burn := some bank } }) ∧
  (¬free → exec .calBurn s = .next s) ∧
  (lcOf s.m = .service → ∀ on : Bool, Does (.calTrialWrite on) s { s.m with mtr := { t with trial := on } }) ∧
  (lcOf s.m ≠ .service → ∀ on : Bool, exec (.calTrialWrite on) s = .next s) ∧
  (t.burn = none → ∀ ok : Bool, exec (.calBurnComplete ok) s = .next s) ∧
  (∀ b : CalBank, t.burn = some b → let done := fun ok : Bool => { s.m with mtr := { t with burn := none, banks := t.banks ++ [(b, ok)] } }
    Does (.calBurnComplete false) s { done false with mtr := { (done false).mtr with chan := t.chan.map (fun c => { c with staged := c.act }) } } ∧
    Does (.calBurnComplete true) s (updOpen allRegions (enterEv 5 s.m.tim.now t.epoch (validEpoch (t.banks ++ [(b, true)])) 0)
      (logEventAt s.m.tim.now 5 0xFFFF 0 (toLe 1 t.epoch ++ toLe 1 (validEpoch (t.banks ++ [(b, true)])))
        (mtrEvt (fun e => { e with calBurnt := true }) (done true))))) ∧
  (∀ (k : Fin 4) (v : Nat), let kk := fld v 16 0
    let high := kk * (bankOf s.m).pmax.getD (fld v 29 27) 0 > 100000 * 3600
    let good := fld v 29 27 ≤ 5 ∧ fld v 26 24 ≤ 5 ∧ 1 ≤ kk ∧ kk ≤ 100000 ∧ ¬high
    (good → Does (.pulseCfgWrite k v) s { s.m with mtr := { t with pulse := upd t.pulse k.val (fun u =>
      { u with en := tb v 31, trial := tb v 30, meter := fld v 29 27, qty := fld v 26 24, k := kk, carry := 0 }) } }) ∧
    (¬good → Does (.pulseCfgWrite k v) s (mtrEvt (fun e => { e with pulseLim := e.pulseLim || decide high }) s.m)) ∧
    Does (.meterPulseEnd k) s { s.m with mtr := { t with pulse := upd t.pulse k.val (fun u =>
      if u.level = true ∧ due s.m (u.last.getD 0 + u.width) = true then { u with level := false } else u) } }) ∧
  (∀ (m : Fin 6) (ok : Bool),
    ((mtAt s.m m.val).sent = [] ∨ t.nvBlock = true ∧ ok = true → exec (.energyJournalRecord m ok) s = .next s) ∧
    (∀ r l, (mtAt s.m m.val).sent = r :: l → t.nvBlock = false ∨ ok = false →
      let q := updMt m.val (fun x => { x with slots := upd x.slots (r.seq % 64) (fun _ => some { r with ok := ok }) })
        (updMt m.val (fun x => { x with sent := l }) s.m)
      Does (.energyJournalRecord m ok) s { q with mtr := { q.mtr with late := if s.m.clk > r.clk + 2000000 then inc8 t.late else t.late } })) ∧
  (let saving := (t.save = .running ∨ t.save = .writing) ∧ t.nvBlock = false ∧ metering s.m = true
   let p := commitAll s.m
   let quiet := p.mtr.meter.all (·.quiet)
   let p1 := (List.range 6).foldl (fun p m => let q := flushRecords m p
     let r := mkRecord q m 2 (recFlags q m (mtAt q m).quiet quiet) 0 0xFF
     writeSlot m r (updMt m (fun x => { x with seq := r.seq }) q)) p
   (¬saving → exec .finalSaveRecord s = .next s) ∧
   (saving → Does .finalSaveRecord s { p1 with
      mtr := { p1.mtr with save := if quiet = true then .complete else .writing }
      sup := if quiet = true then { p1.sup with
        save := (p1.sup.warnAt.map (fun w => min 0xFFFF ((p1.clk - w) / 1000))).getD p1.sup.save } else p1.sup
      tim := if t.save = .running then { p1.tim with nvNow := p1.tim.now } else p1.tim })) ∧
  (∀ (a : Fin 2) (k : Fin 3), let m := 4 + a.val
    let x := (mtAt s.m m).ph.getD k.val {}
    let miss := metering s.m = true ∧ x.lost = false ∧ ∃ w, x.seen = some w ∧ due s.m (w + 40000000) = true
    (¬miss → exec (.phaseLost a k) s = .next s) ∧
    (miss → Does (.phaseLost a k) s (mtrEvt (fun e => { e with phaseLost := true })
      (setFreq m (updMt m (fun z => { z with ph := upd z.ph k.val (fun y => { y with lost := true }) }) s.m)))))

/-- A metering sample, the end of an integration interval and of an RMS window (R285, R290, R293, R298, R299, R300,
R305, R306, R313, R315, R630). -/
def Obligations.SamplesReachTheAccumulatorsAndTheRecords : Prop :=
∀ s : State,
  (metering s.m = false → (∀ t raw quad, exec (.meteringSample t raw quad) s = .next s) ∧ ∀ m groups, exec (.harmonicWindowEnd m groups) s = .next s) ∧
  (∀ (t : Nat) (raw quad : List Int), metering s.m = true → Does (.meteringSample t raw quad) s
    (acLowSample ((List.range 4).foldl (fun p r => tamperSample r p)
      (sampleNeutral (samplePhases t (samplePulses (sampleMeters t raw quad (intervalEnd (sampleTime t s.m))))))))) ∧
  (∀ (t : Nat) (raw quad : List Int) (p : Pkg), let a := p.clk + (t + 1500000 - p.tim.now)
    let clipped := anyI (fun c _ => clips (raw.getD c 0)) p.mtr.chan
    let m := (List.range 6).foldl (fun p m => meterSample raw quad m p) (placeSample t (chanSamples raw p))
    let sum := fun a => sumI ((List.range 3).map (fun k => (mcAt p (8 + 7 * a + k)).now))
    sampleTime t p = (if a < nextBoundary p then advance a p else p) ∧
    chanSamples raw p = mtrEvt (fun e => { e with overrange := e.overrange || clipped })
      { p with mtr := { p.mtr with chan := mapI (chanSample p raw) p.mtr.chan } } ∧
    sampleMeters t raw quad p = { m with mtr := { m.mtr with intN := m.mtr.intN + 1 } } ∧
    samplePulses p = { p with mtr := { p.mtr with pulse := p.mtr.pulse.map (pulseSample p) } } ∧
    samplePhases t p = (List.range 6).foldl (fun p k => phaseSample (4 + k / 3) (k % 3) t p) p ∧
    sampleNeutral p = { p with bil := { p.bil with ac := mapI (fun a (x : BilAc) => { x with nSq := x.nSq + sum a * sum a }) p.bil.ac } }) ∧
  (s.m.mtr.intN < 160 → exec .integrationIntervalEnd s = .next s) ∧
  (160 ≤ s.m.mtr.intN → let p := commitAll s.m
    let q := if p.mtr.save ≠ .none ∨ p.mtr.nvBlock = true then p else (List.range 6).foldl (fun p m => sendRecord m 1 (recFlags p m false false) 0 0xFF p) p
    let o := (List.range 4).foldl (fun p r => let fl := (if p.tim.sync = .unsync then 4 else 0) + (if (mtAt p r).clip = true then 32 else 0)
      updOpen [r] (fun x => { x with flags := x.flags ||| fl }) p) q
    let z := { o with mtr := { o.mtr with
      intN := 0, intDone := 0, split := none, shown := o.mtr.meter.map (·.acc), meter := o.mtr.meter.map (fun x => { x with clip := false })
      chan := o.mtr.chan.map (fun c => { c with ovrInt := false, ovrCnt := if c.ovrInt then inc8 c.ovrCnt else c.ovrCnt }) } }
    Does .integrationIntervalEnd s (tempComp (if validEpoch z.mtr.banks = z.mtr.epoch ∧ (bankOf z).chan = z.mtr.chan.map (·.act) then z else loadBank z))) ∧
  (∀ (m : Nat) (p : Pkg), let x := mtAt p m
    let e := receives p m (x.eA, x.eR)
    let whole := (x.acc.zip (x.frac.zip e)).map (fun y => y.1 * 2 ^ 32 + y.2.1 + y.2.2)
    let y := mtAt (commitMeter m p) m
    y.acc = whole.map (fun n => n / 2 ^ 32 % 2 ^ 64) ∧ y.frac = whole.map (· % 2 ^ 32) ∧ y.eA = 0 ∧ y.eR = 0) ∧
  (∀ (a : Fin 2) (groups : List Nat), windowDone s.m a.val = false → exec (.harmonicWindowEnd a groups) s = .next s) ∧
  (∀ (a : Fin 2) (groups : List Nat), metering s.m = true → windowDone s.m a.val = true → let b := 8 + 7 * a.val
    let rms := fun (c : MChan) => if c.wN = 0 then 0 else rootDiv c.wSq (c.wN * 2 ^ 182)
    let gone := refPhase s.m (4 + a.val) = none
    Runs (.harmonicWindowEnd a groups) s fun m =>
      m.mtr.chan = mapI (fun c (x : MChan) =>
        if inR b (b + 6) c = true then { x with value := rms x, ripple := 0, wSum := 0, wSq := 0, wN := 0 } else x) s.m.mtr.chan ∧
      m.mtr.harm = mapI (fun i (v : Option Nat) =>
        if i / 384 = a.val then (if gone then none else some (groups.getD (i % 384) 0 % 2 ^ 32)) else v) s.m.mtr.harm)

/-- Tariff switches, season starts, period closes, activations and the power-fail record (R317, R319, R320, R323,
R325, R326, R327, R328, R329, R331, R333). -/
def Obligations.BillingBoundariesAreTakenInTimeOrder : Prop :=
∀ s : State, let b := s.m.bil; let t := s.m.mtr.tLast; let n := manyDue s.m t
  let all := takeDue 0 0 t n s.m
  (mayTake s.m = false ∨ b.cal = none → exec .tariffSwitch s = .next s ∧ exec .seasonStart s = .next s) ∧
  (∀ c : Calendar, mayTake s.m = true → b.cal = some c →
    ((seasonAt c t).2 = b.season → Does .tariffSwitch s (follow t all) ∧ exec .seasonStart s = .next s) ∧
    ((seasonAt c t).2 ≠ b.season → Does .seasonStart s (follow t all) ∧ exec .tariffSwitch s = .next s)) ∧
  (b.timeHold = true → exec .demandPeriodClose s = .next s ∧ exec .billingClose s = .next s) ∧
  (b.timeHold = false →
    (∀ x : Nat, mayTake s.m = true → nextDemand s.m = some x → x ≤ t → Does .demandPeriodClose s (takeTo 0 t n s.m)) ∧
    (mayTake s.m = false ∨ (∀ x, nextDemand s.m = some x → t < x) → exec .demandPeriodClose s = .next s) ∧
    (∀ x : Nat, mayTake s.m = true → nextClose s.m = some x → x ≤ t → Does .billingClose s (takeTo 1 t n s.m)) ∧
    (mayTake s.m = false ∨ (∀ x, nextClose s.m = some x → t < x) → exec .billingClose s = .next s)) ∧
  (∀ c : Calendar, mayTake s.m = true → b.passive = some c → c.act ≤ t → Does .calendarActivation s (takeTo 2 t n s.m)) ∧
  (mayTake s.m = false ∨ (∀ c, b.passive = some c → t < c.act) → exec .calendarActivation s = .next s) ∧
  (∀ (p : Pkg) (lim x k : Nat), nextDue p lim = some (x, k) →
    let places := fun (i y : Nat) => (i = 0 ∧ p.bil.timeHold = false ∧ nextDemand p = some y) ∨
      (i = 1 ∧ p.bil.timeHold = false ∧ nextClose p = some y) ∨ (i = 2 ∧ ∃ c, p.bil.passive = some c ∧ y = max c.act p.bil.demT)
    x ≤ lim ∧ places k x ∧ ∀ i y, places i y → x < y ∨ (x = y ∧ k ≤ i)) ∧
  (∀ (p : Pkg) (lim f k : Nat), (nextDue p lim = none → takeTo k lim (f + 1) p = p ∧ takeDue 0 0 lim (f + 1) p = p) ∧
    ∀ x j, nextDue p lim = some (x, j) →
      takeTo k lim (f + 1) p = (if j = k then takeOne 0 0 x j p else takeTo k lim f (takeOne 0 0 x j p)) ∧
      takeDue 0 0 lim (f + 1) p = takeDue 0 0 lim f (takeOne 0 0 x j p)) ∧
  (∀ (p : Pkg) (x : Nat), 0 < x → let q := follow (x - 1) p
    takeOne 0 0 x 0 p = closeDemand x 0 q ∧ takeOne 0 0 x 1 p = closeBilling x q ∧ takeOne 0 0 x 2 p = activate x q) ∧
  (∀ (p : Pkg) (x mark r : Nat), r < p.bil.rg.length → let g := p.bil.rg.getD r {}; let q := closeDemand x mark p
    let e := g.perE + (partE p r - g.pre.1)
    let ns := g.perNs + (partNs p - g.pre.2)
    let old := g.hist.take (p.bil.demN - 1)
    let w := demandW (e + sumN (old.map (·.1))) (max (p.bil.demLen * minNs * max 1 p.bil.demN) (ns + sumN (old.map (·.2))))
    let k := p.bil.tariff - 1
    (q.bil.rg.getD r {}).dem = w ∧ (q.bil.rg.getD r {}).perE = 0 ∧ (q.bil.rg.getD r {}).tar = g.tar ∧
      (q.bil.rg.getD r {}).maxDem = (if w > g.maxDem.getD k 0 then upd g.maxDem k (fun _ => w) else g.maxDem) ∧
      (∃ en : ProfEntry, q.bil.load = en :: p.bil.load ∧ en.time = x ∧ en.acc = (List.range 6).map (accAt p)) ∧
      q.bil.demT = x ∧ q.bil.holdT = max p.bil.holdT x ∧ q.bil.marks = 0 ∧ q.bil.period = p.bil.period ∧ q.bil.tariff = p.bil.tariff ∧
      q = { p with bil := q.bil }) ∧
  (∀ (p : Pkg) (x : Nat), let q := closeBilling x p; let m := (p.bil.period + 1) % 2 ^ 32
    q = logEventAt (placedAt p) 7 0xFFFF 0 (toLe 4 m) { p with bil := { p.bil with
      period := m, closeT := x, bilT := x, holdT := max p.bil.holdT x
      rg := p.bil.rg.map (fun g => { g with maxDem := List.replicate 8 0, maxTime := List.replicate 8 0 })
      prof := { time := x, period := m, marks := p.bil.marks, acc := (List.range 6).map (accAt p), tar := (List.range 4).map (tarAt p)
                dem := p.bil.rg.map (·.maxDem) } :: p.bil.prof } }) ∧
  (∀ (p : Pkg) (x : Nat) (c : Calendar), p.bil.passive = some c →
    activate x p = (let q := follow x { p with bil := { p.bil with cal := some c, passive := none, season := (seasonAt c x).2, rep_ := none
                                                                   bilT := max x p.bil.bilT, evt := { p.bil.evt with calAct := true } } }
      let old := (p.bil.cal.map (·.id)).getD 0
      updOpen allRegions (enterEv 6 (placedAt p) old c.id 0) (logEventAt (placedAt p) 6 0xFFFF 0 (toLe 4 old ++ toLe 4 c.id) q))) ∧
  (∀ (p : Pkg) (x : Nat) (c : Calendar), p.bil.cal = some c → let k := (seasonAt c x).2; let q := follow x p
    q.bil.season = k ∧ q.bil.tariff = tariffAt c k (calTime q.bil c k x) ∧ q.bil.cal = p.bil.cal ∧ q.bil.period = p.bil.period) ∧
  (b.warnAt = none ∨ s.m.mtr.nvBlock = true ∨ (∃ w, b.warnAt = some w ∧ t < w) → exec .powerFailRecord s = .next s) ∧
  (∀ w : Nat, b.warnAt = some w → s.m.mtr.nvBlock = false → w ≤ t →
    let q := if mayTake s.m = true then follow t all else s.m
    Does .powerFailRecord s (logEventAt (placedAt s.m) 1 0xFFFF 0 (toLe 8 w) { q with bil := { q.bil with warnAt := none } }))

/-- Starts and ends of the four tamper conditions (R334, R335, R337, R340, R350). -/
def Obligations.TamperConditionsStartAndEndOnce : Prop :=
∀ (s : State) (st : Bool) (c : TamperCond),
  let i := if st then Instr.tamperConditionStart c else .tamperConditionEnd c
  let b := s.m.bil
  let x : Tamper := match c with
    | .reverse r => (b.rg.getD r {}).rev
    | .bypassCurrent r => (b.rg.getD r {}).cur
    | .bypassEnergy a => (b.ac.getD a {}).byp
    | .neutral a => (b.ac.getD a {}).neu
  let n := match c with
    | .reverse _ => b.tmp.revMs * 1000000
    | .bypassCurrent _ => b.tmp.curTime * 100000000
    | .bypassEnergy _ => b.tmp.bypWin
    | .neutral _ => b.tmp.neuTime * 100000000
  let k := if st then 0 else 1
  let x1 : Tamper := { x with on := st, count := 0 }
  let count := fun v : Nat => if st then inc8 v else v
  let set := fun (f : BilEvt → BilEvt) (b : Bil) => if st then { b with evt := f b.evt } else b
  let logged := fun (kind source u nu v nv : Nat) (rs : List Nat) (b1 : Bil) =>
    updOpen rs (enterEv kind s.m.mtr.tLast u v 8) (logEventAt s.m.mtr.tLast kind source 0 (toLe nu u ++ toLe nv v) { s.m with bil := b1 })
  (s.m.config = none ∨ x.on = st ∨ x.count < max 1 n → exec i s = .next s) ∧
  (∀ im, s.m.config = some im → x.on ≠ st → max 1 n ≤ x.count → Does i s (match c with
    | .reverse r => logged (0x10 + k) r x.peak 4 (((accAt s.m r).getD 1 0 : Int) - x.start).toNat 8 [r.val]
        (set (fun e => { e with reverse := true }) { b with rg := upd b.rg r (fun g => { g with rev := x1, revCnt := count g.revCnt }) })
    | .bypassCurrent r => logged (0x14 + k) r x.peak 4 0 0 [r.val]
        (set (fun e => { e with bypCur := true }) { b with rg := upd b.rg r (fun g => { g with cur := x1, curCnt := count g.curCnt }) })
    | .bypassEnergy a => let b1 := set (fun e => { e with bypEnergy := true }) { b with ac := upd b.ac a (fun g => { g with byp := x1, bypCnt := count g.bypCnt }) }
        logged (0x12 + k) (4 + a) (uns 64 x.start) 8 x.wins 4 (regionsOf s.m a) b1
    | .neutral a => let b1 := set (fun e => { e with neutral := true }) { b with ac := upd b.ac a (fun g => { g with neu := x1, neuCnt := count g.neuCnt }) }
        logged (0x16 + k) (4 + a) x.peak 2 0 0 (regionsOf s.m a) b1))

/-- DLMS associations and requests (R345, R346, R347, R348, R548). -/
def Obligations.DlmsRequestsAreAnsweredByRole : Prop :=
∀ s : State, let p := s.m
  (∀ a : AarqIn,
    (roleOfPort a.wrap.src = none ∨ awake p = false ∨ 1 < a.ep ∨ epUp p a.ep = false ∨ a.wrap.ok = false → exec (.dlmsAarq a) s = .next s) ∧
    (∀ role, roleOfPort a.wrap.src = some role → awake p = true → a.ep ≤ 1 → epUp p a.ep = true → a.wrap.ok = true →
      let outside := role = .metrology ∧ lcOf p ≠ .service
      let free := p.bil.assoc.length < 8 ∧ (∀ x ∈ p.bil.assoc, x.id ≠ a.id) ∧ (role = .metrology ∨ role = .vendor → ∀ x ∈ p.bil.assoc, x.role ≠ role)
      let authentic := role = .public_ ∨ (a.authOk = true ∧ (a.key, role) ∈ p.bil.dlmsCli ∧ rootOf p.key = .ready)
      let ok := free ∧ p.key.entropy = true ∧ authentic
      (outside → Does (.dlmsAarq a) s (dlmsOut a.id role (Config.dlmsAare false true []) p)) ∧
      (¬outside → ¬ok → Does (.dlmsAarq a) s (dlmsOut a.id role (Config.dlmsAare false false []) p)) ∧
      (¬outside → ok → Does (.dlmsAarq a) s (beginAssoc a role p)))) ∧
  (∀ (a : AarqIn) (role : DlmsRole), (beginAssoc a role p).bil.assoc = p.bil.assoc ++ [{ id := a.id, role := role, ep := a.ep, last := p.clk, max := a.max }]) ∧
  (∀ (r : DlmsReq) (objs : List Cosem) (c : Cosem) (args : List Int) (cal : Option Calendar),
    ((∀ x, p.bil.assoc.find? (fun x => x.id == r.id) = some x →
        awake p = false ∨ epUp p x.ep = false ∨ r.wrap.ok = false ∨ r.wrap.src ≠ wPort x.role ∨ (x.role ≠ .public_ ∧ r.okTag = false)) →
      exec (.dlmsGet r objs) s = .next s ∧ exec (.dlmsSet r c args cal) s = .next s ∧ exec (.dlmsAction r c args) s = .next s) ∧
    (∀ x, p.bil.assoc.find? (fun x => x.id == r.id) = some x → awake p = true → epUp p x.ep = true → r.wrap.ok = true → r.wrap.src = wPort x.role →
        (x.role = .public_ ∨ r.okTag = true) →
      let q := updAssoc r.id (fun y => { y with last := p.clk }) p
      (r.next = none → Does (.dlmsGet r objs) s (sendGet r.inv r.id (objs.map (getOne q x)) q)) ∧
      (∀ n, r.next = some n →
        (n = x.blk → x.rest ≠ [] → Does (.dlmsGet r objs) s (getBlock r.inv r.id q)) ∧
        (n ≠ x.blk ∨ x.rest = [] → Does (.dlmsGet r objs) s (dlmsSend r.id (getApdu r.inv [.result 19]) q))) ∧
      (p.sys.mode ≠ .retired → (∃ o, objOf c.obis = some o ∧ maySet x.role o c.attr = true) →
        Does (.dlmsSet r c args cal) s (journalDlms { id := x.id, inv := r.inv, isSet := true, obj := c, args := args, cal := cal } q)) ∧
      (p.sys.mode = .retired ∨ (∀ o, objOf c.obis = some o → maySet x.role o c.attr = false) →
        Does (.dlmsSet r c args cal) s (dlmsSend r.id (workApdu true false r.inv) q)) ∧
      (p.sys.mode ≠ .retired → (∃ o, objOf c.obis = some o ∧ mayAct x.role o c.attr = true) →
        Does (.dlmsAction r c args) s (journalDlms { id := x.id, inv := r.inv, isSet := false, obj := c, args := args, cal := none } q)) ∧
      (p.sys.mode = .retired ∨ (∀ o, objOf c.obis = some o → mayAct x.role o c.attr = false) →
        Does (.dlmsAction r c args) s (dlmsSend r.id (workApdu false false r.inv) q)))) ∧
  (∀ (x : Assoc) (c : Cosem),
    (objOf c.obis = none → getOne p x c = .result 4) ∧
    (∀ o, objOf c.obis = some o →
      (mayGet x.role o = false → getOne p x c = .result 3) ∧
      (mayGet x.role o = true → c.attr = 1 → getOne p x c = .data (axOctets ((obisOf o).map byte))) ∧
      (mayGet x.role o = true → c.attr ≠ 1 → c.attr ∉ attrsOf o → getOne p x c = .result 4))) ∧
  (∀ (role : DlmsRole) (o : Obj) (k : Nat),
    (maySet role o k = true ↔ (role = .operator ∧ ((o = .calendar ∧ 6 ≤ k ∧ k ≤ 10) ∨ (o = .specials ∧ k = 2) ∨ (o = .closes ∧ k = 4))) ∨
      (role = .metrology ∧ k = 2 ∧ ∃ c, o = .staged c)) ∧
    (mayAct role o k = true ↔ (role = .operator ∧ k = 1 ∧ (o = .calendar ∨ ∃ r, o = .receipts r)) ∨ (role = .metrology ∧ k = 1 ∧ o = .calScript) ∨
      (role = .vendor ∧ 1 ≤ k ∧ k ≤ 4 ∧ o = .transfer))) ∧
  (∀ id : Nat,
    ((∃ x ∈ p.bil.assoc, x.id = id ∧ due p (x.last + 300000000000) = true) →
      Does (.dlmsAssociationTimeout id) s (dropAssoc id p) ∧ (dropAssoc id p).bil.assoc = p.bil.assoc.filter (fun x => x.id != id)) ∧
    ((∀ x ∈ p.bil.assoc, x.id = id → due p (x.last + 300000000000) = false) → exec (.dlmsAssociationTimeout id) s = .next s))

/-- The ledger cycle, leases and summaries (R247, R256, R257, R258, R261, R266, R267, R268, R271, R275, R277, R279).
-/
def Obligations.LeasesAreAskedGrantedAndLost : Prop :=
∀ s : State, let p := s.m
  let took := fun (t : Nat) (m : List Byte) => awake p = true ∧ be m 0 1 = t ∧ (be m 6 2 = nodeAddr p ∨ be m 6 2 = 0xFFFF)
  let heard := fun m : List Byte => updPeer (be m 4 2) (fun x => { x with heard := p.clk }) p
  let ver := (p.ldg.nv.map_.map (·.ver)).getD 0
  (p.sys.ldgDue = false → exec .ledgerCycle s = .next s) ∧
  (p.sys.ldgDue = true → Does .ledgerCycle s (acquireWaiting (ledgerSettle (ledgerCycle
    { p with sys := { p.sys with ldgDue := false, ldgCycles := p.sys.ldgCycles + 1 }, ldg := { p.ldg with temp := tempFor p } })))) ∧
  (∀ q : Pkg, awake q = false ∨ q.ldg.nv.map_ = none ∨ q.ldg.nv.st = .unjoined ∨ q.ldg.nv.st = .left_ → ledgerCycle q = q) ∧
  (∀ (q : Pkg) (m : SiteMap), awake q = true → q.ldg.nv.map_ = some m → q.ldg.nv.st ≠ .unjoined → q.ldg.nv.st ≠ .left_ →
    let t := targets m.n (shares q)
    let own := ((t.find? (fun x => x.1.node == nodeAddr q)).map (·.2)).getD (heldTok q)
    let old := q.ldg.peers.map (fun x => { x with age := x.age + 1 })
    let q1 := { q with ldg := { q.ldg with target := own, surplus := decide (heldTok q > own), peers := old } }
    let q2 := shrink (if own < moduleDemand q then { q1 with ldg := { q1.ldg with evt := { q.ldg.evt with unmet := true } } } else q1)
    let q3 := if q2.ldg.nv.st = .joined ∧ leaseOk q2 = true then (ownMatches q2 t).foldl (fun p m => tryOffer m p) q2 else q2
    let iso := inMode q3 [.isolated]
    let lv := q3.ldg.nv.st == .leaving
    let w := ((ownMod q3).map (·.w)).getD 16
    let fl := countR (floorR q3)
    let q4 := updPeer (nodeAddr q3) (fun x => { x with held := heldTok q3, floor := fl, temp := q3.ldg.temp, weight := w, demand := moduleDemand q3
                                                       isolated := iso, leaving := lv, age := 0, heard := q3.clk }) q3
    ledgerCycle q = floorCheck (ledgerRetry (ldgSend 0x30 0xFFFF (toBe 4 (heldTok q4) ++ toBe 4 fl ++ toBe 4 q4.ldg.temp ++
      toBe 4 (moduleDemand q4) ++ [byte w, byte (bit iso + 2 * bit lv), 0, 0]) q4))) ∧
  (let asks := awake p = true ∧ p.ldg.nv.map_ ≠ none ∧ p.tim.now / 1000000 % 100 = nodeAddr p % 100 ∧ ∀ r ∈ p.ldg.reqs, r.at_ / 1000000 ≠ p.tim.now / 1000000
   let id := (p.ldg.reqCtr + 1) % 2 ^ 32
   (¬asks ∨ p.ldg.nv.st = .unjoined ∨ p.ldg.nv.st = .left_ → Does .leaseRequestSend s (ledgerSettle p)) ∧
   (asks → p.ldg.nv.st = .joining → Does .leaseRequestSend s (ledgerSettle (joinAt (nodeAddr p) (toVoices 0x50 (toBe 4 0) p)))) ∧
   (asks → p.ldg.nv.st ≠ .unjoined → p.ldg.nv.st ≠ .left_ → p.ldg.nv.st ≠ .joining → Does .leaseRequestSend s (ledgerSettle (ownGrant ver id
      (toVoices 0x20 (toBe 4 id ++ toBe 4 (heldTok p) ++ toBe 4 (countR (floorR p)) ++ toBe 4 p.ldg.temp)
        { p with ldg := { p.ldg with reqCtr := id, reqs := cap 8 ({ id := id, at_ := p.tim.now, clk := p.clk } :: p.ldg.reqs) } }))))) ∧
  (∀ m : List Byte, let src := be m 4 2; let d := (m.drop 16).take (be m 2 2); let q := heard m
    let h := (holdAt q src).getD {}
    let member := (mapMods q).any (fun x => x.node == src) = true
    let stale := q.ldg.nv.graceTo = none ∧ be m 8 4 < (q.ldg.nv.map_.map (·.ver)).getD 0
    let ans := fun (st : Nat) (rs : List TRange) (q : Pkg) => ledgerSettle (ldgSend 0x21 src
      (toBe 4 (be d 0 4) ++ [byte st, byte rs.length, 0, 0] ++ (rs.map (rangeBytes false)).flatten) q)
    (¬took 0x20 m → exec (.leaseReq m) s = .next s) ∧
    (took 0x20 m →
      (isVoice q = false → Does (.leaseReq m) s (ledgerSettle q)) ∧
      (isVoice q = true → h.fenced = true → Does (.leaseReq m) s (ans 2 h.taken q)) ∧
      (isVoice q = true → h.fenced = false → ¬member → Does (.leaseReq m) s (ans 3 [] q)) ∧
      (isVoice q = true → h.fenced = false → member → stale → Does (.leaseReq m) s (ans 4 [] q)) ∧
      (isVoice q = true → h.fenced = false → member → ¬stale →
        Does (.leaseReq m) s (ans 0 [] (updHold src (fun h => { h with granted := some q.clk, grantAt := q.tim.now }) (enterHold src q)))))) ∧
  (∀ m : List Byte, let src := be m 4 2; let d := (m.drop 16).take (be m 2 2); let q := heard m; let st := be d 4 1
    let rs := (rangesAt d 8 (be d 5 1)).map (·.1)
    (¬took 0x21 m → exec (.leaseGrant m) s = .next s) ∧
    (took 0x21 m → p.ldg.reqs.find? (fun r => r.id == be d 0 4) = none → Does (.leaseGrant m) s (ledgerSettle q)) ∧
    (∀ r, took 0x21 m → p.ldg.reqs.find? (fun r => r.id == be d 0 4) = some r →
      let counted := src ∉ r.grants ∧ src ∈ voices q
      let full := decide (r.grants.length + 1 ≥ quorum q)
      let reqs := p.ldg.reqs.map (fun x => if x.id = be d 0 4 then { r with grants := src :: r.grants, done := full } else x)
      let q1 := { q with ldg := { q.ldg with reqs := reqs } }
      let end_ := max (r.at_ + 500000000) (p.ldg.leaseTo.getD 0)
      let low := p.ldg.low && !decide (p.tim.now < end_)
      let q2 := { q with ldg := { q.ldg with reqs := reqs, leaseTo := some end_, granted := some r.clk, everQ := true, low := low
                                             nv := { q.ldg.nv with st := if q.ldg.nv.st = .fenced then .joined else q.ldg.nv.st } } }
      (st = 2 → q.ldg.nv.st ∈ [.joined, .fenced, .leaving] → Does (.leaseGrant m) s (ledgerSettle (fencedAt rs q))) ∧
      (st = 2 → q.ldg.nv.st ∉ [.joined, .fenced, .leaving] → Does (.leaseGrant m) s (ledgerSettle q)) ∧
      (st = 3 → Does (.leaseGrant m) s (ledgerSettle (expelled q))) ∧
      (st = 4 → Does (.leaseGrant m) s (ledgerSettle { q with ldg := { q.ldg with evt := { q.ldg.evt with mapOld := true } } })) ∧
      (4 < st ∨ st = 1 → Does (.leaseGrant m) s (ledgerSettle q)) ∧
      (st = 0 → ¬counted → Does (.leaseGrant m) s (ledgerSettle q)) ∧
      (st = 0 → counted → r.done = true ∨ full = false → Does (.leaseGrant m) s (ledgerSettle q1)) ∧
      (st = 0 → counted → r.done = false → full = true →
        Does (.leaseGrant m) s (ledgerSettle (if p.tim.now < end_ then unIsolate q2 else q2))))) ∧
  (let late := fun r : LeaseReq => !r.done && !r.late && due p (r.clk + 20000000)
   ((∀ r ∈ p.ldg.reqs, late r = false) → exec .renewLate s = .next s) ∧
   ((∃ r ∈ p.ldg.reqs, late r = true) → Does .renewLate s { p with ldg := { p.ldg with
      evt := { p.ldg.evt with renewLate := true }, reqs := p.ldg.reqs.map (fun r => { r with late := r.late || late r }) } })) ∧
  (p.ldg.leaseTo = none → exec .leaseLow s = .next s ∧ exec .leaseExpiry s = .next s) ∧
  (∀ t, p.ldg.leaseTo = some t →
    (dueSite p (t - 150000000) = true → Does .leaseLow s { p with ldg := { p.ldg with low := true } }) ∧
    (dueSite p (t - 150000000) = false → exec .leaseLow s = .next s) ∧
    (dueSite p t = false → exec .leaseExpiry s = .next s) ∧
    (dueSite p t = true → let q : Pkg := { p with ldg := { p.ldg with leaseTo := none, low := true, evt := { p.ldg.evt with expired := true } }
                                                  sys := { p.sys with leaseCyc := true } }
      (inMode p [.idle, .armed, .deliver, .derate] = false → Does .leaseExpiry s { q with sys := { q.sys with leaseOwed := true } }) ∧
      (inMode p [.idle, .armed, .deliver, .derate] = true → let q1 := setMode .isolated q
        Does .leaseExpiry s ((List.range 4).foldl (fun p r => if p.ldg.floorUse.getD r false then p else endSession r 0xB p)
          { q1 with sys := { q1.sys with armUntil := none, leaseWait := none, leaseOwed := false, freeCycles := 0 } })))) ∧
  (∀ m : List Byte, let d := (m.drop 16).take (be m 2 2); let f := be d 17 1
    (¬took 0x30 m → exec (.summary m) s = .next s) ∧
    (took 0x30 m → Does (.summary m) s (ledgerSettle (updPeer (be m 4 2) (fun x => { x with held := be d 0 4, floor := be d 4 4, temp := be d 8 4
                                                                                            demand := be d 12 4, weight := be d 16 1, isolated := tb f 0
                                                                                            leaving := tb f 1, age := 0 }) (heard m)))))

/-- The transfer of tokens between modules (R245, R255, R263, R264, R265, R269, R279, R280, R430). -/
def Obligations.TransfersAreJournaledBeforeTheyAreAnswered : Prop :=
∀ s : State, let p := s.m
  let took := fun (t : Nat) (m : List Byte) => awake p = true ∧ be m 0 1 = t ∧ (be m 6 2 = nodeAddr p ∨ be m 6 2 = 0xFFFF)
  let heard := fun m : List Byte => updPeer (be m 4 2) (fun x => { x with heard := p.clk }) p
  let body := fun m : List Byte => (m.drop 16).take (be m 2 2)
  (∀ m : List Byte, let src := be m 4 2; let q := heard m; let id := be (body m) 0 8
    let r : TRange := ⟨be (body m) 8 4 % 2 ^ 24, be (body m) 12 4⟩
    let put := fun (x : XferIn) => let w := winMark src (id % 2 ^ 48) q
      { w with ldg := { w.ldg with nv := { w.ldg.nv with ins := x :: w.ldg.nv.ins } } }
    (¬took 0x10 m → exec (.prepare m) s = .next s) ∧
    (∀ x, took 0x10 m → p.ldg.nv.ins.find? (fun x => x.id == id) = some x →
      let q1 := { q with dfn := { q.dfn with dups := inc32 q.dfn.dups } }
      (x.st = .pending → Does (.prepare m) s (ledgerSettle q1)) ∧
      (x.st ≠ .pending → Does (.prepare m) s (ledgerSettle (sendHeld src id (if p.ldg.nv.st = .fenced then 1 else x.answer) q1)))) ∧
    (took 0x10 m → p.ldg.nv.ins.find? (fun x => x.id == id) = none →
      let bad := prepareBad (be m 8 4) r q
      (winBelow src (id % 2 ^ 48) q = true →
        Does (.prepare m) s (ledgerSettle (sendHeld src id 1 (dfnEvt (fun e => { e with stale := true }) q)))) ∧
      (winBelow src (id % 2 ^ 48) q = false → p.mtr.nvBlock = true → Does (.prepare m) s (ledgerSettle q)) ∧
      (winBelow src (id % 2 ^ 48) q = false → p.mtr.nvBlock = false →
        (bad ≠ 0 → Does (.prepare m) s (ledgerSettle (sendHeld src id bad (put { id := id, src := src, range := r, st := .refused, answer := bad })))) ∧
        (bad = 0 → Does (.prepare m) s (ledgerSettle (journalXfer id src r false 2 (.pend id) (put { id := id, src := src, range := r }))))))) ∧
  (∀ (ver : Nat) (r : TRange) (q : Pkg), let map := q.ldg.nv.map_.map (·.ver); let v := q.ldg.nv
    (v.st = .fenced → prepareBad ver r q = 2) ∧ (v.st ≠ .fenced → v.st ≠ .joined → prepareBad ver r q = 3) ∧
    (v.st = .joined → map ≠ some ver → prepareBad ver r q = 4) ∧
    (v.st = .joined → map = some ver → prepareBad ver r q = if fitsIn r q then 0 else 5)) ∧
  (∀ id : Nat,
    let again := fun x : XferOut => awake p = true ∧ due p (x.sent + 2000000) = true ∧
      waits p (.offer id) = false ∧ waits p (.gone id) = false ∧ waits p (.back id) = false
    ((∀ x, p.ldg.nv.outs.find? (fun x => x.id == id) = some x → ¬again x) → exec (.prepareResend id) s = .next s) ∧
    (∀ x, p.ldg.nv.outs.find? (fun x => x.id == id) = some x → again x → Does (.prepareResend id) s
      (ldgSend 0x10 x.dst (toBe 8 x.id ++ rangeBytes false x.range)
        { p with ldg := { p.ldg with nv := { p.ldg.nv with outs := p.ldg.nv.outs.map (fun y => if y.id = id then { y with sent := p.clk } else y) } } }))) ∧
  (∀ m : List Byte, let src := be m 4 2; let q := heard m; let id := be (body m) 0 8; let giver := be (body m) 8 2
    let undo := be (body m) 10 1; let r : TRange := ⟨be (body m) 12 4 % 2 ^ 24, be (body m) 16 4⟩
    (¬took 0x12 m → exec (.note m) s = .next s) ∧
    (took 0x12 m → isVoice q = false → Does (.note m) s (ledgerSettle q)) ∧
    (took 0x12 m → isVoice q = true →
      (undo = 1 ∨ noteDecide q giver r = some 0 → Does (.note m) s (ledgerSettle (noteRecord src giver id r (undo == 1) q))) ∧
      (∀ st, undo ≠ 1 → noteDecide q giver r = some (st + 1) → Does (.note m) s (ledgerSettle (noteReply src id (st + 1) q))) ∧
      (undo ≠ 1 → noteDecide q giver r = none → Does (.note m) s (ledgerSettle { q with ldg := { q.ldg with
        defer_ := { id := id, src := src, giver := giver, range := r, due := p.clk + 50000000 } :: q.ldg.defer_.filter (fun x => x.id != id) } })))) ∧
  (∀ (q : Pkg) (giver : Nat) (r : TRange),
    (holdAt q giver = none → noteDecide q giver r = some 1) ∧
    (∀ h, holdAt q giver = some h → let free := !h.fenced && hasR r h.ranges && !h.taken.any (meetR r)
      noteDecide q giver r = if h.fenced && h.open_ then none else if free then some 0 else some 1)) ∧
  (∀ id : Nat,
    ((∀ x, p.ldg.defer_.find? (fun x => x.id == id) = some x → due p x.due = false) → Does (.noteDeferTimeout id) s (ledgerSettle p)) ∧
    (∀ x, p.ldg.defer_.find? (fun x => x.id == id) = some x → due p x.due = true →
      let q := { p with ldg := { p.ldg with defer_ := p.ldg.defer_.filter (fun y => y.id != x.id) } }
      (noteDecide p x.giver x.range = some 0 → Does (.noteDeferTimeout id) s (ledgerSettle (noteRecord x.src x.giver x.id x.range false q))) ∧
      (noteDecide p x.giver x.range ≠ some 0 → Does (.noteDeferTimeout id) s (ledgerSettle (noteReply x.src x.id 1 q))))) ∧
  (∀ m : List Byte, let src := be m 4 2; let q := heard m; let id := be (body m) 0 8; let st := be (body m) 8 1
    (¬took 0x13 m → exec (.noteAck m) s = .next s) ∧
    (took 0x13 m → p.ldg.nv.ins.find? (fun x => x.id == id) = none → Does (.noteAck m) s (ledgerSettle q)) ∧
    (∀ x, took 0x13 m → p.ldg.nv.ins.find? (fun x => x.id == id) = some x →
      let y := if st = 0 then { x with oks := src :: x.oks } else { x with nos := src :: x.nos }
      let rest := x.oks.filter (fun v => v != src)
      (x.st = .pending → src ∈ x.oks ∨ src ∈ x.nos → Does (.noteAck m) s (ledgerSettle q)) ∧
      (x.st = .pending → src ∉ x.oks → src ∉ x.nos → Does (.noteAck m) s (ledgerSettle (inDecide y (putIn y q)))) ∧
      (x.st = .aborted → st ≠ 0 → Does (.noteAck m) s (ledgerSettle q)) ∧
      (x.st = .aborted → st = 0 → src ∈ x.oks → Does (.noteAck m) s (ledgerSettle (putIn { x with oks := rest, undo := !rest.isEmpty } q))) ∧
      (x.st = .aborted → st = 0 → src ∉ x.oks →
        Does (.noteAck m) s (ledgerSettle (sendUndo x [src] (putIn { x with oks := src :: x.oks, undo := true } q)))) ∧
      (x.st ≠ .pending → x.st ≠ .aborted → Does (.noteAck m) s (ledgerSettle q)))) ∧
  (∀ (x : XferIn) (q : Pkg),
    (quorum q ≤ x.oks.length → inDecide x q = journalXfer x.id x.src x.range false 3 (.held x.id) q) ∧
    (x.oks.length < quorum q → pairs q - quorum q < x.nos.length → inDecide x q = journalXfer x.id x.src x.range false 5 (.aborted x.id) q) ∧
    (x.oks.length < quorum q → x.nos.length ≤ pairs q - quorum q → inDecide x q = q))

/-- Reclaim of a silent module, and its return (R253, R260, R268, R269, R270, R271, R279, R280). -/
def Obligations.ReclaimIsVotedAndRecorded : Prop :=
∀ s : State, let p := s.m
  let took := fun (t : Nat) (m : List Byte) => awake p = true ∧ be m 0 1 = t ∧ (be m 6 2 = nodeAddr p ∨ be m 6 2 = 0xFFFF)
  let heard := fun m : List Byte => updPeer (be m 4 2) (fun x => { x with heard := p.clk }) p
  let body := fun m : List Byte => (m.drop 16).take (be m 2 2)
  (∀ target : Nat, let b := buddyOf p target
    let who := if knownLease p b then b else lowest (((mapMods p).map (·.node)).filter (fun n => n != target && knownLease p n))
    let starts := awake p = true ∧ leaseOk p = true ∧ who = nodeAddr p ∧ target ≠ nodeAddr p ∧
      due p (max (peerAt p target).heard p.ldg.upSince + reclaimWait p) = true ∧ (∃ m ∈ mapMods p, m.node = target) ∧ ∀ x ∈ p.ldg.recl, x.target ≠ target
    let id := (p.ldg.reqCtr + 1) % 2 ^ 32
    (¬starts → Does (.reclaimStart target) s (ledgerSettle p)) ∧
    (starts → Does (.reclaimStart target) s (ledgerSettle (reclaimAsk (nodeAddr p) target id (toVoices 0x40 (toBe 2 target ++ [0, 0] ++ toBe 4 id)
      { p with ldg := { p.ldg with reqCtr := id, recl := { target := target, id := id, sent := p.clk } :: p.ldg.recl } }))))) ∧
  (∀ m : List Byte,
    (¬took 0x40 m → exec (.reclaimReq m) s = .next s) ∧
    (took 0x40 m → Does (.reclaimReq m) s (ledgerSettle (reclaimAsk (be m 4 2) (be (body m) 0 2) (be (body m) 4 4) (heard m))))) ∧
  (∀ (q : Pkg) (src target id : Nat), let w := reclaimWait q
    let may := (∃ h, holdAt q target = some h ∧ (∀ t, h.granted = some t → t + w ≤ q.clk) ∧
      (∀ n t, h.vote = some (n, t) → n = src ∨ t + w ≤ q.clk)) ∧ q.ldg.upSince + w ≤ q.clk
    (isVoice q = false → reclaimAsk src target id q = q) ∧
    (isVoice q = true → may → q.mtr.nvBlock = true → reclaimAsk src target id q = q) ∧
    (isVoice q = true → may → q.mtr.nvBlock = false → reclaimAsk src target id q =
      journalNew (.vote src target id) (msgRecord 0x41 src (voteBody target 0 id []))
        (updHold target (fun h => { h with fenced := true, open_ := true, vote := some (src, q.clk) }) q)) ∧
    (isVoice q = true → ¬may → reclaimAsk src target id q = voteReply src target 1 id q)) ∧
  (∀ m : List Byte, let src := be m 4 2; let q := heard m; let d := body m; let target := be d 0 2; let id := be d 4 4
    let rs := (rangesAt d 8 (be d 3 1)).map (fun x => ((⟨x.1.first, x.1.count⟩ : TRange), x.2))
    (¬took 0x41 m → exec (.reclaimVote m) s = .next s) ∧
    (took 0x41 m → p.ldg.recl.find? (fun x => x.target == target && x.id == id) = none → Does (.reclaimVote m) s (ledgerSettle q)) ∧
    (∀ x, took 0x41 m → p.ldg.recl.find? (fun x => x.target == target && x.id == id) = some x →
      let v := (src, rs.map (·.1), (rs.filter (·.2)).map (·.1)) :: x.votes
      let all := p.ldg.recl.map (fun y => if y.target = target then { y with votes := v } else y)
      let t := fitR q.ldg.nv.ranges (takeable v)
      (be d 2 1 ≠ 0 ∨ (∃ y ∈ x.votes, y.1 = src) → Does (.reclaimVote m) s (ledgerSettle q)) ∧
      (be d 2 1 = 0 → (∀ y ∈ x.votes, y.1 ≠ src) →
        (v.length < quorum q ∨ p.mtr.nvBlock = true → Does (.reclaimVote m) s (ledgerSettle { q with ldg := { q.ldg with recl := all } })) ∧
        (quorum q ≤ v.length → p.mtr.nvBlock = false → Does (.reclaimVote m) s (ledgerSettle
          (journalNew (.reclaim target id t) (msgRecord 0x42 (nodeAddr q) (doneBody target id t))
            { q with ldg := { q.ldg with recl := all.filter (fun y => y.target != target) } })))))) ∧
  (∀ target : Nat,
    ((∀ x, p.ldg.recl.find? (fun x => x.target == target) = some x → due p (x.sent + 20000000) = false) → exec (.reclaimVoteTimeout target) s = .next s) ∧
    (∀ x, p.ldg.recl.find? (fun x => x.target == target) = some x → due p (x.sent + 20000000) = true →
      Does (.reclaimVoteTimeout target) s { p with ldg := { p.ldg with recl := p.ldg.recl.filter (fun y => y.target != target) } })) ∧
  (∀ m : List Byte, let src := be m 4 2; let q := heard m; let d := body m; let target := be d 0 2; let rs := (rangesAt d 8 (be d 3 1)).map (·.1)
    let q1 := updPeer target (fun x => { x with held := x.held - countR rs }) (passVoice target q)
    (¬took 0x42 m → exec (.reclaimDone m) s = .next s) ∧
    (took 0x42 m → p.mtr.nvBlock = true → Does (.reclaimDone m) s (ledgerSettle q)) ∧
    (took 0x42 m → p.mtr.nvBlock = false → isVoice q1 = false → Does (.reclaimDone m) s (ledgerSettle q1)) ∧
    (took 0x42 m → p.mtr.nvBlock = false → isVoice q1 = true →
      Does (.reclaimDone m) s (ledgerSettle (journalNew (.done_ src target rs) (msgRecord 0x42 src (doneBody target 0 rs)) q1)))) ∧
  (∀ m : List Byte, let src := be m 4 2; let q := heard m
    (¬took 0x52 m → exec (.rejoin m) s = .next s) ∧
    (took 0x52 m → isVoice q = false → Does (.rejoin m) s (ledgerSettle q)) ∧
    (took 0x52 m → isVoice q = true → Does (.rejoin m) s (ledgerSettle (journalNew (.rejoin src) (msgRecord 0x52 src (toBe 4 0)) q)))) ∧
  (∀ (a : LdgAct) (d : List Byte) (q : Pkg), let n := newWorkId q
    (q.mtr.nvBlock = true ∨ waits q a = true → journalNew a d q = q) ∧
    (q.mtr.nvBlock = false → waits q a = false → journalNew a d q = journal n.1 a d n.2))

/-- Joining, leaving and site maps (R247, R255, R275, R276, R278, R279, R280). -/
def Obligations.MembersJoinLeaveAndTakeMaps : Prop :=
∀ s : State, let p := s.m
  let took := fun (t : Nat) (m : List Byte) => awake p = true ∧ be m 0 1 = t ∧ (be m 6 2 = nodeAddr p ∨ be m 6 2 = 0xFFFF)
  let heard := fun m : List Byte => updPeer (be m 4 2) (fun x => { x with heard := p.clk }) p
  let body := fun m : List Byte => (m.drop 16).take (be m 2 2)
  (∀ m : List Byte, let src := be m 4 2; let q := heard m; let member := ∃ x ∈ mapMods q, x.node = src
    (¬took 0x50 m → exec (.joinReq m) s = .next s) ∧
    (took 0x50 m → isVoice q = false → Does (.joinReq m) s (ledgerSettle q)) ∧
    (took 0x50 m → isVoice q = true → ¬member → Does (.joinReq m) s (ledgerSettle (joinReply src 3 q))) ∧
    (∀ h, took 0x50 m → isVoice q = true → member → holdAt q src = some h →
      Does (.joinReq m) s (ledgerSettle (joinReply src (if h.fenced then 2 else 0) q))) ∧
    (took 0x50 m → isVoice q = true → member → holdAt q src = none →
      Does (.joinReq m) s (ledgerSettle (journalNew (.join src) (msgRecord 0x50 src (toBe 4 0)) q)))) ∧
  (∀ (src st : Nat) (q : Pkg),
    (src ≠ nodeAddr q → joinReply src st q = ldgSend 0x51 src [byte st, 0, 0, 0] q) ∧
    (src = nodeAddr q → joinReply src st q = joinAck src st q)) ∧
  (∀ m : List Byte, let src := be m 4 2; let q := heard m; let l := src :: p.ldg.joinAcks
    (¬took 0x51 m → exec (.joinAck m) s = .next s) ∧
    (took 0x51 m → p.ldg.nv.st ≠ .joining ∨ be (body m) 0 1 ≠ 0 ∨ src ∈ p.ldg.joinAcks → Does (.joinAck m) s (ledgerSettle q)) ∧
    (took 0x51 m → p.ldg.nv.st = .joining → be (body m) 0 1 = 0 → src ∉ p.ldg.joinAcks →
      (l.length < quorum q → Does (.joinAck m) s (ledgerSettle { q with ldg := { q.ldg with joinAcks := l } })) ∧
      (quorum q ≤ l.length → Does (.joinAck m) s (ledgerSettle (floorCheck
        { q with ldg := { q.ldg with joinAcks := l, nv := { q.ldg.nv with st := .joined } } }))))) ∧
  (∀ m : List Byte, let src := be m 4 2; let q := heard m
    (¬took 0x53 m → exec (.leaveNote m) s = .next s) ∧
    (took 0x53 m → isVoice q = false → Does (.leaveNote m) s (ledgerSettle q)) ∧
    (took 0x53 m → isVoice q = true → Does (.leaveNote m) s (ledgerSettle (journalNew (.leave src) (msgRecord 0x53 src (toBe 4 0)) q)))) ∧
  (p.ldg.nv.pendMap = none → exec .siteMapActivation s = .next s) ∧
  (∀ w, p.ldg.nv.pendMap = some w → let less := w.n < (p.ldg.nv.map_.map (·.n)).getD 0
    (dueSite p w.act = false ∨ (less ∧ shrunk p w.n = false) → exec .siteMapActivation s = .next s) ∧
    (dueSite p w.act = true → ¬less ∨ shrunk p w.n = true → Does .siteMapActivation s (takeMap w p))) ∧
  (∀ (w : SiteMap) (q : Pkg), (∀ m ∈ w.mods, m.serial ≠ q.dfn.serial) →
    takeMap w q = tableMap w ((q.ldg.nv.map_.map (·.n)).getD 0) (netMap (w.mods.map (fun m => (m.node, m.serial))) w.cls { q with ldg := { q.ldg with
      nv := { q.ldg.nv with map_ := some w, pendMap := none, moved := [], graceTo := some (w.act + 60000000000) } } })) ∧
  (p.ldg.nv.graceTo = none → exec .mapGraceExpiry s = .next s) ∧
  (∀ t, p.ldg.nv.graceTo = some t → 
    (dueSite p t = false → exec .mapGraceExpiry s = .next s) ∧
    (dueSite p t = true → Does .mapGraceExpiry s { p with ldg := { p.ldg with nv := { p.ldg.nv with graceTo := none } } }))

/-- The 32-bit view of an accumulator is its value in Wh, modulo 2^32 (R303). -/
def Obligations.AccumulatorViewsReadInWattHours : Prop :=
∀ (p : Pkg) (m j : Fin 6), let a := (p.mtr.shown.getD m.val []).getD j.val 0
  meterRead p m.val (0x38 + 4 * j.val) = a / 10 ^ 6 % 2 ^ 32 ∧
  (meterRead p m.val (0x38 + 4 * j.val) = 4294967295 → ∀ p' : Pkg,
    (p'.mtr.shown.getD m.val []).getD j.val 0 = a + 10 ^ 6 → meterRead p' m.val (0x38 + 4 * j.val) = 0)
end

