-- ==== Sys2Proof/Laws/Cosem.lean ====
section
/-!
SUPPORT. What sending over DLMS can do (10 R346, R347).
-/

namespace Sys2Proof.Machine

/-- A datagram goes to the record of datagrams sent. -/
theorem dlmsOut_bil (id : Nat) (r : DlmsRole) (b : List Byte) (p : Pkg) :
    dlmsOut id r b p = { p with bil := { p.bil with dlmsTx := { id := id, bytes := wrapped r b } :: p.bil.dlmsTx } } := rfl

/-- Sending in an association changes billing's record of DLMS and nothing else. -/
theorem dlmsSend_keeps (id : Nat) (b : List Byte) (p : Pkg) : dlmsSend id b p = { p with bil := (dlmsSend id b p).bil } := by
  unfold dlmsSend
  split
  · rfl
  · split <;> rfl

end Sys2Proof.Machine
end

