-- ==== Sys2Proof/Laws/State.lean ====
section
/-!
SUPPORT. What the updates of the package leave alone, field by field: `lasting`, which every meaning passes through,
and the update of one element or one record of a block. Each is true by unfolding.
-/

namespace Sys2Proof.Machine

/-- A meaning's answer. -/
theorem run1_eq (f : Pkg → Pkg) (s : State) : run1 f s = .next { s with m := lasting s.m (f s.m) } := rfl

@[simp] theorem lasting_clk (o n : Pkg) : (lasting o n).clk = n.clk := rfl
@[simp] theorem lasting_mbx (o n : Pkg) : (lasting o n).mbx = n.mbx := rfl
@[simp] theorem lasting_pwr (o n : Pkg) : (lasting o n).pwr = n.pwr := rfl
@[simp] theorem lasting_ce (o n : Pkg) : (lasting o n).ce = n.ce := rfl
@[simp] theorem lasting_vcmd (o n : Pkg) : (lasting o n).vcmd = n.vcmd := rfl
@[simp] theorem lasting_eye (o n : Pkg) : (lasting o n).eye = n.eye := rfl
@[simp] theorem lasting_ldg (o n : Pkg) : (lasting o n).ldg = n.ldg := rfl
@[simp] theorem lasting_mtr (o n : Pkg) : (lasting o n).mtr = n.mtr := rfl
@[simp] theorem lasting_bil (o n : Pkg) : (lasting o n).bil = n.bil := rfl
@[simp] theorem lasting_duo (o n : Pkg) : (lasting o n).duo = n.duo := rfl
@[simp] theorem lasting_dfl (o n : Pkg) : (lasting o n).dfl = n.dfl := rfl
@[simp] theorem lasting_dfn (o n : Pkg) : (lasting o n).dfn = n.dfn := rfl
@[simp] theorem lasting_vlk (o n : Pkg) : (lasting o n).vlk = n.vlk := rfl
@[simp] theorem lasting_can (o n : Pkg) : (lasting o n).can = n.can := rfl
@[simp] theorem lasting_pln (o n : Pkg) : (lasting o n).pln = n.pln := rfl
@[simp] theorem lasting_lsw (o n : Pkg) : (lasting o n).lsw = n.lsw := rfl
@[simp] theorem lasting_bat (o n : Pkg) : (lasting o n).bat = n.bat := rfl
@[simp] theorem lasting_key (o n : Pkg) : (lasting o n).key = n.key := rfl
@[simp] theorem lasting_tim (o n : Pkg) : (lasting o n).tim = n.tim := rfl
@[simp] theorem lasting_thm (o n : Pkg) : (lasting o n).thm = n.thm := rfl
@[simp] theorem lasting_sup (o n : Pkg) : (lasting o n).sup = n.sup := rfl
@[simp] theorem lasting_loads (o n : Pkg) : (lasting o n).loads = n.loads := rfl
@[simp] theorem lasting_store (o n : Pkg) : (lasting o n).store = n.store := rfl
@[simp] theorem lasting_ready (o n : Pkg) : (lasting o n).ready = n.ready := rfl
@[simp] theorem lasting_config (o n : Pkg) : (lasting o n).config = n.config := rfl
@[simp] theorem lasting_freeN (o n : Pkg) : (lasting o n).freeN = n.freeN := rfl
@[simp] theorem lasting_sys_prev (o n : Pkg) : (lasting o n).sys.prev = n.sys.prev := rfl
@[simp] theorem lasting_sys_jMode (o n : Pkg) : (lasting o n).sys.jMode = n.sys.jMode := rfl
@[simp] theorem lasting_sys_degraded (o n : Pkg) : (lasting o n).sys.degraded = n.sys.degraded := rfl
@[simp] theorem lasting_sys_grant (o n : Pkg) : (lasting o n).sys.grant = n.sys.grant := rfl
@[simp] theorem lasting_sys_lastGuard (o n : Pkg) : (lasting o n).sys.lastGuard = n.sys.lastGuard := rfl
@[simp] theorem lasting_sys_lcLog (o n : Pkg) : (lasting o n).sys.lcLog = n.sys.lcLog := rfl
@[simp] theorem lasting_sys_lcRead (o n : Pkg) : (lasting o n).sys.lcRead = n.sys.lcRead := rfl
@[simp] theorem lasting_sys_cause (o n : Pkg) : (lasting o n).sys.cause = n.sys.cause := rfl
@[simp] theorem lasting_sys_resetBit (o n : Pkg) : (lasting o n).sys.resetBit = n.sys.resetBit := rfl
@[simp] theorem lasting_sys_pendingRst (o n : Pkg) : (lasting o n).sys.pendingRst = n.sys.pendingRst := rfl
@[simp] theorem lasting_sys_rstSaveEnd (o n : Pkg) : (lasting o n).sys.rstSaveEnd = n.sys.rstSaveEnd := rfl
@[simp] theorem lasting_sys_thermHold (o n : Pkg) : (lasting o n).sys.thermHold = n.sys.thermHold := rfl
@[simp] theorem lasting_sys_armUntil (o n : Pkg) : (lasting o n).sys.armUntil = n.sys.armUntil := rfl
@[simp] theorem lasting_sys_armTimeout (o n : Pkg) : (lasting o n).sys.armTimeout = n.sys.armTimeout := rfl
@[simp] theorem lasting_sys_leaseWait (o n : Pkg) : (lasting o n).sys.leaseWait = n.sys.leaseWait := rfl
@[simp] theorem lasting_sys_leaseOwed (o n : Pkg) : (lasting o n).sys.leaseOwed = n.sys.leaseOwed := rfl
@[simp] theorem lasting_sys_leaseCyc (o n : Pkg) : (lasting o n).sys.leaseCyc = n.sys.leaseCyc := rfl
@[simp] theorem lasting_sys_faultCyc (o n : Pkg) : (lasting o n).sys.faultCyc = n.sys.faultCyc := rfl
@[simp] theorem lasting_sys_freeCycles (o n : Pkg) : (lasting o n).sys.freeCycles = n.sys.freeCycles := rfl
@[simp] theorem lasting_sys_derateWhy (o n : Pkg) : (lasting o n).sys.derateWhy = n.sys.derateWhy := rfl
@[simp] theorem lasting_sys_retryIval (o n : Pkg) : (lasting o n).sys.retryIval = n.sys.retryIval := rfl
@[simp] theorem lasting_sys_retryDue (o n : Pkg) : (lasting o n).sys.retryDue = n.sys.retryDue := rfl
@[simp] theorem lasting_sys_supCycles (o n : Pkg) : (lasting o n).sys.supCycles = n.sys.supCycles := rfl
@[simp] theorem lasting_sys_ldgDue (o n : Pkg) : (lasting o n).sys.ldgDue = n.sys.ldgDue := rfl
@[simp] theorem lasting_sys_ldgCycles (o n : Pkg) : (lasting o n).sys.ldgCycles = n.sys.ldgCycles := rfl
@[simp] theorem lasting_sys_ref0Ok (o n : Pkg) : (lasting o n).sys.ref0Ok = n.sys.ref0Ok := rfl
@[simp] theorem lasting_sys_ref1Ok (o n : Pkg) : (lasting o n).sys.ref1Ok = n.sys.ref1Ok := rfl
@[simp] theorem lasting_sys_refUsed (o n : Pkg) : (lasting o n).sys.refUsed = n.sys.refUsed := rfl
@[simp] theorem lasting_sys_clkFaults (o n : Pkg) : (lasting o n).sys.clkFaults = n.sys.clkFaults := rfl
@[simp] theorem lasting_sys_eccCount (o n : Pkg) : (lasting o n).sys.eccCount = n.sys.eccCount := rfl
@[simp] theorem lasting_sys_linkDrops (o n : Pkg) : (lasting o n).sys.linkDrops = n.sys.linkDrops := rfl
@[simp] theorem lasting_sys_hoopG (o n : Pkg) : (lasting o n).sys.hoopG = n.sys.hoopG := rfl
@[simp] theorem lasting_sys_hoopA (o n : Pkg) : (lasting o n).sys.hoopA = n.sys.hoopA := rfl
@[simp] theorem lasting_sys_hoopB (o n : Pkg) : (lasting o n).sys.hoopB = n.sys.hoopB := rfl
@[simp] theorem lasting_sys_noOwnerHold (o n : Pkg) : (lasting o n).sys.noOwnerHold = n.sys.noOwnerHold := rfl
@[simp] theorem lasting_sys_wiped (o n : Pkg) : (lasting o n).sys.wiped = n.sys.wiped := rfl
@[simp] theorem lasting_mode (o n : Pkg) :
    (lasting o n).sys.mode = if o.sys.mode = .retired then .retired else n.sys.mode := rfl
@[simp] theorem lasting_fuses (o n : Pkg) : (lasting o n).sys.fuses = o.sys.fuses.burn n.sys.fuses := rfl

/-- Burning what is burnt changes nothing. -/
@[simp] theorem burn_self (a : LcFuses) : a.burn a = a := by cases a; simp [LcFuses.burn]

/-- A change that leaves the package's own state alone keeps it. -/
theorem lasting_sys_of {o n : Pkg} (h : n.sys = o.sys) : (lasting o n).sys = o.sys := by
  have e : (if o.sys.mode = .retired then Mode.retired else o.sys.mode) = o.sys.mode := by
    split
    · rename_i hm; exact hm.symm
    · rfl
  show ({ n.sys with mode := if o.sys.mode = .retired then .retired else n.sys.mode, fuses := o.sys.fuses.burn n.sys.fuses } : Sys) = o.sys
  rw [h, e, burn_self]

/-- No change at all is one that lasts. -/
@[simp] theorem lasting_self (p : Pkg) : lasting p p = p := by
  have h : (lasting p p).sys = p.sys := lasting_sys_of rfl
  calc lasting p p = { p with sys := (lasting p p).sys } := rfl
    _ = p := by rw [h]

@[simp] theorem updCl_clk (n : Nat) (f : Cluster → Cluster) (p : Pkg) : (updCl n f p).clk = p.clk := rfl
@[simp] theorem updCl_sys (n : Nat) (f : Cluster → Cluster) (p : Pkg) : (updCl n f p).sys = p.sys := rfl
@[simp] theorem updCl_mbx (n : Nat) (f : Cluster → Cluster) (p : Pkg) : (updCl n f p).mbx = p.mbx := rfl
@[simp] theorem updCl_ce (n : Nat) (f : Cluster → Cluster) (p : Pkg) : (updCl n f p).ce = p.ce := rfl
@[simp] theorem updCl_vcmd (n : Nat) (f : Cluster → Cluster) (p : Pkg) : (updCl n f p).vcmd = p.vcmd := rfl
@[simp] theorem updCl_eye (n : Nat) (f : Cluster → Cluster) (p : Pkg) : (updCl n f p).eye = p.eye := rfl
@[simp] theorem updCl_ldg (n : Nat) (f : Cluster → Cluster) (p : Pkg) : (updCl n f p).ldg = p.ldg := rfl
@[simp] theorem updCl_mtr (n : Nat) (f : Cluster → Cluster) (p : Pkg) : (updCl n f p).mtr = p.mtr := rfl
@[simp] theorem updCl_bil (n : Nat) (f : Cluster → Cluster) (p : Pkg) : (updCl n f p).bil = p.bil := rfl
@[simp] theorem updCl_duo (n : Nat) (f : Cluster → Cluster) (p : Pkg) : (updCl n f p).duo = p.duo := rfl
@[simp] theorem updCl_dfl (n : Nat) (f : Cluster → Cluster) (p : Pkg) : (updCl n f p).dfl = p.dfl := rfl
@[simp] theorem updCl_dfn (n : Nat) (f : Cluster → Cluster) (p : Pkg) : (updCl n f p).dfn = p.dfn := rfl
@[simp] theorem updCl_vlk (n : Nat) (f : Cluster → Cluster) (p : Pkg) : (updCl n f p).vlk = p.vlk := rfl
@[simp] theorem updCl_can (n : Nat) (f : Cluster → Cluster) (p : Pkg) : (updCl n f p).can = p.can := rfl
@[simp] theorem updCl_pln (n : Nat) (f : Cluster → Cluster) (p : Pkg) : (updCl n f p).pln = p.pln := rfl
@[simp] theorem updCl_lsw (n : Nat) (f : Cluster → Cluster) (p : Pkg) : (updCl n f p).lsw = p.lsw := rfl
@[simp] theorem updCl_bat (n : Nat) (f : Cluster → Cluster) (p : Pkg) : (updCl n f p).bat = p.bat := rfl
@[simp] theorem updCl_key (n : Nat) (f : Cluster → Cluster) (p : Pkg) : (updCl n f p).key = p.key := rfl
@[simp] theorem updCl_tim (n : Nat) (f : Cluster → Cluster) (p : Pkg) : (updCl n f p).tim = p.tim := rfl
@[simp] theorem updCl_thm (n : Nat) (f : Cluster → Cluster) (p : Pkg) : (updCl n f p).thm = p.thm := rfl
@[simp] theorem updCl_sup (n : Nat) (f : Cluster → Cluster) (p : Pkg) : (updCl n f p).sup = p.sup := rfl
@[simp] theorem updCl_loads (n : Nat) (f : Cluster → Cluster) (p : Pkg) : (updCl n f p).loads = p.loads := rfl
@[simp] theorem updCl_store (n : Nat) (f : Cluster → Cluster) (p : Pkg) : (updCl n f p).store = p.store := rfl
@[simp] theorem updCl_ready (n : Nat) (f : Cluster → Cluster) (p : Pkg) : (updCl n f p).ready = p.ready := rfl
@[simp] theorem updCl_config (n : Nat) (f : Cluster → Cluster) (p : Pkg) : (updCl n f p).config = p.config := rfl
@[simp] theorem updCl_freeN (n : Nat) (f : Cluster → Cluster) (p : Pkg) : (updCl n f p).freeN = p.freeN := rfl
@[simp] theorem updRun_clk (n : Nat) (f : ClusterRun → ClusterRun) (p : Pkg) : (updRun n f p).clk = p.clk := rfl
@[simp] theorem updRun_sys (n : Nat) (f : ClusterRun → ClusterRun) (p : Pkg) : (updRun n f p).sys = p.sys := rfl
@[simp] theorem updRun_mbx (n : Nat) (f : ClusterRun → ClusterRun) (p : Pkg) : (updRun n f p).mbx = p.mbx := rfl
@[simp] theorem updRun_ce (n : Nat) (f : ClusterRun → ClusterRun) (p : Pkg) : (updRun n f p).ce = p.ce := rfl
@[simp] theorem updRun_vcmd (n : Nat) (f : ClusterRun → ClusterRun) (p : Pkg) : (updRun n f p).vcmd = p.vcmd := rfl
@[simp] theorem updRun_eye (n : Nat) (f : ClusterRun → ClusterRun) (p : Pkg) : (updRun n f p).eye = p.eye := rfl
@[simp] theorem updRun_ldg (n : Nat) (f : ClusterRun → ClusterRun) (p : Pkg) : (updRun n f p).ldg = p.ldg := rfl
@[simp] theorem updRun_mtr (n : Nat) (f : ClusterRun → ClusterRun) (p : Pkg) : (updRun n f p).mtr = p.mtr := rfl
@[simp] theorem updRun_bil (n : Nat) (f : ClusterRun → ClusterRun) (p : Pkg) : (updRun n f p).bil = p.bil := rfl
@[simp] theorem updRun_duo (n : Nat) (f : ClusterRun → ClusterRun) (p : Pkg) : (updRun n f p).duo = p.duo := rfl
@[simp] theorem updRun_dfl (n : Nat) (f : ClusterRun → ClusterRun) (p : Pkg) : (updRun n f p).dfl = p.dfl := rfl
@[simp] theorem updRun_dfn (n : Nat) (f : ClusterRun → ClusterRun) (p : Pkg) : (updRun n f p).dfn = p.dfn := rfl
@[simp] theorem updRun_vlk (n : Nat) (f : ClusterRun → ClusterRun) (p : Pkg) : (updRun n f p).vlk = p.vlk := rfl
@[simp] theorem updRun_can (n : Nat) (f : ClusterRun → ClusterRun) (p : Pkg) : (updRun n f p).can = p.can := rfl
@[simp] theorem updRun_pln (n : Nat) (f : ClusterRun → ClusterRun) (p : Pkg) : (updRun n f p).pln = p.pln := rfl
@[simp] theorem updRun_lsw (n : Nat) (f : ClusterRun → ClusterRun) (p : Pkg) : (updRun n f p).lsw = p.lsw := rfl
@[simp] theorem updRun_bat (n : Nat) (f : ClusterRun → ClusterRun) (p : Pkg) : (updRun n f p).bat = p.bat := rfl
@[simp] theorem updRun_key (n : Nat) (f : ClusterRun → ClusterRun) (p : Pkg) : (updRun n f p).key = p.key := rfl
@[simp] theorem updRun_tim (n : Nat) (f : ClusterRun → ClusterRun) (p : Pkg) : (updRun n f p).tim = p.tim := rfl
@[simp] theorem updRun_thm (n : Nat) (f : ClusterRun → ClusterRun) (p : Pkg) : (updRun n f p).thm = p.thm := rfl
@[simp] theorem updRun_sup (n : Nat) (f : ClusterRun → ClusterRun) (p : Pkg) : (updRun n f p).sup = p.sup := rfl
@[simp] theorem updRun_loads (n : Nat) (f : ClusterRun → ClusterRun) (p : Pkg) : (updRun n f p).loads = p.loads := rfl
@[simp] theorem updRun_store (n : Nat) (f : ClusterRun → ClusterRun) (p : Pkg) : (updRun n f p).store = p.store := rfl
@[simp] theorem updRun_ready (n : Nat) (f : ClusterRun → ClusterRun) (p : Pkg) : (updRun n f p).ready = p.ready := rfl
@[simp] theorem updRun_config (n : Nat) (f : ClusterRun → ClusterRun) (p : Pkg) : (updRun n f p).config = p.config := rfl
@[simp] theorem updRun_freeN (n : Nat) (f : ClusterRun → ClusterRun) (p : Pkg) : (updRun n f p).freeN = p.freeN := rfl
@[simp] theorem updDyn_clk (n : Nat) (f : ClusterDyn → ClusterDyn) (p : Pkg) : (updDyn n f p).clk = p.clk := rfl
@[simp] theorem updDyn_sys (n : Nat) (f : ClusterDyn → ClusterDyn) (p : Pkg) : (updDyn n f p).sys = p.sys := rfl
@[simp] theorem updDyn_mbx (n : Nat) (f : ClusterDyn → ClusterDyn) (p : Pkg) : (updDyn n f p).mbx = p.mbx := rfl
@[simp] theorem updDyn_ce (n : Nat) (f : ClusterDyn → ClusterDyn) (p : Pkg) : (updDyn n f p).ce = p.ce := rfl
@[simp] theorem updDyn_vcmd (n : Nat) (f : ClusterDyn → ClusterDyn) (p : Pkg) : (updDyn n f p).vcmd = p.vcmd := rfl
@[simp] theorem updDyn_eye (n : Nat) (f : ClusterDyn → ClusterDyn) (p : Pkg) : (updDyn n f p).eye = p.eye := rfl
@[simp] theorem updDyn_ldg (n : Nat) (f : ClusterDyn → ClusterDyn) (p : Pkg) : (updDyn n f p).ldg = p.ldg := rfl
@[simp] theorem updDyn_mtr (n : Nat) (f : ClusterDyn → ClusterDyn) (p : Pkg) : (updDyn n f p).mtr = p.mtr := rfl
@[simp] theorem updDyn_bil (n : Nat) (f : ClusterDyn → ClusterDyn) (p : Pkg) : (updDyn n f p).bil = p.bil := rfl
@[simp] theorem updDyn_duo (n : Nat) (f : ClusterDyn → ClusterDyn) (p : Pkg) : (updDyn n f p).duo = p.duo := rfl
@[simp] theorem updDyn_dfl (n : Nat) (f : ClusterDyn → ClusterDyn) (p : Pkg) : (updDyn n f p).dfl = p.dfl := rfl
@[simp] theorem updDyn_dfn (n : Nat) (f : ClusterDyn → ClusterDyn) (p : Pkg) : (updDyn n f p).dfn = p.dfn := rfl
@[simp] theorem updDyn_vlk (n : Nat) (f : ClusterDyn → ClusterDyn) (p : Pkg) : (updDyn n f p).vlk = p.vlk := rfl
@[simp] theorem updDyn_can (n : Nat) (f : ClusterDyn → ClusterDyn) (p : Pkg) : (updDyn n f p).can = p.can := rfl
@[simp] theorem updDyn_pln (n : Nat) (f : ClusterDyn → ClusterDyn) (p : Pkg) : (updDyn n f p).pln = p.pln := rfl
@[simp] theorem updDyn_lsw (n : Nat) (f : ClusterDyn → ClusterDyn) (p : Pkg) : (updDyn n f p).lsw = p.lsw := rfl
@[simp] theorem updDyn_bat (n : Nat) (f : ClusterDyn → ClusterDyn) (p : Pkg) : (updDyn n f p).bat = p.bat := rfl
@[simp] theorem updDyn_key (n : Nat) (f : ClusterDyn → ClusterDyn) (p : Pkg) : (updDyn n f p).key = p.key := rfl
@[simp] theorem updDyn_tim (n : Nat) (f : ClusterDyn → ClusterDyn) (p : Pkg) : (updDyn n f p).tim = p.tim := rfl
@[simp] theorem updDyn_thm (n : Nat) (f : ClusterDyn → ClusterDyn) (p : Pkg) : (updDyn n f p).thm = p.thm := rfl
@[simp] theorem updDyn_sup (n : Nat) (f : ClusterDyn → ClusterDyn) (p : Pkg) : (updDyn n f p).sup = p.sup := rfl
@[simp] theorem updDyn_loads (n : Nat) (f : ClusterDyn → ClusterDyn) (p : Pkg) : (updDyn n f p).loads = p.loads := rfl
@[simp] theorem updDyn_store (n : Nat) (f : ClusterDyn → ClusterDyn) (p : Pkg) : (updDyn n f p).store = p.store := rfl
@[simp] theorem updDyn_ready (n : Nat) (f : ClusterDyn → ClusterDyn) (p : Pkg) : (updDyn n f p).ready = p.ready := rfl
@[simp] theorem updDyn_config (n : Nat) (f : ClusterDyn → ClusterDyn) (p : Pkg) : (updDyn n f p).config = p.config := rfl
@[simp] theorem updDyn_freeN (n : Nat) (f : ClusterDyn → ClusterDyn) (p : Pkg) : (updDyn n f p).freeN = p.freeN := rfl
@[simp] theorem clEvt_clk (n : Nat) (f : ClEvt → ClEvt) (p : Pkg) : (clEvt n f p).clk = p.clk := rfl
@[simp] theorem clEvt_sys (n : Nat) (f : ClEvt → ClEvt) (p : Pkg) : (clEvt n f p).sys = p.sys := rfl
@[simp] theorem clEvt_mbx (n : Nat) (f : ClEvt → ClEvt) (p : Pkg) : (clEvt n f p).mbx = p.mbx := rfl
@[simp] theorem clEvt_ce (n : Nat) (f : ClEvt → ClEvt) (p : Pkg) : (clEvt n f p).ce = p.ce := rfl
@[simp] theorem clEvt_vcmd (n : Nat) (f : ClEvt → ClEvt) (p : Pkg) : (clEvt n f p).vcmd = p.vcmd := rfl
@[simp] theorem clEvt_eye (n : Nat) (f : ClEvt → ClEvt) (p : Pkg) : (clEvt n f p).eye = p.eye := rfl
@[simp] theorem clEvt_ldg (n : Nat) (f : ClEvt → ClEvt) (p : Pkg) : (clEvt n f p).ldg = p.ldg := rfl
@[simp] theorem clEvt_mtr (n : Nat) (f : ClEvt → ClEvt) (p : Pkg) : (clEvt n f p).mtr = p.mtr := rfl
@[simp] theorem clEvt_bil (n : Nat) (f : ClEvt → ClEvt) (p : Pkg) : (clEvt n f p).bil = p.bil := rfl
@[simp] theorem clEvt_duo (n : Nat) (f : ClEvt → ClEvt) (p : Pkg) : (clEvt n f p).duo = p.duo := rfl
@[simp] theorem clEvt_dfl (n : Nat) (f : ClEvt → ClEvt) (p : Pkg) : (clEvt n f p).dfl = p.dfl := rfl
@[simp] theorem clEvt_dfn (n : Nat) (f : ClEvt → ClEvt) (p : Pkg) : (clEvt n f p).dfn = p.dfn := rfl
@[simp] theorem clEvt_vlk (n : Nat) (f : ClEvt → ClEvt) (p : Pkg) : (clEvt n f p).vlk = p.vlk := rfl
@[simp] theorem clEvt_can (n : Nat) (f : ClEvt → ClEvt) (p : Pkg) : (clEvt n f p).can = p.can := rfl
@[simp] theorem clEvt_pln (n : Nat) (f : ClEvt → ClEvt) (p : Pkg) : (clEvt n f p).pln = p.pln := rfl
@[simp] theorem clEvt_lsw (n : Nat) (f : ClEvt → ClEvt) (p : Pkg) : (clEvt n f p).lsw = p.lsw := rfl
@[simp] theorem clEvt_bat (n : Nat) (f : ClEvt → ClEvt) (p : Pkg) : (clEvt n f p).bat = p.bat := rfl
@[simp] theorem clEvt_key (n : Nat) (f : ClEvt → ClEvt) (p : Pkg) : (clEvt n f p).key = p.key := rfl
@[simp] theorem clEvt_tim (n : Nat) (f : ClEvt → ClEvt) (p : Pkg) : (clEvt n f p).tim = p.tim := rfl
@[simp] theorem clEvt_thm (n : Nat) (f : ClEvt → ClEvt) (p : Pkg) : (clEvt n f p).thm = p.thm := rfl
@[simp] theorem clEvt_sup (n : Nat) (f : ClEvt → ClEvt) (p : Pkg) : (clEvt n f p).sup = p.sup := rfl
@[simp] theorem clEvt_loads (n : Nat) (f : ClEvt → ClEvt) (p : Pkg) : (clEvt n f p).loads = p.loads := rfl
@[simp] theorem clEvt_store (n : Nat) (f : ClEvt → ClEvt) (p : Pkg) : (clEvt n f p).store = p.store := rfl
@[simp] theorem clEvt_ready (n : Nat) (f : ClEvt → ClEvt) (p : Pkg) : (clEvt n f p).ready = p.ready := rfl
@[simp] theorem clEvt_config (n : Nat) (f : ClEvt → ClEvt) (p : Pkg) : (clEvt n f p).config = p.config := rfl
@[simp] theorem clEvt_freeN (n : Nat) (f : ClEvt → ClEvt) (p : Pkg) : (clEvt n f p).freeN = p.freeN := rfl
@[simp] theorem updPt_clk (q : Nat) (f : PortRun → PortRun) (p : Pkg) : (updPt q f p).clk = p.clk := rfl
@[simp] theorem updPt_sys (q : Nat) (f : PortRun → PortRun) (p : Pkg) : (updPt q f p).sys = p.sys := rfl
@[simp] theorem updPt_mbx (q : Nat) (f : PortRun → PortRun) (p : Pkg) : (updPt q f p).mbx = p.mbx := rfl
@[simp] theorem updPt_ce (q : Nat) (f : PortRun → PortRun) (p : Pkg) : (updPt q f p).ce = p.ce := rfl
@[simp] theorem updPt_vcmd (q : Nat) (f : PortRun → PortRun) (p : Pkg) : (updPt q f p).vcmd = p.vcmd := rfl
@[simp] theorem updPt_eye (q : Nat) (f : PortRun → PortRun) (p : Pkg) : (updPt q f p).eye = p.eye := rfl
@[simp] theorem updPt_ldg (q : Nat) (f : PortRun → PortRun) (p : Pkg) : (updPt q f p).ldg = p.ldg := rfl
@[simp] theorem updPt_mtr (q : Nat) (f : PortRun → PortRun) (p : Pkg) : (updPt q f p).mtr = p.mtr := rfl
@[simp] theorem updPt_bil (q : Nat) (f : PortRun → PortRun) (p : Pkg) : (updPt q f p).bil = p.bil := rfl
@[simp] theorem updPt_duo (q : Nat) (f : PortRun → PortRun) (p : Pkg) : (updPt q f p).duo = p.duo := rfl
@[simp] theorem updPt_dfl (q : Nat) (f : PortRun → PortRun) (p : Pkg) : (updPt q f p).dfl = p.dfl := rfl
@[simp] theorem updPt_dfn (q : Nat) (f : PortRun → PortRun) (p : Pkg) : (updPt q f p).dfn = p.dfn := rfl
@[simp] theorem updPt_vlk (q : Nat) (f : PortRun → PortRun) (p : Pkg) : (updPt q f p).vlk = p.vlk := rfl
@[simp] theorem updPt_can (q : Nat) (f : PortRun → PortRun) (p : Pkg) : (updPt q f p).can = p.can := rfl
@[simp] theorem updPt_pln (q : Nat) (f : PortRun → PortRun) (p : Pkg) : (updPt q f p).pln = p.pln := rfl
@[simp] theorem updPt_lsw (q : Nat) (f : PortRun → PortRun) (p : Pkg) : (updPt q f p).lsw = p.lsw := rfl
@[simp] theorem updPt_bat (q : Nat) (f : PortRun → PortRun) (p : Pkg) : (updPt q f p).bat = p.bat := rfl
@[simp] theorem updPt_key (q : Nat) (f : PortRun → PortRun) (p : Pkg) : (updPt q f p).key = p.key := rfl
@[simp] theorem updPt_tim (q : Nat) (f : PortRun → PortRun) (p : Pkg) : (updPt q f p).tim = p.tim := rfl
@[simp] theorem updPt_thm (q : Nat) (f : PortRun → PortRun) (p : Pkg) : (updPt q f p).thm = p.thm := rfl
@[simp] theorem updPt_sup (q : Nat) (f : PortRun → PortRun) (p : Pkg) : (updPt q f p).sup = p.sup := rfl
@[simp] theorem updPt_loads (q : Nat) (f : PortRun → PortRun) (p : Pkg) : (updPt q f p).loads = p.loads := rfl
@[simp] theorem updPt_store (q : Nat) (f : PortRun → PortRun) (p : Pkg) : (updPt q f p).store = p.store := rfl
@[simp] theorem updPt_ready (q : Nat) (f : PortRun → PortRun) (p : Pkg) : (updPt q f p).ready = p.ready := rfl
@[simp] theorem updPt_config (q : Nat) (f : PortRun → PortRun) (p : Pkg) : (updPt q f p).config = p.config := rfl
@[simp] theorem updPt_freeN (q : Nat) (f : PortRun → PortRun) (p : Pkg) : (updPt q f p).freeN = p.freeN := rfl
@[simp] theorem updRg_clk (r : Nat) (f : Region → Region) (p : Pkg) : (updRg r f p).clk = p.clk := rfl
@[simp] theorem updRg_sys (r : Nat) (f : Region → Region) (p : Pkg) : (updRg r f p).sys = p.sys := rfl
@[simp] theorem updRg_mbx (r : Nat) (f : Region → Region) (p : Pkg) : (updRg r f p).mbx = p.mbx := rfl
@[simp] theorem updRg_ce (r : Nat) (f : Region → Region) (p : Pkg) : (updRg r f p).ce = p.ce := rfl
@[simp] theorem updRg_vcmd (r : Nat) (f : Region → Region) (p : Pkg) : (updRg r f p).vcmd = p.vcmd := rfl
@[simp] theorem updRg_eye (r : Nat) (f : Region → Region) (p : Pkg) : (updRg r f p).eye = p.eye := rfl
@[simp] theorem updRg_ldg (r : Nat) (f : Region → Region) (p : Pkg) : (updRg r f p).ldg = p.ldg := rfl
@[simp] theorem updRg_mtr (r : Nat) (f : Region → Region) (p : Pkg) : (updRg r f p).mtr = p.mtr := rfl
@[simp] theorem updRg_bil (r : Nat) (f : Region → Region) (p : Pkg) : (updRg r f p).bil = p.bil := rfl
@[simp] theorem updRg_duo (r : Nat) (f : Region → Region) (p : Pkg) : (updRg r f p).duo = p.duo := rfl
@[simp] theorem updRg_dfl (r : Nat) (f : Region → Region) (p : Pkg) : (updRg r f p).dfl = p.dfl := rfl
@[simp] theorem updRg_dfn (r : Nat) (f : Region → Region) (p : Pkg) : (updRg r f p).dfn = p.dfn := rfl
@[simp] theorem updRg_vlk (r : Nat) (f : Region → Region) (p : Pkg) : (updRg r f p).vlk = p.vlk := rfl
@[simp] theorem updRg_can (r : Nat) (f : Region → Region) (p : Pkg) : (updRg r f p).can = p.can := rfl
@[simp] theorem updRg_pln (r : Nat) (f : Region → Region) (p : Pkg) : (updRg r f p).pln = p.pln := rfl
@[simp] theorem updRg_lsw (r : Nat) (f : Region → Region) (p : Pkg) : (updRg r f p).lsw = p.lsw := rfl
@[simp] theorem updRg_bat (r : Nat) (f : Region → Region) (p : Pkg) : (updRg r f p).bat = p.bat := rfl
@[simp] theorem updRg_key (r : Nat) (f : Region → Region) (p : Pkg) : (updRg r f p).key = p.key := rfl
@[simp] theorem updRg_tim (r : Nat) (f : Region → Region) (p : Pkg) : (updRg r f p).tim = p.tim := rfl
@[simp] theorem updRg_thm (r : Nat) (f : Region → Region) (p : Pkg) : (updRg r f p).thm = p.thm := rfl
@[simp] theorem updRg_sup (r : Nat) (f : Region → Region) (p : Pkg) : (updRg r f p).sup = p.sup := rfl
@[simp] theorem updRg_loads (r : Nat) (f : Region → Region) (p : Pkg) : (updRg r f p).loads = p.loads := rfl
@[simp] theorem updRg_store (r : Nat) (f : Region → Region) (p : Pkg) : (updRg r f p).store = p.store := rfl
@[simp] theorem updRg_ready (r : Nat) (f : Region → Region) (p : Pkg) : (updRg r f p).ready = p.ready := rfl
@[simp] theorem updRg_config (r : Nat) (f : Region → Region) (p : Pkg) : (updRg r f p).config = p.config := rfl
@[simp] theorem updRg_freeN (r : Nat) (f : Region → Region) (p : Pkg) : (updRg r f p).freeN = p.freeN := rfl
@[simp] theorem updEy_clk (q : Nat) (f : EyePort → EyePort) (p : Pkg) : (updEy q f p).clk = p.clk := rfl
@[simp] theorem updEy_sys (q : Nat) (f : EyePort → EyePort) (p : Pkg) : (updEy q f p).sys = p.sys := rfl
@[simp] theorem updEy_mbx (q : Nat) (f : EyePort → EyePort) (p : Pkg) : (updEy q f p).mbx = p.mbx := rfl
@[simp] theorem updEy_pwr (q : Nat) (f : EyePort → EyePort) (p : Pkg) : (updEy q f p).pwr = p.pwr := rfl
@[simp] theorem updEy_ce (q : Nat) (f : EyePort → EyePort) (p : Pkg) : (updEy q f p).ce = p.ce := rfl
@[simp] theorem updEy_vcmd (q : Nat) (f : EyePort → EyePort) (p : Pkg) : (updEy q f p).vcmd = p.vcmd := rfl
@[simp] theorem updEy_ldg (q : Nat) (f : EyePort → EyePort) (p : Pkg) : (updEy q f p).ldg = p.ldg := rfl
@[simp] theorem updEy_mtr (q : Nat) (f : EyePort → EyePort) (p : Pkg) : (updEy q f p).mtr = p.mtr := rfl
@[simp] theorem updEy_bil (q : Nat) (f : EyePort → EyePort) (p : Pkg) : (updEy q f p).bil = p.bil := rfl
@[simp] theorem updEy_duo (q : Nat) (f : EyePort → EyePort) (p : Pkg) : (updEy q f p).duo = p.duo := rfl
@[simp] theorem updEy_dfl (q : Nat) (f : EyePort → EyePort) (p : Pkg) : (updEy q f p).dfl = p.dfl := rfl
@[simp] theorem updEy_dfn (q : Nat) (f : EyePort → EyePort) (p : Pkg) : (updEy q f p).dfn = p.dfn := rfl
@[simp] theorem updEy_vlk (q : Nat) (f : EyePort → EyePort) (p : Pkg) : (updEy q f p).vlk = p.vlk := rfl
@[simp] theorem updEy_can (q : Nat) (f : EyePort → EyePort) (p : Pkg) : (updEy q f p).can = p.can := rfl
@[simp] theorem updEy_pln (q : Nat) (f : EyePort → EyePort) (p : Pkg) : (updEy q f p).pln = p.pln := rfl
@[simp] theorem updEy_lsw (q : Nat) (f : EyePort → EyePort) (p : Pkg) : (updEy q f p).lsw = p.lsw := rfl
@[simp] theorem updEy_bat (q : Nat) (f : EyePort → EyePort) (p : Pkg) : (updEy q f p).bat = p.bat := rfl
@[simp] theorem updEy_key (q : Nat) (f : EyePort → EyePort) (p : Pkg) : (updEy q f p).key = p.key := rfl
@[simp] theorem updEy_tim (q : Nat) (f : EyePort → EyePort) (p : Pkg) : (updEy q f p).tim = p.tim := rfl
@[simp] theorem updEy_thm (q : Nat) (f : EyePort → EyePort) (p : Pkg) : (updEy q f p).thm = p.thm := rfl
@[simp] theorem updEy_sup (q : Nat) (f : EyePort → EyePort) (p : Pkg) : (updEy q f p).sup = p.sup := rfl
@[simp] theorem updEy_loads (q : Nat) (f : EyePort → EyePort) (p : Pkg) : (updEy q f p).loads = p.loads := rfl
@[simp] theorem updEy_store (q : Nat) (f : EyePort → EyePort) (p : Pkg) : (updEy q f p).store = p.store := rfl
@[simp] theorem updEy_ready (q : Nat) (f : EyePort → EyePort) (p : Pkg) : (updEy q f p).ready = p.ready := rfl
@[simp] theorem updEy_config (q : Nat) (f : EyePort → EyePort) (p : Pkg) : (updEy q f p).config = p.config := rfl
@[simp] theorem updEy_freeN (q : Nat) (f : EyePort → EyePort) (p : Pkg) : (updEy q f p).freeN = p.freeN := rfl
@[simp] theorem updPin_clk (q : Nat) (f : EyePin → EyePin) (p : Pkg) : (updPin q f p).clk = p.clk := rfl
@[simp] theorem updPin_sys (q : Nat) (f : EyePin → EyePin) (p : Pkg) : (updPin q f p).sys = p.sys := rfl
@[simp] theorem updPin_mbx (q : Nat) (f : EyePin → EyePin) (p : Pkg) : (updPin q f p).mbx = p.mbx := rfl
@[simp] theorem updPin_pwr (q : Nat) (f : EyePin → EyePin) (p : Pkg) : (updPin q f p).pwr = p.pwr := rfl
@[simp] theorem updPin_ce (q : Nat) (f : EyePin → EyePin) (p : Pkg) : (updPin q f p).ce = p.ce := rfl
@[simp] theorem updPin_vcmd (q : Nat) (f : EyePin → EyePin) (p : Pkg) : (updPin q f p).vcmd = p.vcmd := rfl
@[simp] theorem updPin_ldg (q : Nat) (f : EyePin → EyePin) (p : Pkg) : (updPin q f p).ldg = p.ldg := rfl
@[simp] theorem updPin_mtr (q : Nat) (f : EyePin → EyePin) (p : Pkg) : (updPin q f p).mtr = p.mtr := rfl
@[simp] theorem updPin_bil (q : Nat) (f : EyePin → EyePin) (p : Pkg) : (updPin q f p).bil = p.bil := rfl
@[simp] theorem updPin_duo (q : Nat) (f : EyePin → EyePin) (p : Pkg) : (updPin q f p).duo = p.duo := rfl
@[simp] theorem updPin_dfl (q : Nat) (f : EyePin → EyePin) (p : Pkg) : (updPin q f p).dfl = p.dfl := rfl
@[simp] theorem updPin_dfn (q : Nat) (f : EyePin → EyePin) (p : Pkg) : (updPin q f p).dfn = p.dfn := rfl
@[simp] theorem updPin_vlk (q : Nat) (f : EyePin → EyePin) (p : Pkg) : (updPin q f p).vlk = p.vlk := rfl
@[simp] theorem updPin_can (q : Nat) (f : EyePin → EyePin) (p : Pkg) : (updPin q f p).can = p.can := rfl
@[simp] theorem updPin_pln (q : Nat) (f : EyePin → EyePin) (p : Pkg) : (updPin q f p).pln = p.pln := rfl
@[simp] theorem updPin_lsw (q : Nat) (f : EyePin → EyePin) (p : Pkg) : (updPin q f p).lsw = p.lsw := rfl
@[simp] theorem updPin_bat (q : Nat) (f : EyePin → EyePin) (p : Pkg) : (updPin q f p).bat = p.bat := rfl
@[simp] theorem updPin_key (q : Nat) (f : EyePin → EyePin) (p : Pkg) : (updPin q f p).key = p.key := rfl
@[simp] theorem updPin_tim (q : Nat) (f : EyePin → EyePin) (p : Pkg) : (updPin q f p).tim = p.tim := rfl
@[simp] theorem updPin_thm (q : Nat) (f : EyePin → EyePin) (p : Pkg) : (updPin q f p).thm = p.thm := rfl
@[simp] theorem updPin_sup (q : Nat) (f : EyePin → EyePin) (p : Pkg) : (updPin q f p).sup = p.sup := rfl
@[simp] theorem updPin_loads (q : Nat) (f : EyePin → EyePin) (p : Pkg) : (updPin q f p).loads = p.loads := rfl
@[simp] theorem updPin_store (q : Nat) (f : EyePin → EyePin) (p : Pkg) : (updPin q f p).store = p.store := rfl
@[simp] theorem updPin_ready (q : Nat) (f : EyePin → EyePin) (p : Pkg) : (updPin q f p).ready = p.ready := rfl
@[simp] theorem updPin_config (q : Nat) (f : EyePin → EyePin) (p : Pkg) : (updPin q f p).config = p.config := rfl
@[simp] theorem updPin_freeN (q : Nat) (f : EyePin → EyePin) (p : Pkg) : (updPin q f p).freeN = p.freeN := rfl
@[simp] theorem updVr_clk (r : Nat) (f : VRegion → VRegion) (p : Pkg) : (updVr r f p).clk = p.clk := rfl
@[simp] theorem updVr_sys (r : Nat) (f : VRegion → VRegion) (p : Pkg) : (updVr r f p).sys = p.sys := rfl
@[simp] theorem updVr_mbx (r : Nat) (f : VRegion → VRegion) (p : Pkg) : (updVr r f p).mbx = p.mbx := rfl
@[simp] theorem updVr_pwr (r : Nat) (f : VRegion → VRegion) (p : Pkg) : (updVr r f p).pwr = p.pwr := rfl
@[simp] theorem updVr_ce (r : Nat) (f : VRegion → VRegion) (p : Pkg) : (updVr r f p).ce = p.ce := rfl
@[simp] theorem updVr_eye (r : Nat) (f : VRegion → VRegion) (p : Pkg) : (updVr r f p).eye = p.eye := rfl
@[simp] theorem updVr_ldg (r : Nat) (f : VRegion → VRegion) (p : Pkg) : (updVr r f p).ldg = p.ldg := rfl
@[simp] theorem updVr_mtr (r : Nat) (f : VRegion → VRegion) (p : Pkg) : (updVr r f p).mtr = p.mtr := rfl
@[simp] theorem updVr_bil (r : Nat) (f : VRegion → VRegion) (p : Pkg) : (updVr r f p).bil = p.bil := rfl
@[simp] theorem updVr_duo (r : Nat) (f : VRegion → VRegion) (p : Pkg) : (updVr r f p).duo = p.duo := rfl
@[simp] theorem updVr_dfl (r : Nat) (f : VRegion → VRegion) (p : Pkg) : (updVr r f p).dfl = p.dfl := rfl
@[simp] theorem updVr_dfn (r : Nat) (f : VRegion → VRegion) (p : Pkg) : (updVr r f p).dfn = p.dfn := rfl
@[simp] theorem updVr_vlk (r : Nat) (f : VRegion → VRegion) (p : Pkg) : (updVr r f p).vlk = p.vlk := rfl
@[simp] theorem updVr_can (r : Nat) (f : VRegion → VRegion) (p : Pkg) : (updVr r f p).can = p.can := rfl
@[simp] theorem updVr_pln (r : Nat) (f : VRegion → VRegion) (p : Pkg) : (updVr r f p).pln = p.pln := rfl
@[simp] theorem updVr_lsw (r : Nat) (f : VRegion → VRegion) (p : Pkg) : (updVr r f p).lsw = p.lsw := rfl
@[simp] theorem updVr_bat (r : Nat) (f : VRegion → VRegion) (p : Pkg) : (updVr r f p).bat = p.bat := rfl
@[simp] theorem updVr_key (r : Nat) (f : VRegion → VRegion) (p : Pkg) : (updVr r f p).key = p.key := rfl
@[simp] theorem updVr_tim (r : Nat) (f : VRegion → VRegion) (p : Pkg) : (updVr r f p).tim = p.tim := rfl
@[simp] theorem updVr_thm (r : Nat) (f : VRegion → VRegion) (p : Pkg) : (updVr r f p).thm = p.thm := rfl
@[simp] theorem updVr_sup (r : Nat) (f : VRegion → VRegion) (p : Pkg) : (updVr r f p).sup = p.sup := rfl
@[simp] theorem updVr_loads (r : Nat) (f : VRegion → VRegion) (p : Pkg) : (updVr r f p).loads = p.loads := rfl
@[simp] theorem updVr_store (r : Nat) (f : VRegion → VRegion) (p : Pkg) : (updVr r f p).store = p.store := rfl
@[simp] theorem updVr_ready (r : Nat) (f : VRegion → VRegion) (p : Pkg) : (updVr r f p).ready = p.ready := rfl
@[simp] theorem updVr_config (r : Nat) (f : VRegion → VRegion) (p : Pkg) : (updVr r f p).config = p.config := rfl
@[simp] theorem updVr_freeN (r : Nat) (f : VRegion → VRegion) (p : Pkg) : (updVr r f p).freeN = p.freeN := rfl
@[simp] theorem updPp_clk (u : Nat) (f : Purl → Purl) (p : Pkg) : (updPp u f p).clk = p.clk := rfl
@[simp] theorem updPp_sys (u : Nat) (f : Purl → Purl) (p : Pkg) : (updPp u f p).sys = p.sys := rfl
@[simp] theorem updPp_mbx (u : Nat) (f : Purl → Purl) (p : Pkg) : (updPp u f p).mbx = p.mbx := rfl
@[simp] theorem updPp_pwr (u : Nat) (f : Purl → Purl) (p : Pkg) : (updPp u f p).pwr = p.pwr := rfl
@[simp] theorem updPp_ce (u : Nat) (f : Purl → Purl) (p : Pkg) : (updPp u f p).ce = p.ce := rfl
@[simp] theorem updPp_eye (u : Nat) (f : Purl → Purl) (p : Pkg) : (updPp u f p).eye = p.eye := rfl
@[simp] theorem updPp_ldg (u : Nat) (f : Purl → Purl) (p : Pkg) : (updPp u f p).ldg = p.ldg := rfl
@[simp] theorem updPp_mtr (u : Nat) (f : Purl → Purl) (p : Pkg) : (updPp u f p).mtr = p.mtr := rfl
@[simp] theorem updPp_bil (u : Nat) (f : Purl → Purl) (p : Pkg) : (updPp u f p).bil = p.bil := rfl
@[simp] theorem updPp_duo (u : Nat) (f : Purl → Purl) (p : Pkg) : (updPp u f p).duo = p.duo := rfl
@[simp] theorem updPp_dfl (u : Nat) (f : Purl → Purl) (p : Pkg) : (updPp u f p).dfl = p.dfl := rfl
@[simp] theorem updPp_dfn (u : Nat) (f : Purl → Purl) (p : Pkg) : (updPp u f p).dfn = p.dfn := rfl
@[simp] theorem updPp_vlk (u : Nat) (f : Purl → Purl) (p : Pkg) : (updPp u f p).vlk = p.vlk := rfl
@[simp] theorem updPp_can (u : Nat) (f : Purl → Purl) (p : Pkg) : (updPp u f p).can = p.can := rfl
@[simp] theorem updPp_pln (u : Nat) (f : Purl → Purl) (p : Pkg) : (updPp u f p).pln = p.pln := rfl
@[simp] theorem updPp_lsw (u : Nat) (f : Purl → Purl) (p : Pkg) : (updPp u f p).lsw = p.lsw := rfl
@[simp] theorem updPp_bat (u : Nat) (f : Purl → Purl) (p : Pkg) : (updPp u f p).bat = p.bat := rfl
@[simp] theorem updPp_key (u : Nat) (f : Purl → Purl) (p : Pkg) : (updPp u f p).key = p.key := rfl
@[simp] theorem updPp_tim (u : Nat) (f : Purl → Purl) (p : Pkg) : (updPp u f p).tim = p.tim := rfl
@[simp] theorem updPp_thm (u : Nat) (f : Purl → Purl) (p : Pkg) : (updPp u f p).thm = p.thm := rfl
@[simp] theorem updPp_sup (u : Nat) (f : Purl → Purl) (p : Pkg) : (updPp u f p).sup = p.sup := rfl
@[simp] theorem updPp_loads (u : Nat) (f : Purl → Purl) (p : Pkg) : (updPp u f p).loads = p.loads := rfl
@[simp] theorem updPp_store (u : Nat) (f : Purl → Purl) (p : Pkg) : (updPp u f p).store = p.store := rfl
@[simp] theorem updPp_ready (u : Nat) (f : Purl → Purl) (p : Pkg) : (updPp u f p).ready = p.ready := rfl
@[simp] theorem updPp_config (u : Nat) (f : Purl → Purl) (p : Pkg) : (updPp u f p).config = p.config := rfl
@[simp] theorem updPp_freeN (u : Nat) (f : Purl → Purl) (p : Pkg) : (updPp u f p).freeN = p.freeN := rfl
@[simp] theorem updVg_clk (r : Nat) (f : VReg → VReg) (p : Pkg) : (updVg r f p).clk = p.clk := rfl
@[simp] theorem updVg_sys (r : Nat) (f : VReg → VReg) (p : Pkg) : (updVg r f p).sys = p.sys := rfl
@[simp] theorem updVg_mbx (r : Nat) (f : VReg → VReg) (p : Pkg) : (updVg r f p).mbx = p.mbx := rfl
@[simp] theorem updVg_pwr (r : Nat) (f : VReg → VReg) (p : Pkg) : (updVg r f p).pwr = p.pwr := rfl
@[simp] theorem updVg_ce (r : Nat) (f : VReg → VReg) (p : Pkg) : (updVg r f p).ce = p.ce := rfl
@[simp] theorem updVg_vcmd (r : Nat) (f : VReg → VReg) (p : Pkg) : (updVg r f p).vcmd = p.vcmd := rfl
@[simp] theorem updVg_eye (r : Nat) (f : VReg → VReg) (p : Pkg) : (updVg r f p).eye = p.eye := rfl
@[simp] theorem updVg_ldg (r : Nat) (f : VReg → VReg) (p : Pkg) : (updVg r f p).ldg = p.ldg := rfl
@[simp] theorem updVg_mtr (r : Nat) (f : VReg → VReg) (p : Pkg) : (updVg r f p).mtr = p.mtr := rfl
@[simp] theorem updVg_bil (r : Nat) (f : VReg → VReg) (p : Pkg) : (updVg r f p).bil = p.bil := rfl
@[simp] theorem updVg_duo (r : Nat) (f : VReg → VReg) (p : Pkg) : (updVg r f p).duo = p.duo := rfl
@[simp] theorem updVg_dfl (r : Nat) (f : VReg → VReg) (p : Pkg) : (updVg r f p).dfl = p.dfl := rfl
@[simp] theorem updVg_dfn (r : Nat) (f : VReg → VReg) (p : Pkg) : (updVg r f p).dfn = p.dfn := rfl
@[simp] theorem updVg_can (r : Nat) (f : VReg → VReg) (p : Pkg) : (updVg r f p).can = p.can := rfl
@[simp] theorem updVg_pln (r : Nat) (f : VReg → VReg) (p : Pkg) : (updVg r f p).pln = p.pln := rfl
@[simp] theorem updVg_lsw (r : Nat) (f : VReg → VReg) (p : Pkg) : (updVg r f p).lsw = p.lsw := rfl
@[simp] theorem updVg_bat (r : Nat) (f : VReg → VReg) (p : Pkg) : (updVg r f p).bat = p.bat := rfl
@[simp] theorem updVg_key (r : Nat) (f : VReg → VReg) (p : Pkg) : (updVg r f p).key = p.key := rfl
@[simp] theorem updVg_tim (r : Nat) (f : VReg → VReg) (p : Pkg) : (updVg r f p).tim = p.tim := rfl
@[simp] theorem updVg_thm (r : Nat) (f : VReg → VReg) (p : Pkg) : (updVg r f p).thm = p.thm := rfl
@[simp] theorem updVg_sup (r : Nat) (f : VReg → VReg) (p : Pkg) : (updVg r f p).sup = p.sup := rfl
@[simp] theorem updVg_loads (r : Nat) (f : VReg → VReg) (p : Pkg) : (updVg r f p).loads = p.loads := rfl
@[simp] theorem updVg_store (r : Nat) (f : VReg → VReg) (p : Pkg) : (updVg r f p).store = p.store := rfl
@[simp] theorem updVg_ready (r : Nat) (f : VReg → VReg) (p : Pkg) : (updVg r f p).ready = p.ready := rfl
@[simp] theorem updVg_config (r : Nat) (f : VReg → VReg) (p : Pkg) : (updVg r f p).config = p.config := rfl
@[simp] theorem updVg_freeN (r : Nat) (f : VReg → VReg) (p : Pkg) : (updVg r f p).freeN = p.freeN := rfl
@[simp] theorem updVp_clk (u : Nat) (f : VPort → VPort) (p : Pkg) : (updVp u f p).clk = p.clk := rfl
@[simp] theorem updVp_sys (u : Nat) (f : VPort → VPort) (p : Pkg) : (updVp u f p).sys = p.sys := rfl
@[simp] theorem updVp_mbx (u : Nat) (f : VPort → VPort) (p : Pkg) : (updVp u f p).mbx = p.mbx := rfl
@[simp] theorem updVp_pwr (u : Nat) (f : VPort → VPort) (p : Pkg) : (updVp u f p).pwr = p.pwr := rfl
@[simp] theorem updVp_ce (u : Nat) (f : VPort → VPort) (p : Pkg) : (updVp u f p).ce = p.ce := rfl
@[simp] theorem updVp_vcmd (u : Nat) (f : VPort → VPort) (p : Pkg) : (updVp u f p).vcmd = p.vcmd := rfl
@[simp] theorem updVp_eye (u : Nat) (f : VPort → VPort) (p : Pkg) : (updVp u f p).eye = p.eye := rfl
@[simp] theorem updVp_ldg (u : Nat) (f : VPort → VPort) (p : Pkg) : (updVp u f p).ldg = p.ldg := rfl
@[simp] theorem updVp_mtr (u : Nat) (f : VPort → VPort) (p : Pkg) : (updVp u f p).mtr = p.mtr := rfl
@[simp] theorem updVp_bil (u : Nat) (f : VPort → VPort) (p : Pkg) : (updVp u f p).bil = p.bil := rfl
@[simp] theorem updVp_duo (u : Nat) (f : VPort → VPort) (p : Pkg) : (updVp u f p).duo = p.duo := rfl
@[simp] theorem updVp_dfl (u : Nat) (f : VPort → VPort) (p : Pkg) : (updVp u f p).dfl = p.dfl := rfl
@[simp] theorem updVp_dfn (u : Nat) (f : VPort → VPort) (p : Pkg) : (updVp u f p).dfn = p.dfn := rfl
@[simp] theorem updVp_can (u : Nat) (f : VPort → VPort) (p : Pkg) : (updVp u f p).can = p.can := rfl
@[simp] theorem updVp_pln (u : Nat) (f : VPort → VPort) (p : Pkg) : (updVp u f p).pln = p.pln := rfl
@[simp] theorem updVp_lsw (u : Nat) (f : VPort → VPort) (p : Pkg) : (updVp u f p).lsw = p.lsw := rfl
@[simp] theorem updVp_bat (u : Nat) (f : VPort → VPort) (p : Pkg) : (updVp u f p).bat = p.bat := rfl
@[simp] theorem updVp_key (u : Nat) (f : VPort → VPort) (p : Pkg) : (updVp u f p).key = p.key := rfl
@[simp] theorem updVp_tim (u : Nat) (f : VPort → VPort) (p : Pkg) : (updVp u f p).tim = p.tim := rfl
@[simp] theorem updVp_thm (u : Nat) (f : VPort → VPort) (p : Pkg) : (updVp u f p).thm = p.thm := rfl
@[simp] theorem updVp_sup (u : Nat) (f : VPort → VPort) (p : Pkg) : (updVp u f p).sup = p.sup := rfl
@[simp] theorem updVp_loads (u : Nat) (f : VPort → VPort) (p : Pkg) : (updVp u f p).loads = p.loads := rfl
@[simp] theorem updVp_store (u : Nat) (f : VPort → VPort) (p : Pkg) : (updVp u f p).store = p.store := rfl
@[simp] theorem updVp_ready (u : Nat) (f : VPort → VPort) (p : Pkg) : (updVp u f p).ready = p.ready := rfl
@[simp] theorem updVp_config (u : Nat) (f : VPort → VPort) (p : Pkg) : (updVp u f p).config = p.config := rfl
@[simp] theorem updVp_freeN (u : Nat) (f : VPort → VPort) (p : Pkg) : (updVp u f p).freeN = p.freeN := rfl
@[simp] theorem updLane_clk (l : Nat) (f : Lane → Lane) (p : Pkg) : (updLane l f p).clk = p.clk := rfl
@[simp] theorem updLane_sys (l : Nat) (f : Lane → Lane) (p : Pkg) : (updLane l f p).sys = p.sys := rfl
@[simp] theorem updLane_mbx (l : Nat) (f : Lane → Lane) (p : Pkg) : (updLane l f p).mbx = p.mbx := rfl
@[simp] theorem updLane_pwr (l : Nat) (f : Lane → Lane) (p : Pkg) : (updLane l f p).pwr = p.pwr := rfl
@[simp] theorem updLane_vcmd (l : Nat) (f : Lane → Lane) (p : Pkg) : (updLane l f p).vcmd = p.vcmd := rfl
@[simp] theorem updLane_eye (l : Nat) (f : Lane → Lane) (p : Pkg) : (updLane l f p).eye = p.eye := rfl
@[simp] theorem updLane_ldg (l : Nat) (f : Lane → Lane) (p : Pkg) : (updLane l f p).ldg = p.ldg := rfl
@[simp] theorem updLane_mtr (l : Nat) (f : Lane → Lane) (p : Pkg) : (updLane l f p).mtr = p.mtr := rfl
@[simp] theorem updLane_bil (l : Nat) (f : Lane → Lane) (p : Pkg) : (updLane l f p).bil = p.bil := rfl
@[simp] theorem updLane_duo (l : Nat) (f : Lane → Lane) (p : Pkg) : (updLane l f p).duo = p.duo := rfl
@[simp] theorem updLane_dfl (l : Nat) (f : Lane → Lane) (p : Pkg) : (updLane l f p).dfl = p.dfl := rfl
@[simp] theorem updLane_dfn (l : Nat) (f : Lane → Lane) (p : Pkg) : (updLane l f p).dfn = p.dfn := rfl
@[simp] theorem updLane_vlk (l : Nat) (f : Lane → Lane) (p : Pkg) : (updLane l f p).vlk = p.vlk := rfl
@[simp] theorem updLane_can (l : Nat) (f : Lane → Lane) (p : Pkg) : (updLane l f p).can = p.can := rfl
@[simp] theorem updLane_pln (l : Nat) (f : Lane → Lane) (p : Pkg) : (updLane l f p).pln = p.pln := rfl
@[simp] theorem updLane_lsw (l : Nat) (f : Lane → Lane) (p : Pkg) : (updLane l f p).lsw = p.lsw := rfl
@[simp] theorem updLane_bat (l : Nat) (f : Lane → Lane) (p : Pkg) : (updLane l f p).bat = p.bat := rfl
@[simp] theorem updLane_key (l : Nat) (f : Lane → Lane) (p : Pkg) : (updLane l f p).key = p.key := rfl
@[simp] theorem updLane_tim (l : Nat) (f : Lane → Lane) (p : Pkg) : (updLane l f p).tim = p.tim := rfl
@[simp] theorem updLane_thm (l : Nat) (f : Lane → Lane) (p : Pkg) : (updLane l f p).thm = p.thm := rfl
@[simp] theorem updLane_sup (l : Nat) (f : Lane → Lane) (p : Pkg) : (updLane l f p).sup = p.sup := rfl
@[simp] theorem updLane_loads (l : Nat) (f : Lane → Lane) (p : Pkg) : (updLane l f p).loads = p.loads := rfl
@[simp] theorem updLane_store (l : Nat) (f : Lane → Lane) (p : Pkg) : (updLane l f p).store = p.store := rfl
@[simp] theorem updLane_ready (l : Nat) (f : Lane → Lane) (p : Pkg) : (updLane l f p).ready = p.ready := rfl
@[simp] theorem updLane_config (l : Nat) (f : Lane → Lane) (p : Pkg) : (updLane l f p).config = p.config := rfl
@[simp] theorem updLane_freeN (l : Nat) (f : Lane → Lane) (p : Pkg) : (updLane l f p).freeN = p.freeN := rfl
@[simp] theorem updRcm_clk (k : Nat) (f : RcMem → RcMem) (p : Pkg) : (updRcm k f p).clk = p.clk := rfl
@[simp] theorem updRcm_sys (k : Nat) (f : RcMem → RcMem) (p : Pkg) : (updRcm k f p).sys = p.sys := rfl
@[simp] theorem updRcm_mbx (k : Nat) (f : RcMem → RcMem) (p : Pkg) : (updRcm k f p).mbx = p.mbx := rfl
@[simp] theorem updRcm_pwr (k : Nat) (f : RcMem → RcMem) (p : Pkg) : (updRcm k f p).pwr = p.pwr := rfl
@[simp] theorem updRcm_vcmd (k : Nat) (f : RcMem → RcMem) (p : Pkg) : (updRcm k f p).vcmd = p.vcmd := rfl
@[simp] theorem updRcm_eye (k : Nat) (f : RcMem → RcMem) (p : Pkg) : (updRcm k f p).eye = p.eye := rfl
@[simp] theorem updRcm_ldg (k : Nat) (f : RcMem → RcMem) (p : Pkg) : (updRcm k f p).ldg = p.ldg := rfl
@[simp] theorem updRcm_mtr (k : Nat) (f : RcMem → RcMem) (p : Pkg) : (updRcm k f p).mtr = p.mtr := rfl
@[simp] theorem updRcm_bil (k : Nat) (f : RcMem → RcMem) (p : Pkg) : (updRcm k f p).bil = p.bil := rfl
@[simp] theorem updRcm_duo (k : Nat) (f : RcMem → RcMem) (p : Pkg) : (updRcm k f p).duo = p.duo := rfl
@[simp] theorem updRcm_dfl (k : Nat) (f : RcMem → RcMem) (p : Pkg) : (updRcm k f p).dfl = p.dfl := rfl
@[simp] theorem updRcm_dfn (k : Nat) (f : RcMem → RcMem) (p : Pkg) : (updRcm k f p).dfn = p.dfn := rfl
@[simp] theorem updRcm_vlk (k : Nat) (f : RcMem → RcMem) (p : Pkg) : (updRcm k f p).vlk = p.vlk := rfl
@[simp] theorem updRcm_can (k : Nat) (f : RcMem → RcMem) (p : Pkg) : (updRcm k f p).can = p.can := rfl
@[simp] theorem updRcm_pln (k : Nat) (f : RcMem → RcMem) (p : Pkg) : (updRcm k f p).pln = p.pln := rfl
@[simp] theorem updRcm_lsw (k : Nat) (f : RcMem → RcMem) (p : Pkg) : (updRcm k f p).lsw = p.lsw := rfl
@[simp] theorem updRcm_bat (k : Nat) (f : RcMem → RcMem) (p : Pkg) : (updRcm k f p).bat = p.bat := rfl
@[simp] theorem updRcm_key (k : Nat) (f : RcMem → RcMem) (p : Pkg) : (updRcm k f p).key = p.key := rfl
@[simp] theorem updRcm_tim (k : Nat) (f : RcMem → RcMem) (p : Pkg) : (updRcm k f p).tim = p.tim := rfl
@[simp] theorem updRcm_thm (k : Nat) (f : RcMem → RcMem) (p : Pkg) : (updRcm k f p).thm = p.thm := rfl
@[simp] theorem updRcm_sup (k : Nat) (f : RcMem → RcMem) (p : Pkg) : (updRcm k f p).sup = p.sup := rfl
@[simp] theorem updRcm_loads (k : Nat) (f : RcMem → RcMem) (p : Pkg) : (updRcm k f p).loads = p.loads := rfl
@[simp] theorem updRcm_store (k : Nat) (f : RcMem → RcMem) (p : Pkg) : (updRcm k f p).store = p.store := rfl
@[simp] theorem updRcm_ready (k : Nat) (f : RcMem → RcMem) (p : Pkg) : (updRcm k f p).ready = p.ready := rfl
@[simp] theorem updRcm_config (k : Nat) (f : RcMem → RcMem) (p : Pkg) : (updRcm k f p).config = p.config := rfl
@[simp] theorem updRcm_freeN (k : Nat) (f : RcMem → RcMem) (p : Pkg) : (updRcm k f p).freeN = p.freeN := rfl
@[simp] theorem ceEvt_clk (f : CeEvt → CeEvt) (p : Pkg) : (ceEvt f p).clk = p.clk := rfl
@[simp] theorem ceEvt_sys (f : CeEvt → CeEvt) (p : Pkg) : (ceEvt f p).sys = p.sys := rfl
@[simp] theorem ceEvt_mbx (f : CeEvt → CeEvt) (p : Pkg) : (ceEvt f p).mbx = p.mbx := rfl
@[simp] theorem ceEvt_pwr (f : CeEvt → CeEvt) (p : Pkg) : (ceEvt f p).pwr = p.pwr := rfl
@[simp] theorem ceEvt_vcmd (f : CeEvt → CeEvt) (p : Pkg) : (ceEvt f p).vcmd = p.vcmd := rfl
@[simp] theorem ceEvt_eye (f : CeEvt → CeEvt) (p : Pkg) : (ceEvt f p).eye = p.eye := rfl
@[simp] theorem ceEvt_ldg (f : CeEvt → CeEvt) (p : Pkg) : (ceEvt f p).ldg = p.ldg := rfl
@[simp] theorem ceEvt_mtr (f : CeEvt → CeEvt) (p : Pkg) : (ceEvt f p).mtr = p.mtr := rfl
@[simp] theorem ceEvt_bil (f : CeEvt → CeEvt) (p : Pkg) : (ceEvt f p).bil = p.bil := rfl
@[simp] theorem ceEvt_duo (f : CeEvt → CeEvt) (p : Pkg) : (ceEvt f p).duo = p.duo := rfl
@[simp] theorem ceEvt_dfl (f : CeEvt → CeEvt) (p : Pkg) : (ceEvt f p).dfl = p.dfl := rfl
@[simp] theorem ceEvt_dfn (f : CeEvt → CeEvt) (p : Pkg) : (ceEvt f p).dfn = p.dfn := rfl
@[simp] theorem ceEvt_vlk (f : CeEvt → CeEvt) (p : Pkg) : (ceEvt f p).vlk = p.vlk := rfl
@[simp] theorem ceEvt_can (f : CeEvt → CeEvt) (p : Pkg) : (ceEvt f p).can = p.can := rfl
@[simp] theorem ceEvt_pln (f : CeEvt → CeEvt) (p : Pkg) : (ceEvt f p).pln = p.pln := rfl
@[simp] theorem ceEvt_lsw (f : CeEvt → CeEvt) (p : Pkg) : (ceEvt f p).lsw = p.lsw := rfl
@[simp] theorem ceEvt_bat (f : CeEvt → CeEvt) (p : Pkg) : (ceEvt f p).bat = p.bat := rfl
@[simp] theorem ceEvt_key (f : CeEvt → CeEvt) (p : Pkg) : (ceEvt f p).key = p.key := rfl
@[simp] theorem ceEvt_tim (f : CeEvt → CeEvt) (p : Pkg) : (ceEvt f p).tim = p.tim := rfl
@[simp] theorem ceEvt_thm (f : CeEvt → CeEvt) (p : Pkg) : (ceEvt f p).thm = p.thm := rfl
@[simp] theorem ceEvt_sup (f : CeEvt → CeEvt) (p : Pkg) : (ceEvt f p).sup = p.sup := rfl
@[simp] theorem ceEvt_loads (f : CeEvt → CeEvt) (p : Pkg) : (ceEvt f p).loads = p.loads := rfl
@[simp] theorem ceEvt_store (f : CeEvt → CeEvt) (p : Pkg) : (ceEvt f p).store = p.store := rfl
@[simp] theorem ceEvt_ready (f : CeEvt → CeEvt) (p : Pkg) : (ceEvt f p).ready = p.ready := rfl
@[simp] theorem ceEvt_config (f : CeEvt → CeEvt) (p : Pkg) : (ceEvt f p).config = p.config := rfl
@[simp] theorem ceEvt_freeN (f : CeEvt → CeEvt) (p : Pkg) : (ceEvt f p).freeN = p.freeN := rfl
@[simp] theorem updMt_clk (m : Nat) (f : Meter → Meter) (p : Pkg) : (updMt m f p).clk = p.clk := rfl
@[simp] theorem updMt_sys (m : Nat) (f : Meter → Meter) (p : Pkg) : (updMt m f p).sys = p.sys := rfl
@[simp] theorem updMt_mbx (m : Nat) (f : Meter → Meter) (p : Pkg) : (updMt m f p).mbx = p.mbx := rfl
@[simp] theorem updMt_pwr (m : Nat) (f : Meter → Meter) (p : Pkg) : (updMt m f p).pwr = p.pwr := rfl
@[simp] theorem updMt_ce (m : Nat) (f : Meter → Meter) (p : Pkg) : (updMt m f p).ce = p.ce := rfl
@[simp] theorem updMt_vcmd (m : Nat) (f : Meter → Meter) (p : Pkg) : (updMt m f p).vcmd = p.vcmd := rfl
@[simp] theorem updMt_eye (m : Nat) (f : Meter → Meter) (p : Pkg) : (updMt m f p).eye = p.eye := rfl
@[simp] theorem updMt_ldg (m : Nat) (f : Meter → Meter) (p : Pkg) : (updMt m f p).ldg = p.ldg := rfl
@[simp] theorem updMt_bil (m : Nat) (f : Meter → Meter) (p : Pkg) : (updMt m f p).bil = p.bil := rfl
@[simp] theorem updMt_duo (m : Nat) (f : Meter → Meter) (p : Pkg) : (updMt m f p).duo = p.duo := rfl
@[simp] theorem updMt_dfl (m : Nat) (f : Meter → Meter) (p : Pkg) : (updMt m f p).dfl = p.dfl := rfl
@[simp] theorem updMt_dfn (m : Nat) (f : Meter → Meter) (p : Pkg) : (updMt m f p).dfn = p.dfn := rfl
@[simp] theorem updMt_vlk (m : Nat) (f : Meter → Meter) (p : Pkg) : (updMt m f p).vlk = p.vlk := rfl
@[simp] theorem updMt_can (m : Nat) (f : Meter → Meter) (p : Pkg) : (updMt m f p).can = p.can := rfl
@[simp] theorem updMt_pln (m : Nat) (f : Meter → Meter) (p : Pkg) : (updMt m f p).pln = p.pln := rfl
@[simp] theorem updMt_lsw (m : Nat) (f : Meter → Meter) (p : Pkg) : (updMt m f p).lsw = p.lsw := rfl
@[simp] theorem updMt_bat (m : Nat) (f : Meter → Meter) (p : Pkg) : (updMt m f p).bat = p.bat := rfl
@[simp] theorem updMt_key (m : Nat) (f : Meter → Meter) (p : Pkg) : (updMt m f p).key = p.key := rfl
@[simp] theorem updMt_tim (m : Nat) (f : Meter → Meter) (p : Pkg) : (updMt m f p).tim = p.tim := rfl
@[simp] theorem updMt_thm (m : Nat) (f : Meter → Meter) (p : Pkg) : (updMt m f p).thm = p.thm := rfl
@[simp] theorem updMt_sup (m : Nat) (f : Meter → Meter) (p : Pkg) : (updMt m f p).sup = p.sup := rfl
@[simp] theorem updMt_loads (m : Nat) (f : Meter → Meter) (p : Pkg) : (updMt m f p).loads = p.loads := rfl
@[simp] theorem updMt_store (m : Nat) (f : Meter → Meter) (p : Pkg) : (updMt m f p).store = p.store := rfl
@[simp] theorem updMt_ready (m : Nat) (f : Meter → Meter) (p : Pkg) : (updMt m f p).ready = p.ready := rfl
@[simp] theorem updMt_config (m : Nat) (f : Meter → Meter) (p : Pkg) : (updMt m f p).config = p.config := rfl
@[simp] theorem updMt_freeN (m : Nat) (f : Meter → Meter) (p : Pkg) : (updMt m f p).freeN = p.freeN := rfl
@[simp] theorem mtrEvt_clk (f : MtrEvt → MtrEvt) (p : Pkg) : (mtrEvt f p).clk = p.clk := rfl
@[simp] theorem mtrEvt_sys (f : MtrEvt → MtrEvt) (p : Pkg) : (mtrEvt f p).sys = p.sys := rfl
@[simp] theorem mtrEvt_mbx (f : MtrEvt → MtrEvt) (p : Pkg) : (mtrEvt f p).mbx = p.mbx := rfl
@[simp] theorem mtrEvt_pwr (f : MtrEvt → MtrEvt) (p : Pkg) : (mtrEvt f p).pwr = p.pwr := rfl
@[simp] theorem mtrEvt_ce (f : MtrEvt → MtrEvt) (p : Pkg) : (mtrEvt f p).ce = p.ce := rfl
@[simp] theorem mtrEvt_vcmd (f : MtrEvt → MtrEvt) (p : Pkg) : (mtrEvt f p).vcmd = p.vcmd := rfl
@[simp] theorem mtrEvt_eye (f : MtrEvt → MtrEvt) (p : Pkg) : (mtrEvt f p).eye = p.eye := rfl
@[simp] theorem mtrEvt_ldg (f : MtrEvt → MtrEvt) (p : Pkg) : (mtrEvt f p).ldg = p.ldg := rfl
@[simp] theorem mtrEvt_bil (f : MtrEvt → MtrEvt) (p : Pkg) : (mtrEvt f p).bil = p.bil := rfl
@[simp] theorem mtrEvt_duo (f : MtrEvt → MtrEvt) (p : Pkg) : (mtrEvt f p).duo = p.duo := rfl
@[simp] theorem mtrEvt_dfl (f : MtrEvt → MtrEvt) (p : Pkg) : (mtrEvt f p).dfl = p.dfl := rfl
@[simp] theorem mtrEvt_dfn (f : MtrEvt → MtrEvt) (p : Pkg) : (mtrEvt f p).dfn = p.dfn := rfl
@[simp] theorem mtrEvt_vlk (f : MtrEvt → MtrEvt) (p : Pkg) : (mtrEvt f p).vlk = p.vlk := rfl
@[simp] theorem mtrEvt_can (f : MtrEvt → MtrEvt) (p : Pkg) : (mtrEvt f p).can = p.can := rfl
@[simp] theorem mtrEvt_pln (f : MtrEvt → MtrEvt) (p : Pkg) : (mtrEvt f p).pln = p.pln := rfl
@[simp] theorem mtrEvt_lsw (f : MtrEvt → MtrEvt) (p : Pkg) : (mtrEvt f p).lsw = p.lsw := rfl
@[simp] theorem mtrEvt_bat (f : MtrEvt → MtrEvt) (p : Pkg) : (mtrEvt f p).bat = p.bat := rfl
@[simp] theorem mtrEvt_key (f : MtrEvt → MtrEvt) (p : Pkg) : (mtrEvt f p).key = p.key := rfl
@[simp] theorem mtrEvt_tim (f : MtrEvt → MtrEvt) (p : Pkg) : (mtrEvt f p).tim = p.tim := rfl
@[simp] theorem mtrEvt_thm (f : MtrEvt → MtrEvt) (p : Pkg) : (mtrEvt f p).thm = p.thm := rfl
@[simp] theorem mtrEvt_sup (f : MtrEvt → MtrEvt) (p : Pkg) : (mtrEvt f p).sup = p.sup := rfl
@[simp] theorem mtrEvt_loads (f : MtrEvt → MtrEvt) (p : Pkg) : (mtrEvt f p).loads = p.loads := rfl
@[simp] theorem mtrEvt_store (f : MtrEvt → MtrEvt) (p : Pkg) : (mtrEvt f p).store = p.store := rfl
@[simp] theorem mtrEvt_ready (f : MtrEvt → MtrEvt) (p : Pkg) : (mtrEvt f p).ready = p.ready := rfl
@[simp] theorem mtrEvt_config (f : MtrEvt → MtrEvt) (p : Pkg) : (mtrEvt f p).config = p.config := rfl
@[simp] theorem mtrEvt_freeN (f : MtrEvt → MtrEvt) (p : Pkg) : (mtrEvt f p).freeN = p.freeN := rfl
@[simp] theorem updBr_clk (r : Nat) (f : BilRegion → BilRegion) (p : Pkg) : (updBr r f p).clk = p.clk := rfl
@[simp] theorem updBr_sys (r : Nat) (f : BilRegion → BilRegion) (p : Pkg) : (updBr r f p).sys = p.sys := rfl
@[simp] theorem updBr_mbx (r : Nat) (f : BilRegion → BilRegion) (p : Pkg) : (updBr r f p).mbx = p.mbx := rfl
@[simp] theorem updBr_pwr (r : Nat) (f : BilRegion → BilRegion) (p : Pkg) : (updBr r f p).pwr = p.pwr := rfl
@[simp] theorem updBr_ce (r : Nat) (f : BilRegion → BilRegion) (p : Pkg) : (updBr r f p).ce = p.ce := rfl
@[simp] theorem updBr_vcmd (r : Nat) (f : BilRegion → BilRegion) (p : Pkg) : (updBr r f p).vcmd = p.vcmd := rfl
@[simp] theorem updBr_eye (r : Nat) (f : BilRegion → BilRegion) (p : Pkg) : (updBr r f p).eye = p.eye := rfl
@[simp] theorem updBr_ldg (r : Nat) (f : BilRegion → BilRegion) (p : Pkg) : (updBr r f p).ldg = p.ldg := rfl
@[simp] theorem updBr_mtr (r : Nat) (f : BilRegion → BilRegion) (p : Pkg) : (updBr r f p).mtr = p.mtr := rfl
@[simp] theorem updBr_duo (r : Nat) (f : BilRegion → BilRegion) (p : Pkg) : (updBr r f p).duo = p.duo := rfl
@[simp] theorem updBr_dfl (r : Nat) (f : BilRegion → BilRegion) (p : Pkg) : (updBr r f p).dfl = p.dfl := rfl
@[simp] theorem updBr_dfn (r : Nat) (f : BilRegion → BilRegion) (p : Pkg) : (updBr r f p).dfn = p.dfn := rfl
@[simp] theorem updBr_vlk (r : Nat) (f : BilRegion → BilRegion) (p : Pkg) : (updBr r f p).vlk = p.vlk := rfl
@[simp] theorem updBr_can (r : Nat) (f : BilRegion → BilRegion) (p : Pkg) : (updBr r f p).can = p.can := rfl
@[simp] theorem updBr_pln (r : Nat) (f : BilRegion → BilRegion) (p : Pkg) : (updBr r f p).pln = p.pln := rfl
@[simp] theorem updBr_lsw (r : Nat) (f : BilRegion → BilRegion) (p : Pkg) : (updBr r f p).lsw = p.lsw := rfl
@[simp] theorem updBr_bat (r : Nat) (f : BilRegion → BilRegion) (p : Pkg) : (updBr r f p).bat = p.bat := rfl
@[simp] theorem updBr_key (r : Nat) (f : BilRegion → BilRegion) (p : Pkg) : (updBr r f p).key = p.key := rfl
@[simp] theorem updBr_tim (r : Nat) (f : BilRegion → BilRegion) (p : Pkg) : (updBr r f p).tim = p.tim := rfl
@[simp] theorem updBr_thm (r : Nat) (f : BilRegion → BilRegion) (p : Pkg) : (updBr r f p).thm = p.thm := rfl
@[simp] theorem updBr_sup (r : Nat) (f : BilRegion → BilRegion) (p : Pkg) : (updBr r f p).sup = p.sup := rfl
@[simp] theorem updBr_loads (r : Nat) (f : BilRegion → BilRegion) (p : Pkg) : (updBr r f p).loads = p.loads := rfl
@[simp] theorem updBr_store (r : Nat) (f : BilRegion → BilRegion) (p : Pkg) : (updBr r f p).store = p.store := rfl
@[simp] theorem updBr_ready (r : Nat) (f : BilRegion → BilRegion) (p : Pkg) : (updBr r f p).ready = p.ready := rfl
@[simp] theorem updBr_config (r : Nat) (f : BilRegion → BilRegion) (p : Pkg) : (updBr r f p).config = p.config := rfl
@[simp] theorem updBr_freeN (r : Nat) (f : BilRegion → BilRegion) (p : Pkg) : (updBr r f p).freeN = p.freeN := rfl
@[simp] theorem updBa_clk (a : Nat) (f : BilAc → BilAc) (p : Pkg) : (updBa a f p).clk = p.clk := rfl
@[simp] theorem updBa_sys (a : Nat) (f : BilAc → BilAc) (p : Pkg) : (updBa a f p).sys = p.sys := rfl
@[simp] theorem updBa_mbx (a : Nat) (f : BilAc → BilAc) (p : Pkg) : (updBa a f p).mbx = p.mbx := rfl
@[simp] theorem updBa_pwr (a : Nat) (f : BilAc → BilAc) (p : Pkg) : (updBa a f p).pwr = p.pwr := rfl
@[simp] theorem updBa_ce (a : Nat) (f : BilAc → BilAc) (p : Pkg) : (updBa a f p).ce = p.ce := rfl
@[simp] theorem updBa_vcmd (a : Nat) (f : BilAc → BilAc) (p : Pkg) : (updBa a f p).vcmd = p.vcmd := rfl
@[simp] theorem updBa_eye (a : Nat) (f : BilAc → BilAc) (p : Pkg) : (updBa a f p).eye = p.eye := rfl
@[simp] theorem updBa_ldg (a : Nat) (f : BilAc → BilAc) (p : Pkg) : (updBa a f p).ldg = p.ldg := rfl
@[simp] theorem updBa_mtr (a : Nat) (f : BilAc → BilAc) (p : Pkg) : (updBa a f p).mtr = p.mtr := rfl
@[simp] theorem updBa_duo (a : Nat) (f : BilAc → BilAc) (p : Pkg) : (updBa a f p).duo = p.duo := rfl
@[simp] theorem updBa_dfl (a : Nat) (f : BilAc → BilAc) (p : Pkg) : (updBa a f p).dfl = p.dfl := rfl
@[simp] theorem updBa_dfn (a : Nat) (f : BilAc → BilAc) (p : Pkg) : (updBa a f p).dfn = p.dfn := rfl
@[simp] theorem updBa_vlk (a : Nat) (f : BilAc → BilAc) (p : Pkg) : (updBa a f p).vlk = p.vlk := rfl
@[simp] theorem updBa_can (a : Nat) (f : BilAc → BilAc) (p : Pkg) : (updBa a f p).can = p.can := rfl
@[simp] theorem updBa_pln (a : Nat) (f : BilAc → BilAc) (p : Pkg) : (updBa a f p).pln = p.pln := rfl
@[simp] theorem updBa_lsw (a : Nat) (f : BilAc → BilAc) (p : Pkg) : (updBa a f p).lsw = p.lsw := rfl
@[simp] theorem updBa_bat (a : Nat) (f : BilAc → BilAc) (p : Pkg) : (updBa a f p).bat = p.bat := rfl
@[simp] theorem updBa_key (a : Nat) (f : BilAc → BilAc) (p : Pkg) : (updBa a f p).key = p.key := rfl
@[simp] theorem updBa_tim (a : Nat) (f : BilAc → BilAc) (p : Pkg) : (updBa a f p).tim = p.tim := rfl
@[simp] theorem updBa_thm (a : Nat) (f : BilAc → BilAc) (p : Pkg) : (updBa a f p).thm = p.thm := rfl
@[simp] theorem updBa_sup (a : Nat) (f : BilAc → BilAc) (p : Pkg) : (updBa a f p).sup = p.sup := rfl
@[simp] theorem updBa_loads (a : Nat) (f : BilAc → BilAc) (p : Pkg) : (updBa a f p).loads = p.loads := rfl
@[simp] theorem updBa_store (a : Nat) (f : BilAc → BilAc) (p : Pkg) : (updBa a f p).store = p.store := rfl
@[simp] theorem updBa_ready (a : Nat) (f : BilAc → BilAc) (p : Pkg) : (updBa a f p).ready = p.ready := rfl
@[simp] theorem updBa_config (a : Nat) (f : BilAc → BilAc) (p : Pkg) : (updBa a f p).config = p.config := rfl
@[simp] theorem updBa_freeN (a : Nat) (f : BilAc → BilAc) (p : Pkg) : (updBa a f p).freeN = p.freeN := rfl
@[simp] theorem bilEvt_clk (f : BilEvt → BilEvt) (p : Pkg) : (bilEvt f p).clk = p.clk := rfl
@[simp] theorem bilEvt_sys (f : BilEvt → BilEvt) (p : Pkg) : (bilEvt f p).sys = p.sys := rfl
@[simp] theorem bilEvt_mbx (f : BilEvt → BilEvt) (p : Pkg) : (bilEvt f p).mbx = p.mbx := rfl
@[simp] theorem bilEvt_pwr (f : BilEvt → BilEvt) (p : Pkg) : (bilEvt f p).pwr = p.pwr := rfl
@[simp] theorem bilEvt_ce (f : BilEvt → BilEvt) (p : Pkg) : (bilEvt f p).ce = p.ce := rfl
@[simp] theorem bilEvt_vcmd (f : BilEvt → BilEvt) (p : Pkg) : (bilEvt f p).vcmd = p.vcmd := rfl
@[simp] theorem bilEvt_eye (f : BilEvt → BilEvt) (p : Pkg) : (bilEvt f p).eye = p.eye := rfl
@[simp] theorem bilEvt_ldg (f : BilEvt → BilEvt) (p : Pkg) : (bilEvt f p).ldg = p.ldg := rfl
@[simp] theorem bilEvt_mtr (f : BilEvt → BilEvt) (p : Pkg) : (bilEvt f p).mtr = p.mtr := rfl
@[simp] theorem bilEvt_duo (f : BilEvt → BilEvt) (p : Pkg) : (bilEvt f p).duo = p.duo := rfl
@[simp] theorem bilEvt_dfl (f : BilEvt → BilEvt) (p : Pkg) : (bilEvt f p).dfl = p.dfl := rfl
@[simp] theorem bilEvt_dfn (f : BilEvt → BilEvt) (p : Pkg) : (bilEvt f p).dfn = p.dfn := rfl
@[simp] theorem bilEvt_vlk (f : BilEvt → BilEvt) (p : Pkg) : (bilEvt f p).vlk = p.vlk := rfl
@[simp] theorem bilEvt_can (f : BilEvt → BilEvt) (p : Pkg) : (bilEvt f p).can = p.can := rfl
@[simp] theorem bilEvt_pln (f : BilEvt → BilEvt) (p : Pkg) : (bilEvt f p).pln = p.pln := rfl
@[simp] theorem bilEvt_lsw (f : BilEvt → BilEvt) (p : Pkg) : (bilEvt f p).lsw = p.lsw := rfl
@[simp] theorem bilEvt_bat (f : BilEvt → BilEvt) (p : Pkg) : (bilEvt f p).bat = p.bat := rfl
@[simp] theorem bilEvt_key (f : BilEvt → BilEvt) (p : Pkg) : (bilEvt f p).key = p.key := rfl
@[simp] theorem bilEvt_tim (f : BilEvt → BilEvt) (p : Pkg) : (bilEvt f p).tim = p.tim := rfl
@[simp] theorem bilEvt_thm (f : BilEvt → BilEvt) (p : Pkg) : (bilEvt f p).thm = p.thm := rfl
@[simp] theorem bilEvt_sup (f : BilEvt → BilEvt) (p : Pkg) : (bilEvt f p).sup = p.sup := rfl
@[simp] theorem bilEvt_loads (f : BilEvt → BilEvt) (p : Pkg) : (bilEvt f p).loads = p.loads := rfl
@[simp] theorem bilEvt_store (f : BilEvt → BilEvt) (p : Pkg) : (bilEvt f p).store = p.store := rfl
@[simp] theorem bilEvt_ready (f : BilEvt → BilEvt) (p : Pkg) : (bilEvt f p).ready = p.ready := rfl
@[simp] theorem bilEvt_config (f : BilEvt → BilEvt) (p : Pkg) : (bilEvt f p).config = p.config := rfl
@[simp] theorem bilEvt_freeN (f : BilEvt → BilEvt) (p : Pkg) : (bilEvt f p).freeN = p.freeN := rfl
@[simp] theorem updCan_clk (c : Nat) (f : CanCh → CanCh) (p : Pkg) : (updCan c f p).clk = p.clk := rfl
@[simp] theorem updCan_sys (c : Nat) (f : CanCh → CanCh) (p : Pkg) : (updCan c f p).sys = p.sys := rfl
@[simp] theorem updCan_mbx (c : Nat) (f : CanCh → CanCh) (p : Pkg) : (updCan c f p).mbx = p.mbx := rfl
@[simp] theorem updCan_pwr (c : Nat) (f : CanCh → CanCh) (p : Pkg) : (updCan c f p).pwr = p.pwr := rfl
@[simp] theorem updCan_ce (c : Nat) (f : CanCh → CanCh) (p : Pkg) : (updCan c f p).ce = p.ce := rfl
@[simp] theorem updCan_vcmd (c : Nat) (f : CanCh → CanCh) (p : Pkg) : (updCan c f p).vcmd = p.vcmd := rfl
@[simp] theorem updCan_eye (c : Nat) (f : CanCh → CanCh) (p : Pkg) : (updCan c f p).eye = p.eye := rfl
@[simp] theorem updCan_ldg (c : Nat) (f : CanCh → CanCh) (p : Pkg) : (updCan c f p).ldg = p.ldg := rfl
@[simp] theorem updCan_mtr (c : Nat) (f : CanCh → CanCh) (p : Pkg) : (updCan c f p).mtr = p.mtr := rfl
@[simp] theorem updCan_bil (c : Nat) (f : CanCh → CanCh) (p : Pkg) : (updCan c f p).bil = p.bil := rfl
@[simp] theorem updCan_duo (c : Nat) (f : CanCh → CanCh) (p : Pkg) : (updCan c f p).duo = p.duo := rfl
@[simp] theorem updCan_dfl (c : Nat) (f : CanCh → CanCh) (p : Pkg) : (updCan c f p).dfl = p.dfl := rfl
@[simp] theorem updCan_dfn (c : Nat) (f : CanCh → CanCh) (p : Pkg) : (updCan c f p).dfn = p.dfn := rfl
@[simp] theorem updCan_vlk (c : Nat) (f : CanCh → CanCh) (p : Pkg) : (updCan c f p).vlk = p.vlk := rfl
@[simp] theorem updCan_pln (c : Nat) (f : CanCh → CanCh) (p : Pkg) : (updCan c f p).pln = p.pln := rfl
@[simp] theorem updCan_lsw (c : Nat) (f : CanCh → CanCh) (p : Pkg) : (updCan c f p).lsw = p.lsw := rfl
@[simp] theorem updCan_bat (c : Nat) (f : CanCh → CanCh) (p : Pkg) : (updCan c f p).bat = p.bat := rfl
@[simp] theorem updCan_key (c : Nat) (f : CanCh → CanCh) (p : Pkg) : (updCan c f p).key = p.key := rfl
@[simp] theorem updCan_tim (c : Nat) (f : CanCh → CanCh) (p : Pkg) : (updCan c f p).tim = p.tim := rfl
@[simp] theorem updCan_thm (c : Nat) (f : CanCh → CanCh) (p : Pkg) : (updCan c f p).thm = p.thm := rfl
@[simp] theorem updCan_sup (c : Nat) (f : CanCh → CanCh) (p : Pkg) : (updCan c f p).sup = p.sup := rfl
@[simp] theorem updCan_loads (c : Nat) (f : CanCh → CanCh) (p : Pkg) : (updCan c f p).loads = p.loads := rfl
@[simp] theorem updCan_store (c : Nat) (f : CanCh → CanCh) (p : Pkg) : (updCan c f p).store = p.store := rfl
@[simp] theorem updCan_ready (c : Nat) (f : CanCh → CanCh) (p : Pkg) : (updCan c f p).ready = p.ready := rfl
@[simp] theorem updCan_config (c : Nat) (f : CanCh → CanCh) (p : Pkg) : (updCan c f p).config = p.config := rfl
@[simp] theorem updCan_freeN (c : Nat) (f : CanCh → CanCh) (p : Pkg) : (updCan c f p).freeN = p.freeN := rfl
@[simp] theorem canEvt_clk (c : Nat) (f : CanEvt → CanEvt) (p : Pkg) : (canEvt c f p).clk = p.clk := rfl
@[simp] theorem canEvt_sys (c : Nat) (f : CanEvt → CanEvt) (p : Pkg) : (canEvt c f p).sys = p.sys := rfl
@[simp] theorem canEvt_mbx (c : Nat) (f : CanEvt → CanEvt) (p : Pkg) : (canEvt c f p).mbx = p.mbx := rfl
@[simp] theorem canEvt_pwr (c : Nat) (f : CanEvt → CanEvt) (p : Pkg) : (canEvt c f p).pwr = p.pwr := rfl
@[simp] theorem canEvt_ce (c : Nat) (f : CanEvt → CanEvt) (p : Pkg) : (canEvt c f p).ce = p.ce := rfl
@[simp] theorem canEvt_vcmd (c : Nat) (f : CanEvt → CanEvt) (p : Pkg) : (canEvt c f p).vcmd = p.vcmd := rfl
@[simp] theorem canEvt_eye (c : Nat) (f : CanEvt → CanEvt) (p : Pkg) : (canEvt c f p).eye = p.eye := rfl
@[simp] theorem canEvt_ldg (c : Nat) (f : CanEvt → CanEvt) (p : Pkg) : (canEvt c f p).ldg = p.ldg := rfl
@[simp] theorem canEvt_mtr (c : Nat) (f : CanEvt → CanEvt) (p : Pkg) : (canEvt c f p).mtr = p.mtr := rfl
@[simp] theorem canEvt_bil (c : Nat) (f : CanEvt → CanEvt) (p : Pkg) : (canEvt c f p).bil = p.bil := rfl
@[simp] theorem canEvt_duo (c : Nat) (f : CanEvt → CanEvt) (p : Pkg) : (canEvt c f p).duo = p.duo := rfl
@[simp] theorem canEvt_dfl (c : Nat) (f : CanEvt → CanEvt) (p : Pkg) : (canEvt c f p).dfl = p.dfl := rfl
@[simp] theorem canEvt_dfn (c : Nat) (f : CanEvt → CanEvt) (p : Pkg) : (canEvt c f p).dfn = p.dfn := rfl
@[simp] theorem canEvt_vlk (c : Nat) (f : CanEvt → CanEvt) (p : Pkg) : (canEvt c f p).vlk = p.vlk := rfl
@[simp] theorem canEvt_pln (c : Nat) (f : CanEvt → CanEvt) (p : Pkg) : (canEvt c f p).pln = p.pln := rfl
@[simp] theorem canEvt_lsw (c : Nat) (f : CanEvt → CanEvt) (p : Pkg) : (canEvt c f p).lsw = p.lsw := rfl
@[simp] theorem canEvt_bat (c : Nat) (f : CanEvt → CanEvt) (p : Pkg) : (canEvt c f p).bat = p.bat := rfl
@[simp] theorem canEvt_key (c : Nat) (f : CanEvt → CanEvt) (p : Pkg) : (canEvt c f p).key = p.key := rfl
@[simp] theorem canEvt_tim (c : Nat) (f : CanEvt → CanEvt) (p : Pkg) : (canEvt c f p).tim = p.tim := rfl
@[simp] theorem canEvt_thm (c : Nat) (f : CanEvt → CanEvt) (p : Pkg) : (canEvt c f p).thm = p.thm := rfl
@[simp] theorem canEvt_sup (c : Nat) (f : CanEvt → CanEvt) (p : Pkg) : (canEvt c f p).sup = p.sup := rfl
@[simp] theorem canEvt_loads (c : Nat) (f : CanEvt → CanEvt) (p : Pkg) : (canEvt c f p).loads = p.loads := rfl
@[simp] theorem canEvt_store (c : Nat) (f : CanEvt → CanEvt) (p : Pkg) : (canEvt c f p).store = p.store := rfl
@[simp] theorem canEvt_ready (c : Nat) (f : CanEvt → CanEvt) (p : Pkg) : (canEvt c f p).ready = p.ready := rfl
@[simp] theorem canEvt_config (c : Nat) (f : CanEvt → CanEvt) (p : Pkg) : (canEvt c f p).config = p.config := rfl
@[simp] theorem canEvt_freeN (c : Nat) (f : CanEvt → CanEvt) (p : Pkg) : (canEvt c f p).freeN = p.freeN := rfl
@[simp] theorem updPl_clk (k : Nat) (f : PNet → PNet) (p : Pkg) : (updPl k f p).clk = p.clk := rfl
@[simp] theorem updPl_sys (k : Nat) (f : PNet → PNet) (p : Pkg) : (updPl k f p).sys = p.sys := rfl
@[simp] theorem updPl_mbx (k : Nat) (f : PNet → PNet) (p : Pkg) : (updPl k f p).mbx = p.mbx := rfl
@[simp] theorem updPl_pwr (k : Nat) (f : PNet → PNet) (p : Pkg) : (updPl k f p).pwr = p.pwr := rfl
@[simp] theorem updPl_ce (k : Nat) (f : PNet → PNet) (p : Pkg) : (updPl k f p).ce = p.ce := rfl
@[simp] theorem updPl_vcmd (k : Nat) (f : PNet → PNet) (p : Pkg) : (updPl k f p).vcmd = p.vcmd := rfl
@[simp] theorem updPl_eye (k : Nat) (f : PNet → PNet) (p : Pkg) : (updPl k f p).eye = p.eye := rfl
@[simp] theorem updPl_ldg (k : Nat) (f : PNet → PNet) (p : Pkg) : (updPl k f p).ldg = p.ldg := rfl
@[simp] theorem updPl_mtr (k : Nat) (f : PNet → PNet) (p : Pkg) : (updPl k f p).mtr = p.mtr := rfl
@[simp] theorem updPl_bil (k : Nat) (f : PNet → PNet) (p : Pkg) : (updPl k f p).bil = p.bil := rfl
@[simp] theorem updPl_duo (k : Nat) (f : PNet → PNet) (p : Pkg) : (updPl k f p).duo = p.duo := rfl
@[simp] theorem updPl_dfl (k : Nat) (f : PNet → PNet) (p : Pkg) : (updPl k f p).dfl = p.dfl := rfl
@[simp] theorem updPl_dfn (k : Nat) (f : PNet → PNet) (p : Pkg) : (updPl k f p).dfn = p.dfn := rfl
@[simp] theorem updPl_vlk (k : Nat) (f : PNet → PNet) (p : Pkg) : (updPl k f p).vlk = p.vlk := rfl
@[simp] theorem updPl_can (k : Nat) (f : PNet → PNet) (p : Pkg) : (updPl k f p).can = p.can := rfl
@[simp] theorem updPl_lsw (k : Nat) (f : PNet → PNet) (p : Pkg) : (updPl k f p).lsw = p.lsw := rfl
@[simp] theorem updPl_bat (k : Nat) (f : PNet → PNet) (p : Pkg) : (updPl k f p).bat = p.bat := rfl
@[simp] theorem updPl_key (k : Nat) (f : PNet → PNet) (p : Pkg) : (updPl k f p).key = p.key := rfl
@[simp] theorem updPl_tim (k : Nat) (f : PNet → PNet) (p : Pkg) : (updPl k f p).tim = p.tim := rfl
@[simp] theorem updPl_thm (k : Nat) (f : PNet → PNet) (p : Pkg) : (updPl k f p).thm = p.thm := rfl
@[simp] theorem updPl_sup (k : Nat) (f : PNet → PNet) (p : Pkg) : (updPl k f p).sup = p.sup := rfl
@[simp] theorem updPl_loads (k : Nat) (f : PNet → PNet) (p : Pkg) : (updPl k f p).loads = p.loads := rfl
@[simp] theorem updPl_store (k : Nat) (f : PNet → PNet) (p : Pkg) : (updPl k f p).store = p.store := rfl
@[simp] theorem updPl_ready (k : Nat) (f : PNet → PNet) (p : Pkg) : (updPl k f p).ready = p.ready := rfl
@[simp] theorem updPl_config (k : Nat) (f : PNet → PNet) (p : Pkg) : (updPl k f p).config = p.config := rfl
@[simp] theorem updPl_freeN (k : Nat) (f : PNet → PNet) (p : Pkg) : (updPl k f p).freeN = p.freeN := rfl
@[simp] theorem updPn_clk (k n : Nat) (f : PNode → PNode) (p : Pkg) : (updPn k n f p).clk = p.clk := rfl
@[simp] theorem updPn_sys (k n : Nat) (f : PNode → PNode) (p : Pkg) : (updPn k n f p).sys = p.sys := rfl
@[simp] theorem updPn_mbx (k n : Nat) (f : PNode → PNode) (p : Pkg) : (updPn k n f p).mbx = p.mbx := rfl
@[simp] theorem updPn_pwr (k n : Nat) (f : PNode → PNode) (p : Pkg) : (updPn k n f p).pwr = p.pwr := rfl
@[simp] theorem updPn_ce (k n : Nat) (f : PNode → PNode) (p : Pkg) : (updPn k n f p).ce = p.ce := rfl
@[simp] theorem updPn_vcmd (k n : Nat) (f : PNode → PNode) (p : Pkg) : (updPn k n f p).vcmd = p.vcmd := rfl
@[simp] theorem updPn_eye (k n : Nat) (f : PNode → PNode) (p : Pkg) : (updPn k n f p).eye = p.eye := rfl
@[simp] theorem updPn_ldg (k n : Nat) (f : PNode → PNode) (p : Pkg) : (updPn k n f p).ldg = p.ldg := rfl
@[simp] theorem updPn_mtr (k n : Nat) (f : PNode → PNode) (p : Pkg) : (updPn k n f p).mtr = p.mtr := rfl
@[simp] theorem updPn_bil (k n : Nat) (f : PNode → PNode) (p : Pkg) : (updPn k n f p).bil = p.bil := rfl
@[simp] theorem updPn_duo (k n : Nat) (f : PNode → PNode) (p : Pkg) : (updPn k n f p).duo = p.duo := rfl
@[simp] theorem updPn_dfl (k n : Nat) (f : PNode → PNode) (p : Pkg) : (updPn k n f p).dfl = p.dfl := rfl
@[simp] theorem updPn_dfn (k n : Nat) (f : PNode → PNode) (p : Pkg) : (updPn k n f p).dfn = p.dfn := rfl
@[simp] theorem updPn_vlk (k n : Nat) (f : PNode → PNode) (p : Pkg) : (updPn k n f p).vlk = p.vlk := rfl
@[simp] theorem updPn_can (k n : Nat) (f : PNode → PNode) (p : Pkg) : (updPn k n f p).can = p.can := rfl
@[simp] theorem updPn_lsw (k n : Nat) (f : PNode → PNode) (p : Pkg) : (updPn k n f p).lsw = p.lsw := rfl
@[simp] theorem updPn_bat (k n : Nat) (f : PNode → PNode) (p : Pkg) : (updPn k n f p).bat = p.bat := rfl
@[simp] theorem updPn_key (k n : Nat) (f : PNode → PNode) (p : Pkg) : (updPn k n f p).key = p.key := rfl
@[simp] theorem updPn_tim (k n : Nat) (f : PNode → PNode) (p : Pkg) : (updPn k n f p).tim = p.tim := rfl
@[simp] theorem updPn_thm (k n : Nat) (f : PNode → PNode) (p : Pkg) : (updPn k n f p).thm = p.thm := rfl
@[simp] theorem updPn_sup (k n : Nat) (f : PNode → PNode) (p : Pkg) : (updPn k n f p).sup = p.sup := rfl
@[simp] theorem updPn_loads (k n : Nat) (f : PNode → PNode) (p : Pkg) : (updPn k n f p).loads = p.loads := rfl
@[simp] theorem updPn_store (k n : Nat) (f : PNode → PNode) (p : Pkg) : (updPn k n f p).store = p.store := rfl
@[simp] theorem updPn_ready (k n : Nat) (f : PNode → PNode) (p : Pkg) : (updPn k n f p).ready = p.ready := rfl
@[simp] theorem updPn_config (k n : Nat) (f : PNode → PNode) (p : Pkg) : (updPn k n f p).config = p.config := rfl
@[simp] theorem updPn_freeN (k n : Nat) (f : PNode → PNode) (p : Pkg) : (updPn k n f p).freeN = p.freeN := rfl
@[simp] theorem updCh_clk (c : Nat) (f : LCh → LCh) (p : Pkg) : (updCh c f p).clk = p.clk := rfl
@[simp] theorem updCh_sys (c : Nat) (f : LCh → LCh) (p : Pkg) : (updCh c f p).sys = p.sys := rfl
@[simp] theorem updCh_mbx (c : Nat) (f : LCh → LCh) (p : Pkg) : (updCh c f p).mbx = p.mbx := rfl
@[simp] theorem updCh_pwr (c : Nat) (f : LCh → LCh) (p : Pkg) : (updCh c f p).pwr = p.pwr := rfl
@[simp] theorem updCh_ce (c : Nat) (f : LCh → LCh) (p : Pkg) : (updCh c f p).ce = p.ce := rfl
@[simp] theorem updCh_vcmd (c : Nat) (f : LCh → LCh) (p : Pkg) : (updCh c f p).vcmd = p.vcmd := rfl
@[simp] theorem updCh_eye (c : Nat) (f : LCh → LCh) (p : Pkg) : (updCh c f p).eye = p.eye := rfl
@[simp] theorem updCh_ldg (c : Nat) (f : LCh → LCh) (p : Pkg) : (updCh c f p).ldg = p.ldg := rfl
@[simp] theorem updCh_mtr (c : Nat) (f : LCh → LCh) (p : Pkg) : (updCh c f p).mtr = p.mtr := rfl
@[simp] theorem updCh_bil (c : Nat) (f : LCh → LCh) (p : Pkg) : (updCh c f p).bil = p.bil := rfl
@[simp] theorem updCh_duo (c : Nat) (f : LCh → LCh) (p : Pkg) : (updCh c f p).duo = p.duo := rfl
@[simp] theorem updCh_dfl (c : Nat) (f : LCh → LCh) (p : Pkg) : (updCh c f p).dfl = p.dfl := rfl
@[simp] theorem updCh_dfn (c : Nat) (f : LCh → LCh) (p : Pkg) : (updCh c f p).dfn = p.dfn := rfl
@[simp] theorem updCh_vlk (c : Nat) (f : LCh → LCh) (p : Pkg) : (updCh c f p).vlk = p.vlk := rfl
@[simp] theorem updCh_can (c : Nat) (f : LCh → LCh) (p : Pkg) : (updCh c f p).can = p.can := rfl
@[simp] theorem updCh_pln (c : Nat) (f : LCh → LCh) (p : Pkg) : (updCh c f p).pln = p.pln := rfl
@[simp] theorem updCh_bat (c : Nat) (f : LCh → LCh) (p : Pkg) : (updCh c f p).bat = p.bat := rfl
@[simp] theorem updCh_key (c : Nat) (f : LCh → LCh) (p : Pkg) : (updCh c f p).key = p.key := rfl
@[simp] theorem updCh_tim (c : Nat) (f : LCh → LCh) (p : Pkg) : (updCh c f p).tim = p.tim := rfl
@[simp] theorem updCh_thm (c : Nat) (f : LCh → LCh) (p : Pkg) : (updCh c f p).thm = p.thm := rfl
@[simp] theorem updCh_sup (c : Nat) (f : LCh → LCh) (p : Pkg) : (updCh c f p).sup = p.sup := rfl
@[simp] theorem updCh_loads (c : Nat) (f : LCh → LCh) (p : Pkg) : (updCh c f p).loads = p.loads := rfl
@[simp] theorem updCh_store (c : Nat) (f : LCh → LCh) (p : Pkg) : (updCh c f p).store = p.store := rfl
@[simp] theorem updCh_ready (c : Nat) (f : LCh → LCh) (p : Pkg) : (updCh c f p).ready = p.ready := rfl
@[simp] theorem updCh_config (c : Nat) (f : LCh → LCh) (p : Pkg) : (updCh c f p).config = p.config := rfl
@[simp] theorem updCh_freeN (c : Nat) (f : LCh → LCh) (p : Pkg) : (updCh c f p).freeN = p.freeN := rfl
@[simp] theorem updSrc_clk (i : Nat) (f : LSrc → LSrc) (p : Pkg) : (updSrc i f p).clk = p.clk := rfl
@[simp] theorem updSrc_sys (i : Nat) (f : LSrc → LSrc) (p : Pkg) : (updSrc i f p).sys = p.sys := rfl
@[simp] theorem updSrc_mbx (i : Nat) (f : LSrc → LSrc) (p : Pkg) : (updSrc i f p).mbx = p.mbx := rfl
@[simp] theorem updSrc_pwr (i : Nat) (f : LSrc → LSrc) (p : Pkg) : (updSrc i f p).pwr = p.pwr := rfl
@[simp] theorem updSrc_ce (i : Nat) (f : LSrc → LSrc) (p : Pkg) : (updSrc i f p).ce = p.ce := rfl
@[simp] theorem updSrc_vcmd (i : Nat) (f : LSrc → LSrc) (p : Pkg) : (updSrc i f p).vcmd = p.vcmd := rfl
@[simp] theorem updSrc_eye (i : Nat) (f : LSrc → LSrc) (p : Pkg) : (updSrc i f p).eye = p.eye := rfl
@[simp] theorem updSrc_ldg (i : Nat) (f : LSrc → LSrc) (p : Pkg) : (updSrc i f p).ldg = p.ldg := rfl
@[simp] theorem updSrc_mtr (i : Nat) (f : LSrc → LSrc) (p : Pkg) : (updSrc i f p).mtr = p.mtr := rfl
@[simp] theorem updSrc_bil (i : Nat) (f : LSrc → LSrc) (p : Pkg) : (updSrc i f p).bil = p.bil := rfl
@[simp] theorem updSrc_duo (i : Nat) (f : LSrc → LSrc) (p : Pkg) : (updSrc i f p).duo = p.duo := rfl
@[simp] theorem updSrc_dfl (i : Nat) (f : LSrc → LSrc) (p : Pkg) : (updSrc i f p).dfl = p.dfl := rfl
@[simp] theorem updSrc_dfn (i : Nat) (f : LSrc → LSrc) (p : Pkg) : (updSrc i f p).dfn = p.dfn := rfl
@[simp] theorem updSrc_vlk (i : Nat) (f : LSrc → LSrc) (p : Pkg) : (updSrc i f p).vlk = p.vlk := rfl
@[simp] theorem updSrc_can (i : Nat) (f : LSrc → LSrc) (p : Pkg) : (updSrc i f p).can = p.can := rfl
@[simp] theorem updSrc_pln (i : Nat) (f : LSrc → LSrc) (p : Pkg) : (updSrc i f p).pln = p.pln := rfl
@[simp] theorem updSrc_bat (i : Nat) (f : LSrc → LSrc) (p : Pkg) : (updSrc i f p).bat = p.bat := rfl
@[simp] theorem updSrc_key (i : Nat) (f : LSrc → LSrc) (p : Pkg) : (updSrc i f p).key = p.key := rfl
@[simp] theorem updSrc_tim (i : Nat) (f : LSrc → LSrc) (p : Pkg) : (updSrc i f p).tim = p.tim := rfl
@[simp] theorem updSrc_thm (i : Nat) (f : LSrc → LSrc) (p : Pkg) : (updSrc i f p).thm = p.thm := rfl
@[simp] theorem updSrc_sup (i : Nat) (f : LSrc → LSrc) (p : Pkg) : (updSrc i f p).sup = p.sup := rfl
@[simp] theorem updSrc_loads (i : Nat) (f : LSrc → LSrc) (p : Pkg) : (updSrc i f p).loads = p.loads := rfl
@[simp] theorem updSrc_store (i : Nat) (f : LSrc → LSrc) (p : Pkg) : (updSrc i f p).store = p.store := rfl
@[simp] theorem updSrc_ready (i : Nat) (f : LSrc → LSrc) (p : Pkg) : (updSrc i f p).ready = p.ready := rfl
@[simp] theorem updSrc_config (i : Nat) (f : LSrc → LSrc) (p : Pkg) : (updSrc i f p).config = p.config := rfl
@[simp] theorem updSrc_freeN (i : Nat) (f : LSrc → LSrc) (p : Pkg) : (updSrc i f p).freeN = p.freeN := rfl
@[simp] theorem lswEvt_clk (f : LEvt → LEvt) (p : Pkg) : (lswEvt f p).clk = p.clk := rfl
@[simp] theorem lswEvt_sys (f : LEvt → LEvt) (p : Pkg) : (lswEvt f p).sys = p.sys := rfl
@[simp] theorem lswEvt_mbx (f : LEvt → LEvt) (p : Pkg) : (lswEvt f p).mbx = p.mbx := rfl
@[simp] theorem lswEvt_pwr (f : LEvt → LEvt) (p : Pkg) : (lswEvt f p).pwr = p.pwr := rfl
@[simp] theorem lswEvt_ce (f : LEvt → LEvt) (p : Pkg) : (lswEvt f p).ce = p.ce := rfl
@[simp] theorem lswEvt_vcmd (f : LEvt → LEvt) (p : Pkg) : (lswEvt f p).vcmd = p.vcmd := rfl
@[simp] theorem lswEvt_eye (f : LEvt → LEvt) (p : Pkg) : (lswEvt f p).eye = p.eye := rfl
@[simp] theorem lswEvt_ldg (f : LEvt → LEvt) (p : Pkg) : (lswEvt f p).ldg = p.ldg := rfl
@[simp] theorem lswEvt_mtr (f : LEvt → LEvt) (p : Pkg) : (lswEvt f p).mtr = p.mtr := rfl
@[simp] theorem lswEvt_bil (f : LEvt → LEvt) (p : Pkg) : (lswEvt f p).bil = p.bil := rfl
@[simp] theorem lswEvt_duo (f : LEvt → LEvt) (p : Pkg) : (lswEvt f p).duo = p.duo := rfl
@[simp] theorem lswEvt_dfl (f : LEvt → LEvt) (p : Pkg) : (lswEvt f p).dfl = p.dfl := rfl
@[simp] theorem lswEvt_dfn (f : LEvt → LEvt) (p : Pkg) : (lswEvt f p).dfn = p.dfn := rfl
@[simp] theorem lswEvt_vlk (f : LEvt → LEvt) (p : Pkg) : (lswEvt f p).vlk = p.vlk := rfl
@[simp] theorem lswEvt_can (f : LEvt → LEvt) (p : Pkg) : (lswEvt f p).can = p.can := rfl
@[simp] theorem lswEvt_pln (f : LEvt → LEvt) (p : Pkg) : (lswEvt f p).pln = p.pln := rfl
@[simp] theorem lswEvt_bat (f : LEvt → LEvt) (p : Pkg) : (lswEvt f p).bat = p.bat := rfl
@[simp] theorem lswEvt_key (f : LEvt → LEvt) (p : Pkg) : (lswEvt f p).key = p.key := rfl
@[simp] theorem lswEvt_tim (f : LEvt → LEvt) (p : Pkg) : (lswEvt f p).tim = p.tim := rfl
@[simp] theorem lswEvt_thm (f : LEvt → LEvt) (p : Pkg) : (lswEvt f p).thm = p.thm := rfl
@[simp] theorem lswEvt_sup (f : LEvt → LEvt) (p : Pkg) : (lswEvt f p).sup = p.sup := rfl
@[simp] theorem lswEvt_loads (f : LEvt → LEvt) (p : Pkg) : (lswEvt f p).loads = p.loads := rfl
@[simp] theorem lswEvt_store (f : LEvt → LEvt) (p : Pkg) : (lswEvt f p).store = p.store := rfl
@[simp] theorem lswEvt_ready (f : LEvt → LEvt) (p : Pkg) : (lswEvt f p).ready = p.ready := rfl
@[simp] theorem lswEvt_config (f : LEvt → LEvt) (p : Pkg) : (lswEvt f p).config = p.config := rfl
@[simp] theorem lswEvt_freeN (f : LEvt → LEvt) (p : Pkg) : (lswEvt f p).freeN = p.freeN := rfl
@[simp] theorem updStr_clk (k : Nat) (f : BStr → BStr) (p : Pkg) : (updStr k f p).clk = p.clk := rfl
@[simp] theorem updStr_sys (k : Nat) (f : BStr → BStr) (p : Pkg) : (updStr k f p).sys = p.sys := rfl
@[simp] theorem updStr_mbx (k : Nat) (f : BStr → BStr) (p : Pkg) : (updStr k f p).mbx = p.mbx := rfl
@[simp] theorem updStr_pwr (k : Nat) (f : BStr → BStr) (p : Pkg) : (updStr k f p).pwr = p.pwr := rfl
@[simp] theorem updStr_ce (k : Nat) (f : BStr → BStr) (p : Pkg) : (updStr k f p).ce = p.ce := rfl
@[simp] theorem updStr_vcmd (k : Nat) (f : BStr → BStr) (p : Pkg) : (updStr k f p).vcmd = p.vcmd := rfl
@[simp] theorem updStr_eye (k : Nat) (f : BStr → BStr) (p : Pkg) : (updStr k f p).eye = p.eye := rfl
@[simp] theorem updStr_ldg (k : Nat) (f : BStr → BStr) (p : Pkg) : (updStr k f p).ldg = p.ldg := rfl
@[simp] theorem updStr_mtr (k : Nat) (f : BStr → BStr) (p : Pkg) : (updStr k f p).mtr = p.mtr := rfl
@[simp] theorem updStr_bil (k : Nat) (f : BStr → BStr) (p : Pkg) : (updStr k f p).bil = p.bil := rfl
@[simp] theorem updStr_duo (k : Nat) (f : BStr → BStr) (p : Pkg) : (updStr k f p).duo = p.duo := rfl
@[simp] theorem updStr_dfl (k : Nat) (f : BStr → BStr) (p : Pkg) : (updStr k f p).dfl = p.dfl := rfl
@[simp] theorem updStr_dfn (k : Nat) (f : BStr → BStr) (p : Pkg) : (updStr k f p).dfn = p.dfn := rfl
@[simp] theorem updStr_vlk (k : Nat) (f : BStr → BStr) (p : Pkg) : (updStr k f p).vlk = p.vlk := rfl
@[simp] theorem updStr_can (k : Nat) (f : BStr → BStr) (p : Pkg) : (updStr k f p).can = p.can := rfl
@[simp] theorem updStr_pln (k : Nat) (f : BStr → BStr) (p : Pkg) : (updStr k f p).pln = p.pln := rfl
@[simp] theorem updStr_lsw (k : Nat) (f : BStr → BStr) (p : Pkg) : (updStr k f p).lsw = p.lsw := rfl
@[simp] theorem updStr_key (k : Nat) (f : BStr → BStr) (p : Pkg) : (updStr k f p).key = p.key := rfl
@[simp] theorem updStr_tim (k : Nat) (f : BStr → BStr) (p : Pkg) : (updStr k f p).tim = p.tim := rfl
@[simp] theorem updStr_thm (k : Nat) (f : BStr → BStr) (p : Pkg) : (updStr k f p).thm = p.thm := rfl
@[simp] theorem updStr_sup (k : Nat) (f : BStr → BStr) (p : Pkg) : (updStr k f p).sup = p.sup := rfl
@[simp] theorem updStr_loads (k : Nat) (f : BStr → BStr) (p : Pkg) : (updStr k f p).loads = p.loads := rfl
@[simp] theorem updStr_store (k : Nat) (f : BStr → BStr) (p : Pkg) : (updStr k f p).store = p.store := rfl
@[simp] theorem updStr_ready (k : Nat) (f : BStr → BStr) (p : Pkg) : (updStr k f p).ready = p.ready := rfl
@[simp] theorem updStr_config (k : Nat) (f : BStr → BStr) (p : Pkg) : (updStr k f p).config = p.config := rfl
@[simp] theorem updStr_freeN (k : Nat) (f : BStr → BStr) (p : Pkg) : (updStr k f p).freeN = p.freeN := rfl
@[simp] theorem batEvt_clk (f : BEvt → BEvt) (p : Pkg) : (batEvt f p).clk = p.clk := rfl
@[simp] theorem batEvt_sys (f : BEvt → BEvt) (p : Pkg) : (batEvt f p).sys = p.sys := rfl
@[simp] theorem batEvt_mbx (f : BEvt → BEvt) (p : Pkg) : (batEvt f p).mbx = p.mbx := rfl
@[simp] theorem batEvt_pwr (f : BEvt → BEvt) (p : Pkg) : (batEvt f p).pwr = p.pwr := rfl
@[simp] theorem batEvt_ce (f : BEvt → BEvt) (p : Pkg) : (batEvt f p).ce = p.ce := rfl
@[simp] theorem batEvt_vcmd (f : BEvt → BEvt) (p : Pkg) : (batEvt f p).vcmd = p.vcmd := rfl
@[simp] theorem batEvt_eye (f : BEvt → BEvt) (p : Pkg) : (batEvt f p).eye = p.eye := rfl
@[simp] theorem batEvt_ldg (f : BEvt → BEvt) (p : Pkg) : (batEvt f p).ldg = p.ldg := rfl
@[simp] theorem batEvt_mtr (f : BEvt → BEvt) (p : Pkg) : (batEvt f p).mtr = p.mtr := rfl
@[simp] theorem batEvt_bil (f : BEvt → BEvt) (p : Pkg) : (batEvt f p).bil = p.bil := rfl
@[simp] theorem batEvt_duo (f : BEvt → BEvt) (p : Pkg) : (batEvt f p).duo = p.duo := rfl
@[simp] theorem batEvt_dfl (f : BEvt → BEvt) (p : Pkg) : (batEvt f p).dfl = p.dfl := rfl
@[simp] theorem batEvt_dfn (f : BEvt → BEvt) (p : Pkg) : (batEvt f p).dfn = p.dfn := rfl
@[simp] theorem batEvt_vlk (f : BEvt → BEvt) (p : Pkg) : (batEvt f p).vlk = p.vlk := rfl
@[simp] theorem batEvt_can (f : BEvt → BEvt) (p : Pkg) : (batEvt f p).can = p.can := rfl
@[simp] theorem batEvt_pln (f : BEvt → BEvt) (p : Pkg) : (batEvt f p).pln = p.pln := rfl
@[simp] theorem batEvt_lsw (f : BEvt → BEvt) (p : Pkg) : (batEvt f p).lsw = p.lsw := rfl
@[simp] theorem batEvt_key (f : BEvt → BEvt) (p : Pkg) : (batEvt f p).key = p.key := rfl
@[simp] theorem batEvt_tim (f : BEvt → BEvt) (p : Pkg) : (batEvt f p).tim = p.tim := rfl
@[simp] theorem batEvt_thm (f : BEvt → BEvt) (p : Pkg) : (batEvt f p).thm = p.thm := rfl
@[simp] theorem batEvt_sup (f : BEvt → BEvt) (p : Pkg) : (batEvt f p).sup = p.sup := rfl
@[simp] theorem batEvt_loads (f : BEvt → BEvt) (p : Pkg) : (batEvt f p).loads = p.loads := rfl
@[simp] theorem batEvt_store (f : BEvt → BEvt) (p : Pkg) : (batEvt f p).store = p.store := rfl
@[simp] theorem batEvt_ready (f : BEvt → BEvt) (p : Pkg) : (batEvt f p).ready = p.ready := rfl
@[simp] theorem batEvt_config (f : BEvt → BEvt) (p : Pkg) : (batEvt f p).config = p.config := rfl
@[simp] theorem batEvt_freeN (f : BEvt → BEvt) (p : Pkg) : (batEvt f p).freeN = p.freeN := rfl
@[simp] theorem updFl_clk (l : Nat) (f : FLane → FLane) (p : Pkg) : (updFl l f p).clk = p.clk := rfl
@[simp] theorem updFl_sys (l : Nat) (f : FLane → FLane) (p : Pkg) : (updFl l f p).sys = p.sys := rfl
@[simp] theorem updFl_mbx (l : Nat) (f : FLane → FLane) (p : Pkg) : (updFl l f p).mbx = p.mbx := rfl
@[simp] theorem updFl_pwr (l : Nat) (f : FLane → FLane) (p : Pkg) : (updFl l f p).pwr = p.pwr := rfl
@[simp] theorem updFl_ce (l : Nat) (f : FLane → FLane) (p : Pkg) : (updFl l f p).ce = p.ce := rfl
@[simp] theorem updFl_vcmd (l : Nat) (f : FLane → FLane) (p : Pkg) : (updFl l f p).vcmd = p.vcmd := rfl
@[simp] theorem updFl_eye (l : Nat) (f : FLane → FLane) (p : Pkg) : (updFl l f p).eye = p.eye := rfl
@[simp] theorem updFl_ldg (l : Nat) (f : FLane → FLane) (p : Pkg) : (updFl l f p).ldg = p.ldg := rfl
@[simp] theorem updFl_mtr (l : Nat) (f : FLane → FLane) (p : Pkg) : (updFl l f p).mtr = p.mtr := rfl
@[simp] theorem updFl_bil (l : Nat) (f : FLane → FLane) (p : Pkg) : (updFl l f p).bil = p.bil := rfl
@[simp] theorem updFl_duo (l : Nat) (f : FLane → FLane) (p : Pkg) : (updFl l f p).duo = p.duo := rfl
@[simp] theorem updFl_dfn (l : Nat) (f : FLane → FLane) (p : Pkg) : (updFl l f p).dfn = p.dfn := rfl
@[simp] theorem updFl_vlk (l : Nat) (f : FLane → FLane) (p : Pkg) : (updFl l f p).vlk = p.vlk := rfl
@[simp] theorem updFl_can (l : Nat) (f : FLane → FLane) (p : Pkg) : (updFl l f p).can = p.can := rfl
@[simp] theorem updFl_pln (l : Nat) (f : FLane → FLane) (p : Pkg) : (updFl l f p).pln = p.pln := rfl
@[simp] theorem updFl_lsw (l : Nat) (f : FLane → FLane) (p : Pkg) : (updFl l f p).lsw = p.lsw := rfl
@[simp] theorem updFl_bat (l : Nat) (f : FLane → FLane) (p : Pkg) : (updFl l f p).bat = p.bat := rfl
@[simp] theorem updFl_key (l : Nat) (f : FLane → FLane) (p : Pkg) : (updFl l f p).key = p.key := rfl
@[simp] theorem updFl_tim (l : Nat) (f : FLane → FLane) (p : Pkg) : (updFl l f p).tim = p.tim := rfl
@[simp] theorem updFl_thm (l : Nat) (f : FLane → FLane) (p : Pkg) : (updFl l f p).thm = p.thm := rfl
@[simp] theorem updFl_sup (l : Nat) (f : FLane → FLane) (p : Pkg) : (updFl l f p).sup = p.sup := rfl
@[simp] theorem updFl_loads (l : Nat) (f : FLane → FLane) (p : Pkg) : (updFl l f p).loads = p.loads := rfl
@[simp] theorem updFl_store (l : Nat) (f : FLane → FLane) (p : Pkg) : (updFl l f p).store = p.store := rfl
@[simp] theorem updFl_ready (l : Nat) (f : FLane → FLane) (p : Pkg) : (updFl l f p).ready = p.ready := rfl
@[simp] theorem updFl_config (l : Nat) (f : FLane → FLane) (p : Pkg) : (updFl l f p).config = p.config := rfl
@[simp] theorem updFl_freeN (l : Nat) (f : FLane → FLane) (p : Pkg) : (updFl l f p).freeN = p.freeN := rfl
@[simp] theorem updNl_clk (l : Nat) (f : NLane → NLane) (p : Pkg) : (updNl l f p).clk = p.clk := rfl
@[simp] theorem updNl_sys (l : Nat) (f : NLane → NLane) (p : Pkg) : (updNl l f p).sys = p.sys := rfl
@[simp] theorem updNl_mbx (l : Nat) (f : NLane → NLane) (p : Pkg) : (updNl l f p).mbx = p.mbx := rfl
@[simp] theorem updNl_pwr (l : Nat) (f : NLane → NLane) (p : Pkg) : (updNl l f p).pwr = p.pwr := rfl
@[simp] theorem updNl_ce (l : Nat) (f : NLane → NLane) (p : Pkg) : (updNl l f p).ce = p.ce := rfl
@[simp] theorem updNl_vcmd (l : Nat) (f : NLane → NLane) (p : Pkg) : (updNl l f p).vcmd = p.vcmd := rfl
@[simp] theorem updNl_eye (l : Nat) (f : NLane → NLane) (p : Pkg) : (updNl l f p).eye = p.eye := rfl
@[simp] theorem updNl_ldg (l : Nat) (f : NLane → NLane) (p : Pkg) : (updNl l f p).ldg = p.ldg := rfl
@[simp] theorem updNl_mtr (l : Nat) (f : NLane → NLane) (p : Pkg) : (updNl l f p).mtr = p.mtr := rfl
@[simp] theorem updNl_bil (l : Nat) (f : NLane → NLane) (p : Pkg) : (updNl l f p).bil = p.bil := rfl
@[simp] theorem updNl_duo (l : Nat) (f : NLane → NLane) (p : Pkg) : (updNl l f p).duo = p.duo := rfl
@[simp] theorem updNl_dfl (l : Nat) (f : NLane → NLane) (p : Pkg) : (updNl l f p).dfl = p.dfl := rfl
@[simp] theorem updNl_vlk (l : Nat) (f : NLane → NLane) (p : Pkg) : (updNl l f p).vlk = p.vlk := rfl
@[simp] theorem updNl_can (l : Nat) (f : NLane → NLane) (p : Pkg) : (updNl l f p).can = p.can := rfl
@[simp] theorem updNl_pln (l : Nat) (f : NLane → NLane) (p : Pkg) : (updNl l f p).pln = p.pln := rfl
@[simp] theorem updNl_lsw (l : Nat) (f : NLane → NLane) (p : Pkg) : (updNl l f p).lsw = p.lsw := rfl
@[simp] theorem updNl_bat (l : Nat) (f : NLane → NLane) (p : Pkg) : (updNl l f p).bat = p.bat := rfl
@[simp] theorem updNl_key (l : Nat) (f : NLane → NLane) (p : Pkg) : (updNl l f p).key = p.key := rfl
@[simp] theorem updNl_tim (l : Nat) (f : NLane → NLane) (p : Pkg) : (updNl l f p).tim = p.tim := rfl
@[simp] theorem updNl_thm (l : Nat) (f : NLane → NLane) (p : Pkg) : (updNl l f p).thm = p.thm := rfl
@[simp] theorem updNl_sup (l : Nat) (f : NLane → NLane) (p : Pkg) : (updNl l f p).sup = p.sup := rfl
@[simp] theorem updNl_loads (l : Nat) (f : NLane → NLane) (p : Pkg) : (updNl l f p).loads = p.loads := rfl
@[simp] theorem updNl_store (l : Nat) (f : NLane → NLane) (p : Pkg) : (updNl l f p).store = p.store := rfl
@[simp] theorem updNl_ready (l : Nat) (f : NLane → NLane) (p : Pkg) : (updNl l f p).ready = p.ready := rfl
@[simp] theorem updNl_config (l : Nat) (f : NLane → NLane) (p : Pkg) : (updNl l f p).config = p.config := rfl
@[simp] theorem updNl_freeN (l : Nat) (f : NLane → NLane) (p : Pkg) : (updNl l f p).freeN = p.freeN := rfl
@[simp] theorem dfnEvt_clk (f : DfnEvt → DfnEvt) (p : Pkg) : (dfnEvt f p).clk = p.clk := rfl
@[simp] theorem dfnEvt_sys (f : DfnEvt → DfnEvt) (p : Pkg) : (dfnEvt f p).sys = p.sys := rfl
@[simp] theorem dfnEvt_mbx (f : DfnEvt → DfnEvt) (p : Pkg) : (dfnEvt f p).mbx = p.mbx := rfl
@[simp] theorem dfnEvt_pwr (f : DfnEvt → DfnEvt) (p : Pkg) : (dfnEvt f p).pwr = p.pwr := rfl
@[simp] theorem dfnEvt_ce (f : DfnEvt → DfnEvt) (p : Pkg) : (dfnEvt f p).ce = p.ce := rfl
@[simp] theorem dfnEvt_vcmd (f : DfnEvt → DfnEvt) (p : Pkg) : (dfnEvt f p).vcmd = p.vcmd := rfl
@[simp] theorem dfnEvt_eye (f : DfnEvt → DfnEvt) (p : Pkg) : (dfnEvt f p).eye = p.eye := rfl
@[simp] theorem dfnEvt_ldg (f : DfnEvt → DfnEvt) (p : Pkg) : (dfnEvt f p).ldg = p.ldg := rfl
@[simp] theorem dfnEvt_mtr (f : DfnEvt → DfnEvt) (p : Pkg) : (dfnEvt f p).mtr = p.mtr := rfl
@[simp] theorem dfnEvt_bil (f : DfnEvt → DfnEvt) (p : Pkg) : (dfnEvt f p).bil = p.bil := rfl
@[simp] theorem dfnEvt_duo (f : DfnEvt → DfnEvt) (p : Pkg) : (dfnEvt f p).duo = p.duo := rfl
@[simp] theorem dfnEvt_dfl (f : DfnEvt → DfnEvt) (p : Pkg) : (dfnEvt f p).dfl = p.dfl := rfl
@[simp] theorem dfnEvt_vlk (f : DfnEvt → DfnEvt) (p : Pkg) : (dfnEvt f p).vlk = p.vlk := rfl
@[simp] theorem dfnEvt_can (f : DfnEvt → DfnEvt) (p : Pkg) : (dfnEvt f p).can = p.can := rfl
@[simp] theorem dfnEvt_pln (f : DfnEvt → DfnEvt) (p : Pkg) : (dfnEvt f p).pln = p.pln := rfl
@[simp] theorem dfnEvt_lsw (f : DfnEvt → DfnEvt) (p : Pkg) : (dfnEvt f p).lsw = p.lsw := rfl
@[simp] theorem dfnEvt_bat (f : DfnEvt → DfnEvt) (p : Pkg) : (dfnEvt f p).bat = p.bat := rfl
@[simp] theorem dfnEvt_key (f : DfnEvt → DfnEvt) (p : Pkg) : (dfnEvt f p).key = p.key := rfl
@[simp] theorem dfnEvt_tim (f : DfnEvt → DfnEvt) (p : Pkg) : (dfnEvt f p).tim = p.tim := rfl
@[simp] theorem dfnEvt_thm (f : DfnEvt → DfnEvt) (p : Pkg) : (dfnEvt f p).thm = p.thm := rfl
@[simp] theorem dfnEvt_sup (f : DfnEvt → DfnEvt) (p : Pkg) : (dfnEvt f p).sup = p.sup := rfl
@[simp] theorem dfnEvt_loads (f : DfnEvt → DfnEvt) (p : Pkg) : (dfnEvt f p).loads = p.loads := rfl
@[simp] theorem dfnEvt_store (f : DfnEvt → DfnEvt) (p : Pkg) : (dfnEvt f p).store = p.store := rfl
@[simp] theorem dfnEvt_ready (f : DfnEvt → DfnEvt) (p : Pkg) : (dfnEvt f p).ready = p.ready := rfl
@[simp] theorem dfnEvt_config (f : DfnEvt → DfnEvt) (p : Pkg) : (dfnEvt f p).config = p.config := rfl
@[simp] theorem dfnEvt_freeN (f : DfnEvt → DfnEvt) (p : Pkg) : (dfnEvt f p).freeN = p.freeN := rfl
@[simp] theorem updNv_clk (f : LdgNv → LdgNv) (p : Pkg) : (updNv f p).clk = p.clk := rfl
@[simp] theorem updNv_sys (f : LdgNv → LdgNv) (p : Pkg) : (updNv f p).sys = p.sys := rfl
@[simp] theorem updNv_mbx (f : LdgNv → LdgNv) (p : Pkg) : (updNv f p).mbx = p.mbx := rfl
@[simp] theorem updNv_pwr (f : LdgNv → LdgNv) (p : Pkg) : (updNv f p).pwr = p.pwr := rfl
@[simp] theorem updNv_ce (f : LdgNv → LdgNv) (p : Pkg) : (updNv f p).ce = p.ce := rfl
@[simp] theorem updNv_vcmd (f : LdgNv → LdgNv) (p : Pkg) : (updNv f p).vcmd = p.vcmd := rfl
@[simp] theorem updNv_eye (f : LdgNv → LdgNv) (p : Pkg) : (updNv f p).eye = p.eye := rfl
@[simp] theorem updNv_mtr (f : LdgNv → LdgNv) (p : Pkg) : (updNv f p).mtr = p.mtr := rfl
@[simp] theorem updNv_bil (f : LdgNv → LdgNv) (p : Pkg) : (updNv f p).bil = p.bil := rfl
@[simp] theorem updNv_duo (f : LdgNv → LdgNv) (p : Pkg) : (updNv f p).duo = p.duo := rfl
@[simp] theorem updNv_dfl (f : LdgNv → LdgNv) (p : Pkg) : (updNv f p).dfl = p.dfl := rfl
@[simp] theorem updNv_dfn (f : LdgNv → LdgNv) (p : Pkg) : (updNv f p).dfn = p.dfn := rfl
@[simp] theorem updNv_vlk (f : LdgNv → LdgNv) (p : Pkg) : (updNv f p).vlk = p.vlk := rfl
@[simp] theorem updNv_can (f : LdgNv → LdgNv) (p : Pkg) : (updNv f p).can = p.can := rfl
@[simp] theorem updNv_pln (f : LdgNv → LdgNv) (p : Pkg) : (updNv f p).pln = p.pln := rfl
@[simp] theorem updNv_lsw (f : LdgNv → LdgNv) (p : Pkg) : (updNv f p).lsw = p.lsw := rfl
@[simp] theorem updNv_bat (f : LdgNv → LdgNv) (p : Pkg) : (updNv f p).bat = p.bat := rfl
@[simp] theorem updNv_key (f : LdgNv → LdgNv) (p : Pkg) : (updNv f p).key = p.key := rfl
@[simp] theorem updNv_tim (f : LdgNv → LdgNv) (p : Pkg) : (updNv f p).tim = p.tim := rfl
@[simp] theorem updNv_thm (f : LdgNv → LdgNv) (p : Pkg) : (updNv f p).thm = p.thm := rfl
@[simp] theorem updNv_sup (f : LdgNv → LdgNv) (p : Pkg) : (updNv f p).sup = p.sup := rfl
@[simp] theorem updNv_loads (f : LdgNv → LdgNv) (p : Pkg) : (updNv f p).loads = p.loads := rfl
@[simp] theorem updNv_store (f : LdgNv → LdgNv) (p : Pkg) : (updNv f p).store = p.store := rfl
@[simp] theorem updNv_ready (f : LdgNv → LdgNv) (p : Pkg) : (updNv f p).ready = p.ready := rfl
@[simp] theorem updNv_config (f : LdgNv → LdgNv) (p : Pkg) : (updNv f p).config = p.config := rfl
@[simp] theorem updNv_freeN (f : LdgNv → LdgNv) (p : Pkg) : (updNv f p).freeN = p.freeN := rfl
@[simp] theorem ldgEvt_clk (f : LdgEvt → LdgEvt) (p : Pkg) : (ldgEvt f p).clk = p.clk := rfl
@[simp] theorem ldgEvt_sys (f : LdgEvt → LdgEvt) (p : Pkg) : (ldgEvt f p).sys = p.sys := rfl
@[simp] theorem ldgEvt_mbx (f : LdgEvt → LdgEvt) (p : Pkg) : (ldgEvt f p).mbx = p.mbx := rfl
@[simp] theorem ldgEvt_pwr (f : LdgEvt → LdgEvt) (p : Pkg) : (ldgEvt f p).pwr = p.pwr := rfl
@[simp] theorem ldgEvt_ce (f : LdgEvt → LdgEvt) (p : Pkg) : (ldgEvt f p).ce = p.ce := rfl
@[simp] theorem ldgEvt_vcmd (f : LdgEvt → LdgEvt) (p : Pkg) : (ldgEvt f p).vcmd = p.vcmd := rfl
@[simp] theorem ldgEvt_eye (f : LdgEvt → LdgEvt) (p : Pkg) : (ldgEvt f p).eye = p.eye := rfl
@[simp] theorem ldgEvt_mtr (f : LdgEvt → LdgEvt) (p : Pkg) : (ldgEvt f p).mtr = p.mtr := rfl
@[simp] theorem ldgEvt_bil (f : LdgEvt → LdgEvt) (p : Pkg) : (ldgEvt f p).bil = p.bil := rfl
@[simp] theorem ldgEvt_duo (f : LdgEvt → LdgEvt) (p : Pkg) : (ldgEvt f p).duo = p.duo := rfl
@[simp] theorem ldgEvt_dfl (f : LdgEvt → LdgEvt) (p : Pkg) : (ldgEvt f p).dfl = p.dfl := rfl
@[simp] theorem ldgEvt_dfn (f : LdgEvt → LdgEvt) (p : Pkg) : (ldgEvt f p).dfn = p.dfn := rfl
@[simp] theorem ldgEvt_vlk (f : LdgEvt → LdgEvt) (p : Pkg) : (ldgEvt f p).vlk = p.vlk := rfl
@[simp] theorem ldgEvt_can (f : LdgEvt → LdgEvt) (p : Pkg) : (ldgEvt f p).can = p.can := rfl
@[simp] theorem ldgEvt_pln (f : LdgEvt → LdgEvt) (p : Pkg) : (ldgEvt f p).pln = p.pln := rfl
@[simp] theorem ldgEvt_lsw (f : LdgEvt → LdgEvt) (p : Pkg) : (ldgEvt f p).lsw = p.lsw := rfl
@[simp] theorem ldgEvt_bat (f : LdgEvt → LdgEvt) (p : Pkg) : (ldgEvt f p).bat = p.bat := rfl
@[simp] theorem ldgEvt_key (f : LdgEvt → LdgEvt) (p : Pkg) : (ldgEvt f p).key = p.key := rfl
@[simp] theorem ldgEvt_tim (f : LdgEvt → LdgEvt) (p : Pkg) : (ldgEvt f p).tim = p.tim := rfl
@[simp] theorem ldgEvt_thm (f : LdgEvt → LdgEvt) (p : Pkg) : (ldgEvt f p).thm = p.thm := rfl
@[simp] theorem ldgEvt_sup (f : LdgEvt → LdgEvt) (p : Pkg) : (ldgEvt f p).sup = p.sup := rfl
@[simp] theorem ldgEvt_loads (f : LdgEvt → LdgEvt) (p : Pkg) : (ldgEvt f p).loads = p.loads := rfl
@[simp] theorem ldgEvt_store (f : LdgEvt → LdgEvt) (p : Pkg) : (ldgEvt f p).store = p.store := rfl
@[simp] theorem ldgEvt_ready (f : LdgEvt → LdgEvt) (p : Pkg) : (ldgEvt f p).ready = p.ready := rfl
@[simp] theorem ldgEvt_config (f : LdgEvt → LdgEvt) (p : Pkg) : (ldgEvt f p).config = p.config := rfl
@[simp] theorem ldgEvt_freeN (f : LdgEvt → LdgEvt) (p : Pkg) : (ldgEvt f p).freeN = p.freeN := rfl
@[simp] theorem updPeer_clk (n : Nat) (f : Peer → Peer) (p : Pkg) : (updPeer n f p).clk = p.clk := rfl
@[simp] theorem updPeer_sys (n : Nat) (f : Peer → Peer) (p : Pkg) : (updPeer n f p).sys = p.sys := rfl
@[simp] theorem updPeer_mbx (n : Nat) (f : Peer → Peer) (p : Pkg) : (updPeer n f p).mbx = p.mbx := rfl
@[simp] theorem updPeer_pwr (n : Nat) (f : Peer → Peer) (p : Pkg) : (updPeer n f p).pwr = p.pwr := rfl
@[simp] theorem updPeer_ce (n : Nat) (f : Peer → Peer) (p : Pkg) : (updPeer n f p).ce = p.ce := rfl
@[simp] theorem updPeer_vcmd (n : Nat) (f : Peer → Peer) (p : Pkg) : (updPeer n f p).vcmd = p.vcmd := rfl
@[simp] theorem updPeer_eye (n : Nat) (f : Peer → Peer) (p : Pkg) : (updPeer n f p).eye = p.eye := rfl
@[simp] theorem updPeer_mtr (n : Nat) (f : Peer → Peer) (p : Pkg) : (updPeer n f p).mtr = p.mtr := rfl
@[simp] theorem updPeer_bil (n : Nat) (f : Peer → Peer) (p : Pkg) : (updPeer n f p).bil = p.bil := rfl
@[simp] theorem updPeer_duo (n : Nat) (f : Peer → Peer) (p : Pkg) : (updPeer n f p).duo = p.duo := rfl
@[simp] theorem updPeer_dfl (n : Nat) (f : Peer → Peer) (p : Pkg) : (updPeer n f p).dfl = p.dfl := rfl
@[simp] theorem updPeer_dfn (n : Nat) (f : Peer → Peer) (p : Pkg) : (updPeer n f p).dfn = p.dfn := rfl
@[simp] theorem updPeer_vlk (n : Nat) (f : Peer → Peer) (p : Pkg) : (updPeer n f p).vlk = p.vlk := rfl
@[simp] theorem updPeer_can (n : Nat) (f : Peer → Peer) (p : Pkg) : (updPeer n f p).can = p.can := rfl
@[simp] theorem updPeer_pln (n : Nat) (f : Peer → Peer) (p : Pkg) : (updPeer n f p).pln = p.pln := rfl
@[simp] theorem updPeer_lsw (n : Nat) (f : Peer → Peer) (p : Pkg) : (updPeer n f p).lsw = p.lsw := rfl
@[simp] theorem updPeer_bat (n : Nat) (f : Peer → Peer) (p : Pkg) : (updPeer n f p).bat = p.bat := rfl
@[simp] theorem updPeer_key (n : Nat) (f : Peer → Peer) (p : Pkg) : (updPeer n f p).key = p.key := rfl
@[simp] theorem updPeer_tim (n : Nat) (f : Peer → Peer) (p : Pkg) : (updPeer n f p).tim = p.tim := rfl
@[simp] theorem updPeer_thm (n : Nat) (f : Peer → Peer) (p : Pkg) : (updPeer n f p).thm = p.thm := rfl
@[simp] theorem updPeer_sup (n : Nat) (f : Peer → Peer) (p : Pkg) : (updPeer n f p).sup = p.sup := rfl
@[simp] theorem updPeer_loads (n : Nat) (f : Peer → Peer) (p : Pkg) : (updPeer n f p).loads = p.loads := rfl
@[simp] theorem updPeer_store (n : Nat) (f : Peer → Peer) (p : Pkg) : (updPeer n f p).store = p.store := rfl
@[simp] theorem updPeer_ready (n : Nat) (f : Peer → Peer) (p : Pkg) : (updPeer n f p).ready = p.ready := rfl
@[simp] theorem updPeer_config (n : Nat) (f : Peer → Peer) (p : Pkg) : (updPeer n f p).config = p.config := rfl
@[simp] theorem updPeer_freeN (n : Nat) (f : Peer → Peer) (p : Pkg) : (updPeer n f p).freeN = p.freeN := rfl
@[simp] theorem updTim_clk (f : Tim → Tim) (p : Pkg) : (updTim f p).clk = p.clk := rfl
@[simp] theorem updTim_sys (f : Tim → Tim) (p : Pkg) : (updTim f p).sys = p.sys := rfl
@[simp] theorem updTim_mbx (f : Tim → Tim) (p : Pkg) : (updTim f p).mbx = p.mbx := rfl
@[simp] theorem updTim_pwr (f : Tim → Tim) (p : Pkg) : (updTim f p).pwr = p.pwr := rfl
@[simp] theorem updTim_ce (f : Tim → Tim) (p : Pkg) : (updTim f p).ce = p.ce := rfl
@[simp] theorem updTim_vcmd (f : Tim → Tim) (p : Pkg) : (updTim f p).vcmd = p.vcmd := rfl
@[simp] theorem updTim_eye (f : Tim → Tim) (p : Pkg) : (updTim f p).eye = p.eye := rfl
@[simp] theorem updTim_ldg (f : Tim → Tim) (p : Pkg) : (updTim f p).ldg = p.ldg := rfl
@[simp] theorem updTim_mtr (f : Tim → Tim) (p : Pkg) : (updTim f p).mtr = p.mtr := rfl
@[simp] theorem updTim_bil (f : Tim → Tim) (p : Pkg) : (updTim f p).bil = p.bil := rfl
@[simp] theorem updTim_duo (f : Tim → Tim) (p : Pkg) : (updTim f p).duo = p.duo := rfl
@[simp] theorem updTim_dfl (f : Tim → Tim) (p : Pkg) : (updTim f p).dfl = p.dfl := rfl
@[simp] theorem updTim_dfn (f : Tim → Tim) (p : Pkg) : (updTim f p).dfn = p.dfn := rfl
@[simp] theorem updTim_vlk (f : Tim → Tim) (p : Pkg) : (updTim f p).vlk = p.vlk := rfl
@[simp] theorem updTim_can (f : Tim → Tim) (p : Pkg) : (updTim f p).can = p.can := rfl
@[simp] theorem updTim_pln (f : Tim → Tim) (p : Pkg) : (updTim f p).pln = p.pln := rfl
@[simp] theorem updTim_lsw (f : Tim → Tim) (p : Pkg) : (updTim f p).lsw = p.lsw := rfl
@[simp] theorem updTim_bat (f : Tim → Tim) (p : Pkg) : (updTim f p).bat = p.bat := rfl
@[simp] theorem updTim_key (f : Tim → Tim) (p : Pkg) : (updTim f p).key = p.key := rfl
@[simp] theorem updTim_thm (f : Tim → Tim) (p : Pkg) : (updTim f p).thm = p.thm := rfl
@[simp] theorem updTim_sup (f : Tim → Tim) (p : Pkg) : (updTim f p).sup = p.sup := rfl
@[simp] theorem updTim_loads (f : Tim → Tim) (p : Pkg) : (updTim f p).loads = p.loads := rfl
@[simp] theorem updTim_store (f : Tim → Tim) (p : Pkg) : (updTim f p).store = p.store := rfl
@[simp] theorem updTim_ready (f : Tim → Tim) (p : Pkg) : (updTim f p).ready = p.ready := rfl
@[simp] theorem updTim_config (f : Tim → Tim) (p : Pkg) : (updTim f p).config = p.config := rfl
@[simp] theorem updTim_freeN (f : Tim → Tim) (p : Pkg) : (updTim f p).freeN = p.freeN := rfl
@[simp] theorem timEvt_clk (f : TimEvt → TimEvt) (p : Pkg) : (timEvt f p).clk = p.clk := rfl
@[simp] theorem timEvt_sys (f : TimEvt → TimEvt) (p : Pkg) : (timEvt f p).sys = p.sys := rfl
@[simp] theorem timEvt_mbx (f : TimEvt → TimEvt) (p : Pkg) : (timEvt f p).mbx = p.mbx := rfl
@[simp] theorem timEvt_pwr (f : TimEvt → TimEvt) (p : Pkg) : (timEvt f p).pwr = p.pwr := rfl
@[simp] theorem timEvt_ce (f : TimEvt → TimEvt) (p : Pkg) : (timEvt f p).ce = p.ce := rfl
@[simp] theorem timEvt_vcmd (f : TimEvt → TimEvt) (p : Pkg) : (timEvt f p).vcmd = p.vcmd := rfl
@[simp] theorem timEvt_eye (f : TimEvt → TimEvt) (p : Pkg) : (timEvt f p).eye = p.eye := rfl
@[simp] theorem timEvt_ldg (f : TimEvt → TimEvt) (p : Pkg) : (timEvt f p).ldg = p.ldg := rfl
@[simp] theorem timEvt_mtr (f : TimEvt → TimEvt) (p : Pkg) : (timEvt f p).mtr = p.mtr := rfl
@[simp] theorem timEvt_bil (f : TimEvt → TimEvt) (p : Pkg) : (timEvt f p).bil = p.bil := rfl
@[simp] theorem timEvt_duo (f : TimEvt → TimEvt) (p : Pkg) : (timEvt f p).duo = p.duo := rfl
@[simp] theorem timEvt_dfl (f : TimEvt → TimEvt) (p : Pkg) : (timEvt f p).dfl = p.dfl := rfl
@[simp] theorem timEvt_dfn (f : TimEvt → TimEvt) (p : Pkg) : (timEvt f p).dfn = p.dfn := rfl
@[simp] theorem timEvt_vlk (f : TimEvt → TimEvt) (p : Pkg) : (timEvt f p).vlk = p.vlk := rfl
@[simp] theorem timEvt_can (f : TimEvt → TimEvt) (p : Pkg) : (timEvt f p).can = p.can := rfl
@[simp] theorem timEvt_pln (f : TimEvt → TimEvt) (p : Pkg) : (timEvt f p).pln = p.pln := rfl
@[simp] theorem timEvt_lsw (f : TimEvt → TimEvt) (p : Pkg) : (timEvt f p).lsw = p.lsw := rfl
@[simp] theorem timEvt_bat (f : TimEvt → TimEvt) (p : Pkg) : (timEvt f p).bat = p.bat := rfl
@[simp] theorem timEvt_key (f : TimEvt → TimEvt) (p : Pkg) : (timEvt f p).key = p.key := rfl
@[simp] theorem timEvt_thm (f : TimEvt → TimEvt) (p : Pkg) : (timEvt f p).thm = p.thm := rfl
@[simp] theorem timEvt_sup (f : TimEvt → TimEvt) (p : Pkg) : (timEvt f p).sup = p.sup := rfl
@[simp] theorem timEvt_loads (f : TimEvt → TimEvt) (p : Pkg) : (timEvt f p).loads = p.loads := rfl
@[simp] theorem timEvt_store (f : TimEvt → TimEvt) (p : Pkg) : (timEvt f p).store = p.store := rfl
@[simp] theorem timEvt_ready (f : TimEvt → TimEvt) (p : Pkg) : (timEvt f p).ready = p.ready := rfl
@[simp] theorem timEvt_config (f : TimEvt → TimEvt) (p : Pkg) : (timEvt f p).config = p.config := rfl
@[simp] theorem timEvt_freeN (f : TimEvt → TimEvt) (p : Pkg) : (timEvt f p).freeN = p.freeN := rfl
@[simp] theorem updSlot_clk (ix : Nat) (f : Slot → Slot) (p : Pkg) : (updSlot ix f p).clk = p.clk := rfl
@[simp] theorem updSlot_sys (ix : Nat) (f : Slot → Slot) (p : Pkg) : (updSlot ix f p).sys = p.sys := rfl
@[simp] theorem updSlot_pwr (ix : Nat) (f : Slot → Slot) (p : Pkg) : (updSlot ix f p).pwr = p.pwr := rfl
@[simp] theorem updSlot_ce (ix : Nat) (f : Slot → Slot) (p : Pkg) : (updSlot ix f p).ce = p.ce := rfl
@[simp] theorem updSlot_vcmd (ix : Nat) (f : Slot → Slot) (p : Pkg) : (updSlot ix f p).vcmd = p.vcmd := rfl
@[simp] theorem updSlot_eye (ix : Nat) (f : Slot → Slot) (p : Pkg) : (updSlot ix f p).eye = p.eye := rfl
@[simp] theorem updSlot_ldg (ix : Nat) (f : Slot → Slot) (p : Pkg) : (updSlot ix f p).ldg = p.ldg := rfl
@[simp] theorem updSlot_mtr (ix : Nat) (f : Slot → Slot) (p : Pkg) : (updSlot ix f p).mtr = p.mtr := rfl
@[simp] theorem updSlot_bil (ix : Nat) (f : Slot → Slot) (p : Pkg) : (updSlot ix f p).bil = p.bil := rfl
@[simp] theorem updSlot_duo (ix : Nat) (f : Slot → Slot) (p : Pkg) : (updSlot ix f p).duo = p.duo := rfl
@[simp] theorem updSlot_dfl (ix : Nat) (f : Slot → Slot) (p : Pkg) : (updSlot ix f p).dfl = p.dfl := rfl
@[simp] theorem updSlot_dfn (ix : Nat) (f : Slot → Slot) (p : Pkg) : (updSlot ix f p).dfn = p.dfn := rfl
@[simp] theorem updSlot_vlk (ix : Nat) (f : Slot → Slot) (p : Pkg) : (updSlot ix f p).vlk = p.vlk := rfl
@[simp] theorem updSlot_can (ix : Nat) (f : Slot → Slot) (p : Pkg) : (updSlot ix f p).can = p.can := rfl
@[simp] theorem updSlot_pln (ix : Nat) (f : Slot → Slot) (p : Pkg) : (updSlot ix f p).pln = p.pln := rfl
@[simp] theorem updSlot_lsw (ix : Nat) (f : Slot → Slot) (p : Pkg) : (updSlot ix f p).lsw = p.lsw := rfl
@[simp] theorem updSlot_bat (ix : Nat) (f : Slot → Slot) (p : Pkg) : (updSlot ix f p).bat = p.bat := rfl
@[simp] theorem updSlot_key (ix : Nat) (f : Slot → Slot) (p : Pkg) : (updSlot ix f p).key = p.key := rfl
@[simp] theorem updSlot_tim (ix : Nat) (f : Slot → Slot) (p : Pkg) : (updSlot ix f p).tim = p.tim := rfl
@[simp] theorem updSlot_thm (ix : Nat) (f : Slot → Slot) (p : Pkg) : (updSlot ix f p).thm = p.thm := rfl
@[simp] theorem updSlot_sup (ix : Nat) (f : Slot → Slot) (p : Pkg) : (updSlot ix f p).sup = p.sup := rfl
@[simp] theorem updSlot_loads (ix : Nat) (f : Slot → Slot) (p : Pkg) : (updSlot ix f p).loads = p.loads := rfl
@[simp] theorem updSlot_store (ix : Nat) (f : Slot → Slot) (p : Pkg) : (updSlot ix f p).store = p.store := rfl
@[simp] theorem updSlot_ready (ix : Nat) (f : Slot → Slot) (p : Pkg) : (updSlot ix f p).ready = p.ready := rfl
@[simp] theorem updSlot_config (ix : Nat) (f : Slot → Slot) (p : Pkg) : (updSlot ix f p).config = p.config := rfl
@[simp] theorem updSlot_freeN (ix : Nat) (f : Slot → Slot) (p : Pkg) : (updSlot ix f p).freeN = p.freeN := rfl
@[simp] theorem updSession_clk (id : Nat) (f : Session → Session) (p : Pkg) : (updSession id f p).clk = p.clk := rfl
@[simp] theorem updSession_sys (id : Nat) (f : Session → Session) (p : Pkg) : (updSession id f p).sys = p.sys := rfl
@[simp] theorem updSession_pwr (id : Nat) (f : Session → Session) (p : Pkg) : (updSession id f p).pwr = p.pwr := rfl
@[simp] theorem updSession_ce (id : Nat) (f : Session → Session) (p : Pkg) : (updSession id f p).ce = p.ce := rfl
@[simp] theorem updSession_vcmd (id : Nat) (f : Session → Session) (p : Pkg) : (updSession id f p).vcmd = p.vcmd := rfl
@[simp] theorem updSession_eye (id : Nat) (f : Session → Session) (p : Pkg) : (updSession id f p).eye = p.eye := rfl
@[simp] theorem updSession_ldg (id : Nat) (f : Session → Session) (p : Pkg) : (updSession id f p).ldg = p.ldg := rfl
@[simp] theorem updSession_mtr (id : Nat) (f : Session → Session) (p : Pkg) : (updSession id f p).mtr = p.mtr := rfl
@[simp] theorem updSession_bil (id : Nat) (f : Session → Session) (p : Pkg) : (updSession id f p).bil = p.bil := rfl
@[simp] theorem updSession_duo (id : Nat) (f : Session → Session) (p : Pkg) : (updSession id f p).duo = p.duo := rfl
@[simp] theorem updSession_dfl (id : Nat) (f : Session → Session) (p : Pkg) : (updSession id f p).dfl = p.dfl := rfl
@[simp] theorem updSession_dfn (id : Nat) (f : Session → Session) (p : Pkg) : (updSession id f p).dfn = p.dfn := rfl
@[simp] theorem updSession_vlk (id : Nat) (f : Session → Session) (p : Pkg) : (updSession id f p).vlk = p.vlk := rfl
@[simp] theorem updSession_can (id : Nat) (f : Session → Session) (p : Pkg) : (updSession id f p).can = p.can := rfl
@[simp] theorem updSession_pln (id : Nat) (f : Session → Session) (p : Pkg) : (updSession id f p).pln = p.pln := rfl
@[simp] theorem updSession_lsw (id : Nat) (f : Session → Session) (p : Pkg) : (updSession id f p).lsw = p.lsw := rfl
@[simp] theorem updSession_bat (id : Nat) (f : Session → Session) (p : Pkg) : (updSession id f p).bat = p.bat := rfl
@[simp] theorem updSession_key (id : Nat) (f : Session → Session) (p : Pkg) : (updSession id f p).key = p.key := rfl
@[simp] theorem updSession_tim (id : Nat) (f : Session → Session) (p : Pkg) : (updSession id f p).tim = p.tim := rfl
@[simp] theorem updSession_thm (id : Nat) (f : Session → Session) (p : Pkg) : (updSession id f p).thm = p.thm := rfl
@[simp] theorem updSession_sup (id : Nat) (f : Session → Session) (p : Pkg) : (updSession id f p).sup = p.sup := rfl
@[simp] theorem updSession_loads (id : Nat) (f : Session → Session) (p : Pkg) : (updSession id f p).loads = p.loads := rfl
@[simp] theorem updSession_store (id : Nat) (f : Session → Session) (p : Pkg) : (updSession id f p).store = p.store := rfl
@[simp] theorem updSession_ready (id : Nat) (f : Session → Session) (p : Pkg) : (updSession id f p).ready = p.ready := rfl
@[simp] theorem updSession_config (id : Nat) (f : Session → Session) (p : Pkg) : (updSession id f p).config = p.config := rfl
@[simp] theorem updSession_freeN (id : Nat) (f : Session → Session) (p : Pkg) : (updSession id f p).freeN = p.freeN := rfl
@[simp] theorem updSeq_clk (id : Nat) (f : ClientSeq → ClientSeq) (p : Pkg) : (updSeq id f p).clk = p.clk := by unfold updSeq; split <;> rfl
@[simp] theorem updSeq_sys (id : Nat) (f : ClientSeq → ClientSeq) (p : Pkg) : (updSeq id f p).sys = p.sys := by unfold updSeq; split <;> rfl
@[simp] theorem updSeq_pwr (id : Nat) (f : ClientSeq → ClientSeq) (p : Pkg) : (updSeq id f p).pwr = p.pwr := by unfold updSeq; split <;> rfl
@[simp] theorem updSeq_ce (id : Nat) (f : ClientSeq → ClientSeq) (p : Pkg) : (updSeq id f p).ce = p.ce := by unfold updSeq; split <;> rfl
@[simp] theorem updSeq_vcmd (id : Nat) (f : ClientSeq → ClientSeq) (p : Pkg) : (updSeq id f p).vcmd = p.vcmd := by unfold updSeq; split <;> rfl
@[simp] theorem updSeq_eye (id : Nat) (f : ClientSeq → ClientSeq) (p : Pkg) : (updSeq id f p).eye = p.eye := by unfold updSeq; split <;> rfl
@[simp] theorem updSeq_ldg (id : Nat) (f : ClientSeq → ClientSeq) (p : Pkg) : (updSeq id f p).ldg = p.ldg := by unfold updSeq; split <;> rfl
@[simp] theorem updSeq_mtr (id : Nat) (f : ClientSeq → ClientSeq) (p : Pkg) : (updSeq id f p).mtr = p.mtr := by unfold updSeq; split <;> rfl
@[simp] theorem updSeq_bil (id : Nat) (f : ClientSeq → ClientSeq) (p : Pkg) : (updSeq id f p).bil = p.bil := by unfold updSeq; split <;> rfl
@[simp] theorem updSeq_duo (id : Nat) (f : ClientSeq → ClientSeq) (p : Pkg) : (updSeq id f p).duo = p.duo := by unfold updSeq; split <;> rfl
@[simp] theorem updSeq_dfl (id : Nat) (f : ClientSeq → ClientSeq) (p : Pkg) : (updSeq id f p).dfl = p.dfl := by unfold updSeq; split <;> rfl
@[simp] theorem updSeq_dfn (id : Nat) (f : ClientSeq → ClientSeq) (p : Pkg) : (updSeq id f p).dfn = p.dfn := by unfold updSeq; split <;> rfl
@[simp] theorem updSeq_vlk (id : Nat) (f : ClientSeq → ClientSeq) (p : Pkg) : (updSeq id f p).vlk = p.vlk := by unfold updSeq; split <;> rfl
@[simp] theorem updSeq_can (id : Nat) (f : ClientSeq → ClientSeq) (p : Pkg) : (updSeq id f p).can = p.can := by unfold updSeq; split <;> rfl
@[simp] theorem updSeq_pln (id : Nat) (f : ClientSeq → ClientSeq) (p : Pkg) : (updSeq id f p).pln = p.pln := by unfold updSeq; split <;> rfl
@[simp] theorem updSeq_lsw (id : Nat) (f : ClientSeq → ClientSeq) (p : Pkg) : (updSeq id f p).lsw = p.lsw := by unfold updSeq; split <;> rfl
@[simp] theorem updSeq_bat (id : Nat) (f : ClientSeq → ClientSeq) (p : Pkg) : (updSeq id f p).bat = p.bat := by unfold updSeq; split <;> rfl
@[simp] theorem updSeq_key (id : Nat) (f : ClientSeq → ClientSeq) (p : Pkg) : (updSeq id f p).key = p.key := by unfold updSeq; split <;> rfl
@[simp] theorem updSeq_tim (id : Nat) (f : ClientSeq → ClientSeq) (p : Pkg) : (updSeq id f p).tim = p.tim := by unfold updSeq; split <;> rfl
@[simp] theorem updSeq_thm (id : Nat) (f : ClientSeq → ClientSeq) (p : Pkg) : (updSeq id f p).thm = p.thm := by unfold updSeq; split <;> rfl
@[simp] theorem updSeq_sup (id : Nat) (f : ClientSeq → ClientSeq) (p : Pkg) : (updSeq id f p).sup = p.sup := by unfold updSeq; split <;> rfl
@[simp] theorem updSeq_loads (id : Nat) (f : ClientSeq → ClientSeq) (p : Pkg) : (updSeq id f p).loads = p.loads := by unfold updSeq; split <;> rfl
@[simp] theorem updSeq_store (id : Nat) (f : ClientSeq → ClientSeq) (p : Pkg) : (updSeq id f p).store = p.store := by unfold updSeq; split <;> rfl
@[simp] theorem updSeq_ready (id : Nat) (f : ClientSeq → ClientSeq) (p : Pkg) : (updSeq id f p).ready = p.ready := by unfold updSeq; split <;> rfl
@[simp] theorem updSeq_config (id : Nat) (f : ClientSeq → ClientSeq) (p : Pkg) : (updSeq id f p).config = p.config := by unfold updSeq; split <;> rfl
@[simp] theorem updSeq_freeN (id : Nat) (f : ClientSeq → ClientSeq) (p : Pkg) : (updSeq id f p).freeN = p.freeN := by unfold updSeq; split <;> rfl
@[simp] theorem updErr_clk (ep : Nat) (f : EpErr → EpErr) (p : Pkg) : (updErr ep f p).clk = p.clk := rfl
@[simp] theorem updErr_sys (ep : Nat) (f : EpErr → EpErr) (p : Pkg) : (updErr ep f p).sys = p.sys := rfl
@[simp] theorem updErr_pwr (ep : Nat) (f : EpErr → EpErr) (p : Pkg) : (updErr ep f p).pwr = p.pwr := rfl
@[simp] theorem updErr_ce (ep : Nat) (f : EpErr → EpErr) (p : Pkg) : (updErr ep f p).ce = p.ce := rfl
@[simp] theorem updErr_vcmd (ep : Nat) (f : EpErr → EpErr) (p : Pkg) : (updErr ep f p).vcmd = p.vcmd := rfl
@[simp] theorem updErr_eye (ep : Nat) (f : EpErr → EpErr) (p : Pkg) : (updErr ep f p).eye = p.eye := rfl
@[simp] theorem updErr_ldg (ep : Nat) (f : EpErr → EpErr) (p : Pkg) : (updErr ep f p).ldg = p.ldg := rfl
@[simp] theorem updErr_mtr (ep : Nat) (f : EpErr → EpErr) (p : Pkg) : (updErr ep f p).mtr = p.mtr := rfl
@[simp] theorem updErr_bil (ep : Nat) (f : EpErr → EpErr) (p : Pkg) : (updErr ep f p).bil = p.bil := rfl
@[simp] theorem updErr_duo (ep : Nat) (f : EpErr → EpErr) (p : Pkg) : (updErr ep f p).duo = p.duo := rfl
@[simp] theorem updErr_dfl (ep : Nat) (f : EpErr → EpErr) (p : Pkg) : (updErr ep f p).dfl = p.dfl := rfl
@[simp] theorem updErr_dfn (ep : Nat) (f : EpErr → EpErr) (p : Pkg) : (updErr ep f p).dfn = p.dfn := rfl
@[simp] theorem updErr_vlk (ep : Nat) (f : EpErr → EpErr) (p : Pkg) : (updErr ep f p).vlk = p.vlk := rfl
@[simp] theorem updErr_can (ep : Nat) (f : EpErr → EpErr) (p : Pkg) : (updErr ep f p).can = p.can := rfl
@[simp] theorem updErr_pln (ep : Nat) (f : EpErr → EpErr) (p : Pkg) : (updErr ep f p).pln = p.pln := rfl
@[simp] theorem updErr_lsw (ep : Nat) (f : EpErr → EpErr) (p : Pkg) : (updErr ep f p).lsw = p.lsw := rfl
@[simp] theorem updErr_bat (ep : Nat) (f : EpErr → EpErr) (p : Pkg) : (updErr ep f p).bat = p.bat := rfl
@[simp] theorem updErr_key (ep : Nat) (f : EpErr → EpErr) (p : Pkg) : (updErr ep f p).key = p.key := rfl
@[simp] theorem updErr_tim (ep : Nat) (f : EpErr → EpErr) (p : Pkg) : (updErr ep f p).tim = p.tim := rfl
@[simp] theorem updErr_thm (ep : Nat) (f : EpErr → EpErr) (p : Pkg) : (updErr ep f p).thm = p.thm := rfl
@[simp] theorem updErr_sup (ep : Nat) (f : EpErr → EpErr) (p : Pkg) : (updErr ep f p).sup = p.sup := rfl
@[simp] theorem updErr_loads (ep : Nat) (f : EpErr → EpErr) (p : Pkg) : (updErr ep f p).loads = p.loads := rfl
@[simp] theorem updErr_store (ep : Nat) (f : EpErr → EpErr) (p : Pkg) : (updErr ep f p).store = p.store := rfl
@[simp] theorem updErr_ready (ep : Nat) (f : EpErr → EpErr) (p : Pkg) : (updErr ep f p).ready = p.ready := rfl
@[simp] theorem updErr_config (ep : Nat) (f : EpErr → EpErr) (p : Pkg) : (updErr ep f p).config = p.config := rfl
@[simp] theorem updErr_freeN (ep : Nat) (f : EpErr → EpErr) (p : Pkg) : (updErr ep f p).freeN = p.freeN := rfl
@[simp] theorem finishWork_clk (id : Nat) (st : Status) (p : Pkg) : (finishWork id st p).clk = p.clk := rfl
@[simp] theorem finishWork_sys (id : Nat) (st : Status) (p : Pkg) : (finishWork id st p).sys = p.sys := rfl
@[simp] theorem finishWork_pwr (id : Nat) (st : Status) (p : Pkg) : (finishWork id st p).pwr = p.pwr := rfl
@[simp] theorem finishWork_ce (id : Nat) (st : Status) (p : Pkg) : (finishWork id st p).ce = p.ce := rfl
@[simp] theorem finishWork_vcmd (id : Nat) (st : Status) (p : Pkg) : (finishWork id st p).vcmd = p.vcmd := rfl
@[simp] theorem finishWork_eye (id : Nat) (st : Status) (p : Pkg) : (finishWork id st p).eye = p.eye := rfl
@[simp] theorem finishWork_ldg (id : Nat) (st : Status) (p : Pkg) : (finishWork id st p).ldg = p.ldg := rfl
@[simp] theorem finishWork_mtr (id : Nat) (st : Status) (p : Pkg) : (finishWork id st p).mtr = p.mtr := rfl
@[simp] theorem finishWork_bil (id : Nat) (st : Status) (p : Pkg) : (finishWork id st p).bil = p.bil := rfl
@[simp] theorem finishWork_duo (id : Nat) (st : Status) (p : Pkg) : (finishWork id st p).duo = p.duo := rfl
@[simp] theorem finishWork_dfl (id : Nat) (st : Status) (p : Pkg) : (finishWork id st p).dfl = p.dfl := rfl
@[simp] theorem finishWork_dfn (id : Nat) (st : Status) (p : Pkg) : (finishWork id st p).dfn = p.dfn := rfl
@[simp] theorem finishWork_vlk (id : Nat) (st : Status) (p : Pkg) : (finishWork id st p).vlk = p.vlk := rfl
@[simp] theorem finishWork_can (id : Nat) (st : Status) (p : Pkg) : (finishWork id st p).can = p.can := rfl
@[simp] theorem finishWork_pln (id : Nat) (st : Status) (p : Pkg) : (finishWork id st p).pln = p.pln := rfl
@[simp] theorem finishWork_lsw (id : Nat) (st : Status) (p : Pkg) : (finishWork id st p).lsw = p.lsw := rfl
@[simp] theorem finishWork_bat (id : Nat) (st : Status) (p : Pkg) : (finishWork id st p).bat = p.bat := rfl
@[simp] theorem finishWork_key (id : Nat) (st : Status) (p : Pkg) : (finishWork id st p).key = p.key := rfl
@[simp] theorem finishWork_tim (id : Nat) (st : Status) (p : Pkg) : (finishWork id st p).tim = p.tim := rfl
@[simp] theorem finishWork_thm (id : Nat) (st : Status) (p : Pkg) : (finishWork id st p).thm = p.thm := rfl
@[simp] theorem finishWork_sup (id : Nat) (st : Status) (p : Pkg) : (finishWork id st p).sup = p.sup := rfl
@[simp] theorem finishWork_loads (id : Nat) (st : Status) (p : Pkg) : (finishWork id st p).loads = p.loads := rfl
@[simp] theorem finishWork_store (id : Nat) (st : Status) (p : Pkg) : (finishWork id st p).store = p.store := rfl
@[simp] theorem finishWork_ready (id : Nat) (st : Status) (p : Pkg) : (finishWork id st p).ready = p.ready := rfl
@[simp] theorem finishWork_config (id : Nat) (st : Status) (p : Pkg) : (finishWork id st p).config = p.config := rfl
@[simp] theorem finishWork_freeN (id : Nat) (st : Status) (p : Pkg) : (finishWork id st p).freeN = p.freeN := rfl
@[simp] theorem runWork_clk (id : Nat) (p : Pkg) : (runWork id p).clk = p.clk := rfl
@[simp] theorem runWork_sys (id : Nat) (p : Pkg) : (runWork id p).sys = p.sys := rfl
@[simp] theorem runWork_pwr (id : Nat) (p : Pkg) : (runWork id p).pwr = p.pwr := rfl
@[simp] theorem runWork_ce (id : Nat) (p : Pkg) : (runWork id p).ce = p.ce := rfl
@[simp] theorem runWork_vcmd (id : Nat) (p : Pkg) : (runWork id p).vcmd = p.vcmd := rfl
@[simp] theorem runWork_eye (id : Nat) (p : Pkg) : (runWork id p).eye = p.eye := rfl
@[simp] theorem runWork_ldg (id : Nat) (p : Pkg) : (runWork id p).ldg = p.ldg := rfl
@[simp] theorem runWork_mtr (id : Nat) (p : Pkg) : (runWork id p).mtr = p.mtr := rfl
@[simp] theorem runWork_bil (id : Nat) (p : Pkg) : (runWork id p).bil = p.bil := rfl
@[simp] theorem runWork_duo (id : Nat) (p : Pkg) : (runWork id p).duo = p.duo := rfl
@[simp] theorem runWork_dfl (id : Nat) (p : Pkg) : (runWork id p).dfl = p.dfl := rfl
@[simp] theorem runWork_dfn (id : Nat) (p : Pkg) : (runWork id p).dfn = p.dfn := rfl
@[simp] theorem runWork_vlk (id : Nat) (p : Pkg) : (runWork id p).vlk = p.vlk := rfl
@[simp] theorem runWork_can (id : Nat) (p : Pkg) : (runWork id p).can = p.can := rfl
@[simp] theorem runWork_pln (id : Nat) (p : Pkg) : (runWork id p).pln = p.pln := rfl
@[simp] theorem runWork_lsw (id : Nat) (p : Pkg) : (runWork id p).lsw = p.lsw := rfl
@[simp] theorem runWork_bat (id : Nat) (p : Pkg) : (runWork id p).bat = p.bat := rfl
@[simp] theorem runWork_key (id : Nat) (p : Pkg) : (runWork id p).key = p.key := rfl
@[simp] theorem runWork_tim (id : Nat) (p : Pkg) : (runWork id p).tim = p.tim := rfl
@[simp] theorem runWork_thm (id : Nat) (p : Pkg) : (runWork id p).thm = p.thm := rfl
@[simp] theorem runWork_sup (id : Nat) (p : Pkg) : (runWork id p).sup = p.sup := rfl
@[simp] theorem runWork_loads (id : Nat) (p : Pkg) : (runWork id p).loads = p.loads := rfl
@[simp] theorem runWork_store (id : Nat) (p : Pkg) : (runWork id p).store = p.store := rfl
@[simp] theorem runWork_ready (id : Nat) (p : Pkg) : (runWork id p).ready = p.ready := rfl
@[simp] theorem runWork_config (id : Nat) (p : Pkg) : (runWork id p).config = p.config := rfl
@[simp] theorem runWork_freeN (id : Nat) (p : Pkg) : (runWork id p).freeN = p.freeN := rfl
@[simp] theorem goSt_clk (n : Nat) (st : ClState) (p : Pkg) : (goSt n st p).clk = p.clk := rfl
@[simp] theorem goSt_sys (n : Nat) (st : ClState) (p : Pkg) : (goSt n st p).sys = p.sys := rfl
@[simp] theorem goSt_mbx (n : Nat) (st : ClState) (p : Pkg) : (goSt n st p).mbx = p.mbx := rfl
@[simp] theorem goSt_ce (n : Nat) (st : ClState) (p : Pkg) : (goSt n st p).ce = p.ce := rfl
@[simp] theorem goSt_vcmd (n : Nat) (st : ClState) (p : Pkg) : (goSt n st p).vcmd = p.vcmd := rfl
@[simp] theorem goSt_eye (n : Nat) (st : ClState) (p : Pkg) : (goSt n st p).eye = p.eye := rfl
@[simp] theorem goSt_ldg (n : Nat) (st : ClState) (p : Pkg) : (goSt n st p).ldg = p.ldg := rfl
@[simp] theorem goSt_mtr (n : Nat) (st : ClState) (p : Pkg) : (goSt n st p).mtr = p.mtr := rfl
@[simp] theorem goSt_bil (n : Nat) (st : ClState) (p : Pkg) : (goSt n st p).bil = p.bil := rfl
@[simp] theorem goSt_duo (n : Nat) (st : ClState) (p : Pkg) : (goSt n st p).duo = p.duo := rfl
@[simp] theorem goSt_dfl (n : Nat) (st : ClState) (p : Pkg) : (goSt n st p).dfl = p.dfl := rfl
@[simp] theorem goSt_dfn (n : Nat) (st : ClState) (p : Pkg) : (goSt n st p).dfn = p.dfn := rfl
@[simp] theorem goSt_vlk (n : Nat) (st : ClState) (p : Pkg) : (goSt n st p).vlk = p.vlk := rfl
@[simp] theorem goSt_can (n : Nat) (st : ClState) (p : Pkg) : (goSt n st p).can = p.can := rfl
@[simp] theorem goSt_pln (n : Nat) (st : ClState) (p : Pkg) : (goSt n st p).pln = p.pln := rfl
@[simp] theorem goSt_lsw (n : Nat) (st : ClState) (p : Pkg) : (goSt n st p).lsw = p.lsw := rfl
@[simp] theorem goSt_bat (n : Nat) (st : ClState) (p : Pkg) : (goSt n st p).bat = p.bat := rfl
@[simp] theorem goSt_key (n : Nat) (st : ClState) (p : Pkg) : (goSt n st p).key = p.key := rfl
@[simp] theorem goSt_tim (n : Nat) (st : ClState) (p : Pkg) : (goSt n st p).tim = p.tim := rfl
@[simp] theorem goSt_thm (n : Nat) (st : ClState) (p : Pkg) : (goSt n st p).thm = p.thm := rfl
@[simp] theorem goSt_sup (n : Nat) (st : ClState) (p : Pkg) : (goSt n st p).sup = p.sup := rfl
@[simp] theorem goSt_loads (n : Nat) (st : ClState) (p : Pkg) : (goSt n st p).loads = p.loads := rfl
@[simp] theorem goSt_store (n : Nat) (st : ClState) (p : Pkg) : (goSt n st p).store = p.store := rfl
@[simp] theorem goSt_ready (n : Nat) (st : ClState) (p : Pkg) : (goSt n st p).ready = p.ready := rfl
@[simp] theorem goSt_config (n : Nat) (st : ClState) (p : Pkg) : (goSt n st p).config = p.config := rfl
@[simp] theorem goSt_freeN (n : Nat) (st : ClState) (p : Pkg) : (goSt n st p).freeN = p.freeN := rfl
@[simp] theorem logEventAt_clk (time kind source client : Nat) (data : List Byte) (p : Pkg) : (logEventAt time kind source client data p).clk = p.clk := rfl
@[simp] theorem logEventAt_sys (time kind source client : Nat) (data : List Byte) (p : Pkg) : (logEventAt time kind source client data p).sys = p.sys := rfl
@[simp] theorem logEventAt_mbx (time kind source client : Nat) (data : List Byte) (p : Pkg) : (logEventAt time kind source client data p).mbx = p.mbx := rfl
@[simp] theorem logEventAt_pwr (time kind source client : Nat) (data : List Byte) (p : Pkg) : (logEventAt time kind source client data p).pwr = p.pwr := rfl
@[simp] theorem logEventAt_ce (time kind source client : Nat) (data : List Byte) (p : Pkg) : (logEventAt time kind source client data p).ce = p.ce := rfl
@[simp] theorem logEventAt_vcmd (time kind source client : Nat) (data : List Byte) (p : Pkg) : (logEventAt time kind source client data p).vcmd = p.vcmd := rfl
@[simp] theorem logEventAt_eye (time kind source client : Nat) (data : List Byte) (p : Pkg) : (logEventAt time kind source client data p).eye = p.eye := rfl
@[simp] theorem logEventAt_ldg (time kind source client : Nat) (data : List Byte) (p : Pkg) : (logEventAt time kind source client data p).ldg = p.ldg := rfl
@[simp] theorem logEventAt_mtr (time kind source client : Nat) (data : List Byte) (p : Pkg) : (logEventAt time kind source client data p).mtr = p.mtr := rfl
@[simp] theorem logEventAt_duo (time kind source client : Nat) (data : List Byte) (p : Pkg) : (logEventAt time kind source client data p).duo = p.duo := rfl
@[simp] theorem logEventAt_dfl (time kind source client : Nat) (data : List Byte) (p : Pkg) : (logEventAt time kind source client data p).dfl = p.dfl := rfl
@[simp] theorem logEventAt_dfn (time kind source client : Nat) (data : List Byte) (p : Pkg) : (logEventAt time kind source client data p).dfn = p.dfn := rfl
@[simp] theorem logEventAt_vlk (time kind source client : Nat) (data : List Byte) (p : Pkg) : (logEventAt time kind source client data p).vlk = p.vlk := rfl
@[simp] theorem logEventAt_can (time kind source client : Nat) (data : List Byte) (p : Pkg) : (logEventAt time kind source client data p).can = p.can := rfl
@[simp] theorem logEventAt_pln (time kind source client : Nat) (data : List Byte) (p : Pkg) : (logEventAt time kind source client data p).pln = p.pln := rfl
@[simp] theorem logEventAt_lsw (time kind source client : Nat) (data : List Byte) (p : Pkg) : (logEventAt time kind source client data p).lsw = p.lsw := rfl
@[simp] theorem logEventAt_bat (time kind source client : Nat) (data : List Byte) (p : Pkg) : (logEventAt time kind source client data p).bat = p.bat := rfl
@[simp] theorem logEventAt_key (time kind source client : Nat) (data : List Byte) (p : Pkg) : (logEventAt time kind source client data p).key = p.key := rfl
@[simp] theorem logEventAt_tim (time kind source client : Nat) (data : List Byte) (p : Pkg) : (logEventAt time kind source client data p).tim = p.tim := rfl
@[simp] theorem logEventAt_thm (time kind source client : Nat) (data : List Byte) (p : Pkg) : (logEventAt time kind source client data p).thm = p.thm := rfl
@[simp] theorem logEventAt_sup (time kind source client : Nat) (data : List Byte) (p : Pkg) : (logEventAt time kind source client data p).sup = p.sup := rfl
@[simp] theorem logEventAt_loads (time kind source client : Nat) (data : List Byte) (p : Pkg) : (logEventAt time kind source client data p).loads = p.loads := rfl
@[simp] theorem logEventAt_store (time kind source client : Nat) (data : List Byte) (p : Pkg) : (logEventAt time kind source client data p).store = p.store := rfl
@[simp] theorem logEventAt_ready (time kind source client : Nat) (data : List Byte) (p : Pkg) : (logEventAt time kind source client data p).ready = p.ready := rfl
@[simp] theorem logEventAt_config (time kind source client : Nat) (data : List Byte) (p : Pkg) : (logEventAt time kind source client data p).config = p.config := rfl
@[simp] theorem logEventAt_freeN (time kind source client : Nat) (data : List Byte) (p : Pkg) : (logEventAt time kind source client data p).freeN = p.freeN := rfl
@[simp] theorem logEvent_clk (kind source client : Nat) (data : List Byte) (p : Pkg) : (logEvent kind source client data p).clk = p.clk := rfl
@[simp] theorem logEvent_sys (kind source client : Nat) (data : List Byte) (p : Pkg) : (logEvent kind source client data p).sys = p.sys := rfl
@[simp] theorem logEvent_mbx (kind source client : Nat) (data : List Byte) (p : Pkg) : (logEvent kind source client data p).mbx = p.mbx := rfl
@[simp] theorem logEvent_pwr (kind source client : Nat) (data : List Byte) (p : Pkg) : (logEvent kind source client data p).pwr = p.pwr := rfl
@[simp] theorem logEvent_ce (kind source client : Nat) (data : List Byte) (p : Pkg) : (logEvent kind source client data p).ce = p.ce := rfl
@[simp] theorem logEvent_vcmd (kind source client : Nat) (data : List Byte) (p : Pkg) : (logEvent kind source client data p).vcmd = p.vcmd := rfl
@[simp] theorem logEvent_eye (kind source client : Nat) (data : List Byte) (p : Pkg) : (logEvent kind source client data p).eye = p.eye := rfl
@[simp] theorem logEvent_ldg (kind source client : Nat) (data : List Byte) (p : Pkg) : (logEvent kind source client data p).ldg = p.ldg := rfl
@[simp] theorem logEvent_mtr (kind source client : Nat) (data : List Byte) (p : Pkg) : (logEvent kind source client data p).mtr = p.mtr := rfl
@[simp] theorem logEvent_duo (kind source client : Nat) (data : List Byte) (p : Pkg) : (logEvent kind source client data p).duo = p.duo := rfl
@[simp] theorem logEvent_dfl (kind source client : Nat) (data : List Byte) (p : Pkg) : (logEvent kind source client data p).dfl = p.dfl := rfl
@[simp] theorem logEvent_dfn (kind source client : Nat) (data : List Byte) (p : Pkg) : (logEvent kind source client data p).dfn = p.dfn := rfl
@[simp] theorem logEvent_vlk (kind source client : Nat) (data : List Byte) (p : Pkg) : (logEvent kind source client data p).vlk = p.vlk := rfl
@[simp] theorem logEvent_can (kind source client : Nat) (data : List Byte) (p : Pkg) : (logEvent kind source client data p).can = p.can := rfl
@[simp] theorem logEvent_pln (kind source client : Nat) (data : List Byte) (p : Pkg) : (logEvent kind source client data p).pln = p.pln := rfl
@[simp] theorem logEvent_lsw (kind source client : Nat) (data : List Byte) (p : Pkg) : (logEvent kind source client data p).lsw = p.lsw := rfl
@[simp] theorem logEvent_bat (kind source client : Nat) (data : List Byte) (p : Pkg) : (logEvent kind source client data p).bat = p.bat := rfl
@[simp] theorem logEvent_key (kind source client : Nat) (data : List Byte) (p : Pkg) : (logEvent kind source client data p).key = p.key := rfl
@[simp] theorem logEvent_tim (kind source client : Nat) (data : List Byte) (p : Pkg) : (logEvent kind source client data p).tim = p.tim := rfl
@[simp] theorem logEvent_thm (kind source client : Nat) (data : List Byte) (p : Pkg) : (logEvent kind source client data p).thm = p.thm := rfl
@[simp] theorem logEvent_sup (kind source client : Nat) (data : List Byte) (p : Pkg) : (logEvent kind source client data p).sup = p.sup := rfl
@[simp] theorem logEvent_loads (kind source client : Nat) (data : List Byte) (p : Pkg) : (logEvent kind source client data p).loads = p.loads := rfl
@[simp] theorem logEvent_store (kind source client : Nat) (data : List Byte) (p : Pkg) : (logEvent kind source client data p).store = p.store := rfl
@[simp] theorem logEvent_ready (kind source client : Nat) (data : List Byte) (p : Pkg) : (logEvent kind source client data p).ready = p.ready := rfl
@[simp] theorem logEvent_config (kind source client : Nat) (data : List Byte) (p : Pkg) : (logEvent kind source client data p).config = p.config := rfl
@[simp] theorem logEvent_freeN (kind source client : Nat) (data : List Byte) (p : Pkg) : (logEvent kind source client data p).freeN = p.freeN := rfl
@[simp] theorem journalMode_clk (p : Pkg) : (journalMode p).clk = p.clk := by unfold journalMode; split <;> rfl
@[simp] theorem setMode_clk (k : Mode) (p : Pkg) : (setMode k p).clk = p.clk := by unfold setMode journalMode; split <;> [rfl; (split <;> rfl)]
@[simp] theorem updDie_clk (d : Die) (f : DieRec → DieRec) (p : Pkg) : (updDie d f p).clk = p.clk := by cases d <;> rfl
@[simp] theorem updDie_sys (d : Die) (f : DieRec → DieRec) (p : Pkg) : (updDie d f p).sys = p.sys := by cases d <;> rfl
@[simp] theorem advance_sys (t : Nat) (p : Pkg) : (advance t p).sys = p.sys := by unfold advance; split <;> rfl
@[simp] theorem journalMode_mbx (p : Pkg) : (journalMode p).mbx = p.mbx := by unfold journalMode; split <;> rfl
@[simp] theorem setMode_mbx (k : Mode) (p : Pkg) : (setMode k p).mbx = p.mbx := by unfold setMode journalMode; split <;> [rfl; (split <;> rfl)]
@[simp] theorem updDie_mbx (d : Die) (f : DieRec → DieRec) (p : Pkg) : (updDie d f p).mbx = p.mbx := by cases d <;> rfl
@[simp] theorem advance_mbx (t : Nat) (p : Pkg) : (advance t p).mbx = p.mbx := by unfold advance; split <;> rfl
@[simp] theorem journalMode_pwr (p : Pkg) : (journalMode p).pwr = p.pwr := by unfold journalMode; split <;> rfl
@[simp] theorem setMode_pwr (k : Mode) (p : Pkg) : (setMode k p).pwr = p.pwr := by unfold setMode journalMode; split <;> [rfl; (split <;> rfl)]
@[simp] theorem updDie_pwr (d : Die) (f : DieRec → DieRec) (p : Pkg) : (updDie d f p).pwr = p.pwr := by cases d <;> rfl
@[simp] theorem advance_pwr (t : Nat) (p : Pkg) : (advance t p).pwr = p.pwr := by unfold advance; split <;> rfl
@[simp] theorem journalMode_ce (p : Pkg) : (journalMode p).ce = p.ce := by unfold journalMode; split <;> rfl
@[simp] theorem setMode_ce (k : Mode) (p : Pkg) : (setMode k p).ce = p.ce := by unfold setMode journalMode; split <;> [rfl; (split <;> rfl)]
@[simp] theorem updDie_ce (d : Die) (f : DieRec → DieRec) (p : Pkg) : (updDie d f p).ce = p.ce := by cases d <;> rfl
@[simp] theorem advance_ce (t : Nat) (p : Pkg) : (advance t p).ce = p.ce := by unfold advance; split <;> rfl
@[simp] theorem journalMode_vcmd (p : Pkg) : (journalMode p).vcmd = p.vcmd := by unfold journalMode; split <;> rfl
@[simp] theorem setMode_vcmd (k : Mode) (p : Pkg) : (setMode k p).vcmd = p.vcmd := by unfold setMode journalMode; split <;> [rfl; (split <;> rfl)]
@[simp] theorem updDie_vcmd (d : Die) (f : DieRec → DieRec) (p : Pkg) : (updDie d f p).vcmd = p.vcmd := by cases d <;> rfl
@[simp] theorem advance_vcmd (t : Nat) (p : Pkg) : (advance t p).vcmd = p.vcmd := by unfold advance; split <;> rfl
@[simp] theorem journalMode_eye (p : Pkg) : (journalMode p).eye = p.eye := by unfold journalMode; split <;> rfl
@[simp] theorem setMode_eye (k : Mode) (p : Pkg) : (setMode k p).eye = p.eye := by unfold setMode journalMode; split <;> [rfl; (split <;> rfl)]
@[simp] theorem updDie_eye (d : Die) (f : DieRec → DieRec) (p : Pkg) : (updDie d f p).eye = p.eye := by cases d <;> rfl
@[simp] theorem advance_eye (t : Nat) (p : Pkg) : (advance t p).eye = p.eye := by unfold advance; split <;> rfl
@[simp] theorem journalMode_ldg (p : Pkg) : (journalMode p).ldg = p.ldg := by unfold journalMode; split <;> rfl
@[simp] theorem setMode_ldg (k : Mode) (p : Pkg) : (setMode k p).ldg = p.ldg := by unfold setMode journalMode; split <;> [rfl; (split <;> rfl)]
@[simp] theorem updDie_ldg (d : Die) (f : DieRec → DieRec) (p : Pkg) : (updDie d f p).ldg = p.ldg := by cases d <;> rfl
@[simp] theorem advance_ldg (t : Nat) (p : Pkg) : (advance t p).ldg = p.ldg := by unfold advance; split <;> rfl
@[simp] theorem journalMode_mtr (p : Pkg) : (journalMode p).mtr = p.mtr := by unfold journalMode; split <;> rfl
@[simp] theorem setMode_mtr (k : Mode) (p : Pkg) : (setMode k p).mtr = p.mtr := by unfold setMode journalMode; split <;> [rfl; (split <;> rfl)]
@[simp] theorem updDie_mtr (d : Die) (f : DieRec → DieRec) (p : Pkg) : (updDie d f p).mtr = p.mtr := by cases d <;> rfl
@[simp] theorem advance_mtr (t : Nat) (p : Pkg) : (advance t p).mtr = p.mtr := by unfold advance; split <;> rfl
@[simp] theorem journalMode_bil (p : Pkg) : (journalMode p).bil = p.bil := by unfold journalMode; split <;> rfl
@[simp] theorem setMode_bil (k : Mode) (p : Pkg) : (setMode k p).bil = p.bil := by unfold setMode journalMode; split <;> [rfl; (split <;> rfl)]
@[simp] theorem updDie_bil (d : Die) (f : DieRec → DieRec) (p : Pkg) : (updDie d f p).bil = p.bil := by cases d <;> rfl
@[simp] theorem advance_bil (t : Nat) (p : Pkg) : (advance t p).bil = p.bil := by unfold advance; split <;> rfl
@[simp] theorem journalMode_duo (p : Pkg) : (journalMode p).duo = p.duo := by unfold journalMode; split <;> rfl
@[simp] theorem setMode_duo (k : Mode) (p : Pkg) : (setMode k p).duo = p.duo := by unfold setMode journalMode; split <;> [rfl; (split <;> rfl)]
@[simp] theorem advance_duo (t : Nat) (p : Pkg) : (advance t p).duo = p.duo := by unfold advance; split <;> rfl
@[simp] theorem journalMode_dfl (p : Pkg) : (journalMode p).dfl = p.dfl := by unfold journalMode; split <;> rfl
@[simp] theorem setMode_dfl (k : Mode) (p : Pkg) : (setMode k p).dfl = p.dfl := by unfold setMode journalMode; split <;> [rfl; (split <;> rfl)]
@[simp] theorem updDie_dfl (d : Die) (f : DieRec → DieRec) (p : Pkg) : (updDie d f p).dfl = p.dfl := by cases d <;> rfl
@[simp] theorem advance_dfl (t : Nat) (p : Pkg) : (advance t p).dfl = p.dfl := by unfold advance; split <;> rfl
@[simp] theorem journalMode_dfn (p : Pkg) : (journalMode p).dfn = p.dfn := by unfold journalMode; split <;> rfl
@[simp] theorem setMode_dfn (k : Mode) (p : Pkg) : (setMode k p).dfn = p.dfn := by unfold setMode journalMode; split <;> [rfl; (split <;> rfl)]
@[simp] theorem updDie_dfn (d : Die) (f : DieRec → DieRec) (p : Pkg) : (updDie d f p).dfn = p.dfn := by cases d <;> rfl
@[simp] theorem advance_dfn (t : Nat) (p : Pkg) : (advance t p).dfn = p.dfn := by unfold advance; split <;> rfl
@[simp] theorem journalMode_vlk (p : Pkg) : (journalMode p).vlk = p.vlk := by unfold journalMode; split <;> rfl
@[simp] theorem setMode_vlk (k : Mode) (p : Pkg) : (setMode k p).vlk = p.vlk := by unfold setMode journalMode; split <;> [rfl; (split <;> rfl)]
@[simp] theorem updDie_vlk (d : Die) (f : DieRec → DieRec) (p : Pkg) : (updDie d f p).vlk = p.vlk := by cases d <;> rfl
@[simp] theorem advance_vlk (t : Nat) (p : Pkg) : (advance t p).vlk = p.vlk := by unfold advance; split <;> rfl
@[simp] theorem journalMode_can (p : Pkg) : (journalMode p).can = p.can := by unfold journalMode; split <;> rfl
@[simp] theorem setMode_can (k : Mode) (p : Pkg) : (setMode k p).can = p.can := by unfold setMode journalMode; split <;> [rfl; (split <;> rfl)]
@[simp] theorem updDie_can (d : Die) (f : DieRec → DieRec) (p : Pkg) : (updDie d f p).can = p.can := by cases d <;> rfl
@[simp] theorem advance_can (t : Nat) (p : Pkg) : (advance t p).can = p.can := by unfold advance; split <;> rfl
@[simp] theorem journalMode_pln (p : Pkg) : (journalMode p).pln = p.pln := by unfold journalMode; split <;> rfl
@[simp] theorem setMode_pln (k : Mode) (p : Pkg) : (setMode k p).pln = p.pln := by unfold setMode journalMode; split <;> [rfl; (split <;> rfl)]
@[simp] theorem updDie_pln (d : Die) (f : DieRec → DieRec) (p : Pkg) : (updDie d f p).pln = p.pln := by cases d <;> rfl
@[simp] theorem advance_pln (t : Nat) (p : Pkg) : (advance t p).pln = p.pln := by unfold advance; split <;> rfl
@[simp] theorem journalMode_lsw (p : Pkg) : (journalMode p).lsw = p.lsw := by unfold journalMode; split <;> rfl
@[simp] theorem setMode_lsw (k : Mode) (p : Pkg) : (setMode k p).lsw = p.lsw := by unfold setMode journalMode; split <;> [rfl; (split <;> rfl)]
@[simp] theorem updDie_lsw (d : Die) (f : DieRec → DieRec) (p : Pkg) : (updDie d f p).lsw = p.lsw := by cases d <;> rfl
@[simp] theorem advance_lsw (t : Nat) (p : Pkg) : (advance t p).lsw = p.lsw := by unfold advance; split <;> rfl
@[simp] theorem journalMode_bat (p : Pkg) : (journalMode p).bat = p.bat := by unfold journalMode; split <;> rfl
@[simp] theorem setMode_bat (k : Mode) (p : Pkg) : (setMode k p).bat = p.bat := by unfold setMode journalMode; split <;> [rfl; (split <;> rfl)]
@[simp] theorem updDie_bat (d : Die) (f : DieRec → DieRec) (p : Pkg) : (updDie d f p).bat = p.bat := by cases d <;> rfl
@[simp] theorem advance_bat (t : Nat) (p : Pkg) : (advance t p).bat = p.bat := by unfold advance; split <;> rfl
@[simp] theorem journalMode_key (p : Pkg) : (journalMode p).key = p.key := by unfold journalMode; split <;> rfl
@[simp] theorem setMode_key (k : Mode) (p : Pkg) : (setMode k p).key = p.key := by unfold setMode journalMode; split <;> [rfl; (split <;> rfl)]
@[simp] theorem updDie_key (d : Die) (f : DieRec → DieRec) (p : Pkg) : (updDie d f p).key = p.key := by cases d <;> rfl
@[simp] theorem advance_key (t : Nat) (p : Pkg) : (advance t p).key = p.key := by unfold advance; split <;> rfl
@[simp] theorem journalMode_tim (p : Pkg) : (journalMode p).tim = p.tim := by unfold journalMode; split <;> rfl
@[simp] theorem setMode_tim (k : Mode) (p : Pkg) : (setMode k p).tim = p.tim := by unfold setMode journalMode; split <;> [rfl; (split <;> rfl)]
@[simp] theorem updDie_tim (d : Die) (f : DieRec → DieRec) (p : Pkg) : (updDie d f p).tim = p.tim := by cases d <;> rfl
@[simp] theorem journalMode_thm (p : Pkg) : (journalMode p).thm = p.thm := by unfold journalMode; split <;> rfl
@[simp] theorem setMode_thm (k : Mode) (p : Pkg) : (setMode k p).thm = p.thm := by unfold setMode journalMode; split <;> [rfl; (split <;> rfl)]
@[simp] theorem updDie_thm (d : Die) (f : DieRec → DieRec) (p : Pkg) : (updDie d f p).thm = p.thm := by cases d <;> rfl
@[simp] theorem advance_thm (t : Nat) (p : Pkg) : (advance t p).thm = p.thm := by unfold advance; split <;> rfl
@[simp] theorem journalMode_sup (p : Pkg) : (journalMode p).sup = p.sup := by unfold journalMode; split <;> rfl
@[simp] theorem setMode_sup (k : Mode) (p : Pkg) : (setMode k p).sup = p.sup := by unfold setMode journalMode; split <;> [rfl; (split <;> rfl)]
@[simp] theorem updDie_sup (d : Die) (f : DieRec → DieRec) (p : Pkg) : (updDie d f p).sup = p.sup := by cases d <;> rfl
@[simp] theorem advance_sup (t : Nat) (p : Pkg) : (advance t p).sup = p.sup := by unfold advance; split <;> rfl
@[simp] theorem journalMode_loads (p : Pkg) : (journalMode p).loads = p.loads := by unfold journalMode; split <;> rfl
@[simp] theorem setMode_loads (k : Mode) (p : Pkg) : (setMode k p).loads = p.loads := by unfold setMode journalMode; split <;> [rfl; (split <;> rfl)]
@[simp] theorem updDie_loads (d : Die) (f : DieRec → DieRec) (p : Pkg) : (updDie d f p).loads = p.loads := by cases d <;> rfl
@[simp] theorem advance_loads (t : Nat) (p : Pkg) : (advance t p).loads = p.loads := by unfold advance; split <;> rfl
@[simp] theorem journalMode_store (p : Pkg) : (journalMode p).store = p.store := by unfold journalMode; split <;> rfl
@[simp] theorem setMode_store (k : Mode) (p : Pkg) : (setMode k p).store = p.store := by unfold setMode journalMode; split <;> [rfl; (split <;> rfl)]
@[simp] theorem updDie_store (d : Die) (f : DieRec → DieRec) (p : Pkg) : (updDie d f p).store = p.store := by cases d <;> rfl
@[simp] theorem advance_store (t : Nat) (p : Pkg) : (advance t p).store = p.store := by unfold advance; split <;> rfl
@[simp] theorem journalMode_ready (p : Pkg) : (journalMode p).ready = p.ready := by unfold journalMode; split <;> rfl
@[simp] theorem setMode_ready (k : Mode) (p : Pkg) : (setMode k p).ready = p.ready := by unfold setMode journalMode; split <;> [rfl; (split <;> rfl)]
@[simp] theorem updDie_ready (d : Die) (f : DieRec → DieRec) (p : Pkg) : (updDie d f p).ready = p.ready := by cases d <;> rfl
@[simp] theorem advance_ready (t : Nat) (p : Pkg) : (advance t p).ready = p.ready := by unfold advance; split <;> rfl
@[simp] theorem journalMode_config (p : Pkg) : (journalMode p).config = p.config := by unfold journalMode; split <;> rfl
@[simp] theorem setMode_config (k : Mode) (p : Pkg) : (setMode k p).config = p.config := by unfold setMode journalMode; split <;> [rfl; (split <;> rfl)]
@[simp] theorem updDie_config (d : Die) (f : DieRec → DieRec) (p : Pkg) : (updDie d f p).config = p.config := by cases d <;> rfl
@[simp] theorem advance_config (t : Nat) (p : Pkg) : (advance t p).config = p.config := by unfold advance; split <;> rfl
@[simp] theorem journalMode_freeN (p : Pkg) : (journalMode p).freeN = p.freeN := by unfold journalMode; split <;> rfl
@[simp] theorem setMode_freeN (k : Mode) (p : Pkg) : (setMode k p).freeN = p.freeN := by unfold setMode journalMode; split <;> [rfl; (split <;> rfl)]
@[simp] theorem updDie_freeN (d : Die) (f : DieRec → DieRec) (p : Pkg) : (updDie d f p).freeN = p.freeN := by cases d <;> rfl
@[simp] theorem advance_freeN (t : Nat) (p : Pkg) : (advance t p).freeN = p.freeN := by unfold advance; split <;> rfl

end Sys2Proof.Machine
end

