-- ==== Sys2Proof/Laws/Lists.lean ====
section
/-!
SUPPORT. Lists as the model updates them: one element changed, a change repeated over a list, and what a repeated
change leaves alone; and what a change that leaves the package's own state alone comes to.
-/

namespace Sys2Proof

/-- Changing an element keeps the length. -/
@[simp] theorem upd_length {α : Type} (l : List α) (n : Nat) (f : α → α) : (upd l n f).length = l.length := by
  induction l generalizing n with
  | nil => rfl
  | cons a l ih => cases n <;> simp [upd, ih]

/-- The elements after one of them is changed. -/
theorem upd_getElem? {α : Type} (l : List α) (n k : Nat) (f : α → α) :
    (upd l n f)[k]? = if k = n then l[k]?.map f else l[k]? := by
  induction l generalizing n k with
  | nil => simp [upd]
  | cons a l ih =>
    cases n <;> cases k <;> simp [upd, ih]

/-- The element that is changed. -/
theorem upd_getD_same {α : Type} (l : List α) (n : Nat) (f : α → α) (d : α) (h : n < l.length) :
    (upd l n f).getD n d = f (l.getD n d) := by
  rw [List.getD, upd_getElem?, if_pos rfl, List.getElem?_eq_getElem h, List.getD, List.getElem?_eq_getElem h]
  rfl

/-- The elements that are not changed. -/
theorem upd_getD_ne {α : Type} (l : List α) (n k : Nat) (f : α → α) (d : α) (h : k ≠ n) :
    (upd l n f).getD k d = l.getD k d := by
  simp [List.getD, upd_getElem?, h]

/-- Changing an element that is not there changes nothing. -/
theorem upd_ge {α : Type} (l : List α) (n : Nat) (f : α → α) (h : l.length ≤ n) : upd l n f = l := by
  induction l generalizing n with
  | nil => rfl
  | cons a l ih =>
    cases n with
    | zero => simp at h
    | succ n => simp only [upd]; rw [ih n (by simpa using h)]

/-- Two changes of one element. -/
theorem upd_upd {α : Type} (l : List α) (n : Nat) (f g : α → α) : upd (upd l n f) n g = upd l n (g ∘ f) := by
  induction l generalizing n with
  | nil => rfl
  | cons a l ih => cases n <;> simp [upd, ih]

/-- What each step leaves alone, a repeated change leaves alone. -/
theorem foldl_keep {α σ β : Type} (g : σ → β) (f : σ → α → σ) (l : List α) (s : σ) (h : ∀ s x, g (f s x) = g s) :
    g (l.foldl f s) = g s := by
  induction l generalizing s with
  | nil => rfl
  | cons a l ih => rw [List.foldl_cons, ih, h]

/-- What each step on an element of the list leaves alone, a repeated change leaves alone. -/
theorem foldl_keep_mem {α σ β : Type} (g : σ → β) (f : σ → α → σ) (l : List α) (s : σ) (h : ∀ s, ∀ x ∈ l, g (f s x) = g s) :
    g (l.foldl f s) = g s := by
  induction l generalizing s with
  | nil => rfl
  | cons a l ih =>
    rw [List.foldl_cons, ih _ (fun s x hx => h s x (List.mem_cons_of_mem _ hx)), h s a (List.mem_cons_self)]

namespace Machine

/-- An element of a list mapped with its indices. -/
theorem mapI_getD {α : Type} (f : Nat → α → α) (l : List α) (d : α) {n : Nat} (h : n < l.length) :
    (mapI f l).getD n d = f n (l.getD n d) := by
  unfold mapI
  rw [List.getD_eq_getElem?_getD, List.getD_eq_getElem?_getD, List.getElem?_map, List.getElem?_zipIdx, List.getElem?_eq_getElem h]
  simp

/-- A change that leaves the package's own state alone is one that lasts. -/
theorem lasting_eq {o n : Pkg} (h : n.sys = o.sys) : lasting o n = n := by
  have hs := lasting_sys_of h
  calc lasting o n = { n with sys := (lasting o n).sys } := rfl
    _ = { n with sys := n.sys } := by rw [hs, ← h]
    _ = n := rfl

/-- The answer of a meaning whose change leaves the package's own state alone. -/
theorem run1_of {f : Pkg → Pkg} {s : State} (h : (f s.m).sys = s.m.sys) : run1 f s = .next { s with m := f s.m } := by
  simp only [run1]
  rw [lasting_eq h]

/-- The same, with the change named by what it comes to. -/
theorem run1_to {f : Pkg → Pkg} {s : State} {m : Pkg} (h : f s.m = m) (hs : m.sys = s.m.sys) : run1 f s = .next { s with m := m } := by
  subst h; exact run1_of hs

/-- What holds of every change is no restriction on one that starts outside RETIRED and burns no fuse. -/
theorem lasting_next {o n : Pkg} (h : o.sys.mode ≠ .retired) (hf : n.sys.fuses = o.sys.fuses) : lasting o n = n := by
  show ({ n with sys := { n.sys with mode := if o.sys.mode = .retired then .retired else n.sys.mode, fuses := o.sys.fuses.burn n.sys.fuses } } : Pkg) = n
  rw [if_neg h, ← hf, burn_self]

/-- What holds of every change is no restriction on one that keeps the mode and the fuses. -/
theorem lasting_keep {o n : Pkg} (hm : n.sys.mode = o.sys.mode) (hf : n.sys.fuses = o.sys.fuses) : lasting o n = n := by
  have e : (if o.sys.mode = .retired then Mode.retired else n.sys.mode) = n.sys.mode := by
    split
    · rename_i h; rw [hm, h]
    · rfl
  show ({ n with sys := { n.sys with mode := if o.sys.mode = .retired then .retired else n.sys.mode, fuses := o.sys.fuses.burn n.sys.fuses } } : Pkg) = n
  rw [e, ← hf, burn_self]

/-- The answer of a meaning that keeps the mode and the fuses. -/
theorem run1_keep {f : Pkg → Pkg} {s : State} {m : Pkg} (h : f s.m = m) (hm : m.sys.mode = s.m.sys.mode)
    (hf : m.sys.fuses = s.m.sys.fuses) : run1 f s = .next { s with m := m } := by
  subst h
  simp only [run1]
  rw [lasting_keep hm hf]

/-- The answer of a meaning that starts outside RETIRED and burns no fuse. -/
theorem run1_next {f : Pkg → Pkg} {s : State} {m : Pkg} (h : f s.m = m) (hm : s.m.sys.mode ≠ .retired)
    (hf : m.sys.fuses = s.m.sys.fuses) : run1 f s = .next { s with m := m } := by
  subst h
  simp only [run1]
  rw [lasting_next hm hf]

end Machine

end Sys2Proof
end

