-- ==== Sys2Proof/Laws/Does.lean ====
section
/-!
SUPPORT. What a command answers, from what its meaning does to the package; and what holds of every answer.
-/

namespace Sys2Proof.Machine

/-- The answer of a meaning, from what it comes to. -/
theorem does_of {f : Pkg → Pkg} {s : State} {m : Pkg} (h : f s.m = m) : run1 f s = .next { s with m := lasting s.m m } := by
  subst h; rfl

/-- A command that does something runs. -/
theorem Does.runs {c : Instr} {s : State} {m : Pkg} {post : Pkg → Prop} (h : Does c s m) (hp : post (lasting s.m m)) : Runs c s post :=
  ⟨_, h, hp⟩

/-- A change that leaves the package's own state alone is answered as it is. -/
theorem Does.plain {c : Instr} {s : State} {m : Pkg} (h : Does c s m) (hs : m.sys = s.m.sys) : exec c s = .next { s with m := m } := by
  unfold Does at h; rw [lasting_eq hs] at h; exact h

/-- So is one that keeps the mode and the fuses. -/
theorem Does.keep {c : Instr} {s : State} {m : Pkg} (h : Does c s m) (hm : m.sys.mode = s.m.sys.mode)
    (hf : m.sys.fuses = s.m.sys.fuses) : exec c s = .next { s with m := m } := by
  unfold Does at h; rw [lasting_keep hm hf] at h; exact h

end Sys2Proof.Machine
end

