-- ==== Sys2Proof/Laws/Keys.lean ====
section
/-!
SUPPORT. The key registers: what the use, the delivery and the removal of a key can change, and that a key delivered to
the active die's engine is the one it then serves with.
-/

namespace Sys2Proof.Machine

/-- A tree key at its first use changes the keys alone. -/
theorem loadTree_keeps (id : KeyId) (d : Option Die) (p : Pkg) : loadTree id d p = { p with key := (loadTree id d p).key } := by
  unfold loadTree
  split
  · split <;> rfl
  · rfl

/-- A key that reaches an engine changes the keys alone. -/
theorem deliverKey_keeps (id : KeyId) (b : List Byte) (p : Pkg) :
    deliverKey id b p = { p with key := (deliverKey id b p).key } := by
  unfold deliverKey
  split
  · unfold putReg; rw [loadTree_keeps]
  · rfl

/-- The use of a key changes the keys alone. -/
theorem loadKey_keeps (id : KeyId) (p : Pkg) : loadKey id p = { p with key := (loadKey id p).key } := by
  unfold loadKey
  split
  · exact loadTree_keeps _ _ _
  · split
    · rfl
    · split
      · exact deliverKey_keeps _ _ _
      · rfl

/-- A key that the Selvedge die holds and delivers changes the keys alone. -/
theorem holdKey_keeps (id : KeyId) (b : List Byte) (p : Pkg) : holdKey id b p = { p with key := (holdKey id b p).key } := by
  unfold holdKey
  rw [deliverKey_keeps]; rfl

/-- A key delivered while a Stitch die is active is the one that its engine then serves with. -/
theorem regOf_holdKey {id : KeyId} (b : List Byte) {p : Pkg} {d : Die} (hs : stitchKey id = true) (hd : p.duo.hoop = some d) :
    (regOf (holdKey id b p) id).map (·.bytes) = some b := by
  have h1 : (putReg id none b p).duo.hoop = some d := hd
  have h2 : (loadTree (.spoke (spokeOf d)) none (putReg id none b p)).duo.hoop = some d := by rw [loadTree_keeps]; exact hd
  have h3 : holdKey id b p = putReg id (some d) b (loadTree (.spoke (spokeOf d)) none (putReg id none b p)) := by
    unfold holdKey deliverKey; rw [h1]
  rw [h3]
  generalize loadTree (.spoke (spokeOf d)) none (putReg id none b p) = q at h2
  simp [regOf, putReg, hs, h2]

end Sys2Proof.Machine
end

