-- ==== Sys2Proof/Laws/Slots.lean ====
section
/-!
SUPPORT. The mailbox pipeline: what making a result final does to its slot and to the rest of the package, and what
`submit` comes to at each check of 03 R108.
-/

namespace Sys2Proof.Machine

/-- A slot that is not free stands in the table. -/
theorem slot_lt {p : Pkg} {ix : Nat} (h : (slotAt p ix).state ≠ .free) : ix < p.mbx.slots.length := by
  by_contra hn
  exact h (by simp [slotAt, List.getD, List.getElem?_eq_none (Nat.le_of_not_lt hn)])

/-- The slot that is changed. -/
theorem slotAt_updSlot {p : Pkg} {ix : Nat} (f : Slot → Slot) (h : ix < p.mbx.slots.length) :
    slotAt (updSlot ix f p) ix = f (slotAt p ix) := upd_getD_same _ _ _ _ h

/-- The slots that are not changed. -/
theorem slotAt_updSlot_ne {p : Pkg} {ix k : Nat} (f : Slot → Slot) (h : k ≠ ix) :
    slotAt (updSlot ix f p) k = slotAt p k := upd_getD_ne _ _ _ _ _ h

/-- A message that is sent changes chapter 03's block only. -/
theorem sendOut_keeps (m : OutMsg) (v6 : Bool) (p : Pkg) : sendOut m v6 p = { p with mbx := (sendOut m v6 p).mbx } := by
  unfold sendOut
  simp only []
  split
  · split
    · rfl
    · split
      · rfl
      · split <;> rfl
  · split <;> rfl

/-- A message that is sent leaves the slots, sequences, work and clients. -/
theorem sendOut_slots (m : OutMsg) (v6 : Bool) (p : Pkg) : (sendOut m v6 p).mbx.slots = p.mbx.slots := by
  unfold sendOut
  simp only []
  split
  · split
    · rfl
    · split
      · rfl
      · split <;> rfl
  · split <;> rfl

/-- A message in a session changes chapter 03's block only. -/
theorem sendIn_keeps (sid type : Nat) (b : List Byte) (x : Bool) (p : Pkg) :
    sendIn sid type b x p = { p with mbx := (sendIn sid type b x p).mbx } := by
  unfold sendIn
  split
  · rfl
  · rw [sendOut_keeps]; rfl

/-- A message in a session leaves the slots. -/
theorem sendIn_slots (sid type : Nat) (b : List Byte) (x : Bool) (p : Pkg) :
    (sendIn sid type b x p).mbx.slots = p.mbx.slots := by
  unfold sendIn
  split
  · rfl
  · rw [sendOut_slots]; rfl

/-- The export mark leaves all but the keys. -/
theorem exportMark_keeps (s : Slot) (r : Result) (p : Pkg) : exportMark s r p = { p with key := (exportMark s r p).key } := by
  unfold exportMark
  split <;> rfl

/-- Making a result final changes chapter 03's block, the keys' export mark, and LAST_GUARD after STATE_CONFLICT. -/
theorem finaliseR_keeps (ix : Nat) (r : Result) (p : Pkg) :
    finaliseR ix r p = { p with
      sys := if r.status = .stateConflict then { p.sys with lastGuard := r.guard } else p.sys
      mbx := (finaliseR ix r p).mbx
      key := (finaliseR ix r p).key } := by
  unfold finaliseR
  simp only []
  split
  · split
    · rw [exportMark_keeps, sendIn_keeps]; rfl
    · rw [exportMark_keeps, sendIn_keeps]; rfl
  · split <;> rfl

/-- Making a result final leaves the other slots, and its own slot DONE with the result. -/
theorem finaliseR_slots (ix : Nat) (r : Result) (p : Pkg) :
    (finaliseR ix r p).mbx.slots =
      upd p.mbx.slots ix (fun s => { s with state := .done, checked := false, work := none, waits := none, result := some r, reads := 0 }) := by
  unfold finaliseR
  simp only []
  split
  · rw [exportMark_keeps]
    simp only [sendIn_slots]
    split <;> rfl
  · split <;> rfl

/-- A message that is sent leaves the sequences, the work and the nonces. -/
theorem sendOut_work (m : OutMsg) (v6 : Bool) (p : Pkg) :
    (sendOut m v6 p).mbx.seqs = p.mbx.seqs ∧ (sendOut m v6 p).mbx.work = p.mbx.work ∧
      (sendOut m v6 p).mbx.nonces = p.mbx.nonces ∧ (sendOut m v6 p).mbx.workCtr = p.mbx.workCtr := by
  unfold sendOut
  simp only []
  split
  · split
    · exact ⟨rfl, rfl, rfl, rfl⟩
    · split
      · exact ⟨rfl, rfl, rfl, rfl⟩
      · split <;> exact ⟨rfl, rfl, rfl, rfl⟩
  · split <;> exact ⟨rfl, rfl, rfl, rfl⟩

/-- A message in a session leaves the sequences, the work and the nonces. -/
theorem sendIn_work (sid type : Nat) (b : List Byte) (x : Bool) (p : Pkg) :
    (sendIn sid type b x p).mbx.seqs = p.mbx.seqs ∧ (sendIn sid type b x p).mbx.work = p.mbx.work ∧
      (sendIn sid type b x p).mbx.nonces = p.mbx.nonces ∧ (sendIn sid type b x p).mbx.workCtr = p.mbx.workCtr := by
  unfold sendIn
  split
  · exact ⟨rfl, rfl, rfl, rfl⟩
  · obtain ⟨h1, h2, h3, h4⟩ := sendOut_work _ _ _
    rw [h1, h2, h3, h4]
    exact ⟨rfl, rfl, rfl, rfl⟩

/-- Making a result final leaves the sequences, the work and the nonces. -/
theorem finaliseR_work (ix : Nat) (r : Result) (p : Pkg) :
    (finaliseR ix r p).mbx.seqs = p.mbx.seqs ∧ (finaliseR ix r p).mbx.work = p.mbx.work ∧
      (finaliseR ix r p).mbx.nonces = p.mbx.nonces ∧ (finaliseR ix r p).mbx.workCtr = p.mbx.workCtr := by
  unfold finaliseR
  simp only []
  split
  · rw [exportMark_keeps]
    exact ⟨(sendIn_work _ _ _ _ _).1.trans (by split <;> rfl), (sendIn_work _ _ _ _ _).2.1.trans (by split <;> rfl),
      (sendIn_work _ _ _ _ _).2.2.1.trans (by split <;> rfl), (sendIn_work _ _ _ _ _).2.2.2.trans (by split <;> rfl)⟩
  · split <;> exact ⟨rfl, rfl, rfl, rfl⟩

/-- The slot whose result is made final. -/
theorem slotAt_finaliseR {p : Pkg} {ix : Nat} (r : Result) (h : ix < p.mbx.slots.length) :
    slotAt (finaliseR ix r p) ix =
      { slotAt p ix with state := .done, checked := false, work := none, waits := none, result := some r, reads := 0 } := by
  unfold slotAt
  rw [finaliseR_slots, upd_getD_same _ _ _ _ h]

/-- A result made final stands in its slot. -/
theorem finalise_final {p q : Pkg} {ix : Nat} (st : Status) (g : Nat) (pl : List Byte) (h : (slotAt p ix).state ≠ .free)
    (hs : slotAt q ix = slotAt p ix) (hm : q.sys.mode = p.sys.mode) : Final ix st g pl p (finalise ix st g 0 pl q) := by
  have hq : ix < q.mbx.slots.length := slot_lt (by rw [hs]; exact h)
  unfold Final finalise
  rw [slotAt_finaliseR _ hq, hs, hm]
  exact ⟨rfl, rfl⟩

/-- A nonce used up leaves everything but the nonces. -/
theorem takeNonce_keeps (o : OpSpec) (s : Slot) (p : Pkg) :
    takeNonce o s p = { p with mbx := { p.mbx with nonces := (takeNonce o s p).mbx.nonces } } := by
  unfold takeNonce
  split <;> rfl

/-- A nonce used up leaves the slots. -/
theorem slotAt_takeNonce (o : OpSpec) (s : Slot) (p : Pkg) (ix : Nat) : slotAt (takeNonce o s p) ix = slotAt p ix := by
  unfold takeNonce
  split <;> rfl

/-- Check 2 of 03 R108. -/
theorem submit_badLength {o : OpSpec} {ix : Nat} {p : Pkg} (h : Placed o ix p) (hl : o.lenOk (slotAt p ix).payload = false)
    (sig : Bool) (ans : Pkg → List Byte → List Byte × Pkg) : submit o sig ix ans p = finalise ix .badLength 0 0 [] p := by
  obtain ⟨h1, h2, h3, h4⟩ := h
  simp [submit, h1, h2, h3, h4, hl]

/-- Check 3 of 03 R108. -/
theorem submit_notAuthorised {o : OpSpec} {ix : Nat} {p : Pkg} (h : Placed o ix p)
    (hl : o.lenOk (slotAt p ix).payload = true)
    (hr : o.role ((clientOf p (slotAt p ix).client).getD {}).roles (slotAt p ix).payload = false)
    (sig : Bool) (ans : Pkg → List Byte → List Byte × Pkg) : submit o sig ix ans p = finalise ix .notAuthorised 0 0 [] p := by
  obtain ⟨h1, h2, h3, h4⟩ := h
  simp [submit, h1, h2, h3, h4, hl, hr]

/-- Check 4 of 03 R108: a number already accepted for the same command. -/
theorem submit_duplicate {o : OpSpec} {ix : Nat} {p : Pkg} (h : Passes23 o ix p) (hq : o.query = false) {r : Result}
    (hd : seqCheck p (slotAt p ix) = .dup r)
    (sig : Bool) (ans : Pkg → List Byte → List Byte × Pkg) : submit o sig ix ans p = finaliseR ix r p := by
  obtain ⟨⟨h1, h2, h3, h4⟩, hl, hr⟩ := h
  simp [submit, h1, h2, h3, h4, hl, hr, hq, hd]

/-- Check 4 of 03 R108: a number that is neither new nor that of the same command. -/
theorem submit_badSeq {o : OpSpec} {ix : Nat} {p : Pkg} (h : Passes23 o ix p) (hq : o.query = false)
    (hd : seqCheck p (slotAt p ix) = .bad)
    (sig : Bool) (ans : Pkg → List Byte → List Byte × Pkg) : submit o sig ix ans p = finalise ix .badParameter 0 0 [] p := by
  obtain ⟨⟨h1, h2, h3, h4⟩, hl, hr⟩ := h
  simp [submit, h1, h2, h3, h4, hl, hr, hq, hd]

/-- Past check 4 of 03 R108. -/
theorem submit_past4 {o : OpSpec} {ix : Nat} {p : Pkg} (h : Passes24 o ix p)
    (sig : Bool) (ans : Pkg → List Byte → List Byte × Pkg) : submit o sig ix ans p = submit5 o sig ix ans p := by
  obtain ⟨⟨⟨h1, h2, h3, h4⟩, hl, hr⟩, hq⟩ := h
  rcases hq with hq | hq
  · simp [submit, h1, h2, h3, h4, hl, hr, hq]
  · by_cases hb : o.query = true
    · simp [submit, h1, h2, h3, h4, hl, hr, hb]
    · simp [submit, h1, h2, h3, h4, hl, hr, hb, hq]

/-- Check 5 of 03 R108: a field out of range or a reserved one that is not zero. -/
theorem submit_badParameter {o : OpSpec} {ix : Nat} {p : Pkg} (h : Passes24 o ix p)
    (hb : (slotAt p ix).rsvOk = false ∨ o.params p (slotAt p ix).payload = false)
    (sig : Bool) (ans : Pkg → List Byte → List Byte × Pkg) :
    submit o sig ix ans p = finalise ix .badParameter 0 0 [] (takeNonce o (slotAt p ix) p) := by
  rw [submit_past4 h]
  rcases hb with hb | hb <;> simp [submit5, hb]

/-- Check 5 of 03 R108: a signed trailer that fails. -/
theorem submit_badTrailer {o : OpSpec} {ix : Nat} {p : Pkg} {sig bad : Bool} (h : Passes24 o ix p)
    (hr : (slotAt p ix).rsvOk = true) (hp : o.params p (slotAt p ix).payload = true)
    (hs : sigFails o p (slotAt p ix) sig = some bad) (ans : Pkg → List Byte → List Byte × Pkg) :
    submit o sig ix ans p = finalise ix .stateConflict 0x0B 0 [] (authFailed bad (takeNonce o (slotAt p ix) p)) := by
  rw [submit_past4 h]
  simp [submit5, hr, hp, hs]

/-- Checks 6 and 7 of 03 R108. -/
theorem submit_refused {o : OpSpec} {sig : Bool} {ix : Nat} {p : Pkg} (h : Passes25 o sig ix p) {st : Status} {g : Nat}
    (hc : check67 o (takeNonce o (slotAt p ix) p) (slotAt p ix) = some (st, g))
    (ans : Pkg → List Byte → List Byte × Pkg) :
    submit o sig ix ans p = finalise ix st g 0 [] (takeNonce o (slotAt p ix) p) := by
  obtain ⟨h4, hr, hp, hs⟩ := h
  rw [submit_past4 h4]
  simp [submit5, hr, hp, hs, hc]

/-- Every check of 03 R108 passed by a mutating command. -/
theorem submit_mutating {o : OpSpec} {sig : Bool} {ix : Nat} {p : Pkg} (h : Passes o sig ix p) (hq : o.query = false)
    (ans : Pkg → List Byte → List Byte × Pkg) : submit o sig ix ans p = checkedOf o ix p := by
  obtain ⟨⟨h4, hr, hp, hs⟩, hc⟩ := h
  rw [submit_past4 h4]
  simp [submit5, hr, hp, hs, hc, hq, checkedOf]

/-- Every check of 03 R108 passed by a query. -/
theorem submit_query {o : OpSpec} {sig : Bool} {ix : Nat} {p : Pkg} (h : Passes o sig ix p) (hq : o.query = true)
    (ans : Pkg → List Byte → List Byte × Pkg) :
    submit o sig ix ans p =
      finalise ix .ok 0 0 (ans (takeNonce o (slotAt p ix) p) (slotAt p ix).payload).1
        (ans (takeNonce o (slotAt p ix) p) (slotAt p ix).payload).2 := by
  obtain ⟨⟨h4, hr, hp, hs⟩, hc⟩ := h
  rw [submit_past4 h4]
  simp [submit5, hr, hp, hs, hc, hq]

/-- A packet that is sent changes chapter 13's block only. -/
theorem sendPkt_keeps (k : NPkt) (p : Pkg) : sendPkt k p = { p with dfn := (sendPkt k p).dfn } := by
  unfold sendPkt
  simp only []
  split
  · rfl
  · split
    · split <;> rfl
    · rfl

/-- The payloads of a stream that are sent change chapter 13's block only. -/
theorem streamFill_keeps (dst cls n : Nat) (p : Pkg) :
    streamFill dst cls n p = { p with dfn := (streamFill dst cls n p).dfn } := by
  induction n generalizing p with
  | zero => rfl
  | succ n ih =>
    unfold streamFill
    split
    · rfl
    · split
      · rfl
      · simp only []
        split
        · rfl
        · rw [ih, sendPkt_keeps]

/-- A payload given to a stream changes chapter 13's block only. -/
theorem streamSend_keeps (dst cls : Nat) (d : List Byte) (p : Pkg) :
    streamSend dst cls d p = { p with dfn := (streamSend dst cls d p).dfn } := by
  unfold streamSend
  simp only []
  split
  · rfl
  · rw [streamFill_keeps]

/-- A record sent to the mirror target changes chapter 13's block only. -/
theorem mirrorItem_keeps (id kind : Nat) (d : List Byte) (p : Pkg) :
    mirrorItem id kind d p = { p with dfn := (mirrorItem id kind d p).dfn } := by
  unfold mirrorItem
  simp only []
  split
  · rfl
  · rw [streamSend_keeps]; rfl

/-- The journal record of a command changes the blocks of chapters 03 and 13 only. -/
theorem journalSlot_keeps (ix : Nat) (p : Pkg) :
    journalSlot ix p = { p with mbx := (journalSlot ix p).mbx, dfn := (journalSlot ix p).dfn } := by
  unfold journalSlot
  split
  · rfl
  · simp only []
    split
    · rfl
    · rw [mirrorItem_keeps]; rfl

/-- The slots after a command is journaled: its own holds the work id, if the active die could write the journal. -/
theorem journalSlot_slots (ix : Nat) (p : Pkg) : (journalSlot ix p).mbx.slots =
    if drives p ∧ p.mtr.nvBlock = false then upd p.mbx.slots ix (fun s => { s with work := some (newWorkId p).1 })
    else p.mbx.slots := by
  unfold journalSlot
  by_cases h : drives p = true <;> by_cases hb : p.mtr.nvBlock = true <;> simp [h, hb]
  · split
    · rfl
    · rw [mirrorItem_keeps]; rfl

/-- A packet that is sent leaves the mirror state. -/
theorem sendPkt_mir (k : NPkt) (p : Pkg) : (sendPkt k p).dfn.mirState = p.dfn.mirState := by
  unfold sendPkt
  simp only []
  split
  · rfl
  · split
    · split <;> rfl
    · rfl

/-- A payload given to a stream leaves the mirror state. -/
theorem streamSend_mir (dst cls : Nat) (d : List Byte) (p : Pkg) : (streamSend dst cls d p).dfn.mirState = p.dfn.mirState := by
  have fill : ∀ n p, (streamFill dst cls n p).dfn.mirState = p.dfn.mirState := by
    intro n
    induction n with
    | zero => intro p; rfl
    | succ n ih =>
      intro p
      unfold streamFill
      split
      · rfl
      · split
        · rfl
        · simp only []
          split
          · rfl
          · rw [ih, sendPkt_mir]
  unfold streamSend
  simp only []
  split
  · rfl
  · rw [fill]

/-- The journal record of a command leaves the ledger and the mirror state. -/
theorem journal_mir (ix : Nat) (p : Pkg) :
    (journalSlot ix p).ldg = p.ldg ∧ (journalSlot ix p).dfn.mirState = p.dfn.mirState := by
  refine ⟨by rw [journalSlot_keeps], ?_⟩
  unfold journalSlot
  split
  · rfl
  · simp only []
    split
    · rfl
    · unfold mirrorItem
      split
      · rfl
      · rw [streamSend_mir]; rfl

/-- A checked command stands in the blocks of chapters 03 and 13 only. -/
theorem checkedOf_keeps (o : OpSpec) (ix : Nat) (p : Pkg) :
    checkedOf o ix p = { p with mbx := (checkedOf o ix p).mbx, dfn := (checkedOf o ix p).dfn } := by
  unfold checkedOf
  rw [journalSlot_keeps, takeNonce_keeps]
  rfl

/-- The slot of a journaled command holds what it held, but for its work id. -/
theorem slotAt_journalSlot {ix : Nat} {p : Pkg} (h : ix < p.mbx.slots.length) :
    ∃ w, slotAt (journalSlot ix p) ix = { slotAt p ix with work := w } := by
  unfold slotAt
  rw [journalSlot_slots]
  split
  · exact ⟨_, upd_getD_same _ _ _ _ h⟩
  · exact ⟨(slotAt p ix).work, rfl⟩

/-- The slot of a checked command is marked so, and holds what it held. -/
theorem slotAt_checkedOf {o : OpSpec} {ix : Nat} {p : Pkg} (h : (slotAt p ix).state ≠ .free) :
    ∃ w, slotAt (checkedOf o ix p) ix = { slotAt p ix with checked := true, work := w } := by
  have hl : ix < (takeNonce o (slotAt p ix) p).mbx.slots.length := by rw [takeNonce_keeps]; exact slot_lt h
  obtain ⟨w, hw⟩ := slotAt_journalSlot (ix := ix)
    (p := updSlot ix (fun x => { x with checked := true }) (takeNonce o (slotAt p ix) p)) (by simpa [updSlot] using hl)
  exact ⟨w, by unfold checkedOf; rw [hw, slotAt_updSlot _ hl, slotAt_takeNonce]⟩

/-- A checked command leaves the package's own state. -/
theorem checkedOf_sys (o : OpSpec) (ix : Nat) (p : Pkg) : (checkedOf o ix p).sys = p.sys := by rw [checkedOf_keeps]

/-- The row of a mutating command that passes every check. -/
theorem run_mutating {o : OpSpec} {sig : Bool} {ix : Nat} {s : State} (h : Passes o sig ix s.m) (hq : o.query = false) :
    run1 (submit o sig ix noAns) s = .next { s with m := checkedOf o ix s.m } := by
  have hs := submit_mutating h hq noAns
  rw [run1_of (by rw [hs]; exact checkedOf_sys o ix s.m), hs]

/-- A query's final result leaves the package's own state. -/
theorem finalise_ok_sys (ix : Nat) (g w : Nat) (pl : List Byte) (p : Pkg) : (finalise ix .ok g w pl p).sys = p.sys := by
  unfold finalise
  rw [finaliseR_keeps]
  rfl

/-- The row of a query that passes every check. -/
theorem run_query {o : OpSpec} {sig : Bool} {ix : Nat} {s : State} {ans : Pkg → List Byte → List Byte × Pkg}
    (h : Passes o sig ix s.m) (hq : o.query = true) (hn : ∀ d, o.signed s.m d = none)
    (ha : (ans s.m (slotAt s.m ix).payload).2.sys = s.m.sys) :
    run1 (submit o sig ix ans) s =
      .next { s with m := finalise ix .ok 0 0 (ans s.m (slotAt s.m ix).payload).1 (ans s.m (slotAt s.m ix).payload).2 } := by
  have hs := submit_query h hq ans
  have ht : takeNonce o (slotAt s.m ix) s.m = s.m := by simp [takeNonce, hn]
  rw [ht] at hs
  rw [run1_of (by rw [hs, finalise_ok_sys]; exact ha), hs]

/-- A message with good framing is handed on. -/
theorem framedOn_of {up : Pkg → Nat → Bool} {type : Nat} {m : MsgIn} {p : Pkg} (hu : up p m.ep = true)
    (h : Framed type m p) (k : Pkg → Pkg) : framedOn up type m k p = k p := by
  obtain ⟨h1, h2, h3, h4, h5, h6, h7, h8, h9⟩ := h
  have a0 : ¬((!up p m.ep) = true ∨ (m.ep ≠ 2 ∧ m.port ≠ 40740)) := by
    rintro (hc | ⟨e, q⟩)
    · simp [hu] at hc
    · exact q (h9 e)
  have a1 : ¬((m.ep = 2 ∧ (m.spiLen ≠ 3 + m.spiL ∨ (!inR 1 4128 m.spiL) = true)) ∨ m.header.length ≠ 16 ∨ u8 m.header 0 ≠ 1 ∨
      m.type ≠ type ∨ u16 m.header 2 ≠ m.body.length ∨ m.body.length > 4096) := by
    rintro (⟨e, hs | hs⟩ | hs | hs | hs | hs | hs)
    · exact hs (h2 e).1
    · simp [(h2 e).2] at hs
    · exact hs h3
    · exact hs h4
    · exact hs h5
    · exact hs h6
    · omega
  have a2 : ¬(m.ep = 2 ∧ type ≠ 7 ∧ (!queueRoom p) = true) := by
    rintro ⟨e, t, q⟩
    simp [h8 e t] at q
  unfold framedOn
  simp only [h1]
  rw [if_neg a0, if_neg a1, if_neg a2]

/-- A message in an open session is handed on with the session that has heard it. -/
theorem inSession_of {type : Nat} {m : MsgIn} {x : Session} {p : Pkg} (h : InSession type m x p)
    (k : Session → Pkg → Pkg) : inSession type m k p = k (heard m x p) (heardIn m x p) := by
  obtain ⟨h1, h2, h3, h4, h5, h6, h7, h8, h9⟩ := h
  unfold inSession framed
  rw [framedOn_of h2 h3]
  simp only [h1, h4, h5]
  rw [if_neg (by decide), if_neg (by decide), if_neg]
  · rfl
  · rintro (hc | hc | hc | hc)
    · omega
    · omega
    · simp at hc; exact h8 hc
    · omega

/-- A session that is found has the id it is found by. -/
theorem sessionOf_id {p : Pkg} {id : Nat} {x : Session} (h : sessionOf p id = some x) : x.id = id := by
  have := List.find?_some h
  simpa using this

/-- The session that is changed. -/
theorem sessionOf_updSession {p : Pkg} {id : Nat} {x : Session} (f : Session → Session) (h : sessionOf p id = some x)
    (hf : (f x).id = id) : sessionOf (updSession id f p) id = some (f x) := by
  unfold sessionOf updSession at *
  simp only []
  generalize p.mbx.sessions = l at h ⊢
  induction l with
  | nil => simp at h
  | cons y l ih =>
    by_cases hy : y.id = id
    · have hxy : y = x := by simpa [List.find?, hy] using h
      subst hxy
      simp [hy, hf]
    · have h' : l.find? (fun s => s.id == id) = some x := by
        simpa [List.find?, show (y.id == id) = false by simpa using hy] using h
      simpa [List.find?, hy, show (y.id == id) = false by simpa using hy] using ih h'

/-- The session that has heard a message is the one the package holds. -/
theorem sessionOf_heardIn {type : Nat} {m : MsgIn} {x : Session} {p : Pkg} (h : InSession type m x p) :
    sessionOf (heardIn m x p) x.id = some (heard m x p) := by
  have hx := sessionOf_id h.2.2.2.1
  exact sessionOf_updSession _ (hx ▸ h.2.2.2.1) rfl

end Sys2Proof.Machine
end

