-- ==== Sys2Proof/Laws/Ledger.lean ====
section
/-!
SUPPORT. What the ledger's shared operations can do: taking a message, journaling a record, and letting accepted records
take effect (08 R253, R279).
-/

namespace Sys2Proof.Machine

/-- A message of the type, for this module, is heard from its sender and taken; whatever records are accepted with it take
effect (08 R268, R279). -/
theorem ldgTake_taken {t : Nat} {m : List Byte} {p : Pkg} (f : Nat → Nat → List Byte → Pkg → Pkg)
    (h : awake p = true ∧ be m 0 1 = t ∧ (be m 6 2 = nodeAddr p ∨ be m 6 2 = 0xFFFF)) :
    ldgTake t m f p = ledgerSettle (f (be m 4 2) (be m 8 4) ((m.drop 16).take (be m 2 2))
      (updPeer (be m 4 2) (fun x => { x with heard := p.clk }) p)) := if_pos h

/-- Any other message changes nothing (08 R279). -/
theorem ldgTake_dropped {t : Nat} {m : List Byte} {p : Pkg} (f : Nat → Nat → List Byte → Pkg → Pkg)
    (h : ¬(awake p = true ∧ be m 0 1 = t ∧ (be m 6 2 = nodeAddr p ∨ be m 6 2 = 0xFFFF))) : ldgTake t m f p = p := if_neg h

/-- With no record that may be accepted, nothing follows (08 R253). -/
theorem ledgerRun_idle (n : Nat) {p : Pkg} (h : ∀ r ∈ p.ldg.nv.recs, mayAccept p r.no 2 = false) : ledgerRun n p = p := by
  cases n with
  | zero => rfl
  | succ n =>
    have e : p.ldg.nv.recs.find? (fun r => mayAccept p r.no 2) = none :=
      List.find?_eq_none.mpr (fun r hr => ne_true_of_eq_false (h r hr))
    rw [ledgerRun, e]

/-- With no record that may be accepted, nothing follows (08 R253). -/
theorem ledgerSettle_idle {p : Pkg} (h : ∀ r ∈ p.ldg.nv.recs, mayAccept p r.no 2 = false) : ledgerSettle p = p := ledgerRun_idle _ h

/-- While journal writes are blocked, and for a record that already waits, none is written (19 R580). -/
theorem journalNew_none {a : LdgAct} (d : List Byte) {p : Pkg} (h : p.mtr.nvBlock = true ∨ waits p a = true) : journalNew a d p = p :=
  if_pos h

/-- Else one is journaled under a work id of its own (08 R253). -/
theorem journalNew_some {a : LdgAct} (d : List Byte) {p : Pkg} (h : p.mtr.nvBlock = false) (w : waits p a = false) :
    journalNew a d p = journal (newWorkId p).1 a d (newWorkId p).2 := by
  refine if_neg ?_
  rw [h, w]; decide

end Sys2Proof.Machine
end

