-- ==== Sys2Proof/Laws/Memory.lean ====
section
/-!
SUPPORT. The image store's memory: its operations keep the canonical form, a byte reads as last written, and every
other byte reads as before.
-/

namespace Sys2Proof.Machine

/-- Every address of a memory lies above a bound. -/
def memAbove (a : Nat) (m : List Host.Cell) : Prop := ∀ c ∈ m, a < c.1

/-- The canonical form of a memory with a first cell. -/
theorem memWf_cons (c : Host.Cell) (m : List Host.Cell) :
    memWf (c :: m) = true ↔ c.2 ≠ storeDefault ∧ memAbove c.1 m ∧ memWf m = true := by
  induction m generalizing c with
  | nil => simp [memWf, memAbove]
  | cons d r ih =>
    have hd := ih d
    simp only [memWf, Bool.and_eq_true, bne_iff_ne, ne_eq, decide_eq_true_eq]
    rw [hd]
    constructor
    · rintro ⟨⟨h1, h2⟩, h3, h4, h5⟩
      refine ⟨h1, ?_, h3, h4, h5⟩
      intro x hx
      rcases List.mem_cons.mp hx with rfl | hx
      · exact h2
      · exact Nat.lt_trans h2 (h4 x hx)
    · rintro ⟨h1, h2, h3, h4, h5⟩
      exact ⟨⟨h1, h2 d (by simp)⟩, h3, h4, h5⟩

/-- A memory above a bound reads as empty at and below it. -/
theorem memRead_above (a c : Nat) (m : List Host.Cell) (h : memAbove a m) (hc : c ≤ a) : memRead c m = storeDefault := by
  cases m with
  | nil => rfl
  | cons d r =>
    have := h d (by simp)
    simp only [memRead]
    rw [if_neg (by omega), if_pos (by omega)]

/-- Writing keeps a bound below the address written. -/
theorem memWrite_above (k a : Nat) (b : Byte) (m : List Host.Cell) (h : memAbove k m) (hk : k < a) :
    memAbove k (memWrite a b m) := by
  induction m with
  | nil =>
    simp only [memWrite, memCons]
    split
    · exact h
    · intro c hc; simp at hc; subst hc; exact hk
  | cons d r ih =>
    have hr : memAbove k r := fun c hc => h c (List.mem_cons_of_mem _ hc)
    have hd : k < d.1 := h d (by simp)
    have key : ∀ m', memAbove k m' → memAbove k (memCons a b m') := by
      intro m' hm'
      simp only [memCons]
      split
      · exact hm'
      · intro c hc
        rcases List.mem_cons.mp hc with rfl | hc
        · exact hk
        · exact hm' c hc
    simp only [memWrite]
    split
    · intro c hc
      rcases List.mem_cons.mp hc with rfl | hc
      · exact hd
      · exact ih hr c hc
    · split
      · exact key r hr
      · exact key _ h

/-- Putting a cell in front keeps the canonical form. -/
theorem memCons_wf (a : Nat) (b : Byte) (m : List Host.Cell) (h : memWf m = true) (ha : memAbove a m) :
    memWf (memCons a b m) = true := by
  unfold memCons
  split
  · exact h
  · rename_i hb
    rw [memWf_cons]
    exact ⟨hb, ha, h⟩

/-- Writing a byte keeps the canonical form. -/
theorem memWrite_wf (a : Nat) (b : Byte) (m : List Host.Cell) (h : memWf m = true) : memWf (memWrite a b m) = true := by
  induction m with
  | nil => exact memCons_wf a b [] rfl (by intro c hc; cases hc)
  | cons d r ih =>
    obtain ⟨h1, h2, h3⟩ := (memWf_cons d r).mp h
    simp only [memWrite]
    split
    · rw [memWf_cons]
      exact ⟨h1, memWrite_above _ _ _ _ h2 ‹_›, ih h3⟩
    · split
      · rename_i hda
        exact memCons_wf a b r h3 (hda ▸ h2)
      · refine memCons_wf a b _ h ?_
        intro c hc
        rcases List.mem_cons.mp hc with rfl | hc
        · omega
        · have := h2 c hc; omega

/-- Writing a run of bytes keeps the canonical form. -/
theorem memWriteL_wf (a : Nat) (l : List Byte) (m : List Host.Cell) (h : memWf m = true) : memWf (memWriteL a l m) = true := by
  induction l generalizing a m with
  | nil => exact h
  | cons b l ih => exact ih (a + 1) _ (memWrite_wf a b m h)

/-- Erasing a range keeps the canonical form. -/
theorem memErase_wf (a n : Nat) (m : List Host.Cell) (h : memWf m = true) : memWf (memErase a n m) = true := by
  induction m with
  | nil => rfl
  | cons d r ih =>
    obtain ⟨h1, h2, h3⟩ := (memWf_cons d r).mp h
    simp only [memErase, List.filter_cons]
    split
    · have hr := ih h3
      simp only [memErase] at hr
      rw [memWf_cons]
      exact ⟨h1, fun c hc => h2 c (List.mem_of_mem_filter hc), hr⟩
    · exact ih h3

/-- The memory of the state after reset is canonical. -/
theorem memWf_reset : memWf State.reset.m.store = true := rfl

/-- Reading behind a cell put in front. -/
theorem memRead_memCons (a c : Nat) (b : Byte) (m : List Host.Cell) (ha : memAbove a m) :
    memRead c (memCons a b m) = if c = a then b else memRead c m := by
  unfold memCons
  split
  · rename_i hb
    split
    · rename_i hc
      rw [hb, memRead_above a c m ha (by omega)]
    · rfl
  · simp only [memRead]
    by_cases h1 : a = c
    · rw [if_pos h1, if_pos h1.symm]
    · rw [if_neg h1, if_neg (Ne.symm h1)]
      by_cases h2 : a > c
      · rw [if_pos h2, memRead_above a c m ha (by omega)]
      · rw [if_neg h2]

/-- A byte reads as last written, every other byte as before. -/
theorem memRead_memWrite (a : Nat) (b : Byte) (c : Nat) (m : List Host.Cell) (h : memWf m = true) :
    memRead c (memWrite a b m) = if c = a then b else memRead c m := by
  induction m with
  | nil => exact memRead_memCons a c b [] (by intro x hx; cases hx)
  | cons d r ih =>
    obtain ⟨h1, h2, h3⟩ := (memWf_cons d r).mp h
    simp only [memWrite]
    split
    · simp only [memRead, ih h3]
      by_cases hc : d.1 = c
      · rw [if_pos hc, if_neg (by omega), if_pos hc]
      · rw [if_neg hc, if_neg hc]
        by_cases hg : d.1 > c
        · rw [if_pos hg, if_pos hg, if_neg (by omega)]
        · rw [if_neg hg, if_neg hg]
    · split
      · rename_i hda
        rw [memRead_memCons a c b r (hda ▸ h2)]
        by_cases hc : c = a
        · rw [if_pos hc, if_pos hc]
        · rw [if_neg hc, if_neg hc]
          simp only [memRead]
          rw [if_neg (by omega)]
          by_cases hg : d.1 > c
          · rw [if_pos hg, memRead_above d.1 c r h2 (by omega)]
          · rw [if_neg hg]
      · refine memRead_memCons a c b _ ?_
        intro x hx
        rcases List.mem_cons.mp hx with rfl | hx
        · omega
        · have := h2 x hx; omega

/-- A run of bytes written: byte i of it reads back, every address outside it reads as before. -/
theorem memRead_memWriteL (a : Nat) (l : List Byte) (c : Nat) (m : List Host.Cell) (h : memWf m = true) :
    memRead c (memWriteL a l m) = if a ≤ c ∧ c < a + l.length then l.getD (c - a) 0 else memRead c m := by
  induction l generalizing a m with
  | nil => simp [memWriteL]
  | cons b l ih =>
    simp only [memWriteL, List.length_cons]
    rw [ih (a + 1) _ (memWrite_wf a b m h), memRead_memWrite a b c m h]
    by_cases h1 : c = a
    · subst h1
      rw [if_neg (by omega), if_pos rfl, if_pos (by omega)]
      simp
    · rw [if_neg h1]
      by_cases h2 : a ≤ c ∧ c < a + (l.length + 1)
      · rw [if_pos (by omega), if_pos h2]
        obtain ⟨k, hk⟩ : ∃ k, c - a = k + 1 := ⟨c - a - 1, by omega⟩
        rw [hk, show c - (a + 1) = k by omega]
        simp
      · rw [if_neg (by omega), if_neg h2]

/-- Erased bytes read as an empty store's, every address outside the range reads as before. -/
theorem memRead_memErase (a n c : Nat) (m : List Host.Cell) (h : memWf m = true) :
    memRead c (memErase a n m) = if a ≤ c ∧ c < a + n then storeDefault else memRead c m := by
  induction m with
  | nil => simp [memErase, memRead]
  | cons d r ih =>
    obtain ⟨h1, h2, h3⟩ := (memWf_cons d r).mp h
    have ih := ih h3
    simp only [memErase] at ih ⊢
    by_cases hd : d.1 < a ∨ d.1 ≥ a + n
    · rw [List.filter_cons_of_pos (by simpa using hd)]
      simp only [memRead, ih]
      by_cases hc : d.1 = c
      · rw [if_pos hc, if_pos hc, if_neg (by omega)]
      · rw [if_neg hc, if_neg hc]
        by_cases hg : d.1 > c
        · rw [if_pos hg, if_pos hg]; simp
        · rw [if_neg hg, if_neg hg]
    · rw [List.filter_cons_of_neg (by simpa using hd), ih]
      simp only [memRead]
      by_cases hc : a ≤ c ∧ c < a + n
      · rw [if_pos hc, if_pos hc]
      · rw [if_neg hc, if_neg hc, if_neg (by omega)]
        by_cases hg : d.1 > c
        · rw [if_pos hg, memRead_above d.1 c r h2 (by omega)]
        · rw [if_neg hg]

end Sys2Proof.Machine
end

