-- ==== Sys2Proof/Laws/Stops.lean ====
section
/-!
SUPPORT. What the shared operations of stops and resets can do: which blocks they change, that a trigger leaves the
safe-stop sequence running or latched, and what entering SAFE_STOP and asking for a package reset leave.
-/

namespace Sys2Proof.Machine

/-- A repeated change whose steps change only some blocks changes only those. -/
theorem foldl_frame {α : Type} (F : Pkg → Pkg) (G : Pkg → Pkg → Pkg) (f : Pkg → α → Pkg) (l : List α) (p : Pkg)
    (hF : ∀ q x, F (f q x) = F q) (hG : ∀ q, q = G (F q) q) : l.foldl f p = G (F p) (l.foldl f p) := by
  have h : F (l.foldl f p) = F p := foldl_keep F f l p hF
  rw [← h]
  exact hG _

/-! ### Pins and clusters -/

/-- Settling a port changes the Eyelet block alone. -/
theorem settle_keeps (q : Nat) (p : Pkg) : settle q p = { p with eye := (settle q p).eye } := rfl

/-- Settling every port changes the Eyelet block alone. -/
theorem settleAll_keeps (p : Pkg) : settleAll p = { p with eye := (settleAll p).eye } :=
  foldl_frame (fun q => { q with eye := {} }) (fun a b => { a with eye := b.eye }) _ _ p (fun _ _ => rfl) (fun _ => rfl)

/-- A die's gate lines change chapter 07 alone. -/
theorem driveLine_keeps (q : Nat) (b : Bool) (d : Die) (p : Pkg) : driveLine q b d p = { p with eye := (driveLine q b d p).eye } := by
  unfold driveLine
  split <;> rfl

/-- The gate lines after a change change chapter 07 alone. -/
theorem followLines_keeps (q : Nat) (p : Pkg) : followLines q p = { p with eye := (followLines q p).eye } := by
  unfold followLines
  simp only []
  rw [settle_keeps, driveLine_keeps, driveLine_keeps]

/-- ENABLEs low: chapters 04 and 07 alone change. -/
theorem enablesLow_keeps (n : Nat) (p : Pkg) : enablesLow n p = { p with pwr := (enablesLow n p).pwr, eye := (enablesLow n p).eye } :=
  foldl_frame (fun q => { q with pwr := {}, eye := {} }) (fun a b => { a with pwr := b.pwr, eye := b.eye }) _ _ p
    (fun _ _ => by rw [followLines_keeps]; rfl) (fun _ => rfl)

/-- A region's clusters asked to stop: chapter 04 alone changes. -/
theorem stopRegion_keeps (r : Nat) (p : Pkg) : stopRegion r p = { p with pwr := (stopRegion r p).pwr } :=
  foldl_frame (fun q => { q with pwr := {} }) (fun a b => { a with pwr := b.pwr }) _ _ p (fun _ _ => rfl) (fun _ => rfl)

/-- Static ports driven: chapters 04 and 07 alone change. -/
theorem driveStatic_keeps (n : Nat) (f : StaticFn) (on : Bool) (p : Pkg) :
    driveStatic n f on p = { p with pwr := (driveStatic n f on p).pwr, eye := (driveStatic n f on p).eye } :=
  foldl_frame (fun q => { q with pwr := {}, eye := {} }) (fun a b => { a with pwr := b.pwr, eye := b.eye }) _ _ p
    (fun _ _ => by rw [followLines_keeps]; rfl) (fun _ => rfl)

/-- AFE clusters asked to stop: chapters 04 and 07 alone change. -/
theorem stopAfes_keeps (p : Pkg) : stopAfes p = { p with pwr := (stopAfes p).pwr, eye := (stopAfes p).eye } :=
  foldl_frame (fun q => { q with pwr := {}, eye := {} }) (fun a b => { a with pwr := b.pwr, eye := b.eye }) _ _ p
    (fun q n => by
      simp only []
      split
      · rw [driveStatic_keeps, driveStatic_keeps]; rfl
      · rfl) (fun _ => rfl)

/-- The end of a transition changes chapters 06 and 14 alone. -/
theorem endTrans_keeps (r : Nat) (k : AckKind) (cause : Nat) (b : Option Nat) (c : Bool) (p : Pkg) :
    endTrans r k cause b c p = { p with vcmd := (endTrans r k cause b c p).vcmd, vlk := (endTrans r k cause b c p).vlk } := by
  unfold endTrans
  split
  · rfl
  · simp only []
    split
    · rfl
    · split <;> rfl
    · rfl

/-- The end of a region's ramp-down changes chapters 06 and 14 alone. -/
theorem closingDone_keeps (r : Nat) (p : Pkg) :
    closingDone r p = { p with vcmd := (closingDone r p).vcmd, vlk := (closingDone r p).vlk } := by
  unfold closingDone
  split
  · split
    · rw [endTrans_keeps]; rfl
    · rfl
  · rfl

/-- The end of a cluster's forces changes chapter 07 alone. -/
theorem endForces_keeps (n : Nat) (p : Pkg) : endForces n p = { p with eye := (endForces n p).eye } :=
  foldl_frame (fun q => { q with eye := {} }) (fun a b => { a with eye := b.eye }) _ _ p (fun _ _ => by split <;> rfl) (fun _ => rfl)

/-- A cluster that stops changes chapters 04, 06, 07 and 14 alone. -/
theorem stopCluster_keeps (n : Nat) (p : Pkg) :
    stopCluster n p = { p with pwr := (stopCluster n p).pwr, vcmd := (stopCluster n p).vcmd, eye := (stopCluster n p).eye
                               vlk := (stopCluster n p).vlk } := by
  unfold stopCluster
  simp only []
  split
  · rw [closingDone_keeps]; simp only [goSt, updRun, updDyn, updCl]; rw [enablesLow_keeps, endForces_keeps]
  · simp only [goSt, updRun, updDyn, updCl]; rw [enablesLow_keeps, endForces_keeps]

/-- Stopping every cluster that runs changes chapters 04, 06, 07 and 14 alone. -/
theorem clustersHalt_keeps (p : Pkg) :
    clustersHalt p = { p with pwr := (clustersHalt p).pwr, vcmd := (clustersHalt p).vcmd, eye := (clustersHalt p).eye
                              vlk := (clustersHalt p).vlk } :=
  foldl_frame (fun q => { q with pwr := {}, vcmd := {}, eye := {}, vlk := {} })
    (fun a b => { a with pwr := b.pwr, vcmd := b.vcmd, eye := b.eye, vlk := b.vlk })
    _ _ p (fun q n => by split; rw [stopCluster_keeps]; rfl) (fun _ => rfl)

/-- Stopping every configured cluster changes chapters 04, 06, 07 and 14 alone. -/
theorem clustersStop_keeps (p : Pkg) :
    clustersStop p = { p with pwr := (clustersStop p).pwr, vcmd := (clustersStop p).vcmd, eye := (clustersStop p).eye
                              vlk := (clustersStop p).vlk } :=
  foldl_frame (fun q => { q with pwr := {}, vcmd := {}, eye := {}, vlk := {} })
    (fun a b => { a with pwr := b.pwr, vcmd := b.vcmd, eye := b.eye, vlk := b.vlk })
    _ _ p (fun q n => by split; rfl; rw [stopCluster_keeps]) (fun _ => rfl)

/-! ### Sessions and faults -/

/-- A reading of the package's own state that no change of mode, nor what goes with one, can touch (02 R65, R67 to R69). -/
abbrev ModeFree {β : Type} (g : Sys → β) : Prop := ∀ (y : Sys) (a b : Mode) (c : Option Nat) (d : Option Grant)
  (e : Option (Mode × Option Die)) (f : Nat) (h : List Nat) (i : Bool) (j : Option Nat) (k l : Bool),
  g { y with mode := a, prev := b, armUntil := c, grant := d, jMode := e, freeCycles := f, derateWhy := h, noOwnerHold := i
             retryDue := j, leaseOwed := k, faultCyc := l } = g y

/-- A change of mode, as one equation (02 R63, 01 R55). -/
theorem setMode_eq (m : Mode) (p : Pkg) :
    setMode m p = { p with sys := { p.sys with mode := m, prev := if p.sys.mode = m then p.sys.prev else p.sys.mode
                                               jMode := modeJournal m p } } := by
  unfold setMode modeJournal
  split
  · rename_i h; rw [if_pos (Or.inl h)]; subst h; rfl
  · rename_i h
    have e : (awake p && !p.mtr.nvBlock) = true ∨ (awake p && !p.mtr.nvBlock) = false := by cases (awake p && !p.mtr.nvBlock) <;> simp
    rcases e with k | k
    · rw [if_neg (by rintro (x | x); exact h x; rw [k] at x; cases x)]; exact if_pos k
    · rw [if_pos (Or.inr k)]; exact if_neg (fun x => Bool.false_ne_true (k.symm.trans x))

/-- Telling the vehicle changes chapter 14 alone. -/
theorem tellVehicle_keeps (r : Nat) (k : TransKind) (c : Nat) (p : Pkg) :
    tellVehicle r k c p = { p with vlk := (tellVehicle r k c p).vlk } := rfl

/-- A receipt's close changes chapter 10 alone. -/
theorem closeReceipt_keeps (r c : Nat) (p : Pkg) : closeReceipt r c p = { p with bil := (closeReceipt r c p).bil } := by
  unfold closeReceipt
  split <;> rfl

/-- What the end of the last session leaves of the package's own state (02 R65, R67). -/
theorem lastClosed_keeps (p : Pkg) : lastClosed p = { p with sys := (lastClosed p).sys } := by
  unfold lastClosed
  split
  · rfl
  · rw [setMode_eq]

/-- The last session's end touches nothing that is free of the mode. -/
theorem lastClosed_free {β : Type} {g : Sys → β} (hg : ModeFree g) (p : Pkg) : g (lastClosed p).sys = g p.sys := by
  unfold lastClosed
  split
  · rfl
  · rw [setMode_eq]; exact hg p.sys _ _ _ p.sys.grant _ _ _ p.sys.noOwnerHold p.sys.retryDue p.sys.leaseOwed p.sys.faultCyc


/-- Outside DELIVER and DERATE the end of a session changes no mode (02 R65). -/
theorem lastClosed_other (p : Pkg) (h : inMode p [.deliver, .derate] = false) : lastClosed p = p := by
  unfold lastClosed
  rw [if_pos (by simp [h])]

/-- The end of a session changes chapters 04, 06, 10 and 14 and the package's mode alone. -/
theorem endSession_keeps (r c : Nat) (p : Pkg) :
    endSession r c p = { p with sys := (endSession r c p).sys, pwr := (endSession r c p).pwr, vcmd := (endSession r c p).vcmd
                                bil := (endSession r c p).bil, vlk := (endSession r c p).vlk } := by
  unfold endSession
  split
  · rfl
  · simp only []
    rw [lastClosed_keeps, closingDone_keeps, stopRegion_keeps]
    split
    · simp only [updVg, updVr, tellVehicle]; rw [closeReceipt_keeps, endTrans_keeps]
    · simp only [updVr]; rw [closeReceipt_keeps, endTrans_keeps]

/-- The end of a session touches nothing that is free of the mode. -/
theorem endSession_free {β : Type} {g : Sys → β} (hg : ModeFree g) (r c : Nat) (p : Pkg) : g (endSession r c p).sys = g p.sys := by
  unfold endSession
  split
  · rfl
  · simp only []
    rw [lastClosed_free hg, closingDone_keeps, stopRegion_keeps]
    split
    · simp only [updVg, updVr, tellVehicle]; rw [closeReceipt_keeps, endTrans_keeps]
    · simp only [updVr]; rw [closeReceipt_keeps, endTrans_keeps]


/-- Outside DELIVER and DERATE the end of a session changes no mode (02 R65). -/
theorem endSession_sys (r c : Nat) (p : Pkg) (h : inMode p [.deliver, .derate] = false) : (endSession r c p).sys = p.sys := by
  unfold endSession
  split
  · rfl
  · rename_i o ho
    simp only []
    have e : ∀ q : Pkg, q.sys = p.sys → (lastClosed (closingDone r (stopRegion r q))).sys = p.sys := by
      intro q hq
      have k : (closingDone r (stopRegion r q)).sys = p.sys := by rw [closingDone_keeps, stopRegion_keeps]; exact hq
      rw [lastClosed_other _ (by unfold inMode at *; rw [k]; exact h)]
      exact k
    apply e
    split
    · simp only [updVg, updVr, tellVehicle]; rw [closeReceipt_keeps, endTrans_keeps]
    · simp only [updVr]; rw [closeReceipt_keeps, endTrans_keeps]

/-- A cluster's fault changes chapters 04, 06, 07, 10 and 14 and the package's mode alone. -/
theorem clusterFault_keeps (n c : Nat) (p : Pkg) :
    clusterFault n c p = { p with sys := (clusterFault n c p).sys, pwr := (clusterFault n c p).pwr, vcmd := (clusterFault n c p).vcmd
                                  eye := (clusterFault n c p).eye, bil := (clusterFault n c p).bil, vlk := (clusterFault n c p).vlk } := by
  unfold clusterFault
  simp only []
  split
  · rfl
  · split
    · simp only [goSt, updRun, updDyn, updCl]; rw [enablesLow_keeps]
    · rw [closingDone_keeps]
      split
      · rw [endSession_keeps]; simp only [goSt, updRun, updDyn, updCl]; rw [enablesLow_keeps]
      · rw [endTrans_keeps]; simp only [goSt, updRun, updDyn, updCl]; rw [enablesLow_keeps]

/-- A cluster's fault touches nothing that is free of the mode. -/
theorem clusterFault_free {β : Type} {g : Sys → β} (hg : ModeFree g) (n c : Nat) (p : Pkg) :
    g (clusterFault n c p).sys = g p.sys := by
  unfold clusterFault
  simp only []
  split
  · rfl
  · split
    · simp only [goSt, updRun, updDyn, updCl]; rw [enablesLow_keeps]
    · rw [closingDone_keeps]
      simp only []
      split
      · rw [endSession_free hg]; simp only [goSt, updRun, updDyn, updCl]; rw [enablesLow_keeps]
      · rw [endTrans_keeps]; simp only [goSt, updRun, updDyn, updCl]; rw [enablesLow_keeps]

/-- Outside DELIVER and DERATE a cluster's fault changes no mode (02 R65). -/
theorem clusterFault_sys (n c : Nat) (p : Pkg) (h : inMode p [.deliver, .derate] = false) : (clusterFault n c p).sys = p.sys := by
  unfold clusterFault
  simp only []
  split
  · rfl
  · split
    · simp only [goSt, updRun, updDyn, updCl]; rw [enablesLow_keeps]
    · rw [closingDone_keeps]
      simp only []
      split
      · rw [endSession_sys]
        · simp only [goSt, updRun, updDyn, updCl]; rw [enablesLow_keeps]
        · simp only [goSt, updRun, updDyn, updCl]; rw [enablesLow_keeps]; exact h
      · rw [endTrans_keeps]; simp only [goSt, updRun, updDyn, updCl]; rw [enablesLow_keeps]

/-- Outside DELIVER and DERATE a latch changes no mode, and it never touches the supply. -/
theorem faultLatch_sys (q : Nat) (p : Pkg) (h : inMode p [.deliver, .derate] = false) :
    (faultLatch q p).sys = p.sys ∧ (faultLatch q p).sup = p.sup := by
  unfold faultLatch latchPort
  simp only []
  rw [settle_keeps]
  simp only []
  split
  · exact ⟨rfl, rfl⟩
  · unfold latchCluster
    split
    · exact ⟨rfl, rfl⟩
    · split
      · exact ⟨clusterFault_sys _ _ _ h, by rw [clusterFault_keeps]; rfl⟩
      · exact ⟨rfl, rfl⟩

/-- The latches at the Ground die's release change no mode and leave the supply. -/
theorem faultsAtStart_sys (p : Pkg) (h : inMode p [.deliver, .derate] = false) :
    (faultsAtStart p).sys = p.sys ∧ (faultsAtStart p).sup = p.sup := by
  unfold faultsAtStart
  generalize List.range 96 = l
  induction l generalizing p with
  | nil => exact ⟨rfl, rfl⟩
  | cons q l ih =>
    rw [List.foldl_cons]
    split
    · exact ih p h
    · obtain ⟨a, b⟩ := faultLatch_sys q p h
      obtain ⟨c, d⟩ := ih (faultLatch q p) (by unfold inMode at *; rw [a]; exact h)
      exact ⟨c.trans a, d.trans b⟩

/-! ### The safe-stop sequence -/

/-- The end of the sequence changes chapter 11 and two timers of the package. -/
theorem ssComplete_keeps (p : Pkg) :
    ssComplete p = { p with duo := { p.duo with ss := (ssComplete p).duo.ss }
                            sys := { p.sys with noOwnerHold := (ssComplete p).sys.noOwnerHold
                                                retryDue := (ssComplete p).sys.retryDue } } := by
  unfold ssComplete
  split
  · rfl
  · simp only []; split <;> rfl

/-- The end of the sequence keeps what it has recorded of its triggers. -/
theorem ssComplete_mask (p : Pkg) : (ssComplete p).duo.ss.mask = p.duo.ss.mask ∧ (ssComplete p).duo.ss.first = p.duo.ss.first := by
  unfold ssComplete
  split
  · exact ⟨rfl, rfl⟩
  · simp only []; split <;> exact ⟨rfl, rfl⟩

/-- A sequence that ran is latched once it is over. -/
theorem ssComplete_on (p : Pkg) (h : p.duo.ss.running = true) :
    (ssComplete p).duo.ss.running = true ∨ (ssComplete p).duo.ss.latched = true := by
  unfold ssComplete
  split
  · exact .inl h
  · simp only []; split <;> exact .inr rfl

/-- The pins under the sequence change chapter 07 alone. -/
theorem seqPins_keeps (g : Nat → EyePin → EyePin) (p : Pkg) :
    (List.range 96).foldl (fun p q => updPin q (g q) p) p =
      { p with eye := ((List.range 96).foldl (fun p q => updPin q (g q) p) p).eye } :=
  foldl_frame (fun q => { q with eye := {} }) (fun a b => { a with eye := b.eye }) _ _ p (fun _ _ => rfl) (fun _ => rfl)

/-- A trigger changes chapters 07 and 11 and two timers of the package. -/
theorem ssTrigger_keeps (code : Nat) (o : Option Die) (p : Pkg) :
    ssTrigger code o p = { p with eye := (ssTrigger code o p).eye, duo := (ssTrigger code o p).duo
                                  sys := { p.sys with noOwnerHold := (ssTrigger code o p).sys.noOwnerHold
                                                      retryDue := (ssTrigger code o p).sys.retryDue } } := by
  unfold ssTrigger
  simp only []
  split
  · rfl
  · rw [ssComplete_keeps, settleAll_keeps, seqPins_keeps]

/-- After a trigger the sequence runs or has ended with its latch set (11 R377, R378). -/
theorem ssTrigger_on (code : Nat) (o : Option Die) (p : Pkg) :
    (ssTrigger code o p).duo.ss.running = true ∨ (ssTrigger code o p).duo.ss.latched = true := by
  unfold ssTrigger
  simp only []
  split
  · rename_i h; simpa using h
  · apply ssComplete_on
    rw [settleAll_keeps, seqPins_keeps]

/-- A trigger's bit is set in the mask of triggers (11 R377). -/
theorem ssTrigger_mask (code : Nat) (o : Option Die) (p : Pkg) : (ssTrigger code o p).duo.ss.mask.testBit (code - 1) = true := by
  unfold ssTrigger
  simp only []
  split
  · show Nat.testBit (_ ||| _) _ = true
    rw [Nat.testBit_or, Nat.testBit_two_pow_self, Bool.or_true]
  · rw [(ssComplete_mask _).1, settleAll_keeps, seqPins_keeps]
    exact Nat.testBit_two_pow_self

/-- The first trigger is kept: a further one changes nothing but the mask (11 R377). -/
theorem ssTrigger_again (code : Nat) (o : Option Die) (p : Pkg) (h : p.duo.ss.running = true ∨ p.duo.ss.latched = true) :
    ssTrigger code o p = { p with duo := { p.duo with ss := { p.duo.ss with mask := p.duo.ss.mask ||| 2 ^ (code - 1) } } } := by
  unfold ssTrigger
  simp only []
  rw [if_pos h]

/-! ### Entering SAFE_STOP -/

/-- A region's session and transition end at a safe-stop. -/
theorem refuseAll_keeps (p : Pkg) (l : List Nat) (q : Pkg)
    (h : l.foldl (fun p r => endTrans r .refused 9 none false (endSession r 9 p)) p = q) :
    q = { p with sys := q.sys, pwr := q.pwr, vcmd := q.vcmd, bil := q.bil, vlk := q.vlk } := by
  subst h
  exact foldl_frame (fun q => { q with sys := {}, pwr := {}, vcmd := {}, bil := {}, vlk := {} })
    (fun a b => { a with sys := b.sys, pwr := b.pwr, vcmd := b.vcmd, bil := b.bil, vlk := b.vlk }) _ l p
    (fun q r => by rw [endTrans_keeps, endSession_keeps]) (fun _ => rfl)

/-- The sessions' end at a safe-stop touches nothing that is free of the mode. -/
theorem refuseAll_free {β : Type} {g : Sys → β} (hg : ModeFree g) (p : Pkg) (l : List Nat) :
    g (l.foldl (fun p r => endTrans r .refused 9 none false (endSession r 9 p)) p).sys = g p.sys :=
  foldl_keep (fun q : Pkg => g q.sys) _ l p (fun q r => by rw [endTrans_keeps]; exact endSession_free hg _ _ _)


/-- Entering SAFE_STOP changes chapters 03, 04, 06, 07, 10, 11 and 14 and the package's mode. -/
theorem toSafeStop_keeps (p : Pkg) :
    toSafeStop p = { p with sys := (toSafeStop p).sys, mbx := (toSafeStop p).mbx, pwr := (toSafeStop p).pwr, vcmd := (toSafeStop p).vcmd
                            eye := (toSafeStop p).eye, bil := (toSafeStop p).bil, duo := (toSafeStop p).duo, vlk := (toSafeStop p).vlk } := by
  unfold toSafeStop
  generalize hq : List.foldl _ p _ = q
  have k := refuseAll_keeps p _ q hq
  simp only []
  rw [clustersStop_keeps, setMode_eq]
  simp only [markStopped]
  rw [k]

/-- Entering SAFE_STOP: the mode, no grant, and the items accepted before it are marked (02 R65, R68, 03 R110). -/
theorem toSafeStop_mode (p : Pkg) :
    (toSafeStop p).sys.mode = .safeStop ∧ (toSafeStop p).sys.grant = none ∧
      (toSafeStop p).mbx = (markStopped p).mbx ∧ (toSafeStop p).duo = { p.duo with ss := { p.duo.ss with own := none } } := by
  unfold toSafeStop
  generalize hq : List.foldl _ p _ = q
  have k := refuseAll_keeps p _ q hq
  simp only []
  rw [clustersStop_keeps, setMode_eq]
  simp only [markStopped]
  refine ⟨trivial, trivial, ?_, ?_⟩ <;> rw [k]

/-- Entering SAFE_STOP touches nothing that is free of the mode. -/
theorem toSafeStop_free {β : Type} {g : Sys → β} (hg : ModeFree g) (p : Pkg) : g (toSafeStop p).sys = g p.sys := by
  have f := refuseAll_free hg p (List.range 4)
  unfold toSafeStop
  generalize List.foldl _ p _ = q at f
  simp only []
  rw [clustersStop_keeps, setMode_eq]
  simp only [markStopped]
  exact (hg q.sys _ _ _ _ _ _ _ q.sys.noOwnerHold q.sys.retryDue _ q.sys.faultCyc).trans f

/-- A fault whose action is safe-stop changes chapters 03, 04, 06, 07, 10, 11 and 14 and the package's mode. -/
theorem safeStopFault_keeps (p : Pkg) :
    safeStopFault p = { p with sys := (safeStopFault p).sys, mbx := (safeStopFault p).mbx, pwr := (safeStopFault p).pwr
                               vcmd := (safeStopFault p).vcmd, eye := (safeStopFault p).eye, bil := (safeStopFault p).bil
                               duo := (safeStopFault p).duo, vlk := (safeStopFault p).vlk } := by
  unfold safeStopFault
  simp only []
  split
  · rw [ssTrigger_keeps, toSafeStop_keeps]
  · rfl

/-- In a mode with the row of 02 R65, a fault whose action is safe-stop leads to SAFE_STOP with trigger 2 recorded. -/
theorem safeStopFault_mode (p : Pkg) (h : inMode p [.armed, .deliver, .derate, .isolated, .service] = true) :
    (safeStopFault p).sys.mode = .safeStop ∧ (safeStopFault p).sys.grant = none ∧
      ((safeStopFault p).duo.ss.running = true ∨ (safeStopFault p).duo.ss.latched = true) ∧
      (safeStopFault p).duo.ss.mask.testBit 1 = true := by
  obtain ⟨h1, h2, _⟩ := toSafeStop_mode { p with sys := { p.sys with faultCyc := true } }
  have e : safeStopFault p = ssTrigger 2 p.sys.hoopG.owner (toSafeStop { p with sys := { p.sys with faultCyc := true } }) := if_pos h
  rw [e]
  generalize toSafeStop _ = q at h1 h2
  have k : (ssTrigger 2 p.sys.hoopG.owner q).sys.mode = q.sys.mode ∧ (ssTrigger 2 p.sys.hoopG.owner q).sys.grant = q.sys.grant := by
    rw [ssTrigger_keeps]; exact ⟨rfl, rfl⟩
  exact ⟨k.1.trans h1, k.2.trans h2, ssTrigger_on _ _ _, ssTrigger_mask 2 _ q⟩

/-- A trigger touches nothing that is free of the mode. -/
theorem ssTrigger_free {β : Type} {g : Sys → β} (hg : ModeFree g) (code : Nat) (o : Option Die) (p : Pkg) :
    g (ssTrigger code o p).sys = g p.sys := by
  rw [ssTrigger_keeps]
  exact hg p.sys p.sys.mode p.sys.prev p.sys.armUntil p.sys.grant p.sys.jMode p.sys.freeCycles p.sys.derateWhy _ _ p.sys.leaseOwed
    p.sys.faultCyc

/-- A fault whose action is safe-stop touches nothing that is free of the mode. -/
theorem safeStopFault_free {β : Type} {g : Sys → β} (hg : ModeFree g) (p : Pkg) : g (safeStopFault p).sys = g p.sys := by
  have e : g ({ p.sys with faultCyc := true } : Sys) = g p.sys :=
    hg p.sys p.sys.mode p.sys.prev p.sys.armUntil p.sys.grant p.sys.jMode p.sys.freeCycles p.sys.derateWhy p.sys.noOwnerHold p.sys.retryDue
      p.sys.leaseOwed true
  unfold safeStopFault
  simp only []
  split
  · rw [ssTrigger_free hg, toSafeStop_free hg]; exact e
  · exact e

/-- In any other mode it only marks the supervisory cycle (02 R66). -/
theorem safeStopFault_other (p : Pkg) (h : inMode p [.armed, .deliver, .derate, .isolated, .service] = false) :
    safeStopFault p = { p with sys := { p.sys with faultCyc := true } } := by
  unfold safeStopFault
  exact if_neg (fun x => Bool.false_ne_true (h.symm.trans x))

/-! ### A package reset is asked for -/

/-- The request: the cause waits, the save runs or has run, the sequence is triggered with code 3 (02 R72, 09 R309). -/
theorem requestReset_asks (c : ResetCause) (p : Pkg) (h : p.sys.mode ≠ .retired) (h' : p.sys.mode ≠ .reset) :
    (requestReset c p).sys = { p.sys with pendingRst := p.sys.pendingRst ++ [c]
                                          rstSaveEnd := some (p.sys.rstSaveEnd.getD (p.clk + 2000000))
                                          noOwnerHold := (requestReset c p).sys.noOwnerHold
                                          retryDue := (requestReset c p).sys.retryDue } ∧
      (requestReset c p).mtr = { p.mtr with save := if p.mtr.save = .none then .running else p.mtr.save } ∧
      ((requestReset c p).duo.ss.running = true ∨ (requestReset c p).duo.ss.latched = true) ∧
      (requestReset c p).duo.ss.mask.testBit 2 = true := by
  unfold requestReset
  rw [if_neg (by simp [h, h'])]
  simp only []
  refine ⟨?_, ?_, ssTrigger_on _ _ _, ssTrigger_mask _ _ _⟩
  · rw [ssTrigger_keeps, clustersHalt_keeps]
  · rw [ssTrigger_keeps, clustersHalt_keeps]

/-- A request changes chapters 04, 06, 07, 09, 11 and 14 and the package's own state. -/
theorem requestReset_keeps (c : ResetCause) (p : Pkg) :
    requestReset c p = { p with sys := (requestReset c p).sys, pwr := (requestReset c p).pwr, vcmd := (requestReset c p).vcmd
                                eye := (requestReset c p).eye, mtr := (requestReset c p).mtr, duo := (requestReset c p).duo
                                vlk := (requestReset c p).vlk } := by
  unfold requestReset
  split
  · rfl
  · simp only []
    rw [ssTrigger_keeps, clustersHalt_keeps]

/-- In RETIRED, and while a reset is asserted, a request changes nothing (02 R65, R72). -/
theorem requestReset_none (c : ResetCause) (p : Pkg) (h : p.sys.mode = .retired ∨ p.sys.mode = .reset) : requestReset c p = p := by
  unfold requestReset
  rw [if_pos h]

/-! ### Start-up -/

/-- A meter that starts again changes chapters 09 and 10 alone. -/
theorem restartMeter_keeps {β : Type} (g : Pkg → β) (hg : ∀ q a b, g { q with mtr := a, bil := b } = g q)
    (c m : Nat) (x : Meter) (bound n : Nat) (p : Pkg) : g (restartMeter c m x bound n p) = g p := by
  unfold restartMeter
  extract_lets p1 p2 _ _ p3 p4
  have k2 : g p2 = g p := by
    unfold p2
    split
    · split <;> exact hg p _ _
    · exact hg p _ _
  have k3 : g p3 = g p := (hg p2 _ _).trans k2
  have k4 : g p4 = g p := by
    unfold p4
    split
    · exact k3
    · exact (hg p3 _ _).trans k3
  exact (hg p4 _ _).trans k4

/-- Metering again from the journal changes chapters 09 and 10 alone. -/
theorem restartMeters_keeps {β : Type} (g : Pkg → β) (hg : ∀ q a b, g { q with mtr := a, bil := b } = g q)
    (c : Nat) (p : Pkg) : g (restartMeters c p) = g p := by
  unfold restartMeters
  extract_lets one p1
  have k : g p1 = g p := (foldl_keep g one _ _ (fun q m => restartMeter_keeps g hg _ _ _ _ _ q)).trans (hg p _ _)
  exact (hg p1 _ _).trans k

/-- The logic of a lane that is DOWN starts: chapter 12 alone changes. -/
theorem laneStart_keeps (l : Nat) (p : Pkg) : laneStart l p = { p with dfl := (laneStart l p).dfl } := by
  unfold laneStart
  simp only []
  split
  · rename_i h
    split
    · unfold toSearch
      simp only []
      rw [if_neg (by simp [laneUp, h])]
      rfl
    · rfl
  · rfl

/-- Once the supply is good and nothing holds the other dies, they start: the mode is BOOT (02 R65, R78). -/
theorem tryStart_boot (p : Pkg) (h1 : p.sys.mode ≠ .retired) (h2 : p.sup.upAt.isSome = true) (h3 : p.sup.started = false)
    (h4 : p.sys.lcRead.lc ≠ .scrapped) (h5 : p.sys.thermHold = false) (h6 : p.sup.vanaOk = true)
    (h7 : p.sup.vioOk.contains false = false) :
    (tryStart p).sys.mode = .boot ∧ (tryStart p).sup = { p.sup with started := true } ∧ (tryStart p).sys.fuses = p.sys.fuses := by
  unfold tryStart
  rw [if_neg (by rw [Option.isNone_eq_false_iff.2 (by simpa using h2)]; simp [h1, h3]), if_neg h4, if_neg (by rw [h5, h6, h7]; simp)]
  extract_lets _ p1 p2 p3
  have k : ∀ (β : Type) (g : Pkg → β), (∀ q a b, g { q with mtr := a, bil := b } = g q) → (∀ q a, g { q with dfl := a } = g q) →
      g (List.foldl (fun p l => laneStart l p) (restartMeters p3.sys.resetBit (faultsAtStart p3)) (List.range 8)) = g (faultsAtStart p3) :=
    fun β g h1 h2 =>
      (foldl_keep g _ _ _ (fun q x => by rw [laneStart_keeps]; exact h2 _ _)).trans (restartMeters_keeps g h1 _ _)
  have e1 : p1.sys.mode = .boot ∧ p1.sup = { p.sup with started := true } ∧ p1.sys.fuses = p.sys.fuses := by
    unfold p1; rw [setMode_eq]; exact ⟨rfl, rfl, rfl⟩
  have e3 : p3.sys.mode = .boot ∧ p3.sup = { p.sup with started := true } ∧ p3.sys.fuses = p.sys.fuses := by
    unfold p3
    rw [loadKey_keeps .journal]
    simp only [logEvent_sys, logEvent_sup]
    unfold p2
    split <;> exact e1
  obtain ⟨e4, e5⟩ := faultsAtStart_sys p3 (by unfold inMode; rw [e3.1]; rfl)
  exact ⟨(k _ (·.sys.mode) (fun _ _ _ => rfl) (fun _ _ => rfl)).trans ((congrArg (·.mode) e4).trans e3.1),
    (k _ (·.sup) (fun _ _ _ => rfl) (fun _ _ => rfl)).trans (e5.trans e3.2.1),
    (k _ (·.sys.fuses) (fun _ _ _ => rfl) (fun _ _ => rfl)).trans ((congrArg (·.fuses) e4).trans e3.2.2)⟩

/-- While the dies have started, start-up has nothing more to do. -/
theorem tryStart_started (p : Pkg) (h : p.sup.started = true) : tryStart p = p := by
  unfold tryStart
  rw [if_pos (.inr (.inr h))]

/-- Nothing starts without the supply. -/
theorem tryStart_down (p : Pkg) (h : p.sup.upAt = none) : tryStart p = p := by
  unfold tryStart
  rw [if_pos (.inr (.inl (by simp [h])))]

/-- Nothing starts while a supply is not valid, unless the part is scrapped (02 R78). -/
theorem tryStart_waits (p : Pkg) (h : p.sys.lcRead.lc ≠ .scrapped) (h' : p.sys.thermHold = true ∨ p.sup.vanaOk = false) :
    tryStart p = p := by
  unfold tryStart
  by_cases hc : p.sys.mode = .retired ∨ p.sup.upAt.isNone = true ∨ p.sup.started = true
  · rw [if_pos hc]
  · rw [if_neg hc, if_neg h, if_pos (by rcases h' with h' | h' <;> simp [h'])]

/-! ### Temperature -/

/-- A fault that clears itself changes chapters 03, 04, 06, 07, 10, 11 and 14 and the package's mode. -/
theorem ownFault_keeps (w : Bool) (p : Pkg) :
    ownFault w p = { p with sys := (ownFault w p).sys, mbx := (ownFault w p).mbx, pwr := (ownFault w p).pwr
                            vcmd := (ownFault w p).vcmd, eye := (ownFault w p).eye, bil := (ownFault w p).bil
                            duo := (ownFault w p).duo, vlk := (ownFault w p).vlk } := by
  unfold ownFault
  simp only []
  rw [safeStopFault_keeps]

/-- Outside the modes with a row of 02 R65 it only notes itself in the sequence's record (19 R576). -/
theorem ownFault_other (w : Bool) (p : Pkg) (h : inMode p [.armed, .deliver, .derate, .isolated, .service] = false) :
    ownFault w p = { p with sys := { p.sys with faultCyc := true }
                            duo := { p.duo with ss := { p.duo.ss with own := (ownFault w p).duo.ss.own } } } := by
  unfold ownFault
  simp only []
  rw [safeStopFault_other p h]

/-- In the modes with a row of 02 R65 it leads to SAFE_STOP (19 R576). -/
theorem ownFault_mode (w : Bool) (p : Pkg) (h : inMode p [.armed, .deliver, .derate, .isolated, .service] = true) :
    (ownFault w p).sys.mode = .safeStop ∧ (ownFault w p).sys.grant = none ∧
      ((ownFault w p).duo.ss.running = true ∨ (ownFault w p).duo.ss.latched = true) ∧
      (ownFault w p).duo.ss.mask.testBit 1 = true := safeStopFault_mode p h

/-- A fault that clears itself touches nothing that is free of the mode. -/
theorem ownFault_free {β : Type} {g : Sys → β} (hg : ModeFree g) (w : Bool) (p : Pkg) : g (ownFault w p).sys = g p.sys :=
  safeStopFault_free hg p


/-- The sample's own part: the sensors and their highest value; a free value is used up only where no sensor is valid. -/
theorem sensorSample_eq (temps : List Int) (p : Pkg) : ∃ q : Pkg, sensorSample temps p = shutdown (thmCheck q) ∧
    q = { p with thm := q.thm, freeN := q.freeN } ∧ q.thm.sens = sampled temps p ∧
    (∀ m, dieMax (sampled temps p) = some m → q.thm.max_ = m ∧ q.freeN = p.freeN) ∧ q.thm.warn = p.thm.warn ∧
    q.thm.quiet = p.thm.quiet ∧ q.thm.stop = p.thm.stop ∧ q.thm.tWarn = p.thm.tWarn ∧ q.thm.tQuiet = p.thm.tQuiet ∧
    q.thm.tStop = p.thm.tStop ∧ q.thm.shutdowns = p.thm.shutdowns := by
  unfold sensorSample
  extract_lets l
  rename_i p2
  unfold p2
  cases dieMax l with
  | some m => exact ⟨_, rfl, rfl, rfl, fun m' hm => ⟨Option.some.inj hm, rfl⟩, rfl, rfl, rfl, rfl, rfl, rfl, rfl⟩
  | none =>
    exact ⟨_, rfl, rfl, rfl, fun m' hm => (nomatch hm), rfl, rfl, rfl, rfl, rfl, rfl, rfl⟩

/-- The thresholds' flags; above T_STOP the fault of 19 R576 follows (19 R570). -/
theorem thmCheck_eq (p : Pkg) : ∃ q : Pkg, thmCheck p = (if q.thm.stop then ownFault false q else q) ∧ q = { p with thm := q.thm } ∧
    q.thm.warn = crossed p.thm.max_ p.thm.tWarn p.thm.warn ∧ q.thm.quiet = crossed p.thm.max_ p.thm.tQuiet p.thm.quiet ∧
    q.thm.stop = crossed p.thm.max_ p.thm.tStop p.thm.stop ∧ q.thm.sens = p.thm.sens ∧ q.thm.max_ = p.thm.max_ ∧
    q.thm.shutdowns = p.thm.shutdowns := by
  unfold thmCheck
  extract_lets
  rename_i p1
  exact ⟨p1, rfl, rfl, rfl, rfl, rfl, rfl, rfl, rfl⟩

/-- The fuses are free of the mode. -/
theorem fuses_free : ModeFree (fun y => y.fuses) := fun _ _ _ _ _ _ _ _ _ _ _ _ => rfl

/-- The hardware shutdown counts and asks for a package reset, or changes nothing (19 R571). -/
theorem shutdown_eq (p : Pkg) : shutdown p = p ∨ ∃ t : Thm, shutdown p = requestReset .thermal { p with thm := t } ∧
    t.sens = p.thm.sens ∧ t.max_ = p.thm.max_ ∧ t.warn = p.thm.warn ∧ t.quiet = p.thm.quiet ∧ t.stop = p.thm.stop ∧
    t.shutdowns = inc16 p.thm.shutdowns := by
  unfold shutdown
  split
  · exact .inl rfl
  · exact .inr ⟨_, rfl, rfl, rfl, rfl, rfl, rfl, rfl⟩

/-- A sample changes chapter 19's sensors and what a stop or a reset request changes. -/
theorem sensorSample_keeps (temps : List Int) (p m : Pkg) (h : sensorSample temps p = m) :
    m = { p with sys := m.sys, mbx := m.mbx, pwr := m.pwr, vcmd := m.vcmd, eye := m.eye, mtr := m.mtr, bil := m.bil, duo := m.duo
                 vlk := m.vlk, thm := m.thm, freeN := m.freeN } := by
  subst h
  obtain ⟨q, e, hq, _⟩ := sensorSample_eq temps p
  obtain ⟨r, e2, hr, _⟩ := thmCheck_eq q
  have k : thmCheck q = { q with sys := (thmCheck q).sys, mbx := (thmCheck q).mbx, pwr := (thmCheck q).pwr, vcmd := (thmCheck q).vcmd
                                 eye := (thmCheck q).eye, bil := (thmCheck q).bil, duo := (thmCheck q).duo
                                 vlk := (thmCheck q).vlk, thm := (thmCheck q).thm } := by
    rw [e2]
    split
    · rw [ownFault_keeps, hr]
    · rw [hr]
  rw [e]
  rcases shutdown_eq (thmCheck q) with e3 | ⟨t, e3, _⟩
  · rw [e3, k, hq]
  · rw [e3, requestReset_keeps, k, hq]

end Sys2Proof.Machine
end

