-- ==== Sys2Proof/Tests/Slice0.lean ====
section
/-!
SUPPORT. Small tests of one step each, ill-formed commands that `Instr.wf` refuses, and for every statement with
hypotheses a state and operands that meet them.
-/

namespace Sys2Proof.Tests

open Machine

set_option Elab.async false

/-! ### Helpers -/

/-- A slot that holds a placed command of client 1. -/
def cmdSlot (op : Nat) (d : List Byte) : Slot := { state := .pending, opcode := op, client := 1, seq := 1, payload := d }

/-- A package in a mode whose slot 0 of EP0 holds a placed command of client 1, which has every role, and with an
outstanding nonce of 32 zero bytes. -/
def cmdIn (md : Mode) (op : Nat) (d : List Byte) (p : Pkg) : Pkg :=
  { p with sys := { p.sys with mode := md }
           mbx := { p.mbx with slots := [cmdSlot op d], clients := [{ id := 1, roles := ⟨true, true, true, true⟩ }]
                               nonces := [{ client := 1, bytes := List.replicate 32 0, issued := 0 }] } }

/-- The same as a state. -/
def cmdSt (md : Mode) (op : Nat) (d : List Byte) (p : Pkg) : State := { m := cmdIn md op d p }

/-- A package in IDLE with a placed REGION_LIMIT of client 1, whose roles and slots vary. -/
def limitAt (d : List Byte) (roles : Roles) (p : Pkg) : Pkg :=
  let q := cmdIn .idle 0x0202 d p
  { q with mbx := { q.mbx with clients := [{ id := 1, roles := roles, slots := [[0]] }] } }


/-! ### Witnesses: StepOnAnEmptyQueueIdles -/

theorem wit_empty_queue : ∃ s : State, s.pending = [] := ⟨State.reset, rfl⟩

/-! ### Witnesses: EveryStepConsumesOneCommand -/

theorem wit_step_next : ∃ s t : State, step s = .next t ∧ s.pending ≠ [] :=
  ⟨{ pending := [.resetNAsserted] }, _, rfl, by decide⟩

/-! ### Witnesses: NoEventLeavesRetired -/

theorem wit_retired : ∃ s t : State, s.m.sys.mode = .retired ∧ step s = .next t ∧ s.pending ≠ [] :=
  ⟨{ m := { sys := { mode := .retired } }, pending := [.packageReset] }, _, rfl, rfl, by decide⟩

/-! ### Witnesses: FuseCountsOnlyGrow -/

theorem wit_fuse_step : ∃ s t : State, step s = .next t ∧ s.m.sys.fuses.seals = 1 :=
  ⟨{ m := { sys := { fuses := { seals := 1 } } }, pending := [.quogusFinalTest] }, _, rfl, rfl⟩

/-! ### Witnesses: ReadbackSnapshotMovesAtBoundariesOnly -/

theorem wit_snapshot : ∃ (c : Instr) (s t : State), exec c s = .next t := ⟨.refclkValid 0, State.reset, _, rfl⟩

/-! ### Witnesses: PackageCommandsPassTheirChecks -/

theorem wit_passes_modeRequest : Passes specModeRequest true (slotIx 0 0) (cmdSt .idle 0x0102 [10, 0, 0, 0] {}).m := by
  decide +kernel

theorem wit_passes_serviceGrant : Passes specServiceGrant true (slotIx 0 0) (cmdSt .service 0x0103 ([0, 0] ++ toLe 2 60 ++ toLe 4 100) { config := some {}, ldg := { nv := { st := .joined, map_ := some {} } } }).m := by
  decide +kernel

theorem wit_passes_faultClear : Passes specFaultClear true (slotIx 0 0) (cmdSt .safeStop 0x0104 [0, 0, 0, 0] {}).m := by
  decide +kernel

theorem wit_passes_sysReset : Passes specSysReset true (slotIx 0 0) (cmdSt .idle 0x0105 (toLe 4 0xA55A) {}).m := by
  decide +kernel

theorem wit_passes_lcSeal : Passes specLcSeal true (slotIx 0 0) (cmdSt .service 0x0B01 (List.replicate 128 0) { sys := { fuses := { seals := 1, breaks := 1 }, lcRead := { seals := 1, breaks := 1 } }, key := { met := { pub := [4] } } }).m := by
  decide +kernel

theorem wit_passes_lcBreak : Passes specLcBreak true (slotIx 0 0) (cmdSt .idle 0x0B02 (List.replicate 128 0) { sys := { fuses := { seals := 1 }, lcRead := { seals := 1 } }, key := { met := { pub := [4] } } }).m := by
  decide +kernel

theorem wit_passes_lcScrap : Passes specLcScrap true (slotIx 0 0) (cmdSt .idle 0x0B03 (List.replicate 128 0) { key := { opr := { pub := [4] } } }).m := by
  decide +kernel

theorem wit_passes_imageLoad : Passes specImageLoad true (slotIx 0 0) (cmdSt .idle 0x0106 ([2, 0, 0, 0] ++ toLe 4 200 ++ toLe 4 0 ++ [7]) {}).m := by
  decide +kernel

theorem wit_passes_keyInstall : Passes (specKeyInstall true true) true (slotIx 0 0) (cmdSt .provision 0x0B06 ([1, 0, 0, 0] ++ List.replicate 196 0) {}).m := by
  decide +kernel

theorem wit_passes_timeStep : Passes specTimeStep true (slotIx 0 0) (cmdSt .idle 0x0C01 (List.replicate 144 0) { key := { opr := { pub := [4] } } }).m := by
  decide +kernel

theorem wit_passes_thmLimits : Passes specThmLimits true (slotIx 0 0) (cmdSt .idle 0x0C02 (toLe 2 1000 ++ toLe 2 1100 ++ toLe 2 1200 ++ [0, 0]) {}).m := by
  decide +kernel

theorem wit_passes_imageCommit :
    Passes specImageCommit true (slotIx 0 0) (cmdSt .idle 0x0107 [4, 0, 0, 0]
      { ready := [{ body := .siteMap { ver := 1, n := 2, mods := [{ node := 1 }, { node := 2 }] } }] }).m ∧
      (slotAt (cmdSt .idle 0x0107 [4, 0, 0, 0] {}).m 0).result = none := by
  decide +kernel

/-! ### Witnesses: PowerCommandsPassTheirChecks -/

theorem wit_passes_vcmdWrite : Passes specVcmdWrite true (slotIx 0 0) (cmdSt .idle 0x0201 (List.replicate 8 0) { vcmd := { rg := [{ src := .both }] } }).m := by
  decide +kernel

theorem wit_passes_regionLimit : Passes specRegionLimit true (slotIx 0 0) (cmdSt .idle 0x0202 ([3, 0, 0, 0] ++ toLe 4 3750) {}).m := by
  decide +kernel

theorem wit_passes_phasePolicy : Passes specPhasePolicy true (slotIx 0 0) (cmdSt .idle 0x0203 ([0, 1, 1, 0, 20, 60, 0, 0] ++ toLe 2 100 ++ toLe 2 60000) { pwr := { cl := [{ cfg := { type := .dcdc } }], port := [{ cfg := { use_ := .switching } }] }, eye := { map := [some 0] } }).m := by
  decide +kernel

theorem wit_passes_captureStart : Passes specCaptureStart true (slotIx 0 0) (cmdSt .idle 0x0204 ([1] ++ List.replicate 11 0 ++ [0, 0, 0, 0] ++ toLe 2 1 ++ [0, 0] ++ toLe 4 0 ++ toLe 4 16) {}).m := by
  decide +kernel

theorem wit_passes_eyeFaultClear : Passes specEyeFaultClear true (slotIx 0 0) (cmdSt .idle 0x0205 [95, 0, 0, 0] {}).m := by
  decide +kernel

theorem wit_passes_ceCoefStage : Passes specCeCoefStage true (slotIx 0 0) (cmdSt .idle 0x0301 ([0, 0, 0, 0] ++ List.replicate 32 0) { ce := { lane := [{ cfg := { used := true } }] } }).m := by
  decide +kernel

theorem wit_passes_ceCoefSwap : Passes specCeCoefSwap true (slotIx 0 0) (cmdSt .idle 0x0302 ([1] ++ List.replicate 19 0) { ce := { lane := [{ cfg := { used := true } }] } }).m := by
  decide +kernel

theorem wit_passes_rcControl : Passes specRcControl true (slotIx 0 0) (cmdSt .idle 0x0303 ([0, 0, 0xFF, 0xFF] ++ List.replicate 8 0xFF) { ce := { lane := [{ cfg := { used := true, rc := true } }] } }).m := by
  decide +kernel

theorem wit_passes_ldgPolicy : Passes specLdgPolicy true (slotIx 0 0) (cmdSt .idle 0x0401 ([1, 2, 3, 255, 15, 0] ++ toLe 2 2000) {}).m := by
  decide +kernel

theorem wit_passes_ldgJoin : Passes specLdgJoin true (slotIx 0 0) (cmdSt .idle 0x0402 [0, 0, 0, 0] { config := some {}, ldg := { nv := { map_ := some {} } } }).m := by
  decide +kernel

theorem wit_passes_ldgLeave : Passes specLdgLeave true (slotIx 0 0) (cmdSt .idle 0x0403 [0, 0, 0, 0] {}).m := by
  decide +kernel

/-! ### Witnesses: LinkAndFieldCommandsPassTheirChecks -/

theorem wit_passes_receiptAck : Passes specReceiptAck true (slotIx 0 0) (cmdSt .idle 0x0502 (List.replicate 24 0) { bil := { rcpts := [{ no := 0, st := .acked }] } }).m := by
  decide +kernel

theorem wit_passes_duoSwitch : Passes specDuoSwitch true (slotIx 0 0) (cmdSt .idle 0x0601 [0, 0, 0, 0] { duo := { arb := .dual } }).m := by
  decide +kernel

theorem wit_passes_duoReadmit : Passes specDuoReadmit true (slotIx 0 0) (cmdSt .idle 0x0602 [1, 0, 0, 0] {}).m := by
  decide +kernel

theorem wit_passes_dflEyeScan : Passes specEyeScan true (slotIx 0 0) (cmdSt .idle 0x0701 [0, 1, 0, 0, 1, 0, 0, 1, 10, 0, 0, 0] {}).m := by
  decide +kernel

theorem wit_passes_dflFaultInject : Passes specInject true (slotIx 0 0) (cmdSt .idle 0x0702 (List.replicate 28 0) {}).m := by
  decide +kernel

/-- A CAN_SCHEDULE payload for channel 0: one slot over a cycle of 1,000 µs, every entry FREE. -/
def freeSchedule : List Byte := ([0, 0] ++ toLe 2 1000 ++ List.replicate 6 0 ++ List.replicate 126 255) ++ List.replicate 2048 0

theorem freeSchedule_drop (k : Nat) (h : 136 ≤ k) : freeSchedule.drop k = List.replicate (2048 - (k - 136)) 0 := by
  have e : ([0, 0] ++ toLe 2 1000 ++ List.replicate 6 0 ++ List.replicate 126 255 : List Byte).length = 136 := by decide +kernel
  unfold freeSchedule
  rw [List.drop_append, e, List.drop_eq_nil_of_le (by omega), List.drop_replicate, List.nil_append]

theorem freeSchedule_le (k n : Nat) (h : 136 ≤ k) : le freeSchedule k n = leNat (List.replicate n 0) := by
  unfold le slice pad
  rw [freeSchedule_drop k h, List.replicate_append_replicate, List.take_replicate, Nat.min_eq_left (by omega)]

theorem freeSchedule_u8 (k : Nat) (h : 136 ≤ k) : u8 freeSchedule k = 0 := freeSchedule_le k 1 h

theorem freeSchedule_u16 (k : Nat) (h : 136 ≤ k) : u16 freeSchedule k = 0 := freeSchedule_le k 2 h

theorem freeSchedule_entries : (parsePricking freeSchedule).entries = List.replicate 1024 (.free, 0) := by
  unfold parsePricking
  simp only []
  rw [List.eq_replicate_iff]
  refine ⟨by rw [List.length_map, List.length_range], fun x hx => ?_⟩
  obtain ⟨i, _, rfl⟩ := List.mem_map.1 hx
  rw [freeSchedule_u16 _ (by omega)]; rfl

theorem freeSchedule_offs : (parsePricking freeSchedule).offs = [0] ∧ ((List.range 64).drop 1).all (fun s => u16 freeSchedule (8 + 2 * s) == 0xFFFF) = true := by decide +kernel

theorem freeSchedule_slot (k s : Nat) : slotEntry (parsePricking freeSchedule) k s = (.free, 0) := by
  unfold slotEntry
  rw [freeSchedule_entries]
  rcases Nat.lt_or_ge (64 * k + s) 1024 with h | h
  · rw [List.getD_replicate _ h]
  · rw [List.getD_eq_default _ _ (by rw [List.length_replicate]; exact h)]

theorem freeSchedule_ok : scheduleOk (canAt {} 0) freeSchedule = true := by
  unfold scheduleOk
  simp only [Bool.and_eq_true]
  refine ⟨⟨⟨?_, ?_⟩, ?_⟩, ?_⟩
  · unfold offsOk; rw [freeSchedule_offs.1]; simp only [Bool.and_eq_true]; exact ⟨⟨⟨by decide, by decide⟩, by decide +kernel⟩, freeSchedule_offs.2⟩
  · rw [freeSchedule_entries, List.all_eq_true]; intro i h; rw [List.getD_replicate _ (List.mem_range.1 h)]; rfl
  · rw [List.all_eq_true]; intro i _; rw [freeSchedule_slot]; rfl
  · rw [List.all_eq_true]; intro b hb; have : (canAt ({} : Pkg) 0).buf = List.replicate 64 none := rfl; rw [this, List.getD_replicate _ (List.mem_range.1 hb)]

theorem canSchedule_params (p : Pkg) (d : List Byte) : specCanSchedule.params p d = (inR 0 15 (u8 d 0) && inR 0 1 (u8 d 1) &&
    inR 100 65535 (u16 d 2) && idFits (u32 d 4) && (List.range 1024).all (fun i => u8 d (136 + 2 * i) == 0) &&
    scheduleOk (canAt p (u8 d 0)) d) := rfl

theorem wit_passes_canSchedule : Passes specCanSchedule true (slotIx 0 0) (cmdSt .idle 0x0801 freeSchedule {}).m := by
  have hs : slotAt (cmdSt .idle 0x0801 freeSchedule {}).m (slotIx 0 0) = cmdSlot 0x0801 freeSchedule := rfl
  have hp : specCanSchedule.params (cmdSt .idle 0x0801 freeSchedule {}).m freeSchedule = true := by
    have h0 : u8 freeSchedule 0 = 0 := by decide +kernel
    have hc : scheduleOk (canAt (cmdSt .idle 0x0801 freeSchedule {}).m 0) freeSchedule = true := freeSchedule_ok
    rw [canSchedule_params, h0, hc, List.all_eq_true.2 (fun i _ => by rw [freeSchedule_u8 _ (by omega)]; rfl)]
    decide +kernel
  unfold Passes Passes25
  rw [hs]
  refine ⟨⟨?_, rfl, hp, rfl⟩, ?_⟩
  · decide +kernel
  · decide +kernel

theorem wit_passes_canSend : Passes specCanSend true (slotIx 0 0) (cmdSt .idle 0x0803 (List.replicate 12 0) {}).m := by
  decide +kernel

theorem wit_passes_lswSet : Passes specLswSet true (slotIx 0 0) (cmdSt .idle 0x0901 ([0, 2] ++ toLe 2 10000) { lsw := { ch := [{ use := .pwm }] } }).m := by
  decide +kernel

theorem wit_passes_lswFaultClear : Passes specLswFaultClear true (slotIx 0 0) (cmdSt .idle 0x0902 [23, 0, 0, 0] {}).m := by
  decide +kernel

theorem wit_passes_batStringCfg : Passes specBatStringCfg true (slotIx 0 0) (cmdSt .idle 0x0A01 ([15, 1, 0, 0] ++ List.replicate 8 0 ++ toLe 2 100 ++ toLe 2 7000 ++ toLe 2 100 ++ toLe 2 9500 ++ toLe 4 100 ++ toLe 4 200 ++ List.replicate 8 0 ++ toLe 4 1000 ++ [0, 0] ++ toLe 2 100 ++ toLe 2 300 ++ [0, 0] ++ (((List.range 21).map (fun k => toLe 2 (k + 1))).flatten) ++ (((List.range 21).map (fun k => toLe 2 (k + 1))).flatten)) {}).m := by
  decide +kernel

theorem wit_passes_batReserve : Passes specBatReserve true (slotIx 0 0) (cmdSt .idle 0x0A02 [30, 0, 0, 0] {}).m := by
  decide +kernel

theorem wit_passes_paramWrite :
    let s := cmdSt .idle 0x0F05 (toLe 4 8 ++ toLe 4 1 ++ toLe 4 1) {}
    Passes (specParamWrite s.m) true (slotIx 0 0) s.m := by
  decide +kernel

/-! ### Witnesses: QueriesAnswerFromTheStateOrTheSnapshot -/

theorem wit_answers_sysInfo : Passes (specQuery 0x0101 0 (fun _ _ => true)) true (slotIx 0 0)
    (cmdSt .retired 0x0101 [] {}).m := by
  decide +kernel

theorem wit_answers_workStatus : Passes (specQuery 0x0F02 8 (fun _ _ => true)) true (slotIx 0 0)
    (cmdSt .boot 0x0F02 (List.replicate 8 0) {}).m := by
  decide +kernel

theorem wit_answers_workList : Passes (specQuery 0x0F03 6 (fun _ _ => true)) true (slotIx 0 0)
    (cmdSt .boot 0x0F03 (List.replicate 6 0) {}).m := by
  decide +kernel

theorem wit_answers_slotList : Passes (specQuery 0x0F04 1 (fun _ d => decide (u8 d 0 ≤ 2))) true (slotIx 0 0)
    (cmdSt .boot 0x0F04 [2] {}).m := by
  decide +kernel

theorem wit_answers_receiptFetch : Passes (specQuery 0x0501 12 (fun p d => decide (u8 d 8 ≤ 1) && zeros d 9 3 && ((receiptNo p (u64 d 0)).isSome || (mirroredReceipt p (u64 d 0)).isSome))) true (slotIx 0 0)
    (cmdSt .idle 0x0501 (List.replicate 12 0) { bil := { rcpts := [{ no := 1, st := .closed }] } }).m := by
  decide +kernel

theorem wit_answers_eventFetch : Passes (specQuery 0x0503 16 (fun _ d => inR 1 63 (u16 d 8) && zeros d 10 6)) true (slotIx 0 0)
    (cmdSt .idle 0x0503 (List.replicate 8 0 ++ [63] ++ List.replicate 7 0) {}).m := by
  decide +kernel

theorem wit_answers_canRingRead : Passes (specCanRingRead) true (slotIx 0 0)
    (cmdSt .idle 0x0802 ([15] ++ List.replicate 15 0 ++ [50, 0, 0, 0]) {}).m := by
  decide +kernel

theorem wit_answers_attest : Passes (specAttest) true (slotIx 0 0)
    (cmdSt .idle 0x0B05 (List.replicate 36 0) { key := { slots := [.done [1] [2], .empty] } }).m := by
  decide +kernel

theorem wit_answers_stateRead : Passes (specQuery 0x0F01 8 (fun _ d => readOk d)) true (slotIx 0 0)
    (cmdSt .idle 0x0F01 (toLe 4 0 ++ toLe 2 4048 ++ [0, 0]) {}).m := by
  decide +kernel

/-! ### Witnesses: NonceGetIssuesANonce -/

theorem wit_answers_nonceGet : Passes specNonceGet true (slotIx 0 0) (cmdSt .boot 0x0B04 [] {}).m := by
  decide +kernel

/-! ### Witnesses: FirstFailingCheckDecidesTheStatus -/

theorem wit_bad_opcode : ∃ (m : MsgIn) (x : Session), let p := { limitAt [] {} {} with mbx := { slots := [{}], clients := [{ id := 1, slots := [[0]] }] } }
    u8 m.body 12 < 64 ∧ m.ep * 64 + u8 m.body 12 < p.mbx.slots.length ∧ (slotAt p (m.ep * 64 + u8 m.body 12)).state ≠ .pending ∧
    (((clientOf p x.client).getD {}).slots.getD m.ep []).contains (u8 m.body 12) = true ∧ u32 m.body 4 = x.client ∧
    u16 m.body 2 + 32 = m.body.length ∧ isOpcode (u16 m.body 0) = false :=
  ⟨{ ep := 0, header := [], body := [0, 0, 0, 0, 1] ++ List.replicate 27 0 }, { client := 1 }, by decide +kernel⟩

theorem wit_check2 : let p := limitAt [1] ⟨true, true, true, true⟩ {}
    Placed specRegionLimit 0 p ∧ specRegionLimit.lenOk (slotAt p 0).payload = false := by decide +kernel

theorem wit_check3 : let p := limitAt (List.replicate 8 0) {} {}
    Placed specRegionLimit 0 p ∧ specRegionLimit.lenOk (slotAt p 0).payload = true ∧
      specRegionLimit.role ((clientOf p (slotAt p 0).client).getD {}).roles (slotAt p 0).payload = false := by decide +kernel

theorem wit_check4_bad : let p := limitAt (List.replicate 8 0) ⟨true, true, true, true⟩ { mbx := { seqs := [{ id := 1, any := true, high := 5 }] } }
    Passes23 specRegionLimit 0 p ∧ specRegionLimit.query = false ∧ seqCheck p (slotAt p 0) = .bad := by decide +kernel

theorem wit_check4_duplicate :
    let p := limitAt (List.replicate 8 0) ⟨true, true, true, true⟩ { mbx := { seqs := [{ id := 1, any := true, high := 1, acc := [{ seq := 1, digest := digest 0x0202 (List.replicate 8 0) }] }] } }
    Passes23 specRegionLimit 0 p ∧ specRegionLimit.query = false ∧ ∃ r, seqCheck p (slotAt p 0) = .dup r := by
  intro p
  have h : ∀ (p : Pkg) (s : Slot) (a : Accepted), (seqOf p s.client).any = true → newer s.seq (seqOf p s.client).high = false →
      (seqOf p s.client).acc.find? (fun x => x.seq == s.seq) = some a → a.digest = digest s.opcode s.payload →
      ∃ r, seqCheck p s = .dup r := by
    intro p s a h1 h2 h3 h4
    exact ⟨{ a.result with status := .duplicate }, by simp [seqCheck, h1, h2, h3, h4]⟩
  exact ⟨by decide +kernel, rfl, h p (cmdSlot 0x0202 (List.replicate 8 0)) { seq := 1, digest := digest 0x0202 (List.replicate 8 0) } (by decide +kernel)
    (by decide +kernel) rfl
    (congrArg₂ digest (show 0x0202 = (cmdSlot 0x0202 (List.replicate 8 0)).opcode from rfl)
      (show List.replicate 8 0 = (cmdSlot 0x0202 (List.replicate 8 0)).payload from rfl))⟩

theorem wit_check5 : let p := limitAt [4, 0, 0, 0, 0, 0, 0, 0] ⟨true, true, true, true⟩ {}
    Passes24 specRegionLimit 0 p ∧ specRegionLimit.params p (slotAt p 0).payload = false := by decide +kernel

theorem wit_check5_signed : let p := cmdIn .idle 0x0B03 (List.replicate 128 0) {}
    Passes24 specLcScrap 0 p ∧ (slotAt p 0).rsvOk = true ∧ specLcScrap.params p (slotAt p 0).payload = true ∧
      sigFails specLcScrap p (slotAt p 0) true = some false := by decide +kernel

theorem wit_check6_mode : let p := { limitAt (List.replicate 8 0) ⟨true, true, true, true⟩ {} with sys := { mode := .retired } }
    Passes25 specRegionLimit true 0 p ∧ specRegionLimit.modes p.sys.mode = false := by decide +kernel

theorem wit_check6_guard : let p := cmdIn .idle 0x0105 (toLe 4 0xA55A) { vcmd := { rg := [{ session := some .register }] } }
    Passes25 specSysReset true 0 p ∧ specSysReset.modes p.sys.mode = true ∧ specSysReset.guard p (slotAt p 0).payload ≠ 0 := by
  decide +kernel

theorem wit_check7 : let p := cmdIn .idle 0x0204 ([1] ++ List.replicate 15 0 ++ toLe 2 1 ++ [0, 0] ++ toLe 4 0 ++ toLe 4 16) { pwr := { capt := { st := .armed } } }
    Passes25 specCaptureStart true 0 p ∧ specCaptureStart.modes p.sys.mode = true ∧
      specCaptureStart.guard p (slotAt p 0).payload = 0 ∧ specCaptureStart.busy p (slotAt p 0).payload = true := by decide +kernel

theorem wit_check7_items : let p := limitAt (List.replicate 8 0) ⟨true, true, true, true⟩ { mbx := { work := List.replicate 256 { origin := .client 1 } } }
    Passes25 specRegionLimit true 0 p ∧ specRegionLimit.modes p.sys.mode = true ∧
      specRegionLimit.busy p (slotAt p 0).payload = false ∧ 256 ≤ (openItems p (slotAt p 0).client).length := by decide +kernel

theorem wit_all_checks : let p := limitAt (List.replicate 8 0) ⟨true, true, true, true⟩ {}
    Passes specRegionLimit true 0 p ∧ (openItems p (slotAt p 0).client).length < 256 := by decide +kernel

/-! ### Witnesses: StateConflictHasNoSideEffect -/

theorem wit_conflict_mode : let p := { limitAt (List.replicate 8 0) ⟨true, true, true, true⟩ {} with sys := { mode := .retired } }
    Passes25 specRegionLimit true 0 p ∧ specRegionLimit.modes p.sys.mode = false ∧ ∀ d, specRegionLimit.signed p d = none :=
  ⟨by decide +kernel, by decide, fun _ => rfl⟩

theorem wit_conflict_guard : let p := cmdIn .idle 0x0105 (toLe 4 0xA55A) { vcmd := { rg := [{ session := some .register }] } }
    Passes25 specSysReset true 0 p ∧ specSysReset.guard p (slotAt p 0).payload = 5 ∧ ∀ d, specSysReset.signed p d = none :=
  ⟨by decide +kernel, by decide +kernel, fun _ => rfl⟩

/-! ### Witnesses: HostPortEventsDoWhatTheySay -/

/-- A package with Stitch A active, both decoders reading A, and its host links up. -/
def hostUp : Pkg := { duo := { hoop := some .a }, sys := { hoopA := { owner := some .a }, hoopB := { owner := some .a } }
                      mbx := { up := [true, true, true], addrs := [some 1, some 2] }, sup := { vioOk := List.replicate 8 true } }

theorem wit_muted : muted { hostUp with sys := { hostUp.sys with hoopA := { owner := some .b } } } = true := by decide +kernel

theorem wit_port_queries : drives hostUp = true ∧ epUp hostUp 1 = true ∧ (hostUp.mbx.addrs.getD 1 none).isSome = true := by decide +kernel

theorem wit_spi_read : let p := { hostUp with mbx := { hostUp.mbx with queue := [{ ep := 2, type := 6 }] } }
    ∃ o q, p.mbx.queue = o :: q ∧ epUp p 2 = true ∧ muted p = false ∧ msgLen o ≤ 16 := ⟨{ ep := 2, type := 6 }, [], by decide +kernel⟩

theorem wit_idle_session : let p : Pkg := { mbx := { sessions := [{ id := 5 }] }, clk := 600000000000 }
    ∃ x, sessionOf p 5 = some x ∧ due p (x.last + p.mbx.idleMax * 1000000000) = true := ⟨{ id := 5 }, by decide +kernel⟩

/-! ### Witnesses: EnvelopeMessagesOpenUseAndCloseSessions -/

/-- The key of a session of the tests. -/
def testKey : List Byte := List.replicate 32 1

/-- A message of a type on EP0 in session 5, sealed under the key of the tests. -/
def msgOf (type sid ctr : Nat) (body : List Byte) : MsgIn :=
  let h := [1, byte type] ++ toLe 2 body.length ++ toLe 4 sid ++ toLe 8 ctr
  let n := slice h 4 12
  { ep := 0, port := 40740, header := h, body := body, tag := gcmTag testKey n h (gcmXor testKey n body) }

/-- A package with host links up, client 1 with slot 0 of EP0, and session 5 of that client. -/
def hostIn : Pkg :=
  { hostUp with mbx := { hostUp.mbx with slots := [{}], sessions := [{ id := 5, client := 1 }], clients := [{ id := 1, slots := [[0]] }] }
                key := { slots := [.done [1] [2], .empty], regs := [{ id := .session 5, die := some .a, bytes := testKey }] } }

/-- A sealed message of a type in session 5 meets `InSession`. -/
theorem sealed_in {type ctr : Nat} {body : List Byte} {x : Session} {p : Pkg} (h1 : awake p = true ∧ epUp p 0 = true)
    (h2 : Framed type (msgOf type 5 ctr body) p) (h3 : sessionOf p (msgOf type 5 ctr body).session = some x)
    (hk : sessionKey p (msgOf type 5 ctr body).session = some testKey)
    (h4 : 0 < (msgOf type 5 ctr body).counter ∧ (msgOf type 5 ctr body).counter < 2 ^ 63 ∧ (msgOf type 5 ctr body).counter ∉ x.seen ∧
      x.high ≤ (msgOf type 5 ctr body).counter + 1024) : InSession type (msgOf type 5 ctr body) x p := by
  refine ⟨h1.1, h1.2, h2, h3, ?_, h4⟩
  unfold tagOk
  rw [hk]
  exact beq_self_eq_true _

theorem wit_command : ∃ m x, InSession 1 m x hostIn ∧ u8 m.body 12 < 64 ∧ m.ep * 64 + u8 m.body 12 < hostIn.mbx.slots.length ∧
    (slotAt hostIn (m.ep * 64 + u8 m.body 12)).state ≠ .pending ∧
    (((clientOf hostIn x.client).getD {}).slots.getD m.ep []).contains (u8 m.body 12) = true ∧ u32 m.body 4 = x.client ∧
    u16 m.body 2 + 32 = m.body.length ∧ isOpcode (u16 m.body 0) = true :=
  ⟨msgOf 1 5 1 ([1, 1, 0, 0, 1] ++ List.replicate 27 0), { id := 5, client := 1 },
    sealed_in (by decide +kernel) (by decide +kernel) (by decide +kernel) (by decide +kernel) (by decide +kernel), by decide +kernel⟩

theorem wit_resultRead : let p := { hostIn with mbx := { hostIn.mbx with slots := [{ state := .done, result := some {} }] } }
    ∃ m x, InSession 3 m x p ∧ m.body.length = 4 ∧ u8 m.body 0 < 64 ∧ (slotAt p (m.ep * 64 + u8 m.body 0)).state = .done ∧
    (slotAt p (m.ep * 64 + u8 m.body 0)).result = some {} :=
  ⟨msgOf 3 5 1 [0, 0, 0, 0], { id := 5, client := 1 },
    sealed_in (by decide +kernel) (by decide +kernel) (by decide +kernel) (by decide +kernel) (by decide +kernel), by decide +kernel⟩

theorem wit_close : ∃ m x, InSession 7 m x hostIn ∧ m.body = [] :=
  ⟨msgOf 7 5 1 [], { id := 5, client := 1 },
    sealed_in (by decide +kernel) (by decide +kernel) (by decide +kernel) (by decide +kernel) (by decide +kernel), rfl⟩

theorem wit_open : ∃ m, awake hostIn = true ∧ rootOf hostIn.key = .ready ∧ epUp hostIn m.ep = true ∧ Framed 5 m hostIn ∧
    m.body.length = 229 ∧ m.session = 0 ∧ (clientOf hostIn (u32 m.body 0)).isSome = true ∧ m.sigOk = true ∧ hostIn.key.entropy = true :=
  ⟨{ msgOf 5 0 0 ([1] ++ List.replicate 228 0) with sigOk := true }, by decide +kernel⟩

/-! ### Witnesses: AcceptanceGivesWorkAnIdAndAFinalResult -/

/-- A package of the tests in IDLE whose slot 0 holds a checked command of a work id. -/
def checkedAt (op : Nat) (d : List Byte) (w : Option Nat) (p : Pkg) : Pkg :=
  let q := cmdIn .idle op d p
  { q with mbx := { q.mbx with slots := [{ cmdSlot op d with checked := true, work := w }] } }

theorem wit_accept_slot : ∀ w ∈ [none, some 1], let p := checkedAt 0x0202 (List.replicate 8 0) w hostUp
    drives p = true ∧ p.mtr.nvBlock = false ∧ (slotAt p 0).state = .pending ∧ (slotAt p 0).checked = true ∧
      seqCheck p (slotAt p 0) = .fresh ∧ (openItems p (slotAt p 0).client).length < 256 ∧ (slotAt p 0).opcode ≠ 0x0106 ∧
      acceptsLocal p = true ∧ mayAccept p 1 1 = true := by decide +kernel

theorem wit_accept_chunk : let p := checkedAt 0x0106 ([2, 0, 0, 0] ++ toLe 4 200 ++ toLe 4 0 ++ List.replicate 200 7) (some 1) hostUp
    drives p = true ∧ p.mtr.nvBlock = false ∧ (slotAt p 0).state = .pending ∧ (slotAt p 0).checked = true ∧
      seqCheck p (slotAt p 0) = .fresh ∧ (openItems p (slotAt p 0).client).length < 256 ∧ completes p (slotAt p 0).payload = true := by
  decide +kernel

theorem wit_accept_later : ∀ w ∈ [none, some 1], let p := checkedAt 0x0202 (List.replicate 8 0) w { hostUp with
      ldg := { nv := { map_ := some {} } }, dfn := { mirState := .buddy, nv := { owed := [{ id := 1, kind := 1 }] } } }
    drives p = true ∧ p.mtr.nvBlock = false ∧ (slotAt p 0).state = .pending ∧ (slotAt p 0).checked = true ∧
      seqCheck p (slotAt p 0) = .fresh ∧ (openItems p (slotAt p 0).client).length < 256 ∧
      acceptsLocal p = false ∧ mayAccept p 1 1 = false := by decide +kernel

theorem wit_accept_dlms : ∃ (p : Pkg) (d : DlmsPend), drives p = true ∧ p.mtr.nvBlock = false ∧
    p.bil.dlmsPend.find? (fun d => d.id == 1) = some d ∧ d.work = some 7 ∧ mayAccept p 7 1 = true :=
  ⟨{ hostUp with bil := { dlmsPend := [{ id := 1, isSet := true, obj := {}, work := some 7 }] } }, _, by decide +kernel, by decide, rfl, rfl, by decide +kernel⟩

/-! ### Witnesses: ImageChunksAreStoredAndVerified -/

theorem wit_chunk : let d : List Byte := [2, 0, 0, 0] ++ toLe 4 200 ++ toLe 4 0 ++ [7]
    memWf ({} : Pkg).store = true ∧ chunkOk d = true ∧ ((loadOf {} (imgKey d)).filter (fun l => l.total == u32 d 4)).isNone = true ∧
      ((loadOf {} (imgKey d)).filter (fun l => l.verify.isSome)).any (fun l => l.total != u32 d 4) = false := by
  decide +kernel

theorem wit_chunk_busy : let d : List Byte := [2, 0, 0, 0] ++ toLe 4 200 ++ toLe 4 4 ++ [7]
    let p : Pkg := { loads := [{ kind := 2, target := 0, total := 300, verify := some 1 }] }
    memWf p.store = true ∧ chunkOk d = true ∧ ((loadOf p (imgKey d)).filter (fun l => l.verify.isSome)).any (fun l => l.total != u32 d 4) = true := by
  decide +kernel

theorem wit_chunk_resumed : let d : List Byte := [2, 0, 0, 0] ++ toLe 4 200 ++ toLe 4 4 ++ [7]
    let p : Pkg := { loads := [{ kind := 2, target := 0, total := 200, parts := [(0, 1)] }], store := [(0x200000, 7)] }
    memWf p.store = true ∧ chunkOk d = true ∧ ((loadOf p (imgKey d)).filter (fun l => l.total == u32 d 4)).isNone = false ∧
      ((loadOf p (imgKey d)).filter (fun l => l.verify.isSome)).any (fun l => l.total != u32 d 4) = false := by
  decide +kernel

theorem wit_verify_bad : let p : Pkg := { loads := [{ kind := 2, verify := some 1 }], store := [(0x200000, 7)] }
    memWf p.store = true ∧ (∃ l, p.loads.find? (fun l => l.kind == 2 && l.verify.isSome) = some l) ∧ ¬(false = true) :=
  ⟨by decide, ⟨_, rfl⟩, by decide⟩

/-- An image trailer of a kind, signer kind and security number, for the key with these identifying bytes. -/
def trailer (kind sgn sec : Nat) (kid : List Byte) : List Byte :=
  (toLe 4 0x4E474951 ++ [byte kind, byte sgn, 0, 0] ++ List.replicate 8 0 ++ toLe 4 sec ++ List.replicate 4 0) ++ (kid ++ List.replicate 96 0)

/-- The store of a package that has loaded only this trailer, as an image of 128 bytes. -/
def trailered (base kind sgn sec : Nat) (kid : List Byte) : List Host.Cell := memWriteL base (trailer kind sgn sec kid) []

theorem read_back (a : Nat) (l : List Byte) : memReadL a l.length (memWriteL a l []) = l := by
  apply List.ext_getElem (by simp [memReadL])
  intro i h1 h2
  simp only [memReadL, List.getElem_map, List.getElem_range]
  rw [memRead_memWriteL _ _ _ _ rfl, if_pos ⟨by omega, by omega⟩]
  simp [h2]

theorem trailer_length (kind sgn sec : Nat) (kid : List Byte) (h : kid.length = 8) : (trailer kind sgn sec kid).length = 128 := by
  simp [trailer, h, toLe]

theorem pad_length (n : Nat) (l : List Byte) : (pad n l).length = n := by simp [pad]

theorem trailer_key (kind sgn sec : Nat) (kid : List Byte) (h : kid.length = 8) : slice (trailer kind sgn sec kid) 24 8 = kid := by
  have e : (toLe 4 0x4E474951 ++ [byte kind, byte sgn, 0, 0] ++ List.replicate 8 0 ++ toLe 4 sec ++ List.replicate 4 0 : List Byte).length = 24 := by simp [toLe]
  unfold slice trailer
  rw [List.drop_append, e, List.drop_eq_nil_of_le (by omega)]
  show pad 8 (kid ++ _) = kid
  unfold pad
  rw [List.append_assoc, List.take_append_of_le_length (by omega), List.take_of_length_le (by omega)]

theorem le_head (h r : List Byte) (o n : Nat) (hn : o + n ≤ h.length) : le (h ++ r) o n = le h o n := by
  unfold le slice pad
  rw [List.drop_append_of_le_length (by omega), List.append_assoc, List.take_append_of_le_length (by simp; omega),
    List.take_append_of_le_length (by simp; omega)]

theorem wit_verify_good_firmware :
    let p : Pkg := { loads := [{ kind := 1, total := 128, verify := some 1 }]
                     store := trailered 0 1 0 1 (pad 8 (Config.quogusKeyId 0)) }
    (∃ l, p.loads.find? (fun l => l.kind == 1 && l.verify.isSome) = some l ∧ trailerOk p 1 (trailerOf p 1 l.target l.total) = true) ∧
      ∃ f, bodyOf p 1 (memReadL (storeBase 1 0) 128 p.store) (.firmware 3) = some (.firmware f) ∧ bodyOk p (.firmware f) = true := by
  intro p
  refine ⟨⟨_, rfl, ?_⟩, _, rfl, rfl⟩
  have e : trailerOf p 1 0 128 = trailer 1 0 1 (pad 8 (Config.quogusKeyId 0)) := by
    have := read_back 0 (trailer 1 0 1 (pad 8 (Config.quogusKeyId 0)))
    rw [trailer_length _ _ _ _ (pad_length _ _)] at this
    exact this
  show trailerOk p 1 (trailerOf p 1 0 128) = true
  rw [e]
  have k : (quogusKey p (pad 8 (Config.quogusKeyId 0))).isSome = true := by
    unfold quogusKey
    rw [List.find?_isSome]
    exact ⟨0, by decide, by simp; decide⟩
  unfold trailerOk
  rw [trailer_key _ _ _ _ (pad_length _ _), k]
  unfold trailer u32 u8 u64 zeros
  repeat rw [le_head _ _ _ _ (by decide)]
  rw [if_pos rfl]
  decide +kernel

theorem wit_verify_good_siteMap :
    let p : Pkg := { key := { opr := { pub := [7] } }, loads := [{ kind := 4, total := 128, verify := some 1 }]
                     store := trailered 0x2C0000 4 1 0 (keyId [7]) }
    (∃ l, p.loads.find? (fun l => l.kind == 4 && l.verify.isSome) = some l ∧ trailerOk p 4 (trailerOf p 4 l.target l.total) = true) ∧
      ∃ x, bodyOf p 4 (memReadL (storeBase 4 0) 128 p.store) (.siteMap { ver := 1 }) = some x ∧ bodyOk p x = true ∧ ∀ f, x ≠ .firmware f := by
  intro p
  refine ⟨⟨_, rfl, ?_⟩, _, rfl, rfl, fun f h => by cases h⟩
  have hk : (keyId [7]).length = 8 := pad_length _ _
  have e : trailerOf p 4 0 128 = trailer 4 1 0 (keyId [7]) := by
    have := read_back 0x2C0000 (trailer 4 1 0 (keyId [7]))
    rw [trailer_length _ _ _ _ hk] at this
    exact this
  show trailerOk p 4 (trailerOf p 4 0 128) = true
  rw [e]
  unfold trailerOk
  rw [trailer_key _ _ _ _ hk, show (keyId [7] == keyId p.key.opr.pub) = true from beq_self_eq_true _]
  unfold trailer u32 u8 u64 zeros
  repeat rw [le_head _ _ _ _ (by decide)]
  rw [if_neg (by decide)]
  decide +kernel

/-! ### Witnesses: RecoveryMailboxServesTheBootRom -/

/-- A package in BOOT whose boot ROM serves the recovery mailbox. -/
def inRecovery : Pkg := { mbx := { up := [true, true, true] }, sup := { started := true }, key := { recov := true } }

theorem wit_recovery_read : let m := msgOf 8 0 0 ([1, 0x0F, 8] ++ List.replicate 29 0 ++ toLe 4 4 ++ [4, 0, 0, 0])
    inRecovery.sys.mode = .boot ∧ inRecovery.sup.started = true ∧ inRecovery.key.recov = true ∧ bootUp inRecovery m.ep = true ∧
    Framed 8 m inRecovery ∧ u8 m.body 12 = 0 ∧ (slotAt inRecovery (64 * m.ep)).state ≠ .pending ∧
    64 * m.ep < inRecovery.mbx.slots.length ∧ u16 m.body 2 + 32 = m.body.length ∧ u16 m.body 0 = 0x0F01 ∧
    (m.body.drop 32).length = 8 ∧ bootReadOk (m.body.drop 32) = true := by decide +kernel

theorem wit_recovery_chunk : let d : List Byte := [1, 0, 0, 0] ++ toLe 4 200 ++ toLe 4 0 ++ [7]
    let m := msgOf 8 0 0 ([6, 1, 13] ++ List.replicate 29 0 ++ d)
    bootUp inRecovery m.ep = true ∧ Framed 8 m inRecovery ∧ u8 m.body 12 = 0 ∧ u16 m.body 2 + 32 = m.body.length ∧
    u16 m.body 0 = 0x0106 ∧ m.body.drop 32 = d ∧ inR 13 4064 d.length = true ∧ chunkOk d = true ∧
    (loadOf inRecovery (imgKey d)).any (fun l => l.verify.isSome) = false ∧ inRecovery.mtr.nvBlock = false ∧
    covers (u32 d 4) (((loadOf inRecovery (imgKey d)).filter (fun l => l.total == u32 d 4)).elim [] (·.parts) ++
      [(u32 d 8, d.length - 12)]) = false := by decide +kernel

/-! ### Witnesses: SupplyCrossingsStartAndEndTheHold -/

theorem wit_supply_release : let p : Pkg := {}
    p.sup.upAt = none ∧ p.sys.mode = .boot ∧ p.sys.lcRead.lc ≠ .scrapped ∧ p.sup.vanaOk = false ∧ p.sup.started = false := by decide +kernel

theorem wit_supply_release_starts : let p : Pkg := { sup := { vanaOk := true, vioOk := List.replicate 8 true } }
    p.sup.upAt = none ∧ p.sys.mode = .boot ∧ p.sys.lcRead.lc ≠ .scrapped ∧ ([250] : List Int).any (fun t => t ≥ 1100) = false ∧
      p.sys.thermHold = false ∧ p.sup.started = false ∧ p.sup.vanaOk = true ∧ p.sup.vioOk.contains false = false := by decide +kernel

theorem wit_supply_warn : let p : Pkg := { sup := { upAt := some 0 } }
    p.sup.warn = false ∧ p.sup.upAt.isSome = true := by decide

theorem wit_supply_recovered : let p : Pkg := { sup := { upAt := some 0, warn := true }, sys := { mode := .deliver } }
    p.sup.warn = true ∧ p.sup.upAt.isSome = true ∧ inMode p [.armed, .deliver, .derate, .isolated, .service] = true := by decide

theorem wit_supply_inhibit : let p : Pkg := { sup := { warnAt := some 0 } }
    p.sup.inhibit = false ∧ p.sup.warnAt = some 0 := by decide

theorem wit_supply_rail_running : ({ sup := { started := true } } : Pkg).sup.started = true := by decide

theorem wit_supply_rail_starts : let p : Pkg := { sup := { upAt := some 0 } }
    p.sup.started = false ∧ p.sup.upAt.isSome = true ∧ p.sys.mode ≠ .retired ∧ p.sys.lcRead.lc ≠ .scrapped ∧
      p.sys.thermHold = false ∧ inR 450 550 500 = true ∧ p.sup.vioOk.length ≤ (List.replicate 8 330).length ∧
      ∀ v ∈ List.replicate 8 330, (vioLevel v).isSome = true := by decide +kernel

theorem wit_supply_rail_fails : let p : Pkg := { sup := { started := true }, sys := { mode := .deliver } }
    p.sup.started = true ∧ inMode p [.armed, .deliver, .derate, .isolated, .service] = true := by decide

theorem wit_supply_start_timeout : let p : Pkg := { sup := { upAt := some 0 }, clk := 1000000000 }
    p.sup.started = false ∧ dueO p (p.sup.upAt.map (· + 1000000000)) = true := by decide +kernel

/-! ### Witnesses: PackageResetsAreAskedForAndAsserted -/

theorem wit_reset_asked : let p : Pkg := { sys := { mode := .idle } }
    p.sys.mode ≠ .retired ∧ p.sys.mode ≠ .reset := by decide

theorem wit_reset_retried : let p : Pkg := { sys := { mode := .safeStop, retryDue := some 0 }, duo := { arb := .none } }
    p.duo.arb = .none ∧ dueO p p.sys.retryDue = true ∧ p.sys.mode ≠ .retired ∧ p.sys.mode ≠ .reset := by decide +kernel

theorem wit_reset_waits : let p : Pkg := { sys := { pendingRst := [.pin] }, duo := { ss := { running := true } } }
    p.duo.ss.running = true := by decide

theorem wit_reset_held : let p : Pkg := { sys := { mode := .safeStop, pendingRst := [.thermal] }, mtr := { save := .complete } }
    p.sys.pendingRst.contains .thermal = true ∧ p.sys.pendingRst.contains .por = false ∧ p.duo.ss.running = false ∧
      p.mtr.save = .complete ∧ p.sys.mode ≠ .retired ∧ p.sys.fuses = p.sys.lcRead ∧ p.sys.lcRead.lc ≠ .scrapped := by decide

theorem wit_reset_por : let p : Pkg := { sup := { upAt := some 0 } }
    p.sup.upAt.isSome = true ∧ p.sys.mode ≠ .retired ∧ p.sys.fuses = p.sys.lcRead := by decide

/-! ### Witnesses: BootAndSelfTestLeadToTheLifeCyclesMode -/

theorem wit_boot_release : let p : Pkg := { sys := { mode := .reset, thermHold := true }, thm := { cool := 100000 }
                                            sup := { upAt := some 0, vanaOk := true, vioOk := List.replicate 8 true } }
    p.sys.thermHold = true ∧ p.thm.cool ≥ 100000 ∧ p.sys.mode ≠ .retired ∧ p.sup.upAt.isSome = true ∧ p.sup.started = false ∧
      p.sys.lcRead.lc ≠ .scrapped ∧ p.sup.vanaOk = true ∧ p.sup.vioOk.contains false = false := by decide +kernel

theorem wit_boot_firmware : let p : Pkg := { sup := { started := true }, key := { next := some 1 } }
    p.sys.mode = .boot ∧ p.sup.started = true ∧ p.key.next = some 1 ∧ slotOk p ([{}, { ok := true, secVer := 1 }].getD 1 {}) = true := by
  decide +kernel

theorem wit_boot_pass : let p : Pkg := { sys := { mode := .selfTest, lcRead := { prov := true, seals := 1 } } }
    p.sys.mode = .selfTest ∧ p.sys.lcRead.lc = .field := by decide +kernel

theorem wit_boot_fail : ({ sys := { mode := .selfTest } } : Pkg).sys.mode = .selfTest ∧ ({ ground := false } : SelfTest).ground = false := by decide

theorem wit_boot_final : let p : Pkg := { sys := { mode := .boot, fuses := { prov := false } } }
    p.sys.fuses.lc = .blank ∧ p.mtr.nvBlock = false ∧ p.sys.mode ≠ .retired ∧ p.sys.mode ≠ .reset := by decide

theorem wit_boot_clear : let p : Pkg := { sys := { mode := .safeStop }, sup := { warnOff := some 0 }, clk := 1000000000
                                          duo := { hoop := some .a, ss := { latched := true, mask := 8, own := some (true, false) } } }
    p.duo.ss.own = some (true, false) ∧ p.sys.mode = .safeStop ∧ awake p = true ∧ p.duo.ss.latched = true ∧ p.duo.ss.mask &&& 0x15 = 0 ∧
      latchedFault p = false ∧ p.sys.faultCyc = false ∧ p.sup.warn = false ∧ dueO p (p.sup.warnOff.map (· + 1000000000)) = true := by decide +kernel

/-! ### Witnesses: ModeTimersEndWhatTheyTime -/

theorem wit_timer_arm : let p : Pkg := { sys := { mode := .armed, armUntil := some 0 } }
    p.sys.mode = .armed ∧ dueO p p.sys.armUntil = true ∧ anySession p = false := by decide +kernel

theorem wit_timer_derate : let p : Pkg := { sys := { mode := .derate, freeCycles := 100 } }
    p.sys.mode = .derate ∧ p.sys.freeCycles ≥ 100 := by decide

theorem wit_timer_grant : let p : Pkg := { sys := { mode := .service, grant := some {} } }
    p.sys.grant = some {} ∧ p.sys.mode = .service ∧ due p 0 = true ∧ due p 2000000 = false := by decide +kernel

theorem wit_timer_lease : let p : Pkg := { sys := { mode := .idle, leaseWait := some 0 } }
    dueO p p.sys.leaseWait = true ∧ p.ldg.everQ = false ∧ p.sys.mode = .idle := by decide +kernel

theorem wit_sample : dieMax (sampled [250] {}) = some 450 := by decide +kernel

theorem wit_sample_stops : let p : Pkg := { sys := { mode := .deliver }, thm := { sens := [{ hot := 2 }] } }
    dieMax (sampled [1450] p) = some 1650 ∧ (1650 : Int) > p.thm.tStop ∧ inMode p [.armed, .deliver, .derate, .isolated, .service] = true ∧
      (sampled [1450] p).any (fun y => decide (y.hot ≥ 3)) = true ∧ p.sys.thermHold = false ∧ p.sys.pendingRst = [] ∧
      p.sys.mode ≠ .retired ∧ p.sys.mode ≠ .reset := by decide +kernel

/-! ### Witnesses: ClocksMemoriesAndDecodersKeepTheirState -/

theorem wit_clock_domain : (3 : Fin 12).val ≠ 4 ∧ activeDie { duo := { hoop := some .a } } = some .a := by decide

theorem wit_reference : let p : Pkg := { sys := { ref0Ok := true, ref1Ok := true } }
    (if (0 : Fin 2).val = 0 then p.sys.ref1Ok else p.sys.ref0Ok) = true ∧
      (let q : Pkg := { sys := { ref0Ok := true, ref1Ok := false } }; (if (0 : Fin 2).val = 0 then q.sys.ref1Ok else q.sys.ref0Ok) = false) := by
  decide

theorem wit_intervals : hoopIv 40000 = .code .a ∧ hoopIv 80000 = .code .b ∧ hoopIv 60000 = .bad ∧ hoopIv 31999 = .bad ∧ hoopIv 92001 = .bad ∧
    ({} : Pkg).sys.noOwnerHold = false := by decide

theorem wit_decoder : let p : Pkg := { sys := { mode := .deliver, hoopA := { owner := some .a, iv := .code .a, run := 2 }, hoopG := { owner := some .a, iv := .code .a } } }
    (decoderOf p .a).iv ≠ .bad ∧ (decoderOf p .a).errors < 253 ∧ (HoopWho.ground.decoder p).iv ≠ .bad ∧ p.sys.hoopG.owner.isSome = true ∧
      inMode p [.armed, .deliver, .derate, .isolated, .service] = true ∧ p.sys.noOwnerHold = false := by decide

theorem wit_no_owner_held : let p : Pkg := { sys := { noOwnerHold := true } }
    p.sys.noOwnerHold = true ∧ p.sys.hoopG.owner = none := by decide

/-! ### Witnesses: FailingDiesLoseTheirPart -/

/-- A package in DUAL with Stitch A active and a fresh PASS of Stitch B. -/
def dual : Pkg := { duo := { arb := .dual, hoop := some .a, a := { st := .active }, b := { st := .standby, report := some ({ die := .b, verdict := .pass }, 0) }
                             swWork := [7] } }

theorem wit_heartbeat : (dieOf dual .a).beats = true := by decide

theorem wit_fault_frame : (Crit.memory = .lockstep ∨ Crit.memory = .memory ∨ Crit.memory = .self) ∧
    ¬(Crit.heartbeat = .lockstep ∨ Crit.heartbeat = .memory ∨ Crit.heartbeat = .self) := by decide

theorem wit_die_fault : activeDie dual = some .a ∧ dual.duo.arb = .dual ∧ (dieOf dual .a).st = .active ∧ mayTakeOver dual Die.a.other = true ∧
    activeDie dual = some Die.b.other ∧ (dieOf dual .b).st = .standby := by decide +kernel

theorem wit_planned_flip : activeDie dual = some .a ∧ dual.duo.swWork = [7] ∧ mayTakeOver dual Die.a.other = true ∧
    flipSlot dual Die.a.other = true := by decide +kernel

/-! ### Witnesses: MirrorsAndReportsMakeAStandby -/

/-- A package in SYNC with Stitch A active and Stitch B a synchronised candidate in soak. -/
def soaking : Pkg := { duo := { arb := .sync, hoop := some .a, auto := true, a := { st := .active }
                                b := { st := .candidate, soak := true, soakFrom := some 0, shadow := { synced := true, good := [1] } } }
                       sys := { hoopG := { owner := some .a } }, clk := 600000000000 }

/-- The same with a FAILED or TESTING Stitch B in SOLO. -/
def returning (st : DieState) : Pkg := { soaking with duo := { soaking.duo with arb := .solo, b := { st := st, failedAt := some 0 } } }

theorem wit_shadow : shadows soaking .b = true ∧ shadows soaking .a = false ∧ (dieOf soaking .b).shadow.synced = true ∧
    (dieOf soaking .b).shadow.good.getD (0 : Fin 8).val 0 ≥ 1 ∧ (dieOf soaking .b).shadow.good.getD (1 : Fin 8).val 0 = 0 := by decide

theorem wit_report_verdicts : let full : Shadow := { synced := true, supAt := 600000000000, sets := 128 }
    let at_ := fun z => ({ soaking with duo := { soaking.duo with b := { soaking.duo.b with shadow := z } } } : Pkg)
    (reportOf (at_ full) .b).verdict = .pass ∧ (reportOf (at_ { full with supAt := 0 }) .b).verdict = .staleMirror ∧
    (reportOf (at_ { full with run := 3 }) .b).verdict = .failMismatch ∧ (reportOf (at_ { full with sets := 0 }) .b).verdict = .coverage ∧
    (runTests { marchOk := false } false 0 full).failed = true ∧ (runTests {} false 0 full).failed = false := by decide +kernel

theorem wit_soak_over : (dieOf soaking .b).st = .candidate ∧ soaking.duo.arb = .sync ∧ (dieOf soaking .b).soak = true ∧
    (dieOf soaking .b).soakFrom = some 0 ∧ due soaking (0 + soaking.duo.soak * 1000000) = true ∧
    due { soaking with clk := 1 } (0 + soaking.duo.soak * 1000000) = false := by decide +kernel

theorem wit_stale_report : (dieOf { soaking with duo := { soaking.duo with b := { st := .standby, report := some ({ die := .b }, 0) } } } .b).st = .standby ∧
    due soaking (0 + 10000000) = true ∧ due { soaking with clk := 1 } (0 + 10000000) = false := by decide +kernel

theorem wit_full_sync : (dieOf { soaking with duo := { soaking.duo with b := { st := .candidate } } } .b).st = .candidate ∧
    (dieOf { soaking with duo := { soaking.duo with b := { st := .candidate } } } .b).shadow.synced = false := by decide

theorem wit_returning : (dieOf (returning .failed) .b).st = .failed ∧ (returning .failed).duo.arb = .solo ∧ (returning .failed).duo.auto = true ∧
    (dieOf (returning .failed) .b).failedAt = some 0 ∧ due (returning .failed) (0 + 1000000000) = true ∧
    readmitCount (returning .failed) .b < (returning .failed).duo.maxReadmit ∧ (dieOf (returning .testing) .b).st = .testing := by decide +kernel

/-! ### Witnesses: SafeStopTriggersStartAndItsStepsOpenThePorts -/

/-- A package whose safe-stop sequence runs since instant 0. -/
def stopping (clk : Nat) : Pkg := { duo := { ss := { running := true, left_ := [52], acLow := [2000000] } }, clk := clk }

theorem wit_stop_mode : inMode { sys := { mode := .deliver } } [.armed, .deliver, .derate, .isolated, .service] = true ∧
    inMode { sys := { mode := .idle } } [.armed, .deliver, .derate, .isolated, .service] = false ∧
    (stopping 0).duo.ss.running = true ∧ ({} : Pkg).duo.ss.running = false ∧ ((2 : Fin 5) = 2 ∨ (2 : Fin 5) = 3) := by decide

theorem wit_stop_amps : (4999 : Int).natAbs < 5000 ∧ (-5000 : Int).natAbs ≥ 5000 ∧ (stopping 0).duo.ss.acLow.getD (0 : Fin 2).val 0 > 1000000 ∧
    (stopping 0).duo.ss.acLow.getD (1 : Fin 2).val 0 ≤ 1000000 := by decide

theorem wit_stop_forced : due (stopping 500000000) ((stopping 500000000).duo.ss.clk + 500000000) = true ∧
    due (stopping 0) ((stopping 0).duo.ss.clk + 500000000) = false := by decide

/-! ### Witnesses: BoundariesTakeEventsThenWorkThenTheNewCycle -/

theorem wit_boundary_supply : ({} : Pkg).sup.upAt = none ∧ ({ sup := { upAt := some 0 } } : Pkg).sup.upAt.isSome = true ∧
    ({ sup := { upAt := some 0 } } : Pkg).sup.started = false ∧ ({ sup := { started := true } } : Pkg).sup.started = true := by decide

theorem wit_boundary_quiet : let p : Pkg := { duo := { hoop := some .a }, sys := { mode := .idle } }
    activeDie p = some .a ∧ p.eye.patErr ≤ p.eye.patSeen ∧ p.ce.stopOwed = false ∧ p.sys.leaseOwed = false ∧ p.sys.mode = .idle ∧
      p.duo.swDue = false ∧ activeDie {} = none := by decide

theorem wit_boundary_item : let w : WorkItem := { id := 1, opcode := 0x0201, origin := .client 0, state := .accepted, stopped := true }
    w.origin = .client 0 ∧ actsOnCluster w.opcode w.payload {} = true ∧ guardNow w.opcode w.id w.payload {} ≠ 0 ∧ w.state = .accepted ∧
      guardNow 0x0C01 1 [] { sys := { mode := .idle } } = 0 := by decide +kernel

/-! ### Witnesses: FastCyclesRegulateAClusterAndCheckItsLimits -/

/-- A DC/DC cluster 0 in a state, with its watch on and a fall of its output. -/
def cluster0 (st : ClState) (isoOn : Bool) : Pkg :=
  { pwr := { cl := [{ cfg := { type := .dcdc }, run := { st := st, watch := true, isoOn := isoOn, meas := List.replicate 8 1000, ticks := 200000000 }
                      dyn := { vout := 995 } }] } }

theorem wit_fast_due : cycleDue {} (0 : Fin 8).val = false ∧
    cycleDue { pwr := { cl := [{ cfg := { type := .dcdc }, dyn := { fcDue := true } }] } } (0 : Fin 8).val = true := by decide

theorem wit_fast_state : (clAt (cluster0 .ramp false) 0).cfg.type ≠ .unused ∧ (clAt (cluster0 .ramp false) 0).run.st = .ramp ∧
    (clAt (cluster0 .ramp false) 0).run.watch = true ∧
    (clAt (cluster0 .ramp false) 0).dyn.vout * 8 * 1000 < sumI (clAt (cluster0 .ramp false) 0).run.meas * 996 ∧
    (clAt (cluster0 .regulate false) 0).run.ticks > 10 * ticksMs ∧ (clAt (cluster0 .ramp true) 0).run.isoOn = true ∧
    (clAt (cluster0 .ramp false) 0).run.ref = effTarget (cluster0 .ramp false) 0 ∧ breach (dropLatched 0 (cluster0 .ramp false)) 0 = none ∧
    (clAt (cluster0 .off false) 0).run.st ≠ .ramp := by decide +kernel

/-! ### Witnesses: ClustersStartMatchAndStop -/

/-- Cluster 0 alone in a state, of a type. -/
def oneCluster (type : ClType) (r : ClusterRun) : Pkg := { pwr := { cl := [{ cfg := { type := type, vRated := 1000 }, run := r }] } }

theorem wit_start_refused : (clAt (oneCluster .dcdc { startPend := true }) 0).run.st = .off ∧
    startCause { oneCluster .dcdc { startPend := true } with pwr := { cl := [{ cfg := { type := .dcdc }, run := { startPend := true }, rw := { minPh := 1 } }] } } 0 = some 3 := by
  decide +kernel

theorem wit_start_accepted : startCause { pwr := { cl := [{ cfg := { type := .dcdc }, run := { startPend := true }, rw := { minPh := 0 } }] } } 0 = none ∧
    (clAt (oneCluster .dcdc { startPend := true }) 0).run.startPend = true ∧ (clAt (oneCluster .dcdc {}) 0).cfg.type = .dcdc := by decide +kernel

theorem wit_measuring : let p := oneCluster .dcdc { st := .prebias, measuring := true, meas := List.replicate 8 10 }
    (clAt p 0).run.meas.length ≥ 8 ∧ sumI ((clAt p 0).run.meas.take 8) * 5 < 8 * (clAt p 0).cfg.vRated ∧
      (let q := oneCluster .dcdc { st := .prebias, measuring := true, meas := List.replicate 8 1000 }
       sumI ((clAt q 0).run.meas.take 8) * 5 ≥ 8 * (clAt q 0).cfg.vRated ∧ (clAt q 0).dyn.vin * 5 ≤ (clAt q 0).cfg.vRated) := by decide +kernel

theorem wit_measure_lost : ({ mtr := { meter := List.replicate 6 { ph := [{ lost := true }] } } : Pkg }.mtr.meter.getD (4 + 0) {}).ph.any (·.lost) = true := by
  decide +kernel

theorem wit_prebias_waits : let p := oneCluster .dcdc { st := .prebias }
    (clAt p 0).run.measuring = false ∧ r79 p 0 = false ∧ (∀ k ∈ feeders p (clAt p 0).cfg.link, (clAt p k).run.st = .regulate) ∧
      feederFailed p 0 = false := by decide +kernel

theorem wit_match : let p := oneCluster .dcdc { st := .match_, isoOn := true, settle := some 0, stopPend := true }
    (clAt p 0).run.st = .match_ ∧ (clAt p 0).run.isoOn = true ∧ due p 0 = true ∧ (clAt p 0).run.stopPend = true ∧
      due { p with clk := 100000000 } ((clAt p 0).run.since + 100000000) = true ∧ due p ((clAt p 0).run.since + 100000000) = false := by decide +kernel

theorem wit_ramp_down : (clAt (oneCluster .afe { st := .rampDown }) 0).run.clamp = 0 ∧ (clAt (oneCluster .dcdc { st := .rampDown, below5 := true }) 0).run.below5 = true := by
  decide +kernel

theorem wit_recovery : let p : Pkg := { oneCluster .dcdc { st := .faulted } with clk := 1000000000 }
    (clAt p 0).run.st = .faulted ∧ p.sys.mode ≠ .safeStop ∧ (∀ q ∈ fusedPorts p 0, portAvail p q = true) ∧
      due p ((clAt p 0).run.since + 1000000000) = true := by decide +kernel

theorem wit_prebias_ready : let p : Pkg := { pwr := { cl := [{ cfg := { type := .afe }, run := { st := .prebias }, dyn := { cfgBoot := true } }] }
                                             sys := { mode := .armed, hoopG := { owner := some .a } }, clk := 1000000 }
    r79 p 0 = true ∧ (clAt p 0).cfg.type ≠ .dcdc ∧ (clAt p 0).run.st = .prebias := by decide +kernel

theorem wit_feeder_failed : let p : Pkg := { pwr := { cl := [{ cfg := { type := .dcdc }, run := { st := .prebias } }, { cfg := { type := .afe }, run := { st := .faulted } }] } }
    feederFailed p 0 = true ∧ (clAt p 0).run.st = .prebias := by decide +kernel

/-! ### Witnesses: PhasesShedReturnAndFollowTheCarrier -/

/-- A running cluster 0 of one switching port 0 in a phase state. -/
def onePort (st : PhaseSt) (periods : Nat) : Pkg :=
  { pwr := { cl := [{ cfg := { type := .dcdc, period := 1024 }, run := { st := .regulate } }]
             port := [{ cfg := { use_ := .switching }, run := { st := st, periods := periods } }] }
    eye := { map := [some 0] } }

theorem wit_port_shedding : phaseOf (onePort .shedding 32) (0 : Fin 96).val = some (0, [0]) ∧ (ptAt (onePort .shedding 32) 0).run.st = .shedding ∧
    (ptAt (onePort .shedding 32) 0).run.periods ≥ 32 ∧ (ptAt (onePort .active 0) 0).run.st ≠ .shedding := by decide +kernel

theorem wit_port_returning : phaseOf (onePort .returning 4) (0 : Fin 96).val = some (0, [0]) ∧ (ptAt (onePort .returning 4) 0).run.st = .returning ∧
    (ptAt (onePort .returning 4) 0).run.periods ≥ 4 := by decide +kernel

theorem wit_port_carrier : clusterOf (onePort .active 0) (0 : Fin 96).val = some 0 ∧ (ptAt (onePort .active 0) 0).cfg.use_ = .switching ∧
    (clAt (onePort .active 0) 0).cfg.type ≠ .unused ∧ (swPorts (onePort .active 0) 0).head? = some 0 ∧ clusterOf {} 0 = none := by decide +kernel

/-! ### Witnesses: GatesFollowTheirStagesAndLatch -/

/-- Port 0 of cluster 0 in service, as its row gives it. -/
def oneEyelet (e : EyePort) (x : EyePin) : Pkg :=
  { eye := { map := [some 0], port := [e], pin := [x] }, sys := { mode := .service, hoopG := { owner := some .a } }
    pwr := { cl := [{}] } }

theorem wit_eye_edge : let p := oneEyelet { mode := .static_ } { pulseA := true }
    p.sys.hoopG.owner = some .a ∧ (eyAt p (0 : Fin 96).val).mode = .static_ ∧ ((pinAt p 0).lines .a).1 = true ∧ (clusterOf p 0).isSome = true ∧
      (0 : Fin 96).val < p.eye.pin.length ∧ ((some (true, true) : Option (Bool × Bool)).getD (false, true)).1 = true ∧ ((some (false, true) : Option (Bool × Bool)).getD (true, true)).1 = false ∧
      p.sys.hoopG.owner ≠ some .b := by decide +kernel

theorem wit_eye_word : (eyAt (oneEyelet { wordWait := true, clr := some .ack } {}) (0 : Fin 96).val).wordWait = true ∧
    (eyAt (oneEyelet { wordWait := true, clr := some .ack } {}) 0).clr = some .ack ∧ (eyAt (oneEyelet { wordWait := true } {}) 0).clr ≠ some .ack ∧
    (eyAt (oneEyelet {} {}) 0).wordWait = false := by decide

theorem wit_eye_pattern : (eyAt (oneEyelet { mode := .switching } { en := true }) (0 : Fin 96).val).mode = .switching ∧
    (pinAt (oneEyelet { mode := .switching } { en := true }) 0).en = true ∧ (pinAt (oneEyelet {} {}) 0).en = false := by decide

theorem wit_eye_clear : let p := oneEyelet { clr := some .enLow } {}
    (eyAt p (0 : Fin 96).val).clr = some .enLow ∧ due { p with clk := 100000000 } ((eyAt p 0).clrSince + 100000000) = true ∧
      due p ((eyAt p 0).clrSince + 100000000) = false := by decide

theorem wit_eye_force : let p := { oneEyelet {} {} with sys := { (oneEyelet {} {}).sys with lcRead := { seals := 1, breaks := 1 } } }
    clusterOf p (0 : Fin 96).val = some 0 ∧ 3 % 8 ≤ 3 ∧ ¬(3 % 8 = 2 ∧ (eyAt p 0).mode = .static_) ∧ p.sys.mode = .service ∧ lcOf p = .service ∧ (clAt p 0).run.st = .off ∧
      4 % 8 > 3 ∧ clusterOf {} 0 = none := by decide

/-! ### Witnesses: SynchronisationCapturesAndLearningAdvance -/

/-- Cluster 0 with SYNC_IN, having accepted edges up to an instant. -/
def synced (edges : Nat) (src : Bool) : Pkg :=
  { pwr := { cl := [{ cfg := { type := .dcdc, period := 1000, syncIn := true, syncMul := 1 }
                      dyn := { lastEdge := some 0, edges := edges, srcSync := src } }] } }

theorem wit_sync_edge : let c := clAt (synced 7 false) (0 : Fin 8).val
    c.cfg.syncIn = true ∧ c.cfg.type ≠ .unused ∧ c.dyn.lastEdge = some 0 ∧ (1020 - 0) * 100 ≤ c.cfg.period * c.cfg.syncMul * 102 ∧
      (980 - 0) * 100 ≥ c.cfg.period * c.cfg.syncMul * 98 ∧ (1021 - 0) * 100 > c.cfg.period * c.cfg.syncMul * 102 ∧ c.dyn.srcSync = false ∧
      (clAt (updDyn 0 (fun x => { x with lastEdge := some 1000, edges := min (x.edges + 1) 8 }) (synced 7 false)) 0).dyn.edges ≥ 8 ∧
      (clAt (synced 8 true) 0).dyn.srcSync = true ∧ (clAt {} 0).cfg.syncIn = false := by decide +kernel

theorem wit_sync_offset : offsetOk {} (0 : Fin 8).val (wr 5 0x1FF 9 0 (clAt {} 0).rw.offset) = true ∧ awake { synced 7 false with duo := { hoop := some .a } } = true ∧
    (clAt (updDyn 0 (fun d => { d with offPend := some 5 }) (synced 0 false)) 0).dyn.offPend = some 5 := by decide +kernel

theorem wit_capture : triggerOn { pwr := { capt := { st := .armed, trig := 0 } } } = true ∧
    triggerOn { pwr := { capt := { st := .armed, trig := 2 } } } = false ∧ ({ st := .filling } : Capture).st = .filling := by decide

/-- A lane 0 with a learning slot in a state. -/
def learner (st : RcState) (n : Nat) : Pkg :=
  { ce := { lane := [{ cfg := { used := true, rc := true }, rc := { st := st, req := .learn, good := 2, eN := 1, eSum := 5 } }], rcm := [{ n := n }] }
    pwr := { cl := [{ run := { st := .regulate } }] } }

theorem wit_learner : let x := laneAt (learner .learn 100) (0 : Fin 128).val
    x.cfg.used = true ∧ x.cfg.rc = true ∧ x.cfg.slow = false ∧ x.rc.clear = false ∧ x.rc.st = .learn ∧ nValid (rcmOf (learner .learn 100) x).n = true ∧
      (clAt (learner .learn 100) x.cfg.cluster).run.st = .regulate ∧ x.rc.eN ≠ 0 ∧ x.cfg.slot < (learner .learn 100).ce.rcm.length ∧
      (rcPhase (learner .learn 100) x).seen = none ∧ (laneAt (learner .coast 100) 0).rc.st = .coast ∧ (laneAt (learner .off 100) 0).rc.st = .off ∧ (laneAt (learner .coast 100) 0).rc.good ≥ 2 ∧
      nValid (rcmOf (learner .learn 99) (laneAt (learner .learn 99) 0)).n = false := by decide +kernel

/-! ### Witnesses: LanesTrainReceiveAndIdle -/

/-- Lane 0 in a state. -/
def oneLane (x : FLane) : Pkg := { dfl := { lane := [x] } }

theorem wit_lane_drives : let p : Pkg := { duo := { hoop := some .a }, sys := { hoopA := { owner := some .a } } }
    awake p = true ∧ drives p = true ∧ awake {} = false ∧ drives {} = false := by decide

theorem wit_lane_up : (flAt (oneLane { st := .up }) (0 : Fin 8).val).st = .up ∧ laneUp (oneLane { st := .up }) 0 = true ∧
    (flAt (oneLane { st := .up }) 0).data.rxIdle = false ∧ (flAt (oneLane { st := .up }) 0).data.wait = none ∧ (flAt (oneLane { st := .up }) 0).run = none ∧
    (flAt (oneLane { st := .up, train := { upMarks := 1 } }) 0).train.upMarks ≥ 1 ∧ (flAt (oneLane {}) 0).st = .down ∧ laneUp (oneLane {}) 0 = false := by
  decide +kernel

theorem wit_lane_block_good : (rsUnblock (List.replicate 272 0)).1.isSome = true := by
  have h0 : rsDecode 8 [] (codeword 0 (List.replicate 272 0)) = some (List.replicate 136 0, 0, 0) := by
    unfold rsDecode
    rw [show codeword 0 (List.replicate 272 0) = List.replicate 136 0 by decide +kernel]
    exact if_pos (by decide +kernel)
  have h1 : rsDecode 8 [] (codeword 1 (List.replicate 272 0)) = some (List.replicate 136 0, 0, 0) := by
    unfold rsDecode
    rw [show codeword 1 (List.replicate 272 0) = List.replicate 136 0 by decide +kernel]
    exact if_pos (by decide +kernel)
  unfold rsUnblock; rw [h0, h1]; rfl

/-- A block whose second codeword is zero but for eight bytes that no four errors make of a codeword. -/
def badBlock : List Nat := List.replicate 256 0 ++ [0, 1, 0, 127, 0, 122, 0, 154, 0, 164, 0, 11, 0, 68, 0, 117]

theorem wit_lane_block_bad : (rsUnblock badBlock).1 = none := by
  have h : (locator 8 [] (syndromes 8 (codeword 1 badBlock))).2 = 8 := by
    rw [show syndromes 8 (codeword 1 badBlock) = [0, 0, 0, 0, 0, 0, 0, (syndromes 8 (codeword 1 badBlock)).getD 7 0] by decide +kernel]
    rw [show (syndromes 8 (codeword 1 badBlock)).getD 7 0 = 226 by decide +kernel]
    decide +kernel
  have h1 : rsDecode 8 [] (codeword 1 badBlock) = none := by
    unfold rsDecode
    rw [if_neg (by decide +kernel)]
    simp only [List.filter_nil, List.eraseDups_nil, List.map_nil, List.length_nil]
    rw [if_pos (.inl (by rw [h]; decide))]
  unfold rsUnblock; rw [h1]; simp only []; split <;> first | rfl | simp_all

theorem wit_lane_train : let p := oneLane { st := .equalise, train := { bad := 15 } }
    (flAt p 0).st ≠ .down ∧ (flAt p 0).st ≠ .disabled ∧ (flAt p 0).st ≠ .up ∧ due { p with clk := 50000000 } ((flAt p 0).train.since + 50000000) = true ∧
      (flAt (updFl 0 (trainStep 0 { marker := false }) p) 0).st ≠ .search ∧ (flAt (updFl 0 (trainStep 0 { marker := false }) p) 0).train.bad ≥ 16 ∧
      (flAt (updFl 0 (trainStep 0 { marker := false }) (oneLane { st := .search })) 0).st = .search := by decide +kernel

theorem wit_lane_search : let p : Pkg := { oneLane { st := .search } with clk := 10000000 }
    (flAt p 0).st = .search ∧ due p ((flAt p 0).train.since + 10000000) = true ∧ due (oneLane {}) (0 + 10000000) = false := by decide +kernel

theorem wit_lane_wait : let p := oneLane { st := .up, data := { wait := some (0, false), txIdle := true, rxIdle := true } }
    (flAt p 0).data.wait = some (0, false) ∧ due p (0 + (if false = true then 2000000 else 2000)) = true ∧
      due p (0 + (if true = true then 2000000 else 2000)) = false ∧ (flAt p 0).data.txIdle = true ∧
      due { p with clk := 1000000 } ((flAt p 0).data.txIdleAt + 1000000) = true := by decide +kernel

/-! ### Witnesses: LaneRegistersScansAndInjectionsAct -/

theorem wit_lane_registers : (flAt (oneLane { st := .disabled }) (0 : Fin 8).val).st = .disabled ∧ (flAt (oneLane {}) 0).st ≠ .disabled ∧
    (flAt (oneLane { scan := some { on := true, eyes := 1, ph := (0, 1, 1), v := (0, 0, 1) } }) 0).scan = some { on := true, eyes := 1, ph := (0, 1, 1), v := (0, 0, 1) } ∧
    ([] : List Nat).length + 1 < scanPoints { on := true, eyes := 1, ph := (0, 1, 1), v := (0, 0, 1) } ∧
    [1].length + 1 ≥ scanPoints { on := true, eyes := 1, ph := (0, 1, 1), v := (0, 0, 1) } := by decide +kernel

/-- A package in FIELD. -/
def inField : Pkg := { sys := { lcRead := { prov := true, seals := 1 } } }

theorem wit_lane_window : lcOf inField = .field ∧ inField.sys.mode ≠ .retired ∧ inField.dfl.window ≤ 1 ∧
    (flAt (oneLane { run := some {} }) (0 : Fin 8).val).run = some {} ∧ due (oneLane {}) ({} : Injection).until_ = true ∧
    due (oneLane {}) ({ until_ := 1000000 } : Injection).until_ = false ∧ ({} : Injection).maxEv = 0 := by decide +kernel

/-! ### Witnesses: NeighboursLinksAndTimeAreExchanged -/

/-- An active die, and lane 0 UP with its neighbour. -/
def meshed (n : Option Nbr) : Pkg := { duo := { hoop := some .a }, dfl := { lane := [{ st := .up }] }, dfn := { lane := [{ nbr := n, t1 := some 5 }] } }

theorem wit_mesh_lane : awake (meshed none) = true ∧ laneUp (meshed none) (0 : Fin 8).val = true ∧ (nlAt (meshed none) 0).nbr = none ∧
    (nlAt (meshed (some {})) 0).nbr = some {} ∧ (nlAt (meshed none) 0).t1.isSome = true ∧ (List.replicate 20 (0 : Byte)).length = 20 ∧
    awake {} = false ∧ laneUp {} 0 = false := by decide

theorem wit_mesh_timers : due { meshed none with clk := 3000000000 } (({} : Nbr).heard + 30000000) = true ∧ due {} (({} : Nbr).heard + 30000000) = false ∧
    due {} (({} : Pkg).dfn.lsaAt + 1000000000) = false ∧ due { meshed none with clk := 3000000000 } (0 + 3000000000) = true := by decide

/-- The bytes of a link-state packet of 0xE001 without links. -/
def anLsa : List Byte :=
  let d : List Byte := [0xE0, 1, 0, 0, 0, 7, 0, 0]
  let h : List Byte := [0, 0, 0xE0, 1, 0xFF, 0xFF, 32, 3, 0, 8, 0, 0, 0, 1, 0, 0]
  h ++ d ++ toBe 4 (pktCrc h d)

/-- The bytes of a HELLO of 20 bytes. -/
def aHello : List Byte :=
  let d : List Byte := List.replicate 20 0
  let h : List Byte := [0, 0, 0xE0, 1, 0xFF, 0xFE, 32, 1, 0, 20, 0, 0, 0, 0, 0, 0]
  h ++ d ++ toBe 4 (pktCrc h d)

theorem wit_mesh_links : pktOf [] = none ∧
    (pktOf aHello).any (fun k => decide (k.dst = 0xFFFE ∧ k.data.length = 20)) = true ∧
    (pktOf anLsa).any (fun k => let b := k.data
      decide (k.kind = 3 ∧ k.dst = 0xFFFF ∧ k.ttl > 1 ∧ be b 0 2 ≠ myAddr (meshed none) ∧ b.length = 8 + 8 * be b 6 1 ∧
        (meshed none).dfn.lsas.find? (fun x => x.origin == be b 0 2) = none ∧ newer (be b 2 4) 7 = false)) = true := by decide +kernel

/-! ### Witnesses: PacketsStreamsAndMirrorsAdvance -/

/-- The bytes of a DATA packet of one byte for node 0xE002. -/
def aPacket : List Byte :=
  let h : List Byte := [0, 0, 0xE0, 1, 0xE0, 2, 2, 1, 0, 1, 0, 0, 0, 1, 0, 0]
  h ++ [7] ++ toBe 4 (pktCrc h [7])

theorem wit_packet : pktOf [] = none ∧
    (pktOf aPacket).any (fun k => decide (k.dst < 0xF000 ∧ k.dst ≠ 0 ∧ k.ttl > 1 ∧ k.kind = 1 ∧ k.dst ≠ myAddr {})) = true := by decide +kernel

theorem wit_stream : let k : NPkt := { kind := 1, dst := 0xE002, seq := 1 }
    let r := rxFor k {}
    (k.seq + 2 ^ 32 - r.next) % 2 ^ 32 ≤ 64 ∧ r.buf.any (fun x => x.1 == k.seq) = false ∧ (floodStep { src := 0, high := 5 } 5).1 = false ∧
      rxAt { dfn := { rxs := [{ src := 1, cls := 0, owed := 1 }] } } 1 (0 : Fin 16).val = some { src := 1, cls := 0, owed := 1 } := by decide +kernel

theorem wit_stream_out : let x : TxStream := { dst := 1, cls := 0, out := [{ seq := 3, sent := 0, rto := 5, data := [] }] }
    let p : Pkg := { dfn := { txs := [x] }, duo := { hoop := some .a } }
    (advance 10 p).dfn.txs.find? (fun s => s.dst == 1 && s.cls == (0 : Fin 16).val) = some x ∧
      x.out.find? (fun u => u.seq == 3) = some { seq := 3, sent := 0, rto := 5, data := [] } ∧ awake (advance 10 p) = true ∧ (advance 10 p).clk ≥ 0 + 5 ∧
      (advance 0 p).clk < 0 + 5 ∧ x.lost = false ∧ due { p with clk := 10000000000 } (x.acked + 10000000000) = true := by decide +kernel

/-- This module at node 1 of a map with a peer in another pair, an active die, and the mirror target gone. -/
def mirroring (r : Bool) : Pkg :=
  { duo := { hoop := some .a }, dfn := { noTarget := some 0, nv := { addr := 1 }, lsas := if r then [{ origin := 2, seq := 1, links := [], at_ := 0 }] else [] }
    ldg := { nv := { map_ := some { mods := [{ node := 1, serial := 0, group := 1 }, { node := 2, serial := 9, group := 1 }] } } } }

theorem wit_mirror : nodeAddr (mirroring true) ≠ 0 ∧ awake (mirroring true) = true ∧ buddyOf (mirroring true) (nodeAddr (mirroring true)) ≠ 0 ∧
    reachable (mirroring true) (buddyOf (mirroring true) (nodeAddr (mirroring true))) = true ∧ buddyLost (mirroring false) = true ∧
    buddyLost (mirroring true) = false ∧ standIn (mirroring false) = 0 ∧ nodeAddr {} = 0 ∧ due { mirroring true with clk := 1000000000 } (0 + 1000000000) = true ∧
    (mirroring true).mtr.nvBlock = false := by decide +kernel

/-! ### Witnesses: TheCounterFollowsItsSources -/

/-- A package whose PPS input has this record. -/
def ppsWith (x : Pps) : Pkg := { tim := { pps := x } }

theorem wit_pps : (ppsWith {}).tim.pps.last = none ∧ (ppsWith {}).tim.pps.valid = false ∧ (ppsWith {}).tim.pps.good < 7 ∧
    (ppsWith { last := some 5 }).tim.pps.last = some 5 ∧ (5 + 24997500 ≤ 24997505 ∧ 25002505 ≤ 5 + 25002500) ∧
    (25002506 > 5 + 25002500) ∧ due (ppsWith { lastClk := some 0 }) (0 + 3000000000) = false ∧
    due { ppsWith { lastClk := some 0 } with clk := 3000000000 } (0 + 3000000000) = true := by decide +kernel

theorem wit_step : ({ tim := { step_ := some { eff := 7, new := 9, work := 1 } } } : Pkg).tim.step_ = some { eff := 7, new := 9, work := 1 } ∧
    holdBin ({} : Pkg) = none ∧ holdBin { thm := { sens := List.replicate 40 { t := some 250 } } } = some 9 ∧
    (({ tim := { hold := List.replicate 24 { n := 1, e := 3 } } } : Pkg).tim.hold.getD 9 {}).n ≠ 0 := by decide +kernel

/-! ### Witnesses: PurlFramesAndRegisterWritesCommandARegion -/

/-- A package in a mode with one DC/DC cluster in region 0, a valid lease over 2,000 tokens, and a Purl port. -/
def charging (md : Mode) (v : VRegion) (x : Purl) : Pkg :=
  { duo := { hoop := some .a }, sys := { mode := md }, pwr := { cl := [{ cfg := { type := .dcdc, vRated := 100000, iPh := 1000 } }], port := [{ cfg := { use_ := .switching } }] }
    eye := { map := [some 0] }
    vcmd := { rg := [v], port := [x] }, ldg := { nv := { st := .joined, ranges := [⟨0, 2000⟩] }, everQ := true, leaseTo := some 5 } }

/-- The bits [63:8] of a frame for 10 V, 10 A and 100 V/ms with SEQ 1. -/
def purlFields (ty bit60 : Nat) : Nat := ty * 2 ^ 61 + bit60 * 2 ^ 60 + 1000 * 2 ^ 40 + 100 * 2 ^ 25 + 100 * 2 ^ 16 + 1 * 2 ^ 8

theorem wit_purl_taken : let f := withCrc (purlFields 1 0); let q := charging .deliver { session := some (.purl 0) } { up := true }
    purlOn q = true ∧ (ppAt q 0).up = true ∧ (ppAt { q with clk := 2000 } 0).upAt + 2000 ≤ ({ q with clk := 2000 } : Pkg).clk ∧ drives { q with sys := { q.sys with hoopA := { owner := some .a } } } = true ∧ drives q = false ∧ f % 256 = purlCrc f ∧ f / 2 ^ 61 = 1 ∧ isRepeat q 0 f = false ∧
    (fSeq f + 256 - (ppAt q 0).newest) % 256 = 1 ∧ (dcdcOf q (regionOf 0)).isEmpty = false ∧ rangeOk q (regionOf 0) f = true ∧ tb f 60 = false ∧
    (vrAt q (regionOf 0)).session = some (.purl 0) ∧ purlSrc q (regionOf 0) = true ∧ cmdMode q (regionOf 0) = true := by decide +kernel

theorem wit_purl_turned_away : let f := withCrc (purlFields 1 0)
    commandCause (charging .deliver {} { up := true }) 0 f = 2 ∧ isRepeat (charging .deliver {} { up := true, newest := 1, lastFrame := some (f / 256) }) 0 f = true ∧
    isRepeat (charging .deliver {} { up := true, newest := 2 }) 0 f = false ∧ ¬(fSeq f + 256 - 2) % 256 ≤ 127 ∧
    (ppAt (charging .deliver {} { lastEnd := some 5 }) 0).lastEnd = some 5 ∧ (f + 1) % 256 ≠ purlCrc (f + 1) := by decide +kernel

theorem wit_purl_open : let f := withCrc (purlFields 3 1); let q := charging .isolated {} { up := true }
    f / 2 ^ 61 = 3 ∧ f % 256 = purlCrc f ∧ tb f 60 = true ∧ startMode (charging .deliver {} {}) 0 = true ∧ (vrAt q 0).session = none ∧ receiptFree q = true ∧
    rangeOk q 0 f = true ∧ wouldLend (charging .deliver {} {}) 0 (fTarget f) (some (fIlim f)) = true ∧ openCause (charging .retired {} {}) 0 f = 4 ∧
    startCheck (charging .deliver { src := .register, target := 1000 } {}) 0 1000 none = 0 := by decide +kernel

theorem wit_purl_close : let f := withCrc (3 * 2 ^ 61 + 2 ^ 8); let g := withCrc (2 * 2 ^ 61)
    f / 2 ^ 61 = 3 ∧ tb f 60 = false ∧ fld f 59 58 = 0 ∧ closeCause (charging .deliver {} {}) 0 f = 2 ∧ g / 2 ^ 61 = 2 ∧ fld g 60 8 = 0 ∧ fld f 60 8 ≠ 0 ∧
    due (charging .deliver { session := some (.purl 0) } {}) (0 + 100000000) = false ∧
    due { charging .deliver { session := some (.purl 0) } {} with clk := 100000000 } (0 + 100000000) = true ∧
    regSrc (charging .deliver { src := .both } {}) 0 = true ∧ regSrc (charging .deliver {} {}) 0 = false ∧ 1000 ≤ vLow (charging .deliver {} {}) 0 := by decide +kernel

/-! ### Witnesses: LoadSwitchChannelsFollowCommandsAndProtectThemselves -/

/-- A package with one load-switch channel. -/
def oneSwitch (x : LCh) : Pkg := { lsw := { up := true, ch := [x], cmdAt := some 0 }, duo := { hoop := some .a } }

theorem wit_switch : (oneSwitch {}).lsw.up = true ∧ (oneSwitch {}).sup.warn = false ∧ (oneSwitch {}).duo.hoop = some .a ∧ drives (oneSwitch {}) = false ∧
    drives { oneSwitch {} with sys := { hoopA := { owner := some .a } } } = true ∧
    due (oneSwitch {}) (0 + 10000000) = false ∧ due { oneSwitch {} with clk := 10000000 } (0 + 10000000) = true ∧
    (oneSwitch {}).lsw.ch.any (·.fs) = false ∧ (lchAt (oneSwitch { st := .on }) (0 : Fin 24).val).conducts = true ∧
    (lchAt (oneSwitch {}) 0).conducts = false ∧ (lchAt (oneSwitch { st := .tripped, held := (.on, 0) }) 0).st = .tripped ∧
    due { oneSwitch {} with clk := 10000000 } (0 + 10000000) = true := by decide +kernel

theorem wit_switch_quad : let p := { oneSwitch {} with lsw := { ch := [{ st := .on, i := 9, tj := 5 }, { st := .on, limit := true, tj := 4 }, {}, {}] } }
    shedChoice p (0 : Fin 6).val = some 1 ∧ shedChoice (oneSwitch {}) 0 = none ∧
    (lchAt (oneSwitch { olMode := 3 }) 0).st = .off ∧ (lchAt (oneSwitch { st := .on, olMode := 3 }) 0).st = .on := by decide +kernel

/-! ### Witnesses: BatteryStringsComeGoAndAreJournaled -/

/-- A package with one buffer string. -/
def oneString (x : BStr) : Pkg := { bat := { str := [x] } }

theorem wit_string : (strAt (oneString { st := .absent, run := 19, cfg := { rMin := 100, rMax := 200 } }) (0 : Fin 16).val).st = .absent ∧
    (0 : Fin 16).val < (oneString {}).bat.str.length ∧ (strAt (oneString { cfg := { rMin := 100, rMax := 200 } }) 0).cfg.rMin ≤ 100 ∧
    (parseStatus 0 (List.replicate 14 0 ++ [1, 7])).fault = false ∧ (parseStatus 0 (List.replicate 14 0 ++ [1, 7])).closed = true ∧
    (parseStatus 0 (List.replicate 14 0 ++ [2, 7])).fault = true ∧ (List.replicate 14 (0 : Byte) ++ [1, 7]).length = 16 ∧
    (strAt (oneString { st := .seen, gotSt := true, ident := some 3 }) 0).ident = some 3 ∧
    due (oneString {}) (0 + 300000000) = false ∧ due { oneString {} with clk := 300000000 } (0 + 300000000) = true ∧
    10000 ≤ (strAt (oneString { est := { driftN := 10000 } }) 0).est.driftN := by decide +kernel

theorem wit_bat_journal : due { clk := 10000000000 } (({} : Pkg).bat.jrnAt + 10000000000) = true ∧ due {} (({} : Pkg).bat.jrnAt + 10000000000) = false ∧
    ({} : Pkg).mtr.nvBlock = false := by decide +kernel

/-! ### Witnesses: CanChannelsKeepTheirScheduleQueueAndSleep -/

/-- A package with one CAN channel. -/
def oneCan (x : CanCh) : Pkg := { duo := { hoop := some .a }, can := { ch := [x] } }

theorem wit_can : let pr : Pricking := { cycleUs := 1000, offs := [0], entries := [(.arbitration, 0)] }
    let p := oneCan { prk := some pr, cycleAt := some 0 }
    awake p = true ∧ (canAt p (0 : Fin 16).val).asleep = false ∧ (presentSlot p (canAt p 0)).map (·.1) = some (0 : Fin 64).val ∧
    (slotEntry pr 0 0).1 = .arbitration ∧ (canAt p 0).ran.contains 0 = false ∧ (dropWanted 0 p).tim.now % (16 * pr.cycleUs * 1000) = 0 ∧
    wakeMatch { asleep := true, wakeFrame := true } {} = true ∧ wakeMatch { asleep := true, wakeId := 1, wakeMask := 1 } {} = false := by decide +kernel

theorem wit_can_queue : let q : TxQ := { work := 5 }
    (canAt (oneCan { queue := [q] }) (0 : Fin 16).val).queue.find? (fun q => q.work == 5) = some q ∧
    due (oneCan {}) (q.at_ + 1000000000) = false ∧ due { oneCan {} with clk := 1000000000 } (q.at_ + 1000000000) = true ∧
    (canAt (oneCan { st := .busOff, autoRec := true }) 0).st = .busOff ∧ (canAt (oneCan { tx := some (.queued q) }) 0).tx = some (.queued q) ∧
    (canAt (oneCan { asleep := true }) 0).asleep = true ∧ awake {} = false ∧ sendOpen (oneCan {}) 0 = false ∧
    sendOpen { oneCan {} with mbx := { work := [{ opcode := 0x0803, payload := [0], state := .accepted }] } } 0 = true := by decide +kernel

/-! ### Witnesses: PowerLineFramesAreSentAcknowledgedAndDelivered -/

/-- A package with one power-line network. -/
def oneNet (x : PNet) : Pkg := { sys := { mode := .idle, hoopA := { owner := some .a } }, duo := { hoop := some .a }, pln := { net := [x] } }

/-- A header segment as it arrives without errors: its codeword. -/
def segIn (i : Nat) (d : List Byte) : PSegIn := { code := plcSegment i d, erased := [], impulse := 0 }

/-- The header of a frame of a type from node 5 to the coordinator. -/
def headTo (type : Nat) : PHead :=
  { type := type, prio := 0, mode := 1, nseg := 1, src := 5, dst := 0, hopS := 5, hopD := 0, segmap := 1, seq := 7, ctr := 1, zc := 0, lqi := 9 }

theorem wit_plc : let f : PFrame := { dst := 5, hop := 5, seq := 7, prio := 0 }; let p := { oneNet { cfgd := true, queue := [f], table := [{ id := 5 }] } with clk := 44999999 }
    awake p = true ∧ pfAt (plAt p (0 : Fin 4).val) 0 = some f ∧ plcUp p 0 = true ∧ inWindow f.prio 28 = true ∧ inWindow f.prio 27 = false ∧
    slotStart p (plAt p 0) 28 0 = some 45000000 ∧ slotStart p (plAt p 0) 59 0 = none ∧ pfAt (plAt p 0) 1 = none := by decide +kernel

theorem wit_plc_sack : let p := oneNet { cfgd := true, queue := [{ dst := 5, hop := 5, sent := true, seq := 7 }], table := [{ id := 5 }] }
    headIn (plAt p (0 : Fin 4).val) (segIn 0 (plcHeader 0 (headTo 2))) = some (headTo 2) ∧ sackedFrame (plAt p 0) (headTo 2) = some 0 ∧
    sackedFrame (plAt p 0) { headTo 2 with seq := 8 } = none ∧ headIn (plAt p 0) { code := [], erased := [], impulse := 0 } = none ∧
    segOf (segIn 0 []) = some (0, List.replicate 32 0) ∧ segOf { code := [], erased := [], impulse := 0 } = none ∧
    (plAt (oneNet { queue := [{}] }) 0).queue ≠ [] ∧ (2 ^ 1 - 1) &&& (255 - u8 [1] 0) = 0 ∧ (2 ^ 1 - 1) &&& (255 - u8 [0] 0) ≠ 0 := by decide +kernel

/-- A payload of one byte sealed under a key is read. -/
theorem wit_plc_opens (network : Nat) (key : List Byte) (h : PHead) (v : Byte) :
    plcOpen network key h 1 (gcmSeal key (plcNonce network h) (plcAad network h) [v]) = some [v] := by
  have pad1 : ∀ l, ∃ x : Byte, pad 1 l = [x] := fun l => by cases l <;> exact ⟨_, rfl⟩
  have hx : ∀ u : Byte, ∃ w, gcmXor key (plcNonce network h) [u] = [u ^^^ w] ∧ ∀ u', gcmXor key (plcNonce network h) [u'] = [u' ^^^ w] := fun u => by
    obtain ⟨w, hw⟩ := pad1 (Config.gcmStream key (plcNonce network h) 1)
    have : ∀ u' : Byte, gcmXor key (plcNonce network h) [u'] = [u' ^^^ w] := fun u' => by
      unfold gcmXor; rw [show ([u'] : List Byte).length = 1 from rfl, hw]; rfl
    exact ⟨w, this u, this⟩
  obtain ⟨w, hw, hw'⟩ := hx v
  have hl : ∀ l, (pad 16 l : List Byte).length = 16 := fun l => by unfold pad; simp
  unfold plcOpen gcmSeal gcmOpen gcmTag
  simp only [hw]
  rw [List.take_of_length_le (by simp [hl])]
  simp [hl, hw', BitVec.xor_assoc]

theorem wit_plc_frame : let x := plAt (oneNet { cfgd := true }) (0 : Fin 4).val
    segOf (segIn 0 (plcHeader 0 (headTo 1))) ≠ none ∧ headIn x (segIn 0 (plcHeader 0 (headTo 1))) = some (headTo 1) ∧ (headTo 1).hopD = 0 ∧
    inR 1 8 (headTo 1).nseg = true ∧ [1, 3, 4].contains (headTo 1).type = true ∧ headIn x (segIn 0 (plcHeader 1 (headTo 1))) = none ∧
    headIn x (segIn 0 (plcHeader 0 (headTo 2))) = some (headTo 2) ∧ [1, 3, 4].contains 2 = false ∧ awake {} = false ∧
    (pnAt x 5).rxHigh = none ∧ (pnAt x 5).rxDone.contains 7 = false ∧ x.beacon = none ∧ due (oneNet {}) (0 + 10000000000) = false ∧
    (pnAt { x with nodes := [{ id := 5, rxDone := [7] }] } 5).rxDone.contains 7 = true ∧ ({ x with table := [{ id := 5 }] } : PNet).table.any (fun n => n.id == 5) = true ∧
    (plAt (oneNet { txRes := .queued }) 0).txRes = .queued ∧ tb (2 ^ 31) 31 = true ∧ fld (2 ^ 31) 26 22 ≤ 16 ∧ fld (17 * 2 ^ 22) 26 22 > 16 := by decide +kernel

theorem wit_plc_route : let x : PNet := { nodes := [{ id := 5, used := some 0 }], table := List.replicate 32 {} }
    (pnAt x 5).used = some 0 ∧ tatting x = true ∧ due { oneNet x with clk := 300000000000 } (0 + 300000000000) = true := by decide +kernel

/-! ### Witnesses: VehiclesConnectAgreeAndAreAuthorized -/

/-- A package whose region 0 serves vehicles on port 0, with this connection and session. -/
def oneVehicle (x : VPort) (v : VReg) : Pkg :=
  { duo := { hoop := some .a }, sys := { mode := .deliver, hoopA := { owner := some .a } }, vcmd := { rg := [{ src := .v2g }] }, vlk := { port := [x], rg := [v] } }

theorem wit_vehicle : let p := oneVehicle { tcp := true, tls := true, proto := true } { talk := some 0 }
    awake p = true ∧ drives p = true ∧ awake {} = false ∧ drives {} = false ∧ v2gSrc p ((0 : Fin 8).val / 2) = true ∧ (vpAt p 0).tls = true ∧ (vpAt p 0).proto = true ∧ (vgAt p 0).talk = some (0 : Fin 8).val ∧
    (vgAt p 0).owner = none ∧ (vrAt p 0).session = none ∧ (vgAt (oneVehicle {} { owner := some 1 }) 0).owner ≠ none ∧
    (vgAt (oneVehicle {} { owner := some 1 }) 0).owner ≠ some 0 ∧ (vgAt (oneVehicle {} {}) 0).authBad = false ∧ (vgAt (oneVehicle {} {}) 0).authReg ≠ 2 := by decide +kernel

theorem wit_vehicle_host : (vgAt (oneVehicle {} { authAt := some 0 }) (0 : Fin 4).val).authAt = some 0 ∧ due (oneVehicle {} {}) (0 + 60000000000) = false ∧
    due { oneVehicle {} {} with clk := 60000000000 } (0 + 60000000000) = true ∧ (vpAt (oneVehicle { heldSeg := [{}] } {}) (0 : Fin 8).val).heldSeg = [{}] ∧
    (dieOf (oneVehicle {} {}) ((activeDie (oneVehicle {} {})).getD .a).other).st ≠ .standby ∧
    (vgAt (oneVehicle {} { cliAuth := false }) 0).cliAuth = false ∧ ({ oneVehicle {} {} with config := some {} } : Pkg).config.isSome = true := by decide +kernel

/-! ### Witnesses: VehiclesChargeUnderTheStatedTransitions -/

theorem wit_charging : let p := oneVehicle { tcp := true, tls := true, proto := true } { talk := some 0, authOk := true }
    awake p = true ∧ v2gSrc p ((0 : Fin 8).val / 2) = true ∧ (vpAt p 0).tls = true ∧ (vpAt p 0).proto = true ∧ (vgAt p 0).talk = some (0 : Fin 8).val ∧
    (vgAt p 0).authOk = true ∧ (vgAt p 0).talk ≠ some (1 : Fin 8).val ∧ dcdcOf p 0 = [] ∧ (vgAt p 0).authBad = false ∧ (vgAt p 0).openBad = none := by decide +kernel

theorem wit_charging_session : let p : Pkg := { vcmd := { rg := [{ session := some (.v2g 0), cmdTgt := 5 }] } }
    (vrAt p ((0 : Fin 8).val / 2)).session = some (.v2g (0 : Fin 8).val) ∧ ¬((vrAt p 0).cmdTgt = 4 ∧ (vrAt p 0).ilim = some 0) ∧ 0 ≤ vLow p 0 ∧
    vLow p 0 < 2 ^ 40 ∧ (cmdMode p 0 = true ∨ cmdMode p 0 = false) ∧ (vrAt p 1).session ≠ some (.v2g 0) := by decide +kernel

theorem wit_charging_lost : let p := { oneVehicle {} { stage := .cableCheck, cable := some 0, owner := some 0 } with clk := 40000000000 }
    (vgAt p (0 : Fin 4).val).stage = .cableCheck ∧ (vgAt p 0).cable = some 0 ∧ due p (0 + 40000000000) = true ∧ (vgAt p 0).owner = some 0 ∧ awake p = true ∧
    due p ((vgAt p 0).reqAt + 2000000000) = true ∧ (vgAt (oneVehicle {} { talk := some 0 }) (0 : Fin 4).val).owner = none ∧
    (vgAt (oneVehicle {} { talk := some 0 }) (0 : Fin 4).val).talk = some 0 := by decide +kernel

/-! ### Witnesses: MetersKeepTheirBanksJournalAndPulses -/

/-- A package in life-cycle SERVICE, its Ground die started, with this metering. -/
def metered (x : Mtr) : Pkg := { sys := { lcRead := { seals := 1, breaks := 1 }, mode := .idle }, sup := { started := true }, mtr := x }

theorem wit_metering : let p := metered {}
    lcOf p = .service ∧ p.mtr.burn = none ∧ p.mtr.banks.length < 8 ∧ p.mtr.nvBlock = false ∧ lcOf ({} : Pkg) ≠ .service ∧ metering p = true ∧
    (metered { burn := some {} }).mtr.burn = some {} ∧ (metered { save := .running }).mtr.save = .running ∧
    (mtAt (metered { meter := [{ sent := [{}] }] }) (0 : Fin 6).val).sent = [{}] ∧ (mtAt p (0 : Fin 6).val).sent = [] := by decide +kernel

theorem wit_metering_pulse : let v := 100000
    let p := metered {}
    fld v 29 27 ≤ 5 ∧ fld v 26 24 ≤ 5 ∧ 1 ≤ fld v 16 0 ∧ fld v 16 0 ≤ 100000 ∧
    ¬(fld v 16 0 * (bankOf p).pmax.getD (fld v 29 27) 0 > 100000 * 3600) ∧ ¬(1 ≤ fld 0 16 0) := by decide +kernel

theorem wit_metering_phase : let p := { metered { meter := List.replicate 6 { ph := [{ seen := some 0 }] } } with clk := 40000000 }
    metering p = true ∧ ((mtAt p 4).ph.getD (0 : Fin 3).val {}).lost = false ∧ ((mtAt p 4).ph.getD 0 {}).seen = some 0 ∧
    due p (0 + 40000000) = true := by decide +kernel

/-! ### Witnesses: SamplesReachTheAccumulatorsAndTheRecords -/

theorem wit_samples : let p := metered {}
    metering p = true ∧ metering ({} : Pkg) = false ∧ p.mtr.intN < 160 ∧ 160 ≤ (metered { intN := 160 }).mtr.intN ∧ windowDone p (0 : Fin 2).val = false ∧
    windowDone (metered { chan := List.replicate 16 { wN := 3200 }, meter := List.replicate 6 { ph := [{ lost := true }] } }) (0 : Fin 2).val = true := by decide +kernel

/-! ### Witnesses: BillingBoundariesAreTakenInTimeOrder -/

/-- A metering package with a sample, a demand period and a calendar of one season. -/
def billed (b : Bil) : Pkg := { mtr := { tLast := 10 ^ 12 }, sup := { started := true }, sys := { mode := .idle }, bil := b }

theorem wit_bill_boundary : let c : Calendar := { seasons := [{}], act := 10 ^ 9, closes := [{}] }
    let p := billed { cal := some c, passive := some c, demLen := 1, waitSync := false }
    mayTake p = true ∧ (seasonAt c p.mtr.tLast).2 = p.bil.season ∧ nextDemand p = some 60000000000 ∧ (nextDue p p.mtr.tLast) = some (10 ^ 9, 2) ∧
      (nextDue (billed { demLen := 1 }) (10 ^ 12)).isSome = true ∧ nextDue {} 0 = none := by decide +kernel

/-! ### Witnesses: TamperConditionsStartAndEndOnce -/

theorem wit_tamper_start : let p : Pkg := { config := some {}, bil := { rg := [{ rev := { count := 10 ^ 9 } }] } }
    let b := p.bil; (b.rg.getD 0 {}).rev.on = false ∧ max 1 (b.tmp.revMs * 1000000) ≤ (b.rg.getD 0 {}).rev.count ∧
      ({} : Pkg).config = none ∧ ({} : Pkg).bil.tmp.bypWin ≤ (({} : Pkg).bil.ac.getD 0 {}).byp.count + 3 := by decide +kernel

/-! ### Witnesses: DlmsRequestsAreAnsweredByRole -/

/-- An awake package that holds a Reader's association. -/
def associated (x : Assoc) : Pkg := { duo := { hoop := some .a }, mbx := { up := [true, true] }, bil := { assoc := [x] } }

theorem wit_dlms_request : let p := associated { id := 3, role := .operator }
    awake p = true ∧ epUp p 0 = true ∧ ({ src := 0x30 } : Wrapper).ok = true ∧ roleOfPort 0x30 = some .operator ∧ wPort .operator = 0x30 ∧
      p.bil.assoc.find? (fun x => x.id == 3) = some { id := 3, role := .operator } ∧ objOf [0, 0, 13, 0, 0, 255] = some .calendar ∧
      maySet .operator .calendar 6 = true ∧ maySet .operator .calendar 10 = true ∧ maySet .operator .calendar 11 = false ∧ p.sys.mode ≠ .retired ∧
      objOf [] = none ∧ due { p with clk := 300000000000 } 300000000000 = true := by decide +kernel

/-! ### Witnesses: LeasesAreAskedGrantedAndLost -/

/-- An awake member of a pair of nodes 5 and 6, with its lease known. -/
def member (l : Ldg) : Pkg :=
  { duo := { hoop := some .a }, dfn := { nv := { addr := 5 } }
    ldg := { l with nv := { l.nv with st := .joined, map_ := some { ver := 2, n := 100, mods := [{ node := 5, group := 1 }, { node := 6, group := 1 }] } } } }

theorem wit_lease_messages : let p := member { reqs := [{ id := 1 }], leaseTo := some 0 }
    let m := [byte 0x21, 1, 0, 8, 0, 5, 0, 5] ++ List.replicate 8 0 ++ toBe 4 1 ++ [0, 0, 0, 0]
    awake p = true ∧ be m 0 1 = 0x21 ∧ be m 6 2 = nodeAddr p ∧ isVoice p = true ∧ be ((m.drop 16).take 8) 0 4 = 1 ∧ be ((m.drop 16).take 8) 4 1 = 0 ∧
      voices p = [5] ∧ quorum p = 1 ∧ dueSite p 0 = true ∧ due p 20000000 = false ∧ ({} : Sys).ldgDue = false ∧
      (mapMods p).any (fun x => x.node == 5) = true ∧ ({} : Holding).fenced = false ∧ p.tim.now / 1000000 % 100 ≠ nodeAddr p % 100 ∧
      nodeAddr { p with dfn := { nv := { addr := 100 } } } % 100 = p.tim.now / 1000000 % 100 := by decide +kernel

/-! ### Witnesses: TransfersAreJournaledBeforeTheyAreAnswered -/

theorem wit_transfers : let p := member { nv := { ins := [{ id := 1 }], outs := [{ id := 1 }], table := [{ node := 6, ranges := [⟨0, 4⟩] }] }, defer_ := [{ id := 1 }] }
    awake p = true ∧ isVoice p = true ∧ due { p with clk := 2000000 } 2000000 = true ∧ due p 0 = true ∧ waits p (.offer 1) = false ∧
      p.ldg.nv.ins.find? (fun x => x.id == 1) = some { id := 1 } ∧ ({} : XferIn).st = .pending ∧ p.ldg.nv.ins.find? (fun x => x.id == 2) = none ∧
      winBelow 6 1 p = false ∧ p.mtr.nvBlock = false ∧ prepareBad 2 ⟨0, 1⟩ p = 0 ∧ prepareBad 1 ⟨0, 1⟩ p = 4 ∧
      noteDecide p 6 ⟨0, 4⟩ = some 0 ∧ noteDecide p 6 ⟨0, 5⟩ = some 1 ∧ p.ldg.defer_.find? (fun x => x.id == 1) = some { id := 1 } := by decide +kernel

/-! ### Witnesses: ReclaimIsVotedAndRecorded -/

theorem wit_reclaim : let p := { member { recl := [{ target := 6, id := 1 }], leaseTo := some (2 ^ 62), nv := { table := [{ node := 6 }] } } with clk := 10 ^ 10 }
    awake p = true ∧ leaseOk p = true ∧ knownLease p (buddyOf p 6) = true ∧ buddyOf p 6 = nodeAddr p ∧ isVoice p = true ∧
      due p (max (peerAt p 6).heard p.ldg.upSince + reclaimWait p) = true ∧ (mapMods p).any (fun m => m.node == 6) = true ∧
      holdAt p 6 = some { node := 6 } ∧ p.ldg.recl.find? (fun x => x.target == 6) = some { target := 6, id := 1 } ∧ due p 20000000 = true ∧
      p.mtr.nvBlock = false ∧ quorum p = 1 ∧ p.ldg.upSince + reclaimWait p ≤ p.clk := by decide +kernel

/-! ### Witnesses: MembersJoinLeaveAndTakeMaps -/

theorem wit_members : let p := member {}
    let q := { p with ldg := { p.ldg with nv := { p.ldg.nv with st := .joining, pendMap := some { n := 100 } } } }
    isVoice p = true ∧ awake p = true ∧ (mapMods p).any (fun x => x.node == 6) = true ∧ holdAt p 6 = none ∧ q.ldg.nv.st = .joining ∧ quorum q = 1 ∧
      dueSite q 0 = true ∧ ({} : Pkg).ldg.nv.pendMap = none ∧ ({} : Pkg).ldg.nv.graceTo = none ∧ shrunk p 0 = true := by decide +kernel

/-! ### Witnesses: AccumulatorViewsReadInWattHours -/

theorem wit_view : let p : Pkg := { mtr := { shown := [[4294967295000000]] } }
    meterRead p (0 : Fin 6).val (0x38 + 4 * (0 : Fin 6).val) = 4294967295 := by decide +kernel

end Sys2Proof.Tests
end

section
/-!
What every command answers: a next state, with the queue of commands as it was (O3, O4).
-/

namespace Sys2Proof.Machine

/-- The answer of a meaning that changes nothing. -/
theorem run1_same {f : Pkg → Pkg} {s : State} (h : f s.m = s.m) : run1 f s = .next s := run1_to h rfl

/-- Every meaning but the boundary's is a change of the package, and leaves the readback snapshot and the queue (03 R115). -/
theorem exec_changes_package {c : Instr} (h : ∀ b, c ≠ .supervisoryBoundary b) (s : State) :
    ∃ m, exec c s = .next { s with m := m } := by
  cases c
  case supervisoryBoundary b => exact absurd rfl (h b)
  all_goals exact ⟨_, rfl⟩

/-- The boundary takes the readback snapshot as well (03 R115). -/
theorem exec_boundary_changes (b : BoundaryIn) (s : State) :
    ∃ m q, exec (.supervisoryBoundary b) s = .next { s with m := m, snap := q } := ⟨_, _, rfl⟩

/-- Every command answers a next state, and leaves the queue. -/
theorem exec_keeps_queue (c : Instr) (s : State) : ∃ t, exec c s = .next t ∧ t.pending = s.pending := by
  by_cases h : ∃ b, c = .supervisoryBoundary b
  · obtain ⟨b, rfl⟩ := h
    obtain ⟨m, q, hm⟩ := exec_boundary_changes b s
    exact ⟨_, hm, rfl⟩
  · obtain ⟨m, hm⟩ := exec_changes_package (fun b hb => h ⟨b, hb⟩) s
    exact ⟨_, hm, rfl⟩

end Sys2Proof.Machine

open Sys2Proof Sys2Proof.Machine

/-- Settles O4: by the two forms that the answer of a command can have. -/
theorem everyCommandAnswersANextState : Obligations.EveryCommandAnswersANextState := by
  intro c s
  obtain ⟨t, ht, -⟩ := exec_keeps_queue c s
  exact ⟨t, ht⟩

/-- Settles O3: an empty queue idles; else the front has left the queue before its command runs, which leaves the rest. -/
theorem everyStepConsumesOneCommand : Obligations.EveryStepConsumesOneCommand := by
  intro s t h
  unfold step at h
  split at h
  next he =>
    cases h
    rw [he]; rfl
  next c rest he =>
    obtain ⟨t', ht, hq⟩ := exec_keeps_queue c { s with pending := rest }
    rw [ht] at h
    cases h
    rw [hq, he]; rfl
end

section
/-!
The host side of chapter 03: links, address queries, echoes, EP2 reads and the host-side time limits (O15).
-/

namespace Sys2Proof.Machine

/-- A package that is muted does not drive its pins (01 R17). -/
theorem drives_of_muted {p : Pkg} (h : muted p = true) : drives p = false := by
  unfold muted at h
  unfold drives
  cases ha : activeDie p with
  | none => rfl
  | some d =>
    rw [ha] at h
    simpa using h

theorem arp_answered {p : Pkg} {ep : Nat} (hd : drives p = true) (hu : epUp p ep = true)
    (ha : (p.mbx.addrs.getD ep none).isSome = true) :
    arp ep true p = { p with mbx := { p.mbx with tx := { ep := ep, type := 0x101 } :: p.mbx.tx } } :=
  if_pos ⟨hd, hu, rfl, ha⟩

theorem arp_muted {p : Pkg} (ep : Nat) (b : Bool) (h : muted p = true) : arp ep b p = p :=
  if_neg fun hc => by simp [drives_of_muted h] at hc

theorem icmp_configured {p : Pkg} {ep : Nat} (data : List Byte) (hd : drives p = true) (hu : epUp p ep = true)
    (ha : (p.mbx.addrs.getD ep none).isSome = true) :
    icmp ep data p = if p.mbx.echoOn = true
      then { p with mbx := { p.mbx with tx := { ep := ep, type := 0x102, body := data } :: p.mbx.tx } } else p := by
  unfold icmp
  by_cases he : p.mbx.echoOn = true
  · rw [if_pos ⟨hd, hu, he, ha⟩, if_pos he]
  · rw [if_neg (fun hc => he hc.2.2.1), if_neg he]

theorem icmp_muted {p : Pkg} (ep : Nat) (data : List Byte) (h : muted p = true) : icmp ep data p = p :=
  if_neg fun hc => by simp [drives_of_muted h] at hc

theorem spiRead_muted {p : Pkg} (n : Nat) (h : muted p = true) : spiRead n p = p := by
  unfold spiRead
  split
  · rfl
  · exact if_neg fun hc => by simp [h] at hc

theorem spiRead_oldest {p : Pkg} {o : OutMsg} {q : List OutMsg} (n : Nat) (hq : p.mbx.queue = o :: q)
    (hu : epUp p 2 = true) (hm : muted p = false) :
    spiRead n p = if msgLen o ≤ n then { p with mbx := { p.mbx with queue := q, tx := o :: p.mbx.tx } } else p := by
  unfold spiRead
  rw [hq]
  by_cases hn : msgLen o ≤ n
  · simp [hu, hm, hn]
  · simp [hn]

/-- A time-out of a session that is open: at its limit the session closes and its key leaves (03 R89). -/
theorem idleSession_open {p : Pkg} {id : Nat} {x : Session} (h : sessionOf p id = some x) :
    idleSession id p = if due p (x.last + p.mbx.idleMax * 1000000000) = true
      then { p with mbx := { p.mbx with sessions := p.mbx.sessions.filter (fun y => y.id != id) }
                    key := { p.key with regs := p.key.regs.filter (fun r => r.id != .session id) } } else p := by
  unfold idleSession
  rw [h]
  rfl

theorem idleSession_sys (id : Nat) (p : Pkg) : (idleSession id p).sys = p.sys := by
  unfold idleSession
  split
  · rfl
  · split <;> rfl

/-- What stays of the datagrams that are not complete (03 R81). -/
theorem mem_reasmTimeout {p : Pkg} {ep key : Nat} {r : Reasm} (h : r ∈ p.mbx.reasm) :
    r ∈ (reasmTimeout ep key p).mbx.reasm ↔ ¬(r.ep = ep ∧ r.key = key ∧ due p (r.since + 50000000) = true) := by
  simp only [reasmTimeout, List.mem_filter, h, true_and, ← Bool.not_eq_true, Bool.not_eq_true', Bool.and_eq_true, beq_iff_eq, and_assoc]

/-- What stays of the work records (03 R116). -/
theorem mem_workExpiry {p : Pkg} {id : Nat} {w : WorkItem} (h : w ∈ p.mbx.work) :
    w ∈ (workExpiry id p).mbx.work ↔
      ¬(w.id = id ∧ (w.state = .done ∨ w.state = .failed) ∧ due p (w.endClk + 86400000000000) = true) := by
  simp only [workExpiry, List.mem_filter, h, true_and, ← Bool.not_eq_true, Bool.not_eq_true', Bool.and_eq_true, Bool.or_eq_true,
    beq_iff_eq, and_assoc]

end Sys2Proof.Machine

open Sys2Proof Sys2Proof.Machine

/-- Settles O15: by what each of the events comes to. -/
theorem hostPortEventsDoWhatTheySay : Obligations.HostPortEventsDoWhatTheySay := by
  intro s
  refine ⟨fun ep => run1_of rfl, fun ep => run1_of rfl, ?_, ?_, ?_, ?_, ?_, ?_⟩
  · intro ep hd hu ha
    refine ⟨run1_to (arp_answered hd hu ha) rfl, fun data => run1_to (icmp_configured data hd hu ha) ?_⟩
    split <;> rfl
  · intro hm
    exact ⟨fun ep b => run1_same (arp_muted ep.val b hm), fun ep data => run1_same (icmp_muted ep.val data hm),
      fun n => run1_same (spiRead_muted n hm)⟩
  · intro n o q hq hu hm
    refine run1_to (spiRead_oldest n hq hu hm) ?_
    split <;> rfl
  · intro id x hx
    rw [← idleSession_open hx]
    exact run1_of (idleSession_sys id s.m)
  · exact fun ep key => ⟨_, run1_of rfl, fun r hr => mem_reasmTimeout hr, rfl⟩
  · exact fun id => ⟨_, run1_of rfl, fun w hw => mem_workExpiry hw, rfl⟩
end

section
/-!
The load switches of chapter 16: command frames and their loss, a channel's own protection, the quad budget and open
load (O40).
-/

namespace Sys2Proof.Machine

/-! ### Command frames and their loss (16 R497, R498) -/

theorem lsFrame_other {d : Die} {p : Pkg} (clamp : List Nat) (h : p.duo.hoop ≠ some d) :
    lsFrame d clamp p = { p with duo := { p.duo with drops := inc32 p.duo.drops } } := if_pos h

theorem lsFrame_idle {d : Die} {p : Pkg} (clamp : List Nat) (h : p.duo.hoop = some d)
    (hs : p.lsw.up = false ∨ p.sup.warn = true ∨ drives p = false) : lsFrame d clamp p = p := by
  unfold lsFrame
  rw [if_neg (fun hc => hc h), if_pos]
  rcases hs with hs | hs | hs <;> simp [hs]

theorem lsFrame_taken {d : Die} {p : Pkg} (clamp : List Nat) (h : p.duo.hoop = some d) (hd : drives p = true)
    (hu : p.lsw.up = true) (hw : p.sup.warn = false) :
    lsFrame d clamp p =
      let q := (List.range 24).foldl (fun p c => takeCmd (fun c => clamp.getD c 0) (lchAt p c).cmd (lchAt p c).duty c
        (updCh c (fun x => { x with fs := false }) p)) p
      { q with lsw := { q.lsw with cmdAt := some p.clk } } := by
  unfold lsFrame
  rw [if_neg (fun hc => hc h), if_neg (by simp [hd, hu, hw])]

theorem lsLinkLoss_idle {p : Pkg} (clamp : List Nat) (h : p.lsw.cmdAt = none ∨
    (∃ t, p.lsw.cmdAt = some t ∧ due p (t + 10000000) = false) ∨ p.lsw.ch.any (·.fs) = true) : lsLinkLoss clamp p = p := by
  unfold lsLinkLoss
  split
  · rfl
  next t ht =>
    refine if_pos ?_
    rcases h with h | ⟨t', h, hd⟩ | h
    · rw [ht] at h; cases h
    · rw [ht] at h; cases h; simp [hd]
    · simp [h]

/-- A channel takes its FAILSAFE state (16 R498). -/
def failsafeCh (clamp : List Nat) (p : Pkg) (c : Nat) : Pkg :=
  let x := lchAt p c
  let q := updCh c (fun x => { x with fs := true }) p
  match x.failsafe with
  | .off => takeCmd (fun c => clamp.getD c 0) .off 0 c q
  | .on => takeCmd (fun c => clamp.getD c 0) (if x.use = .pwm then .pwm else .on) (if x.use = .pwm then x.fsDuty else 0) c q
  | .hold => q

theorem lsLinkLoss_due {p : Pkg} {t : Nat} (clamp : List Nat) (ht : p.lsw.cmdAt = some t)
    (hd : due p (t + 10000000) = true) (hf : p.lsw.ch.any (·.fs) = false) :
    lsLinkLoss clamp p = lswEvt (fun e => { e with linkLoss := true }) ((List.range 24).foldl (failsafeCh clamp) p) := by
  unfold lsLinkLoss
  rw [ht]
  simp only
  rw [if_neg (by simp [hd, hf])]
  congr 2
  funext p c
  simp only [failsafeCh]
  cases (lchAt p c).failsafe with
  | off => rfl
  | on => simp only; split <;> rfl
  | hold => rfl

/-! ### A channel's states (16 R499, R504) -/

theorem conducts_iff (x : LCh) : x.conducts = true ↔ x.st = .blank ∨ x.st = .on := by simp [LCh.conducts]

theorem takeCmd_off_conducting {p : Pkg} {c : Nat} (e : Nat → Nat) (duty : Nat)
    (h : (lchAt p c).st = .blank ∨ (lchAt p c).st = .on) : takeCmd e .off duty c p =
      switchOff c .off (e c) (updCh c (fun x => { x with held := (.off, duty) }) p) :=
  if_pos ((conducts_iff _).2 h)

theorem takeCmd_off_tripped {p : Pkg} {c : Nat} (e : Nat → Nat) (duty : Nat) (h : (lchAt p c).st = .tripped) :
    takeCmd e .off duty c p = updCh c (fun x => { x with st := .off }) (updCh c (fun x => { x with held := (.off, duty) }) p) := by
  simp [takeCmd, LCh.conducts, h]

theorem takeCmd_off_still {p : Pkg} {c : Nat} (e : Nat → Nat) (duty : Nat)
    (h : (lchAt p c).st = .off ∨ (lchAt p c).st = .latched) :
    takeCmd e .off duty c p = updCh c (fun x => { x with held := (.off, duty) }) p := by
  rcases h with h | h <;> simp [takeCmd, LCh.conducts, h]

theorem takeCmd_on {cmd : LCmd} (hc : cmd ≠ .off) (e : Nat → Nat) (duty c : Nat) (p : Pkg) :
    takeCmd e cmd duty c p = if (lchAt p c).st = .off then switchOn c (updCh c (fun x => { x with held := (cmd, duty) }) p)
      else updCh c (fun x => { x with held := (cmd, duty) }) p := by
  cases cmd with
  | off => exact absurd rfl hc
  | on => rfl
  | pwm => rfl

theorem switchOff_eq (c : Nat) (st : CState) (energy : Nat) (p : Pkg) : switchOff c st energy p = { p with lsw := { p.lsw with
    ch := upd p.lsw.ch c (fun x => { x with st := st, limit := false, eLast := min energy 65535
                                            over40 := if energy > 400 then inc16 x.over40 else x.over40 })
    evt := { p.lsw.evt with clamp := p.lsw.evt.clamp || decide (energy > 400) } } } := by
  simp [switchOff, lswEvt, updCh]

theorem thermalTrip_off {p : Pkg} {c : Nat} (energy : Nat) (h : (lchAt p c).conducts = false) : thermalTrip c energy p = p :=
  if_pos (by rw [h]; rfl)

theorem thermalTrip_retries {p : Pkg} {c : Nat} (energy : Nat) (h : (lchAt p c).conducts = true) (ha : (lchAt p c).auto = true)
    (hn : ((lchAt p c).trips.filter (fun t => p.clk < t + 1000000000)).length < (lchAt p c).retryMax) :
    thermalTrip c energy p = lswEvt (fun e => { e with thermal := true })
      (updCh c (fun x => { x with trips := p.clk :: (lchAt p c).trips.filter (fun t => p.clk < t + 1000000000) })
        (switchOff c .tripped energy p)) := by
  unfold thermalTrip
  simp only
  rw [if_neg (by simp [h]), if_pos (by simp [ha, hn])]

theorem thermalTrip_latches {p : Pkg} {c : Nat} (energy : Nat) (h : (lchAt p c).conducts = true) (hl : (lchAt p c).auto = false ∨
    (lchAt p c).retryMax ≤ ((lchAt p c).trips.filter (fun t => p.clk < t + 1000000000)).length) :
    thermalTrip c energy p = updCh c (fun x => { x with cause := .thermal
                                                        trips := (lchAt p c).trips.filter (fun t => p.clk < t + 1000000000) })
      (switchOff c .latched energy p) := by
  unfold thermalTrip
  simp only
  rw [if_neg (by simp [h]), if_neg]
  rcases hl with hl | hl
  · simp [hl]
  · simp [Nat.not_lt.2 hl]

theorem thermalRestart_same {p : Pkg} {c : Nat}
    (h : (lchAt p c).st ≠ .tripped ∨ (lchAt p c).held.1 = .off ∨ due p ((lchAt p c).trips.headD 0 + 10000000) = false) :
    thermalRestart c p = p := by
  refine if_neg ?_
  rintro ⟨ht, hh, hd⟩
  rcases h with h | h | h
  · exact h ht
  · exact hh h
  · rw [h] at hd; cases hd

theorem blankEnd_same {p : Pkg} {c : Nat}
    (h : (lchAt p c).st ≠ .blank ∨ due p ((lchAt p c).blankAt + (lchAt p c).blank * 1000000) = false) : blankEnd c p = p := by
  refine if_neg ?_
  rintro ⟨ht, hd⟩
  rcases h with h | h
  · exact h ht
  · rw [h] at hd; cases hd

/-- The condition under which a channel's mode watches for open load (16 R502). -/
theorem openLoad_on (c : Nat) (p : Pkg) : openLoad c true p =
    if ((lchAt p c).olMode = 1 ∨ (lchAt p c).olMode = 2) ∧ (lchAt p c).st = .on ∨ (lchAt p c).olMode = 3 ∧ (lchAt p c).st = .off
    then lswEvt (fun e => { e with open_ := true }) (updCh c (fun x => { x with open_ := true }) p) else p := by
  simp [openLoad]

/-! ### The quad budget (16 R501) -/

theorem quadShed_none {p : Pkg} {q : Nat} {meas : List (Nat × Int × Bool)} (energy : Nat)
    (h : shedChoice (quadMeas q meas p) q = none) :
    quadShed q meas energy p = lswEvt (fun e => { e with budget := true }) (quadMeas q meas p) := by
  unfold quadShed
  simp only
  rw [h]

theorem quadShed_some {p : Pkg} {q k : Nat} {meas : List (Nat × Int × Bool)} (energy : Nat)
    (h : shedChoice (quadMeas q meas p) q = some k) :
    quadShed q meas energy p =
      let p1 := quadMeas q meas p
      let p2 := updCh k (fun x => { x with cause := if (lchAt p1 k).limit then LCause.short else .budget }) (switchOff k .latched energy p1)
      lswEvt (fun e => { e with shed := true })
        { p2 with lsw := { p2.lsw with quad := upd p2.lsw.quad q (fun x => { x with sheds := inc8 x.sheds }) } } := by
  unfold quadShed
  simp only
  rw [h]

theorem best_eq_none {ge : Nat → Nat → Bool} {l : List Nat} (h : best ge l = none) : l = [] := by
  cases l with
  | nil => rfl
  | cons c r =>
    unfold best at h
    split at h
    · cases h
    · split at h <;> cases h

/-- The best of a list under a total order stands in the list, and above all of it. -/
theorem best_spec {ge : Nat → Nat → Bool} (total : ∀ a b, ge a b = true ∨ ge b a = true)
    (trans : ∀ a b c, ge a b = true → ge b c = true → ge a c = true) {l : List Nat} {k : Nat} (h : best ge l = some k) :
    k ∈ l ∧ ∀ j ∈ l, ge k j = true := by
  have refl : ∀ a, ge a a = true := fun a => (total a a).elim id id
  induction l generalizing k with
  | nil => cases h
  | cons c r ih =>
    unfold best at h
    split at h
    next hn =>
      cases h
      rw [best_eq_none hn]
      simp [refl]
    next d hd =>
      obtain ⟨hm, hge⟩ := ih hd
      split at h
      next hdc =>
        cases h
        refine ⟨List.mem_cons_of_mem _ hm, fun j hj => ?_⟩
        rcases List.mem_cons.1 hj with rfl | hj
        · exact hdc
        · exact hge j hj
      next hdc =>
        cases h
        have hcd : ge c d = true := (total c d).resolve_right hdc
        refine ⟨List.mem_cons_self, fun j hj => ?_⟩
        rcases List.mem_cons.1 hj with rfl | hj
        · exact refl _
        · exact trans _ _ _ hcd (hge j hj)

/-- The channels of a quad that are ON. -/
theorem mem_quadOn {p : Pkg} {q k : Nat} :
    k ∈ ((List.range 4).map (4 * q + ·)).filter (fun c => (lchAt p c).st == .on) ↔
      4 * q ≤ k ∧ k < 4 * q + 4 ∧ (lchAt p k).st = .on := by
  simp only [List.mem_filter, List.mem_map, List.mem_range, beq_iff_eq]
  constructor
  · rintro ⟨⟨i, hi, rfl⟩, ho⟩
    exact ⟨by omega, by omega, ho⟩
  · rintro ⟨h1, h2, ho⟩
    exact ⟨⟨k - 4 * q, by omega, by omega⟩, ho⟩

/-- The channel shed is on, and the hottest of those in limit, or with none in limit one of the greatest current. -/
theorem shedChoice_spec {p : Pkg} {q k : Nat} (h : shedChoice p q = some k) :
    (4 * q ≤ k ∧ k < 4 * q + 4 ∧ (lchAt p k).st = .on) ∧
      ∀ j, 4 * q ≤ j → j < 4 * q + 4 → (lchAt p j).st = .on →
        ((lchAt p j).limit = true → (lchAt p k).limit = true ∧ (lchAt p j).tj ≤ (lchAt p k).tj) ∧
        ((lchAt p k).limit = false → (lchAt p j).i ≤ (lchAt p k).i) := by
  unfold shedChoice at h
  simp only at h
  split at h
  next =>
    obtain ⟨hk, hb⟩ := best_spec (fun a b => by simp only [decide_eq_true_eq]; omega)
      (fun a b c => by simp only [decide_eq_true_eq]; omega) h
    obtain ⟨hon, hl⟩ := List.mem_filter.1 hk
    refine ⟨mem_quadOn.1 hon, fun j h1 h2 ho => ⟨fun hj => ⟨hl, ?_⟩, fun hn => ?_⟩⟩
    · simpa using hb j (List.mem_filter.2 ⟨mem_quadOn.2 ⟨h1, h2, ho⟩, hj⟩)
    · rw [hl] at hn; cases hn
  next hn =>
    obtain ⟨hk, hb⟩ := best_spec (fun a b => by simp only [Bool.or_eq_true, Bool.and_eq_true, decide_eq_true_eq]; omega)
      (fun a b c => by simp only [Bool.or_eq_true, Bool.and_eq_true, decide_eq_true_eq]; omega) h
    refine ⟨mem_quadOn.1 hk, fun j h1 h2 ho => ⟨fun hj => ?_, fun _ => ?_⟩⟩
    · exact absurd (List.ne_nil_of_mem (List.mem_filter.2 ⟨mem_quadOn.2 ⟨h1, h2, ho⟩, hj⟩)) hn
    · have := hb j (mem_quadOn.2 ⟨h1, h2, ho⟩)
      simp only [Bool.or_eq_true, Bool.and_eq_true, decide_eq_true_eq] at this
      omega

end Sys2Proof.Machine

open Sys2Proof Sys2Proof.Machine

/-- Settles O40: by what each operation of a channel comes to, and the choice of the channel that a quad sheds. -/
theorem loadSwitchChannelsFollowCommandsAndProtectThemselves :
    Obligations.LoadSwitchChannelsFollowCommandsAndProtectThemselves := by
  intro s c q clamp energy
  refine ⟨fun d hd => does_of (lsFrame_other clamp hd), fun d hd hr hu hw => does_of (lsFrame_taken clamp hd hr hu hw),
    fun d hd hs => run1_same (lsFrame_idle clamp hd hs), ?_, fun p st => switchOff_eq c.val st energy p,
    fun h => run1_same (lsLinkLoss_idle clamp h), fun t ht hd hf => does_of (lsLinkLoss_due clamp ht hd hf),
    fun h => run1_same (thermalTrip_off energy h), ?_, ?_, fun h => run1_same (thermalRestart_same h), ?_,
    fun h => run1_same (blankEnd_same h), ?_, ?_, does_of rfl, ?_, ?_⟩
  · intro p cmd duty
    refine ⟨?_, ?_, ?_, fun hc hs => ?_, fun hc hs => ?_⟩
    · rintro rfl h; exact takeCmd_off_conducting _ _ h
    · rintro rfl h; exact takeCmd_off_tripped _ _ h
    · rintro rfl h; exact takeCmd_off_still _ _ h
    · exact (takeCmd_on hc _ _ _ _).trans (if_pos hs)
    · exact (takeCmd_on hc _ _ _ _).trans (if_neg hs)
  · exact fun h => ⟨fun ⟨ha, hn⟩ => does_of (thermalTrip_retries energy h ha hn), fun hl => does_of (thermalTrip_latches energy h hl)⟩
  · exact fun ht hh hd => does_of (if_pos ⟨ht, hh, hd⟩)
  · exact fun hb hd => does_of (if_pos ⟨hb, hd⟩)
  · exact fun meas => ⟨fun h => does_of (quadShed_none energy h), fun k h => does_of (quadShed_some energy h)⟩
  · intro p k h
    obtain ⟨⟨h1, h2, h3⟩, hb⟩ := shedChoice_spec h
    exact ⟨h1, h2, h3, hb⟩
  · exact fun h => does_of ((openLoad_on _ _).trans (if_pos h))
  · exact fun h1 h2 => run1_same ((openLoad_on _ _).trans (if_neg (fun h => h.elim h1 h2)))
end

section
/-!
The inter-vessel lanes of chapter 12: training, blocks and electrical idle (O34).
-/

namespace Sys2Proof.Machine

/-! ### Training frames and their time limits (12 R396) -/

theorem trainingFrame_same {p : Pkg} {l : Nat} (f : TrainIn)
    (h : (flAt p l).st = .down ∨ (flAt p l).st = .disabled ∨ awake p = false) : trainingFrame l f p = p :=
  if_pos (by simpa using h)

/-- What is left of a training frame at a lane that is neither down nor disabled, while a Stitch die is active. -/
theorem trainingFrame_awake {p : Pkg} {l : Nat} (f : TrainIn) (ha : awake p = true) (hd : (flAt p l).st ≠ .down)
    (hx : (flAt p l).st ≠ .disabled) :
    trainingFrame l f p = if (flAt p l).st = .up then upFrame l f p else
      if (flAt (updFl l (trainStep p.clk f) p) l).st ≠ .search ∧ (flAt (updFl l (trainStep p.clk f) p) l).train.bad ≥ 16
      then laneFall l (updFl l (trainStep p.clk f) p) else updFl l (trainStep p.clk f) p :=
  if_neg (by simp [ha, hd, hx])

theorem trainingFrame_up {p : Pkg} {l : Nat} (f : TrainIn) (ha : awake p = true) (hu : (flAt p l).st = .up) :
    trainingFrame l f p = upFrame l f p := by
  rw [trainingFrame_awake f ha (by simp [hu]) (by simp [hu]), if_pos hu]

/-- A frame position in UP that is no second marker in a row. -/
theorem upFrame_first {p : Pkg} {l : Nat} {f : TrainIn} (h : f.marker = false ∨ (flAt p l).train.upMarks = 0) :
    upFrame l f p = updFl l (fun x => { x with train := { x.train with upMarks := if f.marker = true then 1 else 0 } }) p := by
  have hn : (if f.marker = true then (flAt p l).train.upMarks + 1 else 0) = if f.marker = true then 1 else 0 := by
    rcases h with h | h <;> simp [h]
  unfold upFrame
  simp only [hn]
  refine if_neg ?_
  split <;> decide

theorem upFrame_second {p : Pkg} {l : Nat} {f : TrainIn} (hm : f.marker = true) (h : (flAt p l).train.upMarks ≥ 1) :
    upFrame l f p = laneFall l p := by
  refine if_pos ?_
  rw [if_pos hm]
  omega

theorem searchTimeout_same {p : Pkg} {l : Nat}
    (h : (flAt p l).st ≠ .search ∨ due p ((flAt p l).train.since + 10000000) = false) : searchTimeout l p = p := by
  refine if_neg ?_
  rintro ⟨hs, hd⟩
  exact h.elim (fun h => h hs) (fun h => by simp [h] at hd)

theorem equaliseTimeout_same {p : Pkg} {l : Nat}
    (h : (flAt p l).st ≠ .equalise ∨ due p ((flAt p l).train.since + 50000000) = false) : equaliseTimeout l p = p := by
  refine if_neg ?_
  rintro ⟨hs, hd⟩
  exact h.elim (fun h => h hs) (fun h => by simp [h] at hd)

/-! ### Blocks (12 R385 to R391) -/

theorem blockReceived_same {p : Pkg} {l : Nat} (levels : List Nat) (h : ((flAt p l).st ≠ .up ∧ (flAt p l).st ≠ .countdown) ∨
    (flAt p l).data.rxIdle = true ∨ (flAt p l).data.wait.isSome = true) : blockReceived l levels p = p := by
  refine if_pos ?_
  rcases h with ⟨h1, h2⟩ | h | h
  · exact .inl (by simp [h1, h2])
  · exact .inr (.inl h)
  · exact .inr (.inr h)

/-- A block with no injection on the lane: its levels as they came are taken. -/
theorem blockReceived_up {p : Pkg} {l : Nat} (levels : List Nat) (hu : (flAt p l).st = .up)
    (hi : (flAt p l).data.rxIdle = false) (hw : (flAt p l).data.wait = none) (hr : (flAt p l).run = none) :
    blockReceived l levels p = takeBlock l (((levels ++ List.replicate 1088 0).take 1088).map (· % 4)) p := by
  have hf : firstBlock l p = p := if_neg (by simp [hu])
  have hj : ∀ ls, injLine l false ls p = (ls, p) := by simp [injLine, injOn, hr]
  unfold blockReceived
  simp only
  rw [if_neg (by simp [hu, hi, hw]), hf, hj]

/-- Levels that are taken: a block that no decoding corrects is dropped, of another the flits are taken. -/
theorem takeBlock_cases (l : Nat) (ls : List Nat) (p : Pkg) :
    let d := (flAt p l).data
    let g := if d.preRx = true then unprecode d.rxP ls else (ls, d.rxP)
    let u := rsUnblock (bytesOfSyms g.1)
    let c := scramble d.rxScr (u.1.getD (List.replicate 256 0))
    let q := updFl l (fun x => { x with corr := satAdd 0xFFFFFFFF x.corr u.2.1, errNow := (x.errNow.1 + u.2.2, x.errNow.2 + 1)
                                        data := { x.data with rxP := g.2, rxScr := c.2 } }) p
    (u.1 = none → takeBlock l ls p = blockBad l q) ∧
      (u.1.isSome = true → takeBlock l ls p = takeFlits l ((List.range 8).map (fun k => ((c.1.drop (32 * k)).take 32).map byte)) q) := by
  intro d g u c q
  have ht : takeBlock l ls p = match u.1 with
      | none => blockBad l q
      | some _ => takeFlits l ((List.range 8).map (fun k => ((c.1.drop (32 * k)).take 32).map byte)) q := rfl
  rw [ht]
  cases u.1 with
  | none => exact ⟨fun _ => rfl, nofun⟩
  | some _ => exact ⟨nofun, fun _ => rfl⟩

/-! ### Electrical idle (12 R399 to R402) -/

theorem idleDetected_same {p : Pkg} {l : Nat} (h : (flAt p l).st ≠ .up ∨ (flAt p l).data.wait.isSome = true) :
    idleDetected l p = p := by
  refine if_neg ?_
  rintro ⟨hs, hw⟩
  rcases h with h | h
  · exact h hs
  · simp [Option.isNone_iff_eq_none.1 hw] at h

theorem picotMarker_waited {p : Pkg} {l t : Nat} {asked : Bool} (hu : (flAt p l).st = .up)
    (hw : (flAt p l).data.wait = some (t, asked)) :
    picotMarker l p = updFl l (fun x => { x with
      resyncs := if asked = true then x.resyncs else inc8 x.resyncs
      data := { x.data with wait := none, rxIdle := false, rxScr := 0x7FFFFFFF, rxP := 0 } }) p := by
  simp [picotMarker, hw, hu]

theorem picotTimeout_waited {p : Pkg} {l t : Nat} {asked : Bool} (hu : (flAt p l).st = .up)
    (hw : (flAt p l).data.wait = some (t, asked)) :
    picotTimeout l p = if due p (t + (if asked = true then 2000000 else 2000)) = true then laneFall l p else p := by
  simp [picotTimeout, hw, hu]

theorem picotMarker_same {p : Pkg} {l : Nat} (h : (flAt p l).st ≠ .up ∨ (flAt p l).data.wait = none) : picotMarker l p = p := by
  unfold picotMarker
  simp only
  split
  · rfl
  next hw => exact if_pos (h.resolve_right (by simp [hw]))

theorem picotTimeout_same {p : Pkg} {l : Nat} (h : (flAt p l).st ≠ .up ∨ (flAt p l).data.wait = none) : picotTimeout l p = p := by
  unfold picotTimeout
  simp only
  split
  · rfl
  next hw => exact if_neg (fun hc => h.resolve_right (by simp [hw]) hc.1)

/-! ### The transmitter (12 R385, R396, R400, R401) -/

theorem idleExit_due {p : Pkg} {l : Nat} (hd : drives p = true) (hu : (flAt p l).st = .up) (hi : (flAt p l).data.txIdle = true)
    (h1 : due p ((flAt p l).data.txIdleAt + 205) = true)
    (h2 : (nlAt p l).txq ≠ [] ∨ due p ((flAt p l).data.txIdleAt + 1000000) = true) : idleExit l p = picotBurst l p :=
  if_pos ⟨hu, hi, hd, h1, h2.imp_left (by simp)⟩

theorem idleExit_same {p : Pkg} {l : Nat} (h : (flAt p l).st ≠ .up ∨ (flAt p l).data.txIdle = false ∨ drives p = false ∨
    due p ((flAt p l).data.txIdleAt + 205) = false) : idleExit l p = p := by
  refine if_neg ?_
  rintro ⟨hu, hi, hd, h1, -⟩
  rcases h with h | h | h | h
  · exact h hu
  · simp [h] at hi
  · simp [h] at hd
  · simp [h] at h1

theorem laneTransmit_same {p : Pkg} {l : Nat} (h : (flAt p l).st = .down ∨ (flAt p l).st = .disabled ∨
    ((flAt p l).st = .up ∧ (flAt p l).data.txIdle = true) ∨ drives p = false) : laneTransmit l p = p := by
  unfold laneTransmit
  by_cases hd : drives p = true
  · rcases h with h | h | ⟨h, hi⟩ | h
    · simp [h]
    · simp [h]
    · simp [h, hi]
    · simp [h] at hd
  · simp [hd]

theorem laneTransmit_block {p : Pkg} {l : Nat} (hd : drives p = true) (h : ((flAt p l).st = .up ∧ (flAt p l).data.txIdle = false) ∨
    ((flAt p l).st = .countdown ∧ (flAt p l).train.counted = true)) : laneTransmit l p = sendBlock l p := by
  rcases h with ⟨h, h'⟩ | ⟨h, h'⟩ <;> simp [laneTransmit, hd, h, h']

theorem laneTransmit_training {p : Pkg} {l : Nat} (hd : drives p = true) (h : (flAt p l).st = .search ∨ (flAt p l).st = .locked ∨
    (flAt p l).st = .equalise ∨ (flAt p l).st = .ready ∨ ((flAt p l).st = .countdown ∧ (flAt p l).train.counted = false)) :
    laneTransmit l p = sendTraining l p := by
  rcases h with h | h | h | h | ⟨h, h'⟩
  case inr.inr.inr.inr => simp [laneTransmit, hd, h, h']
  all_goals simp [laneTransmit, hd, h]

end Sys2Proof.Machine

open Sys2Proof Sys2Proof.Machine

/-- Settles O34: by what each row of a lane comes to in each of its states. -/
theorem lanesTrainReceiveAndIdle : Obligations.LanesTrainReceiveAndIdle := by
  intro s l
  refine ⟨fun f h => run1_same (trainingFrame_same f h), ?_, ?_, fun hs hd => does_of (if_pos ⟨hs, hd⟩),
    fun h => run1_same (searchTimeout_same h), fun hs hd => does_of (if_pos ⟨hs, hd⟩),
    fun h => run1_same (equaliseTimeout_same h), fun levels h => run1_same (blockReceived_same levels h), ?_,
    fun h => does_of (if_pos h), fun h => run1_same (if_neg (by simp [h])), fun hu hw => does_of (if_pos ⟨hu, by simp [hw]⟩),
    fun h => run1_same (idleDetected_same h), ?_, fun h => ⟨run1_same (picotMarker_same h), run1_same (picotTimeout_same h)⟩,
    fun hd hu hi h1 h2 => does_of (idleExit_due hd hu hi h1 h2), fun h => run1_same (idleExit_same h),
    fun h => run1_same (laneTransmit_same h), fun hd h => does_of (laneTransmit_block hd h),
    fun hd h => does_of (laneTransmit_training hd h)⟩
  · exact fun f ha hu => ⟨fun h => does_of ((trainingFrame_up f ha hu).trans (upFrame_first h)),
      fun hm h => does_of ((trainingFrame_up f ha hu).trans (upFrame_second hm h))⟩
  · intro f ha hd hx hu
    have ht := (trainingFrame_awake f ha hd hx).trans (if_neg hu)
    refine ⟨fun h => does_of (ht.trans (if_neg ?_)), fun h1 h2 => does_of (ht.trans (if_pos ⟨h1, h2⟩))⟩
    rintro ⟨h1, h2⟩
    exact h.elim h1 (Nat.not_lt.2 h2)
  · intro levels hu hi hw hr
    have hb := blockReceived_up levels hu hi hw hr
    obtain ⟨hn, hs⟩ := takeBlock_cases l.val (((levels ++ List.replicate 1088 0).take 1088).map (· % 4)) s.m
    exact ⟨fun h => does_of (hb.trans (hn h)), fun h => does_of (hb.trans (hs h))⟩
  · intro t asked hu hw
    exact ⟨does_of (picotMarker_waited hu hw), fun hd => does_of ((picotTimeout_waited hu hw).trans (if_pos hd)),
      fun hd => run1_same ((picotTimeout_waited hu hw).trans (if_neg (by simp [hd])))⟩
end

section
/-!
The supervisory boundary: what it does with and without supply, the active die's part in it, and the accepted work (O28).
-/

namespace Sys2Proof.Machine

/-! ### The boundary with and without supply (01 R33) -/

theorem boundary_unsupplied {b : BoundaryIn} {p : Pkg} (h : p.sup.upAt = none) : boundary b p = p :=
  if_pos (by rw [h]; rfl)

theorem boundary_held {b : BoundaryIn} {p : Pkg} (hu : p.sup.upAt.isSome = true) (hs : p.sup.started = false) :
    boundary b p = advance (nextBoundary p) p := by
  unfold boundary
  rw [if_neg (by simp [Option.isSome_iff_ne_none.1 hu]), if_pos (by simp [hs])]

theorem boundary_started {b : BoundaryIn} {p : Pkg} (hu : p.sup.upAt.isSome = true) (hs : p.sup.started = true) :
    boundary b p = endCycle (supervise (meterEnd (boundaryTick b p))) := by
  unfold boundary
  rw [if_neg (by simp [Option.isSome_iff_ne_none.1 hu]), if_neg (by simp [hs])]

/-- The answer of a boundary, from what the package comes to. -/
theorem exec_boundary_of {b : BoundaryIn} {s : State} {p : Pkg} (h : boundary b s.m = p) :
    exec (.supervisoryBoundary b) s =
      .next { s with m := lasting s.m (if p.sys.ldgDue = true then p else acquireWaiting p), snap := lasting s.m p } := by
  subst h; rfl

/-! ### The active die's part (02 R66) -/

theorem ifAwake_awake {p : Pkg} (f : Pkg → Pkg) (h : awake p = true) : ifAwake f p = f p := if_pos h

theorem ifAwake_asleep {p : Pkg} (f : Pkg → Pkg) (h : awake p = false) : ifAwake f p = p := if_neg (by simp [h])

/-- While Hoop selects no die, no part of the boundary is the active die's. -/
theorem supervise_asleep {p : Pkg} (h : awake p = false) : supervise p = p := by
  simp only [supervise, ifAwake_asleep _ h]

/-- A pattern counter that has not grown is noted as seen (07 R234). -/
theorem patternRead_quiet {p : Pkg} (h : p.eye.patErr ≤ p.eye.patSeen) (ha : awake p = true) :
    patternRead p = { p with eye := { p.eye with patSeen := p.eye.patErr } } := by
  unfold patternRead
  simp only
  split
  · exact if_neg (Nat.not_lt.2 h)
  next hn => simp [awake, hn] at ha

theorem owedStop_none {p : Pkg} (h : p.ce.stopOwed = false) : owedStop p = p := if_neg (by simp [h])

theorem owedLease_none {p : Pkg} (h : p.sys.leaseOwed = false) : owedLease p = p := if_neg (by simp [h])

/-- In IDLE and in PROVISION nothing derates (02 R65). -/
theorem derating_none {p : Pkg} (h : p.sys.mode = .idle ∨ p.sys.mode = .provision) : derating p = p := by
  rcases h with h | h <;> simp [derating, h]

theorem switchDue_none {p : Pkg} (h : p.duo.swDue = false) : switchDue p = p := if_neg (by simp [h])

/-- With no event before them, the accepted work and the new cycle are all that follows the pattern counter. -/
theorem afterPattern_quiet {q : Pkg} (ha : awake q = true) (hc : q.ce.stopOwed = false) (hl : q.sys.leaseOwed = false)
    (hm : q.sys.mode = .idle ∨ q.sys.mode = .provision) (hs : q.duo.swDue = false) :
    ifAwake (fun p => rollbackRaise (offsetsApply (applyWork (switchDue p))))
      (ifAwake (fun p => derating (owedLease p)) (ifAwake owedStop q)) = rollbackRaise (offsetsApply (applyWork q)) := by
  rw [ifAwake_awake owedStop ha, owedStop_none hc, ifAwake_awake (fun p => derating (owedLease p)) ha, owedLease_none hl,
    derating_none hm, ifAwake_awake (fun p => rollbackRaise (offsetsApply (applyWork (switchDue p)))) ha, switchDue_none hs]

/-- A cycle without an event leaves the accepted work and the new cycle. -/
theorem supervise_quiet {p : Pkg} (ha : awake p = true) (hp : p.eye.patErr ≤ p.eye.patSeen) (hc : p.ce.stopOwed = false)
    (hl : p.sys.leaseOwed = false) (hm : p.sys.mode = .idle ∨ p.sys.mode = .provision) (hs : p.duo.swDue = false) :
    supervise p = ifAwake newCycle (rollbackRaise (offsetsApply (applyWork { p with eye := { p.eye with patSeen := p.eye.patErr } }))) := by
  unfold supervise
  rw [ifAwake_awake patternRead ha, patternRead_quiet hp ha]
  exact congrArg (ifAwake newCycle) (afterPattern_quiet ha hc hl hm hs)

/-! ### Accepted work (03 R105, R109, R110) -/

/-- A client's item, in the order of what stops it. -/
theorem applyItem_client {q p : Pkg} {w : WorkItem} {c : Nat} (ho : w.origin = .client c) : applyItem q w p =
    if w.stopped = true ∧ actsOnCluster w.opcode w.payload p = true then finishWork w.id .faulted p
    else if guardNow w.opcode w.id w.payload q ≠ 0 then
      finishWork w.id .stateConflict { p with sys := { p.sys with lastGuard := guardNow w.opcode w.id w.payload q } }
    else applyOp q w.opcode w.id c w.payload p := by
  unfold applyItem
  rw [ho]

/-- The item accepted last is applied last. -/
theorem applyWork_last {p : Pkg} {l : List WorkItem} {w : WorkItem} (hl : p.mbx.work = l ++ [w]) (hw : w.state = .accepted) :
    applyWork p = applyItem p w ((l.filter (fun w => w.state == .accepted)).foldl (fun q w => applyItem p w q) p) := by
  simp [applyWork, hl, hw, List.foldl_append]

end Sys2Proof.Machine

open Sys2Proof Sys2Proof.Machine

/-- Settles O28: by the cases of the boundary, of the active die's part in it, and of an accepted item. -/
theorem boundariesTakeEventsThenWorkThenTheNewCycle : Obligations.BoundariesTakeEventsThenWorkThenTheNewCycle := by
  intro b s
  refine ⟨?_, ?_, fun hu hs => exec_boundary_of (boundary_started hu hs), ?_, ?_, ?_, fun p l w hl hw => applyWork_last hl hw⟩
  · intro hu
    simpa using exec_boundary_of (boundary_unsupplied (b := b) hu)
  · intro hu hs
    have hk : lasting s.m (advance (nextBoundary s.m) s.m) = advance (nextBoundary s.m) s.m := lasting_eq (advance_sys _ _)
    have h := exec_boundary_of (boundary_held (b := b) hu hs)
    rw [hk, advance_sys] at h
    exact h
  · exact fun p hn => supervise_asleep (by simp [awake, hn])
  · exact fun p d hd hp hc hl hm hs => supervise_quiet (by simp [awake, hd]) hp hc hl hm hs
  · intro q p w c ho
    have h := applyItem_client (q := q) (p := p) ho
    refine ⟨fun h1 h2 => h.trans (if_pos ⟨h1, h2⟩), fun h1 h2 => (h.trans (if_neg h1)).trans (if_pos h2),
      fun h1 h2 => (h.trans (if_neg h1)).trans (if_neg (not_not.2 h2))⟩
end

section
/-!
Clocks, references, memories and the Hoop decoders of chapter 01 (O24).
-/

namespace Sys2Proof.Machine

/-! ### References (01 R32) -/

/-- The loss of a reference beside a valid one: every PLL uses that other. -/
theorem refLost_spare {k : Nat} {p : Pkg} (h : (if k = 0 then p.sys.ref1Ok else p.sys.ref0Ok) = true) :
    refLost k p = { p with sys := if k = 0 then { p.sys with ref0Ok := false, refUsed := some 1 }
                                  else { p.sys with ref1Ok := false, refUsed := some 0 } } := by
  by_cases hk : k = 0
  · rw [if_pos hk] at h
    simp [refLost, useRef, hk, h]
  · rw [if_neg hk] at h
    simp [refLost, useRef, hk, h]

/-- The package when the last valid reference is lost. -/
def noRef (k : Nat) (p : Pkg) : Pkg :=
  { p with sys := if k = 0 then { p.sys with ref0Ok := false, refUsed := none } else { p.sys with ref1Ok := false, refUsed := none } }

/-- The loss of the last reference is a fault of both dies. -/
theorem refLost_last {k : Nat} {p : Pkg} (h : (if k = 0 then p.sys.ref1Ok else p.sys.ref0Ok) = false) :
    refLost k p = (let q := noRef k p
      let d := (activeDie q).getD .a
      if mayTakeOver q d.other = true then noDie d (noteLast d .self 0xF q)
      else dieFault .self 0xF d.other (dieFault .self 0xF d q)) := by
  by_cases hk : k = 0
  · rw [if_pos hk] at h
    simp [refLost, useRef, noRef, hk, h]
  · rw [if_neg hk] at h
    simp [refLost, useRef, noRef, hk, h]

/-- A reference is valid again: reference 0 is used before reference 1. -/
theorem useRef_valid (k : Nat) (p : Pkg) :
    useRef (if k = 0 then { p with sys := { p.sys with ref0Ok := true } } else { p with sys := { p.sys with ref1Ok := true } }) =
      { p with sys := if k = 0 then { p.sys with ref0Ok := true, refUsed := some 0 }
                      else { p.sys with ref1Ok := true, refUsed := if p.sys.ref0Ok = true then some 0 else some 1 } } := by
  split <;> simp [useRef]

/-! ### A decoder's intervals (01 R24, R25) -/

/-- A valid interval: the second of one code in a row decodes its die. -/
theorem interval_code {ps : Nat} {k : Die} (h : HoopDecoder) (clk : Nat) (hp : hoopIv ps = .code k) :
    (h.interval clk ps).iv = .code k ∧ 1 ≤ (h.interval clk ps).run ∧ (h.interval clk ps).errors = h.errors ∧
      ((h.interval clk ps).owner = h.owner ∨ (h.interval clk ps).owner = some k) ∧
      (h.iv = .code k → 1 ≤ h.run → (h.interval clk ps).owner = some k) := by
  have hr : 1 ≤ (if h.iv = .code k then min 3 (h.run + 1) else 1) := by split <;> omega
  have hr' : h.iv = .code k → 1 ≤ h.run → (if h.iv = .code k then min 3 (h.run + 1) else 1) ≥ 2 := by
    intro hi h1
    rw [if_pos hi]
    omega
  unfold HoopDecoder.interval
  simp only [hp]
  generalize (if h.iv = .code k then min 3 (h.run + 1) else 1) = r at hr hr' ⊢
  split
  · exact ⟨rfl, hr, rfl, .inr rfl, fun _ _ => rfl⟩
  next hn => exact ⟨rfl, hr, rfl, .inl rfl, fun hi h1 => absurd (hr' hi h1) hn⟩

/-- A decoder after intervals, oldest first. -/
def HoopDecoder.after (h : HoopDecoder) (clk : Nat) (l : List Nat) : HoopDecoder := l.foldl (fun h ps => h.interval clk ps) h

theorem after_cons (h : HoopDecoder) (clk ps : Nat) (l : List Nat) :
    h.after clk (ps :: l) = (h.interval clk ps).after clk l := rfl

/-- Two valid intervals of one code in a row decode its die, and no error is counted. -/
theorem after_code_twice {i j : Nat} {k : Die} (h : HoopDecoder) (clk : Nat) (hi : hoopIv i = .code k) (hj : hoopIv j = .code k) :
    (h.after clk [i, j]).owner = some k ∧ (h.after clk [i, j]).errors = h.errors := by
  obtain ⟨h1, h2, h3, -⟩ := interval_code h clk hi
  obtain ⟨-, -, h4, -, h5⟩ := interval_code (h.interval clk i) clk hj
  exact ⟨h5 h1 h2, h4.trans h3⟩

/-- An invalid interval is counted, and the third in a row takes the owner away. -/
theorem interval_bad {ps : Nat} (h : HoopDecoder) (clk : Nat) (hp : hoopIv ps = .bad) :
    h.interval clk ps = { h with
      iv := .bad, run := if h.iv = .bad then min 3 (h.run + 1) else 1, errors := inc8 h.errors
      owner := if (if h.iv = .bad then min 3 (h.run + 1) else 1) ≥ 3 then none else h.owner } := by
  unfold HoopDecoder.interval
  simp only [hp]

/-- The first invalid interval after a valid one keeps the owner. -/
theorem interval_bad_first {ps : Nat} {h : HoopDecoder} (clk : Nat) (hp : hoopIv ps = .bad) (hv : h.iv ≠ .bad) :
    h.interval clk ps = { h with errors := inc8 h.errors, iv := .bad, run := 1 } := by
  rw [interval_bad h clk hp]
  simp [hv]

/-- Three invalid intervals after a valid one: no owner, and three errors. -/
theorem after_bad_three {i j l : Nat} {h : HoopDecoder} (clk : Nat) (hi : hoopIv i = .bad) (hj : hoopIv j = .bad)
    (hl : hoopIv l = .bad) (hv : h.iv ≠ .bad) (he : h.errors < 253) :
    (h.after clk [i, j, l]).owner = none ∧ (h.after clk [i, j, l]).errors = h.errors + 3 := by
  have h1 : inc8 (inc8 (inc8 h.errors)) = h.errors + 3 := by
    unfold inc8 satAdd
    split_ifs <;> omega
  simp [HoopDecoder.after, interval_bad_first clk hi hv, interval_bad _ clk hj, interval_bad _ clk hl, h1]

/-! ### The Stitch dies' decoders (01 R17, R25) -/

@[simp] theorem putDecoder_twice (d : Die) (h h' : HoopDecoder) (y : Sys) : putDecoder d h' (putDecoder d h y) = putDecoder d h' y := by
  cases d <;> rfl

/-- A Stitch die's decoder touches neither the mode, nor the fuses, nor the Ground die's decoder. -/
theorem putDecoder_other (d : Die) (h : HoopDecoder) (y : Sys) : (putDecoder d h y).mode = y.mode ∧
    (putDecoder d h y).fuses = y.fuses ∧ (putDecoder d h y).hoopG = y.hoopG := by
  cases d <;> exact ⟨rfl, rfl, rfl⟩

/-- The decoders of a package in which one of them has been put. -/
theorem decoderOf_put {d : Die} {h : HoopDecoder} {p q : Pkg} (hq : q.sys = putDecoder d h p.sys) :
    decoderOf q d = h ∧ decoderOf q d.other = decoderOf p d.other := by
  cases d <;> simp [decoderOf, Die.other, hq, putDecoder]

/-- There are two Stitch dies. -/
theorem eq_other_of_ne {k d : Die} (h : k ≠ d) : k = d.other := by
  cases k <;> cases d <;> simp_all [Die.other]

/-- A decoder that keeps its owner, or loses it, enables no transmitter. -/
theorem drives_put {d : Die} {h : HoopDecoder} {p : Pkg} (ho : h.owner = (decoderOf p d).owner ∨ h.owner = none)
    (hd : drives { p with sys := putDecoder d h p.sys } = true) : drives p = true := by
  obtain ⟨hs, hx⟩ := decoderOf_put (p := p) (q := { p with sys := putDecoder d h p.sys }) rfl
  unfold drives at hd ⊢
  rw [show activeDie { p with sys := putDecoder d h p.sys } = activeDie p from rfl] at hd
  cases hk : activeDie p with
  | none => rw [hk] at hd; exact hd
  | some k =>
    rw [hk, Option.any_some] at hd
    rw [Option.any_some]
    by_cases hkd : k = d
    · subst hkd
      rw [hs] at hd
      rcases ho with ho | ho
      · rwa [ho] at hd
      · rw [ho] at hd; cases hd
    · obtain rfl := eq_other_of_ne hkd
      rwa [hx] at hd

/-- A queued frame that starts changes the CAN channels alone. -/
theorem tryQueue_keeps (c : Nat) (p : Pkg) : tryQueue c p = { p with can := (tryQueue c p).can } := by
  unfold tryQueue
  simp only
  split
  · rfl
  · split
    · rfl
    · split
      · split <;> rfl
      · split
        · rfl
        · split <;> rfl

/-- A decoder's new value, with the CAN frames that may start by it. -/
theorem stitchDecode_keeps (d : Die) (h : HoopDecoder) (p : Pkg) :
    stitchDecode d h p = { p with sys := putDecoder d h p.sys, can := (stitchDecode d h p).can } := by
  unfold stitchDecode
  simp only
  split
  · exact foldl_frame (fun q => { q with can := {} }) (fun a b => { a with can := b.can }) _ _ { p with sys := putDecoder d h p.sys }
      (fun q c => by rw [tryQueue_keeps]) (fun _ => rfl)
  · rfl

theorem stitchDecode_plain {d : Die} {h : HoopDecoder} {p : Pkg} (ho : h.owner = (decoderOf p d).owner ∨ h.owner = none) :
    stitchDecode d h p = { p with sys := putDecoder d h p.sys } :=
  if_neg fun ⟨h1, h2⟩ => by simp [drives_put ho h1] at h2

/-- Intervals at a Stitch die's decoder: it takes them one after the other, and CAN frames may start. -/
theorem hoopEdges_stitch (d : Die) (l : List Nat) (p : Pkg) :
    hoopEdges (.stitch d) l p =
      { p with sys := putDecoder d ((decoderOf p d).after p.clk l) p.sys
               can := (hoopEdges (.stitch d) l p).can } := by
  induction l generalizing p with
  | nil => cases d <;> rfl
  | cons ps l ih =>
    have hq := stitchDecode_keeps d ((decoderOf p d).interval p.clk ps) p
    have hd : decoderOf (stitchDecode d ((decoderOf p d).interval p.clk ps) p) d = (decoderOf p d).interval p.clk ps :=
      (decoderOf_put (by rw [hq])).1
    have hc : hoopEdges (.stitch d) (ps :: l) p = hoopEdges (.stitch d) l (stitchDecode d ((decoderOf p d).interval p.clk ps) p) := rfl
    generalize stitchDecode d ((decoderOf p d).interval p.clk ps) p = q at hq hd hc
    rw [hc, ih q, hd, hq, putDecoder_twice, after_cons]

/-- Invalid intervals at a Stitch die's decoder: nothing starts by them. -/
theorem hoopEdges_stitch_bad {l : List Nat} (d : Die) (p : Pkg) (hl : ∀ ps ∈ l, hoopIv ps = .bad) :
    hoopEdges (.stitch d) l p = { p with sys := putDecoder d ((decoderOf p d).after p.clk l) p.sys } := by
  induction l generalizing p with
  | nil => cases d <;> rfl
  | cons ps l ih =>
    have ho : ((decoderOf p d).interval p.clk ps).owner = (decoderOf p d).owner ∨ ((decoderOf p d).interval p.clk ps).owner = none := by
      rw [interval_bad _ _ (hl ps List.mem_cons_self)]
      exact (ite_eq_or_eq _ _ _).symm
    have hc : hoopEdges (.stitch d) (ps :: l) p = hoopEdges (.stitch d) l (stitchDecode d ((decoderOf p d).interval p.clk ps) p) := rfl
    have hd := (decoderOf_put (d := d) (h := (decoderOf p d).interval p.clk ps) (p := p)
      (q := { p with sys := putDecoder d ((decoderOf p d).interval p.clk ps) p.sys }) rfl).1
    rw [hc, stitchDecode_plain ho, ih _ (fun x hx => hl x (List.mem_cons_of_mem _ hx)), hd, putDecoder_twice, after_cons]

/-! ### The Ground die's decoder (01 R27, 07 R226, 11 R377) -/

/-- A change of owner at the pins changes chapter 07 alone. -/
theorem ownerSettle_keeps (old p : Pkg) : ownerSettle old p = { p with eye := (ownerSettle old p).eye } := by
  unfold ownerSettle
  rw [settleAll_keeps]

/-- A value that does not take an owner away, while no loss is held. -/
theorem groundDecode_follows {h : HoopDecoder} {p : Pkg} (hn : p.sys.noOwnerHold = false)
    (ho : p.sys.hoopG.owner.isSome = true → h.owner.isSome = true) :
    groundDecode h p = { p with sys := { p.sys with hoopG := h }, eye := (groundDecode h p).eye } := by
  have hc : ¬(p.sys.hoopG.owner.isSome = true ∧ h.owner.isNone = true) := fun ⟨h1, h2⟩ => by
    have := ho h1
    simp [Option.isNone_iff_eq_none.1 h2] at this
  unfold groundDecode
  simp only [hn, Bool.false_eq_true, if_false]
  rw [if_neg hc]
  split
  · rw [ownerSettle_keeps]
  · rfl

/-- A value with the same owner, while no loss is held, changes nothing else. -/
theorem groundDecode_same {h : HoopDecoder} {p : Pkg} (hn : p.sys.noOwnerHold = false) (ho : h.owner = p.sys.hoopG.owner) :
    groundDecode h p = { p with sys := { p.sys with hoopG := h } } := by
  have hc : ¬(p.sys.hoopG.owner.isSome = true ∧ h.owner.isNone = true) := fun ⟨h1, h2⟩ => by
    rw [← ho] at h1
    simp [Option.isNone_iff_eq_none.1 h2] at h1
  unfold groundDecode
  simp only [hn, Bool.false_eq_true, if_false]
  rw [if_neg hc, if_neg (fun h => h ho.symm)]

/-- While a loss is held no owner is accepted. -/
theorem groundDecode_held {p : Pkg} (h : HoopDecoder) (hn : p.sys.noOwnerHold = true) (ho : p.sys.hoopG.owner = none) :
    groundDecode h p = { p with sys := { p.sys with
      hoopG := { h with owner := none, kind := p.sys.hoopG.kind, since := p.sys.hoopG.since } } } := by
  unfold groundDecode
  simp [hn, ho]

/-- An owner lost starts the safe-stop sequence with cause 1, and where the mode has the row leads to SAFE_STOP. -/
theorem groundDecode_lost {h : HoopDecoder} {p : Pkg} (hn : p.sys.noOwnerHold = false) (hs : p.sys.hoopG.owner.isSome = true)
    (ho : h.owner = none) :
    ((groundDecode h p).duo.ss.running = true ∨ (groundDecode h p).duo.ss.latched = true) ∧
      (groundDecode h p).duo.ss.mask.testBit 0 = true ∧ (groundDecode h p).sys.hoopG = h ∧
      (inMode p [.armed, .deliver, .derate, .isolated, .service] = true → (groundDecode h p).sys.mode = .safeStop) := by
  let q := ssTrigger 1 h.kind { p with sys := { p.sys with hoopG := h, noOwnerHold := !p.duo.ss.latched } }
  have hon : q.duo.ss.running = true ∨ q.duo.ss.latched = true := ssTrigger_on _ _ _
  have hmask : q.duo.ss.mask.testBit 0 = true := ssTrigger_mask 1 _ _
  have hG : q.sys.hoopG = h := ssTrigger_free (g := Sys.hoopG) (by intros _; intros; rfl) _ _ _
  have hmode : inMode q [.armed, .deliver, .derate, .isolated, .service] = inMode p [.armed, .deliver, .derate, .isolated, .service] := by
    show List.contains _ q.sys.mode = _
    rw [show q.sys.mode = p.sys.mode by simp only [q]; rw [ssTrigger_keeps]]
    rfl
  have hg : groundDecode h p = if inMode q [.armed, .deliver, .derate, .isolated, .service] then toSafeStop q else q := by
    unfold groundDecode
    simp only [hn, Bool.false_eq_true, if_false]
    exact if_pos ⟨hs, by rw [ho]; rfl⟩
  rw [hg, ← hmode]
  split
  · obtain ⟨h1, -, -, h4⟩ := toSafeStop_mode q
    rw [h4]
    exact ⟨hon, hmask, (toSafeStop_free (g := Sys.hoopG) (by intros _; intros; rfl) q).trans hG, fun _ => h1⟩
  next hm => exact ⟨hon, hmask, hG, fun h => absurd h hm⟩

/-! ### The rows of the decoders -/

/-- A reference that is valid again. -/
theorem does_refclkValid (ref : Fin 2) (s : State) : Does (.refclkValid ref) s
    { s.m with sys := if ref.val = 0 then { s.m.sys with ref0Ok := true, refUsed := some 0 }
                      else { s.m.sys with ref1Ok := true, refUsed := if s.m.sys.ref0Ok = true then some 0 else some 1 } } := by
  rw [← useRef_valid]
  rfl

/-- Two intervals of one code at a Stitch die's decoder select it. -/
theorem runs_stitch_two {s : State} {d k : Die} {i j : Nat} (hi : hoopIv i = .code k) (hj : hoopIv j = .code k) :
    Runs (.hoopDecodeChange (.stitch d) [i, j]) s fun m =>
      m = { s.m with sys := m.sys, can := m.can } ∧ (decoderOf m d).owner = some k ∧
        (decoderOf m d).errors = (decoderOf s.m d).errors ∧ decoderOf m d.other = decoderOf s.m d.other ∧
        m.sys.hoopG = s.m.sys.hoopG := by
  have hm := hoopEdges_stitch d [i, j] s.m
  have hs : (hoopEdges (.stitch d) [i, j] s.m).sys = putDecoder d ((decoderOf s.m d).after s.m.clk [i, j]) s.m.sys := by
    rw [hm]
  obtain ⟨ho, he⟩ := after_code_twice (decoderOf s.m d) s.m.clk hi hj
  obtain ⟨hmode, hf, hG⟩ := putDecoder_other d ((decoderOf s.m d).after s.m.clk [i, j]) s.m.sys
  obtain ⟨hd, hx⟩ := decoderOf_put hs
  rw [← hs] at hmode hf hG
  refine ⟨_, run1_keep rfl hmode hf, ?_, ?_, ?_, hx, hG⟩
  · rw [hm]
  · rw [hd]; exact ho
  · rw [hd]; exact he

/-- Three invalid intervals at a Stitch die's decoder take its owner away. -/
theorem runs_stitch_bad {s : State} {d : Die} {i j l : Nat} (hi : hoopIv i = .bad) (hj : hoopIv j = .bad) (hl : hoopIv l = .bad)
    (hv : (decoderOf s.m d).iv ≠ .bad) (he : (decoderOf s.m d).errors < 253) :
    Runs (.hoopTimeout (.stitch d) { ivals := [i, j, l] }) s fun m => m = { s.m with sys := m.sys } ∧
      (decoderOf m d).owner = none ∧ (decoderOf m d).errors = (decoderOf s.m d).errors + 3 ∧
      decoderOf m d.other = decoderOf s.m d.other := by
  have hm := hoopEdges_stitch_bad (l := [i, j, l]) d s.m (by simp [hi, hj, hl])
  have hs : (hoopEdges (.stitch d) [i, j, l] s.m).sys = putDecoder d ((decoderOf s.m d).after s.m.clk [i, j, l]) s.m.sys := by
    rw [hm]
  obtain ⟨ho, h3⟩ := after_bad_three s.m.clk hi hj hl hv he
  obtain ⟨hmode, hf, -⟩ := putDecoder_other d ((decoderOf s.m d).after s.m.clk [i, j, l]) s.m.sys
  obtain ⟨hd, hx⟩ := decoderOf_put hs
  rw [← hs] at hmode hf
  refine ⟨_, run1_keep (f := hoopEdges (.stitch d) [i, j, l]) rfl hmode hf, ?_, ?_, ?_, hx⟩
  · rw [hm]
  · rw [hd]; exact ho
  · rw [hd]; exact h3

/-- Two intervals of one code at the Ground die's decoder, while no loss is held. -/
theorem hoopEdges_ground_two {p : Pkg} {k : Die} {i j : Nat} (hi : hoopIv i = .code k) (hj : hoopIv j = .code k)
    (hn : p.sys.noOwnerHold = false) :
    hoopEdges .ground [i, j] p = { p with sys := { p.sys with hoopG := p.sys.hoopG.after p.clk [i, j] }
                                          eye := (hoopEdges .ground [i, j] p).eye } := by
  obtain ⟨-, -, -, h1, -⟩ := interval_code p.sys.hoopG p.clk hi
  have hq := groundDecode_follows (h := p.sys.hoopG.interval p.clk i) hn
    (fun ho => by rcases h1 with h1 | h1 <;> simp [h1, ho])
  have hc : ∀ q, q = groundDecode (p.sys.hoopG.interval p.clk i) p →
      hoopEdges .ground [i, j] p = groundDecode (q.sys.hoopG.interval q.clk j) q := by rintro q rfl; rfl
  generalize groundDecode (p.sys.hoopG.interval p.clk i) p = q at hq hc
  have hG : q.sys.hoopG.interval q.clk j = p.sys.hoopG.after p.clk [i, j] := by rw [hq]; rfl
  have hm := groundDecode_follows (h := p.sys.hoopG.after p.clk [i, j]) (p := q) (by rw [hq]; exact hn)
    (fun _ => by rw [(after_code_twice p.sys.hoopG p.clk hi hj).1]; rfl)
  rw [hc q rfl, hG, hm, hq]

/-- They select it. -/
theorem runs_ground_two {s : State} {k : Die} {i j : Nat} (hi : hoopIv i = .code k) (hj : hoopIv j = .code k)
    (hn : s.m.sys.noOwnerHold = false) : Runs (.hoopDecodeChange .ground [i, j]) s fun m =>
      m = { s.m with sys := m.sys, eye := m.eye } ∧ m.sys = { s.m.sys with hoopG := m.sys.hoopG } ∧
        m.sys.hoopG.owner = some k ∧ m.sys.hoopG.errors = s.m.sys.hoopG.errors := by
  have hm := hoopEdges_ground_two hi hj hn
  have hs : (hoopEdges .ground [i, j] s.m).sys = { s.m.sys with hoopG := s.m.sys.hoopG.after s.m.clk [i, j] } := by rw [hm]
  obtain ⟨ho, he⟩ := after_code_twice s.m.sys.hoopG s.m.clk hi hj
  refine ⟨_, run1_keep rfl (by rw [hs]) (by rw [hs]), ?_, ?_, ?_, ?_⟩
  · rw [hm]
  · rw [hs]
  · rw [hs]; exact ho
  · rw [hs]; exact he

/-- An interval at the Ground die's decoder while the loss of the owner is held. -/
theorem runs_ground_held {s : State} (i : Nat) (hn : s.m.sys.noOwnerHold = true) (ho : s.m.sys.hoopG.owner = none) :
    Runs (.hoopDecodeChange .ground [i]) s fun m =>
      m = { s.m with sys := { s.m.sys with hoopG := m.sys.hoopG } } ∧ m.sys.hoopG.owner = none :=
  ⟨_, run1_keep (groundDecode_held (s.m.sys.hoopG.interval s.m.clk i) hn ho) rfl rfl, rfl, rfl⟩

/-- The first invalid interval at a decoder keeps its owner and is counted. -/
theorem runs_bad_first {s : State} {w : HoopWho} {i : Nat} (hi : hoopIv i = .bad) (hv : (w.decoder s.m).iv ≠ .bad)
    (hn : w = .ground → s.m.sys.noOwnerHold = false) :
    Runs (.hoopDecodeChange w [i]) s fun m => m = { s.m with sys := m.sys } ∧ m.sys.mode = s.m.sys.mode ∧
      w.decoder m = { w.decoder s.m with errors := inc8 (w.decoder s.m).errors, iv := .bad, run := 1 } := by
  have hb := interval_bad_first s.m.clk hi hv
  cases w with
  | ground =>
    have hg := groundDecode_same (h := s.m.sys.hoopG.interval s.m.clk i) (hn rfl)
      (by rw [show s.m.sys.hoopG.interval s.m.clk i = _ from hb]; rfl)
    exact ⟨_, run1_keep hg rfl rfl, rfl, rfl, hb⟩
  | stitch d =>
    have hm := hoopEdges_stitch_bad (l := [i]) d s.m (by simp [hi])
    obtain ⟨hmode, hf, -⟩ := putDecoder_other d ((decoderOf s.m d).interval s.m.clk i) s.m.sys
    refine ⟨_, run1_keep hm hmode hf, rfl, hmode, ?_⟩
    exact (decoderOf_put rfl).1.trans hb

/-- Silence at a Stitch die's decoder takes its owner away and counts nothing. -/
theorem does_stitch_silent (d : Die) (s : State) : Does (.hoopTimeout (.stitch d) { silent := true }) s
    { s.m with sys := putDecoder d (decoderOf s.m d).silence s.m.sys } :=
  does_of (f := hoopSilent (.stitch d)) (stitchDecode_plain (.inr rfl))

/-- Silence at the Ground die's decoder. -/
theorem runs_ground_silent {s : State} (hs : s.m.sys.hoopG.owner.isSome = true) (hn : s.m.sys.noOwnerHold = false) :
    Runs (.hoopTimeout .ground { silent := true }) s fun m =>
      (m.duo.ss.running = true ∨ m.duo.ss.latched = true) ∧ m.duo.ss.mask.testBit 0 = true ∧ m.sys.hoopG.owner = none ∧
        m.sys.hoopG.errors = s.m.sys.hoopG.errors ∧
        (inMode s.m [.armed, .deliver, .derate, .isolated, .service] = true → m.sys.mode = .safeStop) := by
  obtain ⟨hon, hmask, hG, hmode⟩ := groundDecode_lost (h := s.m.sys.hoopG.silence) hn hs rfl
  refine ⟨_, run1_eq (hoopSilent .ground) s, hon, hmask, ?_, ?_, fun hm => ?_⟩
  · exact congrArg (·.owner) hG
  · exact congrArg (·.errors) hG
  · have hr : s.m.sys.mode ≠ .retired := fun h => by simp [inMode, h] at hm
    exact (if_neg hr).trans (hmode hm)

end Sys2Proof.Machine

open Sys2Proof Sys2Proof.Machine

/-- Settles O24: by what each row comes to; of the decoders by what their intervals make of them. -/
theorem clocksMemoriesAndDecodersKeepTheirState : Obligations.ClocksMemoriesAndDecodersKeepTheirState := by
  intro s
  refine ⟨fun d dom lane h => does_of (if_neg h), fun d l h => does_of (if_pos h), fun ref h => does_of (refLost_spare h), ?_,
    fun ref => does_refclkValid ref s, fun mem => rfl, fun d => rfl, rfl, rfl, fun k i => rfl, fun n => rfl, fun n => rfl, fun id => rfl,
    fun d k i j hi hj => runs_stitch_two hi hj, fun k i j hi hj hn => runs_ground_two hi hj hn,
    fun k i _ hn ho => runs_ground_held i hn ho, fun w i hi hv hn => runs_bad_first hi hv hn, ?_,
    fun d i j l hi hj hl hv he => runs_stitch_bad hi hj hl hv he, fun hs hn => runs_ground_silent hs hn⟩
  · rintro ref p h rfl
    exact does_of (refLost_last h)
  · intro d
    have h := does_stitch_silent d s
    cases d <;> exact h
end

section
/-!
Messages of the envelope in an open session, and the request that opens one (O16).
-/

namespace Sys2Proof.Machine

/-! ### What is sent -/

/-- A message that is sent goes to EP2's queue, to what has left, or to the counts of those lost. -/
theorem sendOut_mbx (m : OutMsg) (v6 : Bool) (p : Pkg) : (sendOut m v6 p).mbx =
    { p.mbx with queue := (sendOut m v6 p).mbx.queue, err := (sendOut m v6 p).mbx.err, tx := (sendOut m v6 p).mbx.tx } := by
  unfold sendOut
  simp only
  split
  · split
    · rfl
    · split
      · rfl
      · split <;> rfl
  · split <;> rfl

/-- A message for EP0 or EP1 leaves at once while the active die's decoder selects it (03 R81, 01 R17). -/
theorem sendOut_tx {m : OutMsg} {p : Pkg} (v6 : Bool) (he : m.ep ≠ 2) (hm : muted p = false) :
    ∃ o, (sendOut m v6 p).mbx.tx = o :: p.mbx.tx ∧ o.type = m.type ∧ o.session = m.session ∧ o.body = m.body := by
  unfold sendOut
  simp only
  rw [if_neg he, if_neg (by simp [hm])]
  exact ⟨_, rfl, rfl, rfl, rfl⟩

/-- So does a message of an open session. -/
theorem sendIn_tx {sid : Nat} {y : Session} {p : Pkg} (type : Nat) (b : List Byte) (x : Bool) (hy : sessionOf p sid = some y)
    (he : y.ep ≠ 2) (hm : muted p = false) :
    ∃ o, (sendIn sid type b x p).mbx.tx = o :: p.mbx.tx ∧ o.type = type ∧ o.session = sid ∧ o.body = b := by
  unfold sendIn
  rw [hy]
  exact sendOut_tx (m := { ep := y.ep, type := type, session := sid, counter := y.sent + 1, body := b, pushed := x, peer := y.peer })
    y.v6 he hm

/-- The slots after a message of a session. -/
theorem slotAt_sendIn (sid type : Nat) (b : List Byte) (x : Bool) (p : Pkg) (k : Nat) :
    slotAt (sendIn sid type b x p) k = slotAt p k := by
  unfold slotAt
  rw [sendIn_slots]

theorem exportMark_mbx (x : Slot) (r : Result) (p : Pkg) : (exportMark x r p).mbx = p.mbx := by rw [exportMark_keeps]

/-- The slots after the mark EXPORTED (18 R551). -/
theorem slotAt_exportMark (x : Slot) (r : Result) (p : Pkg) (k : Nat) : slotAt (exportMark x r p) k = slotAt p k := by
  show (exportMark x r p).mbx.slots.getD k {} = _
  rw [exportMark_mbx]
  rfl

/-! ### COMMAND and RESULT_READ (03 R94 to R97) -/

/-- A COMMAND for an assigned slot that is not PENDING is placed, and answered with OK. -/
theorem command_placed {m : MsgIn} {y : Session} {p : Pkg} (hi : u8 m.body 12 < 64)
    (hs : (slotAt p (m.ep * 64 + u8 m.body 12)).state ≠ .pending)
    (ha : (((clientOf p y.client).getD {}).slots.getD m.ep []).contains (u8 m.body 12) = true) (hc : u32 m.body 4 = y.client)
    (hl : u16 m.body 2 + 32 = m.body.length) (ho : isOpcode (u16 m.body 0) = true) :
    command m y p = (let q := updSlot (m.ep * 64 + u8 m.body 12) (placed m.body y.id) p
      slotAck y (u8 m.body 12) .ok (generation q (slotAt q (m.ep * 64 + u8 m.body 12))) q) := by
  unfold command
  simp only
  rw [if_neg (fun h => hs h.2), if_neg, if_neg (not_not.2 hl), if_pos ho]
  rintro (h | h)
  · simp only [ha, hi, decide_true, Bool.and_self] at h
    cases h
  · exact h hc

/-- A RESULT_READ of a DONE slot returns its result and counts the read. -/
theorem resultRead_done {m : MsgIn} {y : Session} {p : Pkg} {r : Result} (hl : m.body.length = 4) (hi : u8 m.body 0 < 64)
    (hd : (slotAt p (m.ep * 64 + u8 m.body 0)).state = .done) (hr : (slotAt p (m.ep * 64 + u8 m.body 0)).result = some r) :
    resultRead m y p = (let x := slotAt p (m.ep * 64 + u8 m.body 0)
      exportMark x r (updSlot (m.ep * 64 + u8 m.body 0) (fun x => { x with reads := inc16 x.reads })
        (sendIn y.id 4 (resultBytes (generation p x) x.reads r) false p))) := by
  unfold resultRead readSlot
  simp only
  rw [if_neg (by omega)]
  simp only [hd, hr]

/-- COMMAND in an open session (03 R94). -/
theorem runs_command {s : State} {m : MsgIn} {x : Session} (h : InSession 1 m x s.m) (hi : u8 m.body 12 < 64)
    (hx : m.ep * 64 + u8 m.body 12 < s.m.mbx.slots.length) (hs : (slotAt s.m (m.ep * 64 + u8 m.body 12)).state ≠ .pending)
    (ha : (((clientOf s.m x.client).getD {}).slots.getD m.ep []).contains (u8 m.body 12) = true) (hc : u32 m.body 4 = x.client)
    (hl : u16 m.body 2 + 32 = m.body.length) (ho : isOpcode (u16 m.body 0) = true) :
    let ix := m.ep * 64 + u8 m.body 12
    Runs (.command m) s fun t =>
      slotAt t ix = placed m.body x.id (slotAt s.m ix) ∧ (∀ k, k ≠ ix → slotAt t k = slotAt s.m k) ∧
      (m.ep ≠ 2 → muted s.m = false → ∃ o, t.mbx.tx = o :: s.m.mbx.tx ∧ o.type = 2 ∧ o.session = x.id ∧
        o.body = [byte (u8 m.body 12), 0] ++ toLe 2 0 ++ toLe 4 (generation s.m (slotAt t ix))) ∧
      t = { s.m with mbx := t.mbx } := by
  intro ix
  have hf := (inSession_of h (command m)).trans
    (command_placed (p := heardIn m x s.m) (y := heard m x s.m) hi hs ha hc hl ho)
  have hses : sessionOf (updSlot ix (placed m.body x.id) (heardIn m x s.m)) x.id = some (heard m x s.m) := sessionOf_heardIn h
  have hslot : slotAt (updSlot ix (placed m.body x.id) (heardIn m x s.m)) ix = placed m.body x.id (slotAt s.m ix) :=
    slotAt_updSlot (p := heardIn m x s.m) _ hx
  have hkeep := sendIn_keeps x.id 2 ([byte (u8 m.body 12), 0] ++ toLe 2 Status.ok.code ++
    toLe 4 (generation s.m (slotAt (updSlot ix (placed m.body x.id) (heardIn m x s.m)) ix))) false
    (updSlot ix (placed m.body x.id) (heardIn m x s.m))
  have hsys := congrArg Pkg.sys hkeep
  refine ⟨_, run1_to hf hsys, ?_, fun k hk => ?_, fun he hm => ?_, hkeep⟩
  · exact (slotAt_sendIn _ _ _ _ _ _).trans hslot
  · exact (slotAt_sendIn _ _ _ _ _ _).trans (slotAt_updSlot_ne (p := heardIn m x s.m) _ hk)
  · obtain ⟨o, h1, h2, h3, h4⟩ := sendIn_tx 2 ([byte (u8 m.body 12), 0] ++ toLe 2 Status.ok.code ++
      toLe 4 (generation s.m (slotAt (updSlot ix (placed m.body x.id) (heardIn m x s.m)) ix))) false hses he hm
    refine ⟨o, h1, h2, h3, h4.trans ?_⟩
    simp only [slotAck, slotAt_sendIn]
    rfl

/-- RESULT_READ in an open session (03 R97). -/
theorem runs_resultRead {s : State} {m : MsgIn} {x : Session} {r : Result} (h : InSession 3 m x s.m) (hl : m.body.length = 4)
    (hi : u8 m.body 0 < 64) (hd : (slotAt s.m (m.ep * 64 + u8 m.body 0)).state = .done)
    (hr : (slotAt s.m (m.ep * 64 + u8 m.body 0)).result = some r) :
    let rx := m.ep * 64 + u8 m.body 0
    Runs (.resultRead m) s fun t =>
      slotAt t rx = { slotAt s.m rx with reads := inc16 (slotAt s.m rx).reads } ∧
      (∀ k, k ≠ rx → slotAt t k = slotAt s.m k) ∧
      (m.ep ≠ 2 → muted s.m = false → ∃ o, t.mbx.tx = o :: s.m.mbx.tx ∧ o.type = 4 ∧ o.session = x.id ∧
        o.body = resultBytes (generation s.m (slotAt s.m rx)) (slotAt s.m rx).reads r) ∧
      t = { s.m with mbx := t.mbx, key := t.key } := by
  intro rx
  let b := resultBytes (generation s.m (slotAt s.m rx)) (slotAt s.m rx).reads r
  let u := updSlot rx (fun x => { x with reads := inc16 x.reads }) (sendIn x.id 4 b false (heardIn m x s.m))
  have hf : inSession 3 m (resultRead m) s.m = exportMark (slotAt s.m rx) r u :=
    (inSession_of h (resultRead m)).trans (resultRead_done (p := heardIn m x s.m) (y := heard m x s.m) hl hi hd hr)
  have hq : ∀ k, slotAt (sendIn x.id 4 b false (heardIn m x s.m)) k = slotAt s.m k := slotAt_sendIn _ _ _ _ _
  have hx : rx < (sendIn x.id 4 b false (heardIn m x s.m)).mbx.slots.length := slot_lt (by rw [hq, hd]; decide)
  have hu : u = { s.m with mbx := u.mbx } := by
    simp only [u, updSlot]
    rw [sendIn_keeps]
    rfl
  have hkeep : exportMark (slotAt s.m rx) r u = { s.m with mbx := u.mbx, key := (exportMark (slotAt s.m rx) r u).key } := by
    rw [exportMark_keeps, hu]
  have hsys := congrArg Pkg.sys hkeep
  refine ⟨_, run1_to hf hsys, ?_, fun k hk => ?_, fun he hm => ?_, ?_⟩
  · rw [slotAt_exportMark, slotAt_updSlot _ hx, hq]
  · rw [slotAt_exportMark, slotAt_updSlot_ne _ hk, hq]
  · rw [exportMark_mbx]
    exact sendIn_tx 4 b false (sessionOf_heardIn h) he hm
  · rw [exportMark_mbx]
    exact hkeep

/-! ### CLOSE (03 R85) -/

theorem sessionOf_dropSession (id : Nat) (p : Pkg) : sessionOf (dropSession id p) id = none := by
  simp [sessionOf, dropSession, dropKey]

/-- A key that is removed serves no engine. -/
theorem regOf_dropKey (id : KeyId) (p : Pkg) : regOf (dropKey id p) id = none := by
  refine List.find?_eq_none.2 fun r hr => ?_
  have hid := (List.mem_filter.1 hr).2
  intro h
  simp only [Bool.and_eq_true, beq_iff_eq] at h
  simp [h.1] at hid

theorem sessionKey_dropSession (id : Nat) (p : Pkg) : sessionKey (dropSession id p) id = none := by
  unfold sessionKey dropSession
  rw [regOf_dropKey]
  rfl

/-- Every other session stays. -/
theorem mem_dropSession {id : Nat} {p : Pkg} {y : Session} (hy : y ∈ p.mbx.sessions) (hi : y.id ≠ id) :
    y ∈ (dropSession id p).mbx.sessions := by
  simp [dropSession, dropKey, hy, hi]

theorem mem_heardIn {m : MsgIn} {x y : Session} {p : Pkg} (hy : y ∈ p.mbx.sessions) (hi : y.id ≠ x.id) :
    y ∈ (heardIn m x p).mbx.sessions :=
  List.mem_map.2 ⟨y, hy, if_neg hi⟩

/-- CLOSE in an open session (03 R85). -/
theorem runs_close {s : State} {m : MsgIn} {x : Session} (h : InSession 7 m x s.m) (hb : m.body = []) :
    Runs (.close m) s fun t =>
      sessionOf t x.id = none ∧ (∀ y ∈ s.m.mbx.sessions, y.id ≠ x.id → y ∈ t.mbx.sessions) ∧ sessionKey t x.id = none ∧
        t = { s.m with mbx := { s.m.mbx with sessions := t.mbx.sessions }, key := { s.m.key with regs := t.key.regs } } := by
  have hf : inSession 7 m (closeMsg m) s.m = dropSession x.id (heardIn m x s.m) :=
    (inSession_of h (closeMsg m)).trans (if_pos (by rw [hb]; rfl))
  exact ⟨_, run1_to hf rfl, sessionOf_dropSession _ _, fun y hy hi => mem_dropSession (mem_heardIn hy hi) hi,
    sessionKey_dropSession _ _, rfl⟩

/-! ### OPEN_REQUEST (03 R88, R89) -/

/-- The package in which a new session of a client finds room (03 R89). -/
def roomFor (id : Nat) (p : Pkg) : Pkg :=
  match displaced p id with
  | some x => dropSession x p
  | none => p

/-- Room for a session is made in the sessions and the key registers. -/
theorem roomFor_keeps (id : Nat) (p : Pkg) : roomFor id p =
    { p with mbx := { p.mbx with sessions := (roomFor id p).mbx.sessions }, key := { p.key with regs := (roomFor id p).key.regs } } := by
  unfold roomFor
  split <;> rfl

theorem openRequest_opens {m : MsgIn} {p : Pkg} (sid : Nat) (nonce : List Byte) (ha : awake p = true) (hr : rootOf p.key = .ready)
    (hu : epUp p m.ep = true) (hf : Framed 5 m p) (hl : m.body.length = 229) (hs : m.session = 0)
    (hc : (clientOf p (u32 m.body 0)).isSome = true) (hg : m.sigOk = true) (he : p.key.entropy = true) :
    openRequest m sid nonce p = beginSession m sid nonce (roomFor (u32 m.body 0) p) := by
  unfold openRequest framed
  rw [if_neg (by simp [ha, hr]), framedOn_of hu hf]
  simp only
  rw [if_neg (by simp [hl, hs]), if_neg (by simp [he]), if_neg (by simp [Option.isSome_iff_ne_none.1 hc, hg])]
  rfl

/-- The package with the new session and its key, before the reply. -/
theorem beginSession_opens {m : MsgIn} {p : Pkg} {d : Die} (sid : Nat) (nonce : List Byte) (hd : p.duo.hoop = some d) :
    ∃ (n : Nat) (q : Pkg) (o : OutMsg), beginSession m sid nonce p = sendOut o m.v6 q ∧ o.ep = m.ep ∧ o.type = 6 ∧ o.session = n ∧
      (sessionKey q n).isSome = true ∧
      q = { p with mbx := { p.mbx with sessions := p.mbx.sessions ++ [newSession m n p] }, key := q.key, freeN := q.freeN } := by
  refine ⟨_, _, _, rfl, rfl, rfl, rfl, ?_, ?_⟩
  · unfold sessionKey
    rw [regOf_holdKey (d := d) _ rfl (by rw [loadKey_keeps]; exact hd)]
    rfl
  · rw [holdKey_keeps, loadKey_keeps]
    rfl

/-- OPEN_REQUEST of a known client (03 R88). -/
theorem runs_openRequest {s : State} {m : MsgIn} (sid : Nat) (nonce : List Byte) (ha : awake s.m = true)
    (hr : rootOf s.m.key = .ready) (hu : epUp s.m m.ep = true) (hf : Framed 5 m s.m) (hl : m.body.length = 229) (hs : m.session = 0)
    (hc : (clientOf s.m (u32 m.body 0)).isSome = true) (hg : m.sigOk = true) (he : s.m.key.entropy = true) :
    Runs (.openRequest m sid nonce) s fun t =>
      (∃ y ∈ t.mbx.sessions, y.client = u32 m.body 0 ∧ y.ep = m.ep ∧ y.opened = s.m.clk ∧ (sessionKey t y.id).isSome = true ∧
        (m.ep ≠ 2 → muted s.m = false → ∃ o, t.mbx.tx = o :: s.m.mbx.tx ∧ o.type = 6 ∧ o.session = y.id)) ∧
      t.mbx.slots = s.m.mbx.slots ∧ t = { s.m with mbx := t.mbx, key := t.key, freeN := t.freeN } := by
  obtain ⟨d, hd⟩ := Option.isSome_iff_exists.1 ha
  have hp := roomFor_keeps (u32 m.body 0) s.m
  have ho := openRequest_opens sid nonce ha hr hu hf hl hs hc hg he
  generalize roomFor (u32 m.body 0) s.m = p at hp ho
  obtain ⟨n, q, o, hb, h1, h2, h3, hk, hq⟩ := beginSession_opens (m := m) (p := p) (d := d) sid nonce (by rw [hp]; exact hd)
  have hkeep : sendOut o m.v6 q = { s.m with mbx := (sendOut o m.v6 q).mbx, key := (sendOut o m.v6 q).key
                                             freeN := (sendOut o m.v6 q).freeN } := by
    rw [sendOut_keeps, hq, hp]
  have hsys := congrArg Pkg.sys hkeep
  have hses : (sendOut o m.v6 q).mbx.sessions = p.mbx.sessions ++ [newSession m n p] := by rw [sendOut_mbx, hq]
  have hkey : sessionKey (sendOut o m.v6 q) n = sessionKey q n := by rw [sendOut_keeps]; rfl
  have hmute : muted q = muted s.m := by rw [hq, hp]; rfl
  have htx : q.mbx.tx = s.m.mbx.tx := by rw [hq, hp]
  refine ⟨_, run1_to (ho.trans hb) hsys, ⟨newSession m n p, ?_, rfl, rfl, ?_, ?_, fun he hm => ?_⟩, ?_, hkeep⟩
  · rw [hses]
    exact List.mem_append_right _ List.mem_cons_self
  · show p.clk = s.m.clk
    rw [hp]
  · exact (congrArg Option.isSome hkey).trans hk
  · obtain ⟨o', h4, h5, h6, -⟩ := sendOut_tx m.v6 (h1 ▸ he) (hmute.trans hm)
    exact ⟨o', htx ▸ h4, h5.trans h2, h6.trans h3⟩
  · rw [sendOut_slots, hq, hp]

end Sys2Proof.Machine

open Sys2Proof Sys2Proof.Machine

/-- Settles O16: each type of message by what it comes to once its session has heard it. -/
theorem envelopeMessagesOpenUseAndCloseSessions : Obligations.EnvelopeMessagesOpenUseAndCloseSessions := by
  intro s m x
  exact ⟨fun h hi hx hs ha hc hl ho => runs_command h hi hx hs ha hc hl ho, fun r h hl hi hd hr => runs_resultRead h hl hi hd hr,
    fun h hb => runs_close h hb, fun sid nonce ha hr hu hf hl hs hc hg he => runs_openRequest sid nonce ha hr hu hf hl hs hc hg he⟩
end

section
/-!
The recovery mailbox of the boot ROM (O19).
-/

namespace Sys2Proof.Machine

/-! ### A result in a slot that is not pushed -/

/-- A final result that is neither pushed nor refused for its guard stands in its slot and changes nothing else (03 R96, R98). -/
theorem finaliseR_plain {ix : Nat} {r : Result} {p : Pkg} (hp : (slotAt p ix).push = false) (hr : r.status ≠ .stateConflict) :
    finaliseR ix r p = updSlot ix (fun s => { s with state := .done, checked := false, work := none, waits := none
                                                     result := some r, reads := 0 }) p := by
  unfold finaliseR
  simp only
  rw [if_neg (by simp [hp]), if_neg hr]

/-- The result that the boot ROM makes of the command in slot 0. -/
def bootResult (ep : Nat) (st : Status) (payload : List Byte) (p : Pkg) : Result :=
  { status := st, opcode := (slotAt p (64 * ep)).opcode, client := (slotAt p (64 * ep)).client, seq := (slotAt p (64 * ep)).seq
    mode := p.sys.mode.code, payload := payload }

/-- The boot ROM's reply: the result is final in slot 0, and on EP0 and EP1 it is sent at once (03 R92, R96). -/
theorem recoveryReply_plain {ep : Nat} {st : Status} {p : Pkg} (payload : List Byte) (hs : 64 * ep < p.mbx.slots.length)
    (hp : (slotAt p (64 * ep)).push = false) (hst : st ≠ .stateConflict) :
    (slotAt (recoveryReply ep st payload p) (64 * ep)).state = .done ∧
      (slotAt (recoveryReply ep st payload p) (64 * ep)).result = some (bootResult ep st payload p) ∧
      (ep ≠ 2 → muted p = false → ∃ o, (recoveryReply ep st payload p).mbx.tx = o :: p.mbx.tx ∧ o.type = 8) ∧
      recoveryReply ep st payload p = { p with mbx := (recoveryReply ep st payload p).mbx } := by
  let q := updSlot (64 * ep) (fun s => { s with state := .done, checked := false, work := none, waits := none,
                                                result := some (bootResult ep st payload p), reads := 0 }) p
  have hq : finalise (64 * ep) st 0 0 payload p = q := finaliseR_plain hp hst
  have hslot : slotAt q (64 * ep) = _ := slotAt_updSlot _ hs
  have hres : (slotAt q (64 * ep)).result = some (bootResult ep st payload p) := by rw [hslot]
  obtain ⟨o, v6, hr, he, ht⟩ : ∃ o v6, recoveryReply ep st payload p = sendOut o v6 q ∧ o.ep = ep ∧ o.type = 8 := by
    unfold recoveryReply recoveryAnswer
    rw [hq]
    simp only [hres]
    exact ⟨_, _, rfl, rfl, rfl⟩
  have hsl : slotAt (sendOut o v6 q) (64 * ep) = slotAt q (64 * ep) := by unfold slotAt; rw [sendOut_slots]
  rw [hr, hsl]
  refine ⟨by rw [hslot], hres, fun hep hm => ?_, by rw [sendOut_keeps]; rfl⟩
  obtain ⟨o', h1, h2, -⟩ := sendOut_tx (m := o) (p := q) v6 (he ▸ hep) hm
  exact ⟨o', h1, h2.trans ht⟩

/-! ### The boot ROM's commands (03 R92) -/

/-- A chunk applied changes the image store, its loads and the work (03 R114). -/
theorem applyImageLoad_keeps (id : Nat) (d : List Byte) (p : Pkg) : applyImageLoad id d p =
    { p with mbx := { p.mbx with work := (applyImageLoad id d p).mbx.work }
             store := (applyImageLoad id d p).store, loads := (applyImageLoad id d p).loads } := by
  unfold applyImageLoad
  simp only
  split
  · rfl
  · split
    · rfl
    · split <;> rfl

theorem bootCommand_read {q p : Pkg} {ep : Nat} {d : List Byte} (hl : d.length = 8) (hr : bootReadOk d = true) :
    bootCommand q ep 0x0F01 d p = recoveryReply ep .ok (stateRead q d) p := by
  simp [bootCommand, hl, hr]

/-- The chunks that stand, with this one, cover the image (03 R114). -/
def chunkCompletes (d : List Byte) (p : Pkg) : Bool :=
  covers (u32 d 4) (((loadOf p (imgKey d)).filter (fun l => l.total == u32 d 4)).elim [] (·.parts) ++ [(u32 d 8, d.length - 12)])

theorem bootCommand_load {q p : Pkg} {ep : Nat} {d : List Byte} (hl : inR 13 4064 d.length = true) (hc : chunkOk d = true)
    (hv : (loadOf p (imgKey d)).any (fun l => l.verify.isSome) = false) (hn : p.mtr.nvBlock = false) :
    bootCommand q ep 0x0106 d p = if chunkCompletes d p = true
      then updSlot (64 * ep) (fun s => { s with waits := some (recoveryId ep) }) (applyImageLoad (recoveryId ep) d p)
      else recoveryReply ep .ok [] (applyImageLoad (recoveryId ep) d p) := by
  have hb : specImageLoad.busy p d = false := hv
  have hk : specImageLoad.lenOk d = true := hl
  unfold bootCommand
  rw [if_neg (by decide), if_pos rfl, if_neg (by simp [hk]), if_neg (by simp [hc]), if_neg (by simp [hb, hn])]
  rfl

/-- The package with a RECOVERY command in slot 0. -/
def bootPlaced (m : MsgIn) (p : Pkg) : Pkg :=
  updSlot (64 * m.ep) (fun x => { placed m.body 0 x with push := false })
    { p with mbx := { p.mbx with recPeer := upd p.mbx.recPeer m.ep (fun _ => m.peer) } }

/-- The slot then holds the command, which is not pushed. -/
theorem slotAt_bootPlaced {m : MsgIn} {p : Pkg} (hx : 64 * m.ep < p.mbx.slots.length) :
    slotAt (bootPlaced m p) (64 * m.ep) = { placed m.body 0 (slotAt p (64 * m.ep)) with push := false } :=
  slotAt_updSlot _ hx

/-- A RECOVERY message that the boot ROM serves: in BOOT with no firmware authenticated, well framed, for slot 0 that is not
PENDING (03 R92). -/
structure BootServes (m : MsgIn) (p : Pkg) : Prop where
  boot : p.sys.mode = .boot
  started : p.sup.started = true
  recov : p.key.recov = true
  up : bootUp p m.ep = true
  framed : Framed 8 m p
  slot0 : u8 m.body 12 = 0
  free : (slotAt p (64 * m.ep)).state ≠ .pending
  room : 64 * m.ep < p.mbx.slots.length
  length : u16 m.body 2 + 32 = m.body.length

/-- Its command is taken in slot 0. -/
theorem recovery_served {m : MsgIn} {p : Pkg} (q : Pkg) (h : BootServes m p) :
    recovery q m p = bootCommand q m.ep (u16 m.body 0) (m.body.drop 32) (bootPlaced m p) := by
  unfold recovery
  rw [if_neg (by simp [h.boot, h.started, h.recov]), framedOn_of h.up h.framed]
  simp only
  rw [if_neg (not_not.2 h.slot0), if_neg h.free, if_neg (not_not.2 h.length)]
  rfl

/-- A STATE_READ of the registers that the boot ROM lets be read (03 R92, R115). -/
theorem runs_recovery_read {s : State} {m : MsgIn} (h : BootServes m s.m) (ho : u16 m.body 0 = 0x0F01)
    (hl : (m.body.drop 32).length = 8) (hr : bootReadOk (m.body.drop 32) = true) :
    Runs (.recovery m) s fun t =>
      (slotAt t (64 * m.ep)).state = .done ∧
      (∃ r, (slotAt t (64 * m.ep)).result = some r ∧ r.status = .ok ∧ r.opcode = 0x0F01 ∧
        r.payload = stateRead (snapOf s) (m.body.drop 32)) ∧
      (m.ep ≠ 2 → muted s.m = false → ∃ o, t.mbx.tx = o :: s.m.mbx.tx ∧ o.type = 8) ∧
      t = { s.m with mbx := t.mbx, key := t.key } := by
  have hf := recovery_served (snapOf s) h
  rw [ho, bootCommand_read hl hr] at hf
  have hslot := slotAt_bootPlaced h.room
  obtain ⟨h1, h2, h3, h4⟩ := recoveryReply_plain (ep := m.ep) (st := .ok) (p := bootPlaced m s.m) (stateRead (snapOf s) (m.body.drop 32))
    (by simpa [bootPlaced, updSlot] using h.room) (by rw [hslot]) (by decide)
  have hkeep : recoveryReply m.ep .ok (stateRead (snapOf s) (m.body.drop 32)) (bootPlaced m s.m) =
      { s.m with mbx := (recoveryReply m.ep .ok (stateRead (snapOf s) (m.body.drop 32)) (bootPlaced m s.m)).mbx } := h4
  have hop : (slotAt (bootPlaced m s.m) (64 * m.ep)).opcode = 0x0F01 := by rw [hslot]; exact ho
  generalize recoveryReply m.ep .ok (stateRead (snapOf s) (m.body.drop 32)) (bootPlaced m s.m) = t at hf h1 h2 h3 hkeep
  refine ⟨t, run1_to hf (by rw [hkeep]), h1, ⟨_, h2, rfl, hop, rfl⟩, h3, ?_⟩
  rw [hkeep]

/-- An IMAGE_LOAD chunk (03 R92, R114). -/
theorem runs_recovery_load {s : State} {m : MsgIn} (h : BootServes m s.m) (ho : u16 m.body 0 = 0x0106)
    (hl : inR 13 4064 (m.body.drop 32).length = true) (hc : chunkOk (m.body.drop 32) = true)
    (hv : (loadOf s.m (imgKey (m.body.drop 32))).any (fun l => l.verify.isSome) = false) (hn : s.m.mtr.nvBlock = false) :
    let a := applyImageLoad (recoveryId m.ep) (m.body.drop 32) (bootPlaced m s.m)
    Runs (.recovery m) s fun t => t.store = a.store ∧ t.loads = a.loads ∧
      (chunkCompletes (m.body.drop 32) s.m = false →
        (slotAt t (64 * m.ep)).state = .done ∧ ∃ r, (slotAt t (64 * m.ep)).result = some r ∧ r.status = .ok) ∧
      t = { s.m with mbx := t.mbx, key := t.key, store := t.store, loads := t.loads } := by
  intro a
  have hf := recovery_served (snapOf s) h
  rw [ho, bootCommand_load (p := bootPlaced m s.m) hl hc hv hn] at hf
  have ha : a = { s.m with mbx := a.mbx, key := a.key, store := a.store, loads := a.loads } := by
    simp only [a]
    rw [applyImageLoad_keeps]
    rfl
  have hslots : a.mbx.slots = (bootPlaced m s.m).mbx.slots := by
    simp only [a]
    rw [applyImageLoad_keeps]
  have hslot : slotAt a (64 * m.ep) = slotAt (bootPlaced m s.m) (64 * m.ep) := by
    unfold slotAt
    rw [hslots]
  by_cases hw : chunkCompletes (m.body.drop 32) s.m = true
  · have hf := hf.trans (if_pos hw)
    have hsys := congrArg Pkg.sys ha
    have hkeep := congrArg (updSlot (64 * m.ep) (fun x => { x with waits := some (recoveryId m.ep) })) ha
    exact ⟨_, run1_to hf hsys, rfl, rfl, fun hn => absurd hw (by simp [hn]), hkeep⟩
  · have hf := hf.trans (if_neg hw)
    obtain ⟨h1, h2, -, h4⟩ := recoveryReply_plain (ep := m.ep) (st := .ok) (p := a) []
      (by rw [hslots]; simpa [bootPlaced, updSlot] using h.room) (by rw [hslot, slotAt_bootPlaced h.room]) (by decide)
    have hkeep : recoveryReply m.ep .ok [] a =
        { s.m with mbx := (recoveryReply m.ep .ok [] a).mbx, key := a.key, store := a.store, loads := a.loads } := by
      rw [h4, ha]
    have hf : recovery (snapOf s) m s.m = recoveryReply m.ep .ok [] a := hf
    generalize recoveryReply m.ep .ok [] a = t at hf h1 h2 hkeep
    exact ⟨t, run1_to hf (by rw [hkeep]), by rw [hkeep], by rw [hkeep], fun _ => ⟨h1, _, h2, rfl⟩, by rw [hkeep]⟩

end Sys2Proof.Machine

open Sys2Proof Sys2Proof.Machine

/-- Settles O19: the message is a command in slot 0, which the boot ROM answers or stores. -/
theorem recoveryMailboxServesTheBootRom : Obligations.RecoveryMailboxServesTheBootRom := by
  intro s m b d ix hb hs hr hu hf h0 hpend hx hl p
  have h : BootServes m s.m := ⟨hb, hs, hr, hu, hf, h0, hpend, hx, hl⟩
  exact ⟨fun ho hd hok => runs_recovery_read h ho hd hok, fun ho hlen hok hv hn => runs_recovery_load h ho hlen hok hv hn⟩
end

section
/-!
What lasts over every step, whatever its cause: the mode RETIRED and the burnt fuses of the life-cycle (O5, O6).
-/

namespace Sys2Proof.Machine

/-- A command's answer holds a package that has passed through `lasting` (02 R65, R70). -/
theorem exec_lasts (c : Instr) (s : State) : ∃ q snap, exec c s = .next { s with m := lasting s.m q, snap := snap } := by
  cases c
  all_goals exact ⟨_, _, rfl⟩

/-- So does the answer of a step. -/
theorem step_lasts {s t : State} (h : step s = .next t) : ∃ q, t.m = lasting s.m q := by
  unfold step at h
  split at h
  next =>
    cases h
    exact ⟨s.m, (lasting_self s.m).symm⟩
  next c rest _ =>
    obtain ⟨q, snap, hq⟩ := exec_lasts c { s with pending := rest }
    rw [hq] at h
    cases h
    exact ⟨q, rfl⟩

/-- What is burnt stays burnt, whatever else is. -/
theorem burn_ge (a b : LcFuses) : (a.prov = true → (a.burn b).prov = true) ∧ (a.scrap = true → (a.burn b).scrap = true) ∧
    a.seals ≤ (a.burn b).seals ∧ a.breaks ≤ (a.burn b).breaks :=
  ⟨fun h => by simp [LcFuses.burn, h], fun h => by simp [LcFuses.burn, h], Nat.le_max_left _ _, Nat.le_max_left _ _⟩

/-- RETIRED is an invariant of every step (02 R65). -/
theorem step_keeps_retired {s t : State} (hs : s.Retired) (h : step s = .next t) : t.Retired := by
  obtain ⟨q, hq⟩ := step_lasts h
  unfold State.Retired at hs ⊢
  rw [hq, lasting_mode, if_pos hs]

/-- The fuses burnt in a state are burnt after every step (02 R70). -/
theorem step_keeps_burnt {s t : State} (h : step s = .next t) : t.Burnt s.m.sys.fuses := by
  obtain ⟨q, hq⟩ := step_lasts h
  unfold State.Burnt
  rw [hq, lasting_fuses]
  exact burn_ge _ _

end Sys2Proof.Machine

open Sys2Proof Sys2Proof.Machine

/-- Settles O5: every answer passes through `lasting`, which keeps RETIRED. -/
theorem noEventLeavesRetired : Obligations.NoEventLeavesRetired := fun _ _ hs h => step_keeps_retired hs h

/-- Settles O6: every answer passes through `lasting`, which burns the old fuses into the new. -/
theorem fuseCountsOnlyGrow : Obligations.FuseCountsOnlyGrow := fun _ _ h => step_keeps_burnt h
end

section
/-!
What a mode's timers end, and the temperature thresholds (O23).
-/

namespace Sys2Proof.Machine

/-! ### Timers that are not due (02 R65, R67, R68) -/

theorem armTimeout_same {p : Pkg} (h : p.sys.mode ≠ .armed ∨ dueO p p.sys.armUntil = false ∨ anySession p = true) :
    armTimeout p = p := by
  refine if_neg ?_
  rintro ⟨hm, hd, hs⟩
  rcases h with h | h | h
  · exact h hm
  · simp [h] at hd
  · simp [h] at hs

theorem derateOver_same {p : Pkg} (h : p.sys.mode ≠ .derate ∨ p.sys.freeCycles < 100) : derateOver p = p :=
  if_neg fun ⟨hm, hc⟩ => h.elim (fun h => h hm) (fun h => Nat.not_lt.2 hc h)

theorem grantExpiry_same {p : Pkg} {g : Grant} (hg : p.sys.grant = some g) (hd : due p g.until_ = false) : grantExpiry p = p := by
  unfold grantExpiry
  rw [hg]
  exact if_neg (ne_true_of_eq_false hd)

/-! ### Timers that are over (02 R65, R67 to R69) -/

theorem armTimeout_due {p : Pkg} (hm : p.sys.mode = .armed) (hd : dueO p p.sys.armUntil = true) (hs : anySession p = false) :
    armTimeout p = stopAfes (setMode .idle { p with sys := { p.sys with armUntil := none } }) :=
  if_pos ⟨hm, hd, by simp [hs]⟩

/-- ARMED ends in IDLE: the mode and its record change, and the AFE clusters stop. -/
theorem armTimeout_sys {p : Pkg} (hm : p.sys.mode = .armed) (hd : dueO p p.sys.armUntil = true) (hs : anySession p = false) :
    (armTimeout p).sys = { p.sys with mode := .idle, prev := .armed, jMode := modeJournal .idle p, armUntil := none } ∧
      armTimeout p = { p with sys := (armTimeout p).sys, pwr := (armTimeout p).pwr, eye := (armTimeout p).eye } := by
  rw [armTimeout_due hm hd hs, stopAfes_keeps, setMode_eq]
  refine ⟨?_, rfl⟩
  show ({ p.sys with mode := .idle, prev := if p.sys.mode = .idle then p.sys.prev else p.sys.mode, jMode := modeJournal .idle p,
                     armUntil := none } : Sys) = _
  rw [hm, if_neg (by decide)]

theorem derateOver_due {p : Pkg} (hm : p.sys.mode = .derate) (hc : p.sys.freeCycles ≥ 100) : derateOver p =
    { p with sys := { p.sys with mode := .deliver, prev := .derate, jMode := modeJournal .deliver p, freeCycles := 0, derateWhy := [] } } := by
  have h : derateOver p = setMode .deliver { p with sys := { p.sys with freeCycles := 0, derateWhy := [] } } := if_pos ⟨hm, hc⟩
  rw [h, setMode_eq]
  show ({ p with sys := { p.sys with mode := .deliver, prev := if p.sys.mode = .deliver then p.sys.prev else p.sys.mode
                                     jMode := modeJournal .deliver p, freeCycles := 0, derateWhy := [] } } : Pkg) = _
  rw [hm, if_neg (by decide)]

/-- The end of a grant's region changes the package's own state only where DELIVER or DERATE may end. -/
theorem endGrantRegion_keeps (r : Nat) (p : Pkg) : endGrantRegion r p =
    { p with sys := (endGrantRegion r p).sys, pwr := (endGrantRegion r p).pwr, vcmd := (endGrantRegion r p).vcmd
             bil := (endGrantRegion r p).bil, vlk := (endGrantRegion r p).vlk } := by
  unfold endGrantRegion
  rw [stopRegion_keeps, endSession_keeps]

theorem endGrantRegion_sys (r : Nat) {p : Pkg} (h : inMode p [.deliver, .derate] = false) : (endGrantRegion r p).sys = p.sys := by
  unfold endGrantRegion
  rw [stopRegion_keeps]
  exact endSession_sys r 0xC p h

theorem grantExpiry_due {p : Pkg} {g : Grant} (hg : p.sys.grant = some g) (hd : due p g.until_ = true) :
    grantExpiry p = stopAfes (endGrantRegion g.region { p with sys := { p.sys with grant := none } }) := by
  unfold grantExpiry
  rw [hg]
  exact if_pos hd

/-- A grant that is over leaves SERVICE as it is: its region's session and the AFE clusters end. -/
theorem grantExpiry_sys {p : Pkg} {g : Grant} (hg : p.sys.grant = some g) (hm : p.sys.mode = .service) (hd : due p g.until_ = true) :
    (grantExpiry p).sys = { p.sys with grant := none } ∧
      grantExpiry p = { p with sys := (grantExpiry p).sys, pwr := (grantExpiry p).pwr, vcmd := (grantExpiry p).vcmd
                               eye := (grantExpiry p).eye, bil := (grantExpiry p).bil, vlk := (grantExpiry p).vlk } := by
  rw [grantExpiry_due hg hd, stopAfes_keeps]
  refine ⟨endGrantRegion_sys _ (by simp [inMode, hm]), ?_⟩
  rw [endGrantRegion_keeps]

/-- The sessions of the regions outside FLOOR_USE end at the expiry of a lease; a mode outside DELIVER and DERATE stays. -/
theorem floorless_keeps (l : List Nat) (p : Pkg) :
    let q := l.foldl (fun p r => if p.ldg.floorUse.getD r false then p else endSession r 0xB p) p
    q = { p with sys := q.sys, pwr := q.pwr, vcmd := q.vcmd, bil := q.bil, vlk := q.vlk } :=
  foldl_frame (fun q => { q with sys := {}, pwr := {}, vcmd := {}, bil := {}, vlk := {} })
    (fun a b => { a with sys := b.sys, pwr := b.pwr, vcmd := b.vcmd, bil := b.bil, vlk := b.vlk }) _ l p
    (fun q r => by split; rfl; rw [endSession_keeps]) (fun _ => rfl)

theorem floorless_sys (l : List Nat) {p : Pkg} (h : inMode p [.deliver, .derate] = false) :
    (l.foldl (fun p r => if p.ldg.floorUse.getD r false then p else endSession r 0xB p) p).sys = p.sys := by
  refine List.foldlRecOn (motive := fun q : Pkg => q.sys = p.sys) l _ rfl fun q hq r _ => ?_
  split
  · exact hq
  · have hm : inMode q [.deliver, .derate] = false := by unfold inMode at *; rwa [hq]
    exact (endSession_sys r 0xB q hm).trans hq

/-- The package in ISOLATED, before its sessions end. -/
def isolated (p : Pkg) : Pkg :=
  { p with sys := { p.sys with mode := .isolated, prev := .idle, jMode := modeJournal .isolated p, armUntil := none, leaseWait := none
                               leaseOwed := false, leaseCyc := true, freeCycles := 0 } }

theorem leaseWaitOver_due {p : Pkg} (hd : dueO p p.sys.leaseWait = true) (hq : p.ldg.everQ = false) (hm : p.sys.mode = .idle) :
    leaseWaitOver p = (List.range 4).foldl (fun p r => if p.ldg.floorUse.getD r false then p else endSession r 0xB p) (isolated p) := by
  have h : leaseWaitOver p = leaseOut { p with sys := { p.sys with leaseWait := none } } := if_pos ⟨hd, by simp [hq]⟩
  rw [h]
  unfold leaseOut isolate
  rw [if_pos (by simp [inMode, hm])]
  simp only [setMode_eq]
  congr 1
  show ({ p with sys := { p.sys with mode := .isolated, prev := if p.sys.mode = .isolated then p.sys.prev else p.sys.mode
                                     jMode := modeJournal .isolated p, armUntil := none, leaseWait := none
                                     leaseOwed := false, leaseCyc := true, freeCycles := 0 } } : Pkg) = _
  rw [hm, if_neg (by decide)]
  rfl

/-- A wait without a quorum ends in ISOLATED. -/
theorem leaseWaitOver_sys {p : Pkg} (hd : dueO p p.sys.leaseWait = true) (hq : p.ldg.everQ = false) (hm : p.sys.mode = .idle) :
    (leaseWaitOver p).sys = (isolated p).sys ∧
      leaseWaitOver p = { p with sys := (leaseWaitOver p).sys, pwr := (leaseWaitOver p).pwr, vcmd := (leaseWaitOver p).vcmd
                                 eye := (leaseWaitOver p).eye, bil := (leaseWaitOver p).bil, vlk := (leaseWaitOver p).vlk } := by
  rw [leaseWaitOver_due hd hq hm]
  refine ⟨floorless_sys _ rfl, ?_⟩
  rw [floorless_keeps]
  rfl

/-! ### Temperature (19 R570, R571) -/

/-- A mode with a row of 02 R65 for a fault whose action is safe-stop. -/
def faultRow (p : Pkg) : Bool := inMode p [.armed, .deliver, .derate, .isolated, .service]

theorem ownFault_sys_mode (w : Bool) (p : Pkg) : (ownFault w p).sys.mode = if faultRow p = true then .safeStop else p.sys.mode := by
  split
  next h => exact (ownFault_mode w p h).1
  next h => rw [ownFault_other w p (eq_false_of_ne_true h)]

/-- A reading of the package's own state that no request of a reset can touch (02 R72). -/
abbrev RequestFree {β : Type} (g : Sys → β) : Prop := ∀ (y : Sys) (a : List ResetCause) (b : Option Nat) (c : Bool) (d : Option Nat),
  g { y with pendingRst := a, rstSaveEnd := b, noOwnerHold := c, retryDue := d } = g y

theorem requestReset_free {β : Type} {g : Sys → β} (hg : RequestFree g) (c : ResetCause) (p : Pkg) :
    g (requestReset c p).sys = g p.sys := by
  by_cases h : p.sys.mode = .retired ∨ p.sys.mode = .reset
  · rw [requestReset_none c p h]
  · obtain ⟨h1, h2⟩ := not_or.1 h
    exact (congrArg g (requestReset_asks c p h1 h2).1).trans (hg _ _ _ _ _)

theorem requestReset_mode (c : ResetCause) (p : Pkg) : (requestReset c p).sys.mode = p.sys.mode :=
  requestReset_free (g := Sys.mode) (fun _ _ _ _ _ => rfl) c p

theorem requestReset_pending (c : ResetCause) (p : Pkg) (h : p.sys.mode ≠ .retired) (h' : p.sys.mode ≠ .reset) :
    (requestReset c p).sys.pendingRst = p.sys.pendingRst ++ [c] :=
  (congrArg Sys.pendingRst (requestReset_asks c p h h').1).trans rfl

theorem requestReset_nvBlock (c : ResetCause) (p : Pkg) : (requestReset c p).mtr.nvBlock = p.mtr.nvBlock := by
  by_cases h : p.sys.mode = .retired ∨ p.sys.mode = .reset
  · rw [requestReset_none c p h]
  · obtain ⟨h1, h2⟩ := not_or.1 h
    rw [(requestReset_asks c p h1 h2).2.1]

/-- A threshold's check leaves the sensors, and its flags are those of the highest temperature. -/
theorem thmCheck_flags (p : Pkg) : (thmCheck p).thm.warn = crossed p.thm.max_ p.thm.tWarn p.thm.warn ∧
    (thmCheck p).thm.quiet = crossed p.thm.max_ p.thm.tQuiet p.thm.quiet ∧
    (thmCheck p).thm.stop = crossed p.thm.max_ p.thm.tStop p.thm.stop ∧ (thmCheck p).thm.sens = p.thm.sens ∧
    (thmCheck p).thm.max_ = p.thm.max_ ∧ (thmCheck p).thm.shutdowns = p.thm.shutdowns := by
  obtain ⟨q, e, -, h⟩ := thmCheck_eq p
  have ht : (thmCheck p).thm = q.thm := by
    rw [e]
    split
    · rw [ownFault_keeps]
    · rfl
  rw [ht]
  exact h

theorem thmCheck_mode (p : Pkg) : (thmCheck p).sys.mode =
    if crossed p.thm.max_ p.thm.tStop p.thm.stop = true ∧ faultRow p = true then .safeStop else p.sys.mode := by
  obtain ⟨q, e, hq, -, -, hs, -⟩ := thmCheck_eq p
  have hm : q.sys.mode = p.sys.mode := by rw [hq]
  have hr : faultRow q = faultRow p := by unfold faultRow inMode; rw [hm]
  rw [e, ← hs, ← hr, ← hm]
  by_cases h : q.thm.stop = true <;> simp [h, ownFault_sys_mode]

theorem thmCheck_free {β : Type} {g : Sys → β} (hg : ModeFree g) (p : Pkg) : g (thmCheck p).sys = g p.sys := by
  obtain ⟨q, e, hq, -⟩ := thmCheck_eq p
  have hs : q.sys = p.sys := by rw [hq]
  rw [e, ← hs]
  split
  · exact ownFault_free hg false q
  · rfl

theorem thmCheck_freeN (p : Pkg) : (thmCheck p).freeN = p.freeN := by
  obtain ⟨q, e, hq, -⟩ := thmCheck_eq p
  rw [e]
  split
  · rw [ownFault_keeps, hq]
  · rw [hq]

theorem thmCheck_nvBlock (p : Pkg) : (thmCheck p).mtr.nvBlock = p.mtr.nvBlock := by
  obtain ⟨q, e, hq, -⟩ := thmCheck_eq p
  rw [e]
  split
  · rw [ownFault_keeps, hq]
  · rw [hq]

theorem shutdown_free {β : Type} {g : Sys → β} (hg : RequestFree g) (p : Pkg) : g (shutdown p).sys = g p.sys := by
  rcases shutdown_eq p with h | ⟨t, h, -⟩
  · rw [h]
  · rw [h]
    exact requestReset_free hg _ _

theorem shutdown_mode (p : Pkg) : (shutdown p).sys.mode = p.sys.mode := shutdown_free (g := Sys.mode) (fun _ _ _ _ _ => rfl) p

theorem shutdown_nvBlock (p : Pkg) : (shutdown p).mtr.nvBlock = p.mtr.nvBlock := by
  rcases shutdown_eq p with h | ⟨t, h, -⟩
  · rw [h]
  · rw [h]
    exact requestReset_nvBlock _ _

/-- The shutdown leaves the sensors and the flags. -/
theorem shutdown_flags (p : Pkg) : (shutdown p).freeN = p.freeN ∧ (shutdown p).thm.sens = p.thm.sens ∧
    (shutdown p).thm.max_ = p.thm.max_ ∧ (shutdown p).thm.warn = p.thm.warn ∧ (shutdown p).thm.quiet = p.thm.quiet ∧
    (shutdown p).thm.stop = p.thm.stop := by
  rcases shutdown_eq p with h | ⟨t, h, h1, h2, h3, h4, h5, -⟩
  · rw [h]; exact ⟨rfl, rfl, rfl, rfl, rfl, rfl⟩
  · rw [h, requestReset_keeps]
    exact ⟨rfl, h1, h2, h3, h4, h5⟩

/-- A sensor at its third hot sample, with no shutdown under way: a thermal reset is asked for and counted (19 R571). -/
theorem shutdown_asks {p : Pkg} (hh : p.thm.sens.any (fun x => decide (x.hot ≥ 3)) = true) (ht : p.sys.thermHold = false)
    (hp : p.sys.pendingRst = []) (h1 : p.sys.mode ≠ .retired) (h2 : p.sys.mode ≠ .reset) :
    (shutdown p).sys.pendingRst = [.thermal] ∧ (shutdown p).thm.shutdowns = inc16 p.thm.shutdowns := by
  have h : shutdown p = requestReset .thermal { p with thm := { p.thm with shutdowns := inc16 p.thm.shutdowns
                                                                           evt := { p.thm.evt with shutdown := true } } } := by
    refine if_neg ?_
    rw [ht, hp, hh]
    simp [inMode, h1, h2]
  rw [h]
  constructor
  · exact (requestReset_pending _ _ (by exact h1) (by exact h2)).trans (by rw [hp]; rfl)
  · rw [requestReset_keeps]

/-- What a sample of the sensors leaves, when some sensor is valid (19 R567 to R571). -/
structure Sampled (temps : List Int) (x : Int) (p m : Pkg) : Prop where
  sens : m.thm.sens = sampled temps p
  max : m.thm.max_ = x
  warn : m.thm.warn = crossed x p.thm.tWarn p.thm.warn
  quiet : m.thm.quiet = crossed x p.thm.tQuiet p.thm.quiet
  stop : m.thm.stop = crossed x p.thm.tStop p.thm.stop
  mode : m.sys.mode = if crossed x p.thm.tStop p.thm.stop = true ∧ faultRow p = true then .safeStop else p.sys.mode
  freeN : m.freeN = p.freeN
  shutdown : (sampled temps p).any (fun y => decide (y.hot ≥ 3)) = true → p.sys.thermHold = false → p.sys.pendingRst = [] →
    p.sys.mode ≠ .retired → p.sys.mode ≠ .reset → m.sys.pendingRst = [.thermal] ∧ m.thm.shutdowns = inc16 p.thm.shutdowns

theorem sensorSample_sampled {temps : List Int} {x : Int} {p : Pkg} (hx : dieMax (sampled temps p) = some x) :
    Sampled temps x p (sensorSample temps p) := by
  obtain ⟨q, e, hq, hs, hm, hw, hqt, hst, htw, htq, hts, hn⟩ := sensorSample_eq temps p
  obtain ⟨hmax, hfree⟩ := hm x hx
  have hsys : q.sys = p.sys := by rw [hq]
  have hrow : faultRow q = faultRow p := by unfold faultRow inMode; rw [hsys]
  obtain ⟨c1, c2, c3, c4, c5, c6⟩ := thmCheck_flags q
  have cm := thmCheck_mode q
  rw [hmax, hts, hst, hrow, hsys] at cm
  obtain ⟨d1, d2, d3, d4, d5, d6⟩ := shutdown_flags (thmCheck q)
  rw [e]
  refine ⟨d2.trans (c4.trans hs), d3.trans (c5.trans hmax), ?_, ?_, ?_, (shutdown_mode _).trans cm, d1.trans ((thmCheck_freeN q).trans hfree), ?_⟩
  · rw [d4, c1, hmax, htw, hw]
  · rw [d5, c2, hmax, htq, hqt]
  · rw [d6, c3, hmax, hts, hst]
  · intro hh ht hp h1 h2
    have k1 : (thmCheck q).sys.thermHold = false := (thmCheck_free (fun _ _ _ _ _ _ _ _ _ _ _ _ => rfl) q).trans (by rw [hsys]; exact ht)
    have k2 : (thmCheck q).sys.pendingRst = [] := (thmCheck_free (fun _ _ _ _ _ _ _ _ _ _ _ _ => rfl) q).trans (by rw [hsys]; exact hp)
    have k3 : (thmCheck q).sys.mode ≠ .retired := by rw [cm]; split <;> [decide; exact h1]
    have k4 : (thmCheck q).sys.mode ≠ .reset := by rw [cm]; split <;> [decide; exact h2]
    obtain ⟨a, b⟩ := shutdown_asks (by rw [c4, hs]; exact hh) k1 k2 k3 k4
    exact ⟨a, b.trans (by rw [c6, hn])⟩

/-- A sample, as the package keeps it. -/
theorem runs_sensorSample {s : State} {temps : List Int} {x : Int} (hx : dieMax (sampled temps s.m) = some x) :
    Runs (.sensorSample temps) s fun m =>
      let h := s.m.thm
      m.thm.sens = sampled temps s.m ∧ m.thm.max_ = x ∧ m.thm.warn = crossed x h.tWarn h.warn ∧
        m.thm.quiet = crossed x h.tQuiet h.quiet ∧ m.thm.stop = crossed x h.tStop h.stop ∧
        (x > h.tStop → faultRow s.m = true → m.sys.mode = .safeStop) ∧
        ((sampled temps s.m).any (fun y => decide (y.hot ≥ 3)) = true → s.m.sys.thermHold = false → s.m.sys.pendingRst = [] →
          s.m.sys.mode ≠ .retired → s.m.sys.mode ≠ .reset → m.sys.pendingRst = [.thermal] ∧ m.thm.shutdowns = inc16 h.shutdowns) ∧
        m = { s.m with sys := m.sys, mbx := m.mbx, pwr := m.pwr, vcmd := m.vcmd, eye := m.eye, mtr := m.mtr, bil := m.bil
                       duo := m.duo, vlk := m.vlk, thm := m.thm } := by
  have h := sensorSample_sampled hx
  have hk := sensorSample_keeps temps s.m _ rfl
  rw [h.freeN] at hk
  refine Does.runs (does_of rfl) ⟨h.sens, h.max, h.warn, h.quiet, h.stop, fun ht hr => ?_, h.shutdown, congrArg (lasting s.m) hk⟩
  have hret : s.m.sys.mode ≠ .retired := fun hc => by simp [faultRow, inMode, hc] at hr
  rw [lasting_mode, if_neg hret, h.mode, if_pos ⟨by simp [crossed, ht], hr⟩]

end Sys2Proof.Machine

open Sys2Proof Sys2Proof.Machine

/-- Settles O23: by what each timer comes to when it is over and when it is not, and by what a sample leaves. -/
theorem modeTimersEndWhatTheyTime : Obligations.ModeTimersEndWhatTheyTime := by
  intro s
  refine ⟨fun hm hd hs => ?_, fun h => run1_same (armTimeout_same h), fun hm hc => does_of (derateOver_due hm hc),
    fun h => run1_same (derateOver_same h), fun g hg hm hd => ?_, fun g hg hd => run1_same (grantExpiry_same hg hd),
    fun hd hq hm => ?_, fun temps x hx => runs_sensorSample hx⟩
  · obtain ⟨h1, h2⟩ := armTimeout_sys hm hd hs
    exact ⟨_, run1_next rfl (by rw [hm]; decide) (by rw [h1]), h1, h2⟩
  · obtain ⟨h1, h2⟩ := grantExpiry_sys hg hm hd
    exact ⟨_, run1_next rfl (by rw [hm]; decide) (by rw [h1]), h1, h2⟩
  · obtain ⟨h1, h2⟩ := leaseWaitOver_sys hd hq hm
    exact ⟨_, run1_next rfl (by rw [hm]; decide) (by rw [h1]; rfl), h1, h2⟩
end

section
/-!
From the held dies through authentication and self-test to the mode of the life-cycle state (O22).
-/

namespace Sys2Proof.Machine

/-! ### Authentication (02 R65, 18 R544) -/

theorem thermalRelease_over {p : Pkg} (h : p.sys.thermHold = true) (hc : p.thm.cool ≥ 100000) :
    thermalRelease p = tryStart { p with sys := { p.sys with thermHold := false } } := if_pos ⟨h, hc⟩

/-- The package with the slot that boots: both Stitch dies test themselves with its firmware. -/
def booted (a b : FwSlot) (i : Nat) (p : Pkg) : Pkg :=
  let d := fun x : DieRec => { x with st := .testing, fw := some (i, ([a, b].getD i {}).ver) }
  { p with
      sys := { p.sys with mode := .selfTest, prev := .boot, jMode := modeJournal .selfTest p }
      key := { p.key with fw := [a, b], fwOk := [slotOk p a, slotOk p b], bootSlot := i, next := none, recov := false }
      duo := { p.duo with a := d p.duo.a, b := d p.duo.b } }

/-- Of the two slots' verdicts, the one at an index is the verdict on that slot. -/
theorem slotOk_getD {p : Pkg} {a b : FwSlot} {i : Nat} (hi : i < 2) :
    [slotOk p a, slotOk p b].getD i false = slotOk p ([a, b].getD i {}) := by
  match i, hi with
  | 0, _ => rfl
  | 1, _ => rfl

/-- A verifying slot among the two. -/
theorem contains_of_getD {l : List Bool} {i : Nat} (h : l.getD i false = true) : l.contains true = true := by
  rw [List.contains_iff_mem]
  by_cases hi : i < l.length
  · rw [List.getD_eq_getElem _ _ hi] at h
    rw [← h]
    exact List.getElem_mem hi
  · rw [List.getD_eq_default _ _ (Nat.le_of_not_lt hi)] at h
    cases h

theorem fwAuthenticated_next {p : Pkg} {a b : FwSlot} {i : Nat} (hm : p.sys.mode = .boot) (hs : p.sup.started = true)
    (hn : p.key.next = some i) (hi : i < 2) (hok : slotOk p ([a, b].getD i {}) = true) : fwAuthenticated a b p = booted a b i p := by
  have hv : [slotOk p a, slotOk p b].getD i false = true := (slotOk_getD hi).trans hok
  unfold fwAuthenticated
  simp only [hn]
  rw [if_neg (by rw [hm, hs, contains_of_getD hv]; decide), if_pos hv, setMode_eq]
  simp only [hm]
  rw [if_neg (by decide)]
  rfl

theorem bootFailed_boot {p : Pkg} (hm : p.sys.mode = .boot) (hs : p.sup.started = true) : bootFailed p =
    { p with key := { p.key with fwOk := [false, false], recov := true, fw := p.key.fw.map (fun f => { f with ok := false }) } } :=
  if_neg (by simp [hm, hs])

/-! ### The configuration of the last commit at the boot (02 R78, 04 R161) -/

theorem shiftCluster_sys (n : Nat) (d : Int) (p : Pkg) : (shiftCluster n d p).sys = p.sys :=
  foldl_keep Pkg.sys _ _ p (fun _ _ => rfl)

theorem freeCarriers_sys (p : Pkg) : (freeCarriers p).sys = p.sys :=
  foldl_keep Pkg.sys _ _ p (fun q n => shiftCluster_sys n _ (drawFree 20 q).2)

theorem followLines_sys (q : Nat) (p : Pkg) : (followLines q p).sys = p.sys := by rw [followLines_keeps]

theorem sendWord_sys (q : Nat) (p : Pkg) : (sendWord q p).sys = p.sys := by
  unfold sendWord
  rw [settle_keeps]
  rfl

theorem sendWords_sys (p : Pkg) : (sendWords p).sys = p.sys :=
  foldl_keep Pkg.sys _ _ p fun q n => by
    simp only
    split
    · rw [sendWord_sys, followLines_sys]
    · exact followLines_sys n q

theorem deliverNodes_sys (p : Pkg) : (deliverNodes p).sys = p.sys :=
  foldl_keep Pkg.sys _ _ _ fun q w => by
    split
    · rw [holdKey_keeps]
    · rfl

theorem takePower_sys (c : ConfigImage) (p : Pkg) : (takePower c p).sys = p.sys := freeCarriers_sys _

theorem takeLinks_sys (c : ConfigImage) (p : Pkg) : (takeLinks c p).sys = p.sys := rfl

theorem takeField_sys (c : ConfigImage) (p : Pkg) : (takeField c p).sys = p.sys := rfl

theorem takeHost_sys (c : ConfigImage) (p : Pkg) : (takeHost c p).sys = { p.sys with armTimeout := c.armTime } := rfl

/-- Of the package's own state a configuration sets the arm timeout alone. -/
theorem takeConfig_sys (c : ConfigImage) (p : Pkg) : (takeConfig c p).sys = { p.sys with armTimeout := c.armTime } := by
  unfold takeConfig
  rw [sendWords_sys, deliverNodes_sys, takeHost_sys, takeField_sys, takeLinks_sys, takePower_sys]

theorem bootModules_lcRead (p : Pkg) : (bootModules p).sys.lcRead = p.sys.lcRead := by
  have h : ∀ q : Pkg, (if q.ldg.nv.map_.isNone then { q with dfn := { q.dfn with disc := 0xE000 + q.dfn.serial % 4096, lsaDue := true } }
      else q).sys = q.sys := fun q => by split <;> rfl
  unfold bootModules
  simp only [h]
  split
  · rw [takeConfig_sys]
  · rfl

/-! ### The end of the self-test (02 R65, 11 R353, 18 R531) -/

/-- The mode of a life-cycle state at the end of the self-test (02 R65). -/
def lcMode : Lc → Mode
  | .field => .idle
  | .service => .service
  | _ => .provision

theorem setMode_mode (m : Mode) (p : Pkg) : (setMode m p).sys.mode = m := by rw [setMode_eq]

theorem rollbackRaise_keeps (p : Pkg) : rollbackRaise p = { p with key := (rollbackRaise p).key } := by
  unfold rollbackRaise
  simp only
  split
  · rfl
  · split <;> rfl

theorem enterMode_mode (p : Pkg) : (enterMode p).sys.mode = lcMode p.sys.lcRead.lc := by
  have hl : lcOf (bootModules p) = p.sys.lcRead.lc := congrArg LcFuses.lc (bootModules_lcRead p)
  unfold enterMode
  simp only [hl]
  cases p.sys.lcRead.lc
  case field =>
    rw [rollbackRaise_keeps]
    simp only [setMode_mode, lcMode]
  all_goals simp only [setMode_mode, lcMode]

theorem selectDie_lcRead (a b : Bool) (p : Pkg) : (selectDie a b p).sys.lcRead = p.sys.lcRead := by
  have h : ∀ (d : Die) (f : DieRec → DieRec) (q : Pkg), (updDie d f q).sys = q.sys := fun d f q => by cases d <;> rfl
  simp only [selectDie, h]

/-- Every die but a Stitch die passes, and one of these (11 R353). -/
abbrev SelfTest.passes (r : SelfTest) : Prop := r.ground = true ∧ r.selvedge = true ∧ r.ls = true ∧ (r.a = true ∨ r.b = true)

/-- The package with the dies' verdicts noted. -/
def tested (r : SelfTest) (p : Pkg) : Pkg := { p with sys := { p.sys with wiped := [r.a, r.b, r.ground, r.selvedge, r.ls] } }

/-- A root that is due and there is not made again (18 R529). -/
theorem rootGenerate_none {p : Pkg} (draws : List Bool) (burnt : Bool) (h : p.sys.lcRead.lc ≠ .provisioned ∨ rootOf p.key = .ready) :
    rootGenerate draws burnt p = p := by
  refine if_pos ?_
  rcases h with h | h
  · exact .inr h
  · exact .inl (by rw [h]; decide)

theorem selfTestDone_passes {r : SelfTest} {p : Pkg} (hm : p.sys.mode = .selfTest) (hp : r.passes)
    (hr : p.sys.lcRead.lc ≠ .provisioned ∨ rootOf p.key = .ready) : selfTestDone r p = enterMode (selectDie r.a r.b (tested r p)) := by
  obtain ⟨h1, h2, h3, h4⟩ := hp
  refine (if_neg (by simp [hm])).trans ?_
  extract_lets _ q p1 root
  have hp1 : p1 = tested r p := (if_pos ⟨h1, h2, h3, h4⟩).trans (rootGenerate_none _ _ hr)
  have hroot : root := by simp only [root, hp1]; exact hr
  rw [if_pos ⟨h1, h2, h3, h4, hroot⟩, hp1]

theorem selfTestDone_fails {r : SelfTest} {p : Pkg} (hm : p.sys.mode = .selfTest) (hp : ¬ r.passes) :
    selfTestDone r p = startFails r.a r.b (tested r p) := by
  refine (if_neg (by simp [hm])).trans ?_
  extract_lets _ q p1 root
  have hp1 : p1 = tested r p := if_neg hp
  rw [if_neg fun ⟨h1, h2, h3, h4, _⟩ => hp ⟨h1, h2, h3, h4⟩, hp1]

/-- A trigger leaves the arbiter, the Hoop owner and the dies' records (11 R377). -/
theorem ssTrigger_duo (code : Nat) (o : Option Die) (p : Pkg) :
    (ssTrigger code o p).duo = { p.duo with ss := (ssTrigger code o p).duo.ss, evt := (ssTrigger code o p).duo.evt } := by
  unfold ssTrigger
  simp only
  split
  · rfl
  · rw [ssComplete_keeps, settleAll_keeps, seqPins_keeps]

/-- A self-test without a usable die: SAFE_STOP, with the arbiter and Hoop at none (02 R65). -/
theorem startFails_stops (a b : Bool) (p : Pkg) :
    (startFails a b p).sys.mode = .safeStop ∧ (startFails a b p).duo.arb = .none ∧ (startFails a b p).duo.hoop = none ∧
      ((startFails a b p).duo.ss.running = true ∨ (startFails a b p).duo.ss.latched = true) ∧
      (startFails a b p).duo.a.st = (if a = true then .held else .failed) ∧
      (startFails a b p).duo.b.st = (if b = true then .held else .failed) ∧
      startFails a b p = { p with sys := (startFails a b p).sys, eye := (startFails a b p).eye, duo := (startFails a b p).duo } := by
  unfold startFails
  simp only
  refine ⟨?_, ?_, ?_, ssTrigger_on _ _ _, ?_, ?_, ?_⟩
  · rw [ssTrigger_keeps]
    exact setMode_mode _ _
  · rw [ssTrigger_duo, setMode_duo]
  · rw [ssTrigger_duo, setMode_duo]
  · rw [ssTrigger_duo, setMode_duo]
  · rw [ssTrigger_duo, setMode_duo]
  · rw [ssTrigger_keeps, setMode_eq]

/-! ### The final test (02 R71) -/

/-- Burning one more fuse of what is burnt. -/
theorem burn_prov (f : LcFuses) : f.burn { f with prov := true } = { f with prov := true } := by simp [LcFuses.burn]

theorem finalTest_blank {p : Pkg} (hb : p.sys.fuses.lc = .blank) (hn : p.mtr.nvBlock = false) :
    finalTest p = lcChange { p.sys.fuses with prov := true } p := if_neg (by simp [hb, hn])

/-- A life-cycle change: the fuses, its entry in the log, and a reset asked for with cause LC (02 R71). -/
theorem lcChange_sys {p : Pkg} (f : LcFuses) (h1 : p.sys.mode ≠ .retired) (h2 : p.sys.mode ≠ .reset) :
    (lcChange f p).sys.fuses = f ∧ (lcChange f p).sys.pendingRst = p.sys.pendingRst ++ [.lc] ∧
      (lcChange f p).sys.lcRead = p.sys.lcRead ∧ (lcChange f p).sys.lcLog.head? = some (p.tim.now, p.sys.fuses.lc, f.lc) := by
  have h := (requestReset_asks .lc { p with sys := { p.sys with
    fuses := f, lcLog := cap 256 ((p.tim.now, p.sys.fuses.lc, f.lc) :: p.sys.lcLog) } } h1 h2).1
  exact ⟨(congrArg Sys.fuses h).trans rfl, (congrArg Sys.pendingRst h).trans rfl, (congrArg Sys.lcRead h).trans rfl,
    congrArg (fun y : Sys => y.lcLog.head?) h |>.trans rfl⟩

/-! ### AUTO_CLEAR (19 R576) -/

/-- The latch is cleared: chapter 07's pins follow, and chapter 11 keeps the rest of the sequence (11 R379). -/
theorem ssClear_keeps (p : Pkg) : ssClear p =
    { p with eye := (ssClear p).eye, duo := { p.duo with ss := { p.duo.ss with latched := false, own := none } } } := by
  unfold ssClear
  simp only
  rw [settleAll_keeps, seqPins_keeps]

/-- What AUTO_CLEAR waits for after the warn crossing alone. -/
structure MayClear (p : Pkg) : Prop where
  own : p.duo.ss.own = some (true, false)
  mode : p.sys.mode = .safeStop
  awake : awake p = true
  latched : p.duo.ss.latched = true
  triggers : p.duo.ss.mask &&& 0x15 = 0
  fault : latchedFault p = false
  cycle : p.sys.faultCyc = false
  warn : p.sup.warn = false
  good : dueO p (p.sup.warnOff.map (· + 1000000000)) = true

theorem autoClear_clears {p : Pkg} (h : MayClear p) : autoClear p =
    { applyFaultClear p with sup := { (applyFaultClear p).sup with evt := { (applyFaultClear p).sup.evt with autoClear := true } } } := by
  unfold autoClear
  simp only [h.own]
  refine if_neg ?_
  simp [h.mode, h.awake, h.latched, h.triggers, h.fault, h.cycle, h.warn, h.good]

/-- FAULT_CLEAR applied in SAFE_STOP: IDLE, with the latch cleared (02 R65). -/
theorem applyFaultClear_keeps {p : Pkg} (hm : p.sys.mode = .safeStop) :
    (applyFaultClear p).sys.mode = .idle ∧ (applyFaultClear p).sys.prev = .safeStop ∧ (applyFaultClear p).sys.fuses = p.sys.fuses ∧
      applyFaultClear p = { p with sys := (applyFaultClear p).sys, eye := (applyFaultClear p).eye, key := (applyFaultClear p).key
                                   duo := { p.duo with ss := { p.duo.ss with latched := false, own := none } } } := by
  unfold applyFaultClear
  rw [rollbackRaise_keeps, setMode_eq, ssClear_keeps]
  exact ⟨rfl, by simp [hm], rfl, rfl⟩

/-! ### The rows -/

theorem runs_thermalHoldRelease {s : State} (hh : s.m.sys.thermHold = true) (hc : s.m.thm.cool ≥ 100000)
    (h1 : s.m.sys.mode ≠ .retired) (h2 : s.m.sup.upAt.isSome = true) (h3 : s.m.sup.started = false) (h4 : s.m.sys.lcRead.lc ≠ .scrapped)
    (h5 : s.m.sup.vanaOk = true) (h6 : s.m.sup.vioOk.contains false = false) :
    Runs .thermalHoldRelease s fun m => m.sys.mode = .boot ∧ m.sup = { s.m.sup with started := true } := by
  obtain ⟨hm, hs, hf⟩ := tryStart_boot { s.m with sys := { s.m.sys with thermHold := false } } h1 h2 h3 h4 rfl h5 h6
  exact ⟨_, run1_next (thermalRelease_over hh hc) h1 hf, hm, hs⟩

theorem runs_selfTest_passes {s : State} {r : SelfTest} (hm : s.m.sys.mode = .selfTest) (hp : r.passes)
    (hr : s.m.sys.lcRead.lc ≠ .provisioned ∨ rootOf s.m.key = .ready) :
    Runs (.selfTestComplete r) s fun m => m.sys.mode = lcMode s.m.sys.lcRead.lc := by
  refine Does.runs (does_of (selfTestDone_passes hm hp hr)) ?_
  rw [lasting_mode, if_neg (by rw [hm]; decide), enterMode_mode, selectDie_lcRead]
  rfl

theorem runs_selfTest_fails {s : State} {r : SelfTest} (hm : s.m.sys.mode = .selfTest) (hp : ¬ r.passes) :
    Runs (.selfTestComplete r) s fun m =>
      m.sys.mode = .safeStop ∧ m.duo.arb = .none ∧ m.duo.hoop = none ∧ (m.duo.ss.running = true ∨ m.duo.ss.latched = true) ∧
      m.duo.a.st = (if r.a = true then .held else .failed) ∧ m.duo.b.st = (if r.b = true then .held else .failed) ∧
      m = { s.m with sys := m.sys, eye := m.eye, duo := m.duo } := by
  obtain ⟨h1, h2, h3, h4, h5, h6, h7⟩ := startFails_stops r.a r.b (tested r s.m)
  refine Does.runs (does_of (selfTestDone_fails hm hp)) ⟨?_, h2, h3, h4, h5, h6, congrArg (lasting s.m) h7⟩
  rw [lasting_mode, if_neg (by rw [hm]; decide), h1]

theorem runs_quogusFinalTest {s : State} (hb : s.m.sys.fuses.lc = .blank) (hn : s.m.mtr.nvBlock = false)
    (h1 : s.m.sys.mode ≠ .retired) (h2 : s.m.sys.mode ≠ .reset) :
    Runs .quogusFinalTest s fun m => m.sys.fuses = { s.m.sys.fuses with prov := true } ∧
      m.sys.pendingRst = s.m.sys.pendingRst ++ [.lc] ∧ m.sys.lcRead = s.m.sys.lcRead ∧
      m.sys.lcLog.head? = some (s.m.tim.now, .blank, ({ s.m.sys.fuses with prov := true } : LcFuses).lc) := by
  obtain ⟨hf, hp, hr, hl⟩ := lcChange_sys { s.m.sys.fuses with prov := true } h1 h2
  refine Does.runs (does_of (finalTest_blank hb hn)) ⟨?_, hp, hr, hb ▸ hl⟩
  rw [lasting_fuses, hf, burn_prov]

theorem runs_autoClear {s : State} (h : MayClear s.m) :
    Runs .autoClear s fun m => m.sys.mode = .idle ∧ m.sys.prev = .safeStop ∧
      m.duo.ss = { s.m.duo.ss with latched := false, own := none } ∧
      m.sup = { s.m.sup with evt := { s.m.sup.evt with autoClear := true } } ∧
      m = { s.m with sys := m.sys, eye := m.eye, duo := m.duo, key := m.key, sup := m.sup } := by
  obtain ⟨hm, hp, hf, hk⟩ := applyFaultClear_keeps h.mode
  refine ⟨_, run1_next (autoClear_clears h) (by rw [h.mode]; decide) hf, hm, hp, ?_, ?_, ?_⟩
  · rw [hk]
  · rw [hk]
  · rw [hk]

end Sys2Proof.Machine

open Sys2Proof Sys2Proof.Machine

/-- Settles O22: by what each row of the start-up comes to. -/
theorem bootAndSelfTestLeadToTheLifeCyclesMode : Obligations.BootAndSelfTestLeadToTheLifeCyclesMode := by
  intro s k
  refine ⟨fun hh hc h1 h2 h3 h4 h5 h6 => runs_thermalHoldRelease hh hc h1 h2 h3 h4 h5 h6,
    fun a b i hm hs hn hi hok => does_of (fwAuthenticated_next hm hs hn hi hok), fun hm hs => does_of (bootFailed_boot hm hs), ?_, ?_,
    fun hb hn h1 h2 => runs_quogusFinalTest hb hn h1 h2, fun he => does_of (if_neg (by simpa using he)), rfl,
    fun h1 h2 h3 h4 h5 h6 h7 h8 h9 => runs_autoClear ⟨h1, h2, h3, h4, h5, h6, h7, h8, h9⟩⟩
  · intro r hm hg hs hl hab hr
    have h := runs_selfTest_passes hm ⟨hg, hs, hl, hab⟩ hr
    exact h
  · intro r hm h
    refine runs_selfTest_fails hm fun ⟨hg, hs, hl, hab⟩ => ?_
    rcases h with h | h | h | ⟨h, h'⟩
    · rw [h] at hg; cases hg
    · rw [h] at hs; cases hs
    · rw [h] at hl; cases hl
    · rw [h, h'] at hab; simp at hab
end

section
/-!
The supply of chapter 19: release, warn, inhibit and the rails (O20).
-/

namespace Sys2Proof

/-- A list mapped to its own elements. -/
theorem mapI_self {α : Type} (l : List α) : Machine.mapI (fun _ x => x) l = l := List.zipIdx_map_fst 0 l

/-- An element of a list mapped with its indices comes from an index of the list. -/
theorem mem_mapI {α β : Type} {f : Nat → α → β} {l : List α} {y : β} (h : y ∈ Machine.mapI f l) :
    ∃ i x, i < l.length ∧ y = f i x := by
  obtain ⟨⟨x, i⟩, hx, rfl⟩ := List.mem_map.1 h
  exact ⟨i, x, by have := List.snd_lt_of_mem_zipIdx hx; omega, rfl⟩

namespace Machine

/-! ### The release of VMAIN (02 R78, 19 R572) -/

/-- A sample touches no reading that is free of the mode and of a reset's request. -/
theorem sensorSample_free {β : Type} {g : Sys → β} (hm : ModeFree g) (hr : RequestFree g) (temps : List Int) (p : Pkg) :
    g (sensorSample temps p).sys = g p.sys := by
  obtain ⟨q, e, hq, -⟩ := sensorSample_eq temps p
  rw [e, shutdown_free hr, thmCheck_free hm, hq]

theorem sensorSample_fuses (temps : List Int) (p : Pkg) : (sensorSample temps p).sys.fuses = p.sys.fuses :=
  sensorSample_free fuses_free (fun _ _ _ _ _ => rfl) temps p

theorem sensorSample_lcRead (temps : List Int) (p : Pkg) : (sensorSample temps p).sys.lcRead = p.sys.lcRead :=
  sensorSample_free (g := Sys.lcRead) (fun _ _ _ _ _ _ _ _ _ _ _ _ => rfl) (fun _ _ _ _ _ => rfl) temps p

theorem sensorSample_thermHold (temps : List Int) (p : Pkg) : (sensorSample temps p).sys.thermHold = p.sys.thermHold :=
  sensorSample_free (g := Sys.thermHold) (fun _ _ _ _ _ _ _ _ _ _ _ _ => rfl) (fun _ _ _ _ _ => rfl) temps p

theorem sensorSample_sup (temps : List Int) (p : Pkg) : (sensorSample temps p).sup = p.sup := by
  rw [sensorSample_keeps temps p _ rfl]

theorem sensorSample_nvBlock (temps : List Int) (p : Pkg) : (sensorSample temps p).mtr.nvBlock = p.mtr.nvBlock := by
  obtain ⟨q, e, hq, -⟩ := sensorSample_eq temps p
  rw [e, shutdown_nvBlock, thmCheck_nvBlock, hq]

theorem sensorSample_sens (temps : List Int) (p : Pkg) : (sensorSample temps p).thm.sens = sampled temps p := by
  obtain ⟨q, e, -, hs, -⟩ := sensorSample_eq temps p
  obtain ⟨-, -, -, hc, -⟩ := thmCheck_flags q
  obtain ⟨-, hd, -⟩ := shutdown_flags (thmCheck q)
  rw [e, hd, hc, hs]

/-- In a mode without a row of 02 R65 for a fault a sample changes no mode. -/
theorem sensorSample_mode {temps : List Int} {p : Pkg} (hr : faultRow p = false) : (sensorSample temps p).sys.mode = p.sys.mode := by
  obtain ⟨q, e, hq, -⟩ := sensorSample_eq temps p
  have hsys : q.sys = p.sys := by rw [hq]
  have hrow : faultRow q = false := by unfold faultRow inMode at *; rwa [hsys]
  rw [e, shutdown_mode, thmCheck_mode, hrow, hsys]
  simp

/-- The supply once VMAIN has risen. -/
def supUp (p : Pkg) : Sup := { p.sup with upAt := some p.clk, warn := false, inhibit := false, warnAt := none }

/-- A sensor reads 110 °C or above (19 R572). -/
def anyHot (temps : List Int) : Bool := temps.any (fun t => t ≥ 1100)

/-- The package at the release, before its first sample. -/
def released (temps : List Int) (p : Pkg) : Pkg :=
  { p with sup := supUp p, mtr := { p.mtr with nvBlock := false }, sys := { p.sys with thermHold := p.sys.thermHold || anyHot temps } }

theorem vmainRelease_rise {p : Pkg} (temps : List Int) (h : p.sup.upAt = none) :
    vmainRelease temps p = tryStart (sensorSample temps (released temps p)) := if_neg (by simp [h])

/-- Before BOOT has ended no mode has a row of 02 R65 for a fault. -/
theorem faultRow_boot {p : Pkg} (h : p.sys.mode = .boot ∨ p.sys.mode = .reset) : faultRow p = false := by
  rcases h with h | h <;> simp [faultRow, inMode, h]

theorem not_retired_boot {p : Pkg} (h : p.sys.mode = .boot ∨ p.sys.mode = .reset) : p.sys.mode ≠ .retired := by
  rcases h with h | h <;> simp [h]

/-- A release that something holds: the dies wait (02 R78). -/
theorem runs_vmainRelease_waits {s : State} (temps : List Int) (hu : s.m.sup.upAt = none)
    (hm : s.m.sys.mode = .boot ∨ s.m.sys.mode = .reset) (hl : s.m.sys.lcRead.lc ≠ .scrapped)
    (hw : anyHot temps = true ∨ s.m.sys.thermHold = true ∨ s.m.sup.vanaOk = false) :
    Runs (.vmainRelease temps) s fun m =>
      m.sup = supUp s.m ∧ m.mtr.nvBlock = false ∧ m.sys.thermHold = (s.m.sys.thermHold || anyHot temps) ∧ m.sys.mode = s.m.sys.mode ∧
        m.thm.sens = sampled temps s.m := by
  have h1 := sensorSample_mode (temps := temps) (p := released temps s.m) (faultRow_boot hm)
  have hf : vmainRelease temps s.m = sensorSample temps (released temps s.m) := by
    rw [vmainRelease_rise temps hu]
    refine tryStart_waits _ (by rw [sensorSample_lcRead]; exact hl) ?_
    rw [sensorSample_thermHold, sensorSample_sup]
    rcases hw with hw | hw | hw
    · exact .inl (by simp [released, hw])
    · exact .inl (by simp [released, hw])
    · exact .inr hw
  exact ⟨_, run1_next hf (not_retired_boot hm) (sensorSample_fuses _ _), sensorSample_sup _ _, sensorSample_nvBlock _ _,
    sensorSample_thermHold _ _, h1, sensorSample_sens _ _⟩

/-- A release with every rail valid and nothing that holds it: the dies start into BOOT (02 R78). -/
theorem runs_vmainRelease_starts {s : State} (temps : List Int) (hu : s.m.sup.upAt = none)
    (hm : s.m.sys.mode = .boot ∨ s.m.sys.mode = .reset) (hl : s.m.sys.lcRead.lc ≠ .scrapped) (hs : s.m.sup.started = false)
    (hh : anyHot temps = false) (ht : s.m.sys.thermHold = false) (hv : s.m.sup.vanaOk = true) (hi : s.m.sup.vioOk.contains false = false) :
    Runs (.vmainRelease temps) s fun m => m.sup = { supUp s.m with started := true } ∧ m.sys.mode = .boot := by
  have h1 := sensorSample_mode (temps := temps) (p := released temps s.m) (faultRow_boot hm)
  have hsup := sensorSample_sup temps (released temps s.m)
  obtain ⟨k1, k2, k3⟩ := tryStart_boot (sensorSample temps (released temps s.m)) (by rw [h1]; exact not_retired_boot hm)
    (by rw [hsup]; rfl) (by rw [hsup]; exact hs) (by rw [sensorSample_lcRead]; exact hl)
    (by rw [sensorSample_thermHold]; simp [released, hh, ht]) (by rw [hsup]; exact hv) (by rw [hsup]; exact hi)
  exact ⟨_, run1_next (vmainRelease_rise temps hu) (not_retired_boot hm) (k3.trans (sensorSample_fuses _ _)), by rw [k2, hsup]; rfl, k1⟩

/-! ### The warn level (19 R574, R576, 09 R309, R310) -/

/-- Journaling the strings changes chapter 17 alone. -/
theorem journalBattery_keeps (p : Pkg) : journalBattery p = { p with bat := (journalBattery p).bat } := by
  unfold journalBattery
  split <;> rfl

/-- Time moves on, and the supply, the mode and the metering with it stay. -/
theorem metering_advance (t : Nat) (p : Pkg) : metering (advance t p) = metering p := by
  unfold metering
  rw [advance_sup, advance_sys]

/-- A package at the crossing: the final save starts while the part meters (19 R574, 09 R309). -/
def warned (p : Pkg) : Pkg :=
  { p with
      sup := { p.sup with warn := true, warnAt := some p.clk, evt := { p.sup.evt with warn := true }, warnInh := 0xFFFF }
      mtr := { p.mtr with save := if p.mtr.save = .none ∧ metering p = true then .running else p.mtr.save }
      bil := { p.bil with warnAt := if metering p = true then some p.tim.now else none } }

/-- The package with the clusters halted and the sequence triggered. -/
def warnStop (p : Pkg) : Pkg := ssTrigger 4 p.sys.hoopG.owner (clustersHalt (journalBattery (warned p)))

/-- The node falls through warn on a part whose supply is up. -/
theorem warn_falls {p : Pkg} (t : Nat) (hw : p.sup.warn = false) (hu : p.sup.upAt.isSome = true) :
    ¬((advance t p).sup.warn = true ∨ (advance t p).sup.upAt.isNone = true) := by
  rw [advance_sup]
  simp [hw, Option.isSome_iff_ne_none.1 hu]

theorem supplyWarn_safeStop {t : Nat} {p : Pkg} (hw : p.sup.warn = false) (hu : p.sup.upAt.isSome = true)
    (hm : (warnStop (advance t p)).sys.mode = .safeStop) : supplyWarn t p = ownFault true (warnStop (advance t p)) := by
  simp only [warnStop, warned] at hm ⊢
  simp only [supplyWarn, if_neg (warn_falls t hw hu), if_pos hm]

theorem supplyWarn_other {t : Nat} {p : Pkg} (hw : p.sup.warn = false) (hu : p.sup.upAt.isSome = true)
    (hm : (warnStop (advance t p)).sys.mode ≠ .safeStop) : supplyWarn t p = warnStop (advance t p) := by
  simp only [warnStop, warned] at hm ⊢
  simp only [supplyWarn, if_neg (warn_falls t hw hu), if_neg hm]

/-- The sequence and the halt change chapters 04, 06, 07, 11, 14 and 17 and two timers of the package. -/
theorem warnStop_keeps (p : Pkg) : warnStop p =
    { warned p with sys := (warnStop p).sys, pwr := (warnStop p).pwr, vcmd := (warnStop p).vcmd, eye := (warnStop p).eye
                    vlk := (warnStop p).vlk, duo := (warnStop p).duo, bat := (warnStop p).bat } := by
  unfold warnStop
  rw [ssTrigger_keeps, clustersHalt_keeps, journalBattery_keeps]

theorem warnStop_sys (p : Pkg) : (warnStop p).sys.mode = p.sys.mode ∧ (warnStop p).sys.fuses = p.sys.fuses := by
  unfold warnStop
  rw [ssTrigger_keeps, clustersHalt_keeps, journalBattery_keeps]
  exact ⟨rfl, rfl⟩

theorem warnStop_triggered (p : Pkg) : ((warnStop p).duo.ss.running = true ∨ (warnStop p).duo.ss.latched = true) ∧
    (warnStop p).duo.ss.mask.testBit 3 = true := by
  unfold warnStop
  exact ⟨ssTrigger_on _ _ _, ssTrigger_mask 4 _ _⟩

/-- In SAFE_STOP the crossing is noted as well, in the record of what may clear itself (19 R576). -/
theorem supplyWarn_keeps {t : Nat} {p : Pkg} (hw : p.sup.warn = false) (hu : p.sup.upAt.isSome = true) :
    ∃ (own : Option (Bool × Bool)) (cyc : Bool), supplyWarn t p =
      { warnStop (advance t p) with
          sys := { (warnStop (advance t p)).sys with faultCyc := cyc }
          duo := { (warnStop (advance t p)).duo with ss := { (warnStop (advance t p)).duo.ss with own := own } } } := by
  have h1 := supplyWarn_safeStop (t := t) hw hu
  have h2 := supplyWarn_other (t := t) hw hu
  generalize warnStop (advance t p) = q at h1 h2 ⊢
  by_cases hm : q.sys.mode = .safeStop
  · exact ⟨_, _, (h1 hm).trans (ownFault_other true q (by simp [inMode, hm]))⟩
  · exact ⟨q.duo.ss.own, q.sys.faultCyc, h2 hm⟩

/-- SUPPLY_WARN (19 R574). -/
theorem runs_supplyWarn {s : State} {t : Nat} (hw : s.m.sup.warn = false) (hu : s.m.sup.upAt.isSome = true) :
    let p := advance t s.m
    Runs (.supplyWarn t) s fun m =>
      m.sup = { s.m.sup with warn := true, warnAt := some p.clk, evt := { s.m.sup.evt with warn := true }, warnInh := 0xFFFF } ∧
      m.mtr.save = (if s.m.mtr.save = .none ∧ metering s.m = true then .running else s.m.mtr.save) ∧
      m.bil.warnAt = (if metering s.m = true then some p.tim.now else none) ∧
      (m.duo.ss.running = true ∨ m.duo.ss.latched = true) ∧ m.duo.ss.mask.testBit 3 = true ∧
      m = { p with sys := m.sys, pwr := m.pwr, vcmd := m.vcmd, eye := m.eye, mtr := m.mtr, bil := m.bil, duo := m.duo
                   vlk := m.vlk, bat := m.bat, sup := m.sup } := by
  intro p
  obtain ⟨own, cyc, hf⟩ := supplyWarn_keeps (t := t) hw hu
  obtain ⟨hm, hfu⟩ := warnStop_sys p
  obtain ⟨hon, hmask⟩ := warnStop_triggered p
  have hk := warnStop_keeps p
  have hsup : (warnStop p).sup = (warned p).sup := by rw [hk]
  have hmtr : (warnStop p).mtr.save = (warned p).mtr.save := by rw [hk]
  have hbil : (warnStop p).bil.warnAt = (warned p).bil.warnAt := by rw [hk]
  have hp : warnStop (advance t s.m) = warnStop p := rfl
  rw [hp] at hf
  generalize warnStop p = q at hf hm hfu hon hmask hk hsup hmtr hbil
  rw [advance_sys] at hm hfu
  refine ⟨_, run1_keep hf hm hfu, hsup.trans ?_, hmtr.trans ?_, hbil.trans ?_, hon, hmask, ?_⟩
  · simp only [warned, p, advance_sup]
  · simp only [warned, p, advance_mtr, metering_advance]
  · simp only [warned, p, metering_advance]
  · rw [hk]
    rfl

/-- A package whose node is above warn again. -/
def unwarned (p : Pkg) : Pkg :=
  { p with sup := { p.sup with warn := false, warnAt := none, warnOff := some p.clk }
           mtr := { p.mtr with save := if p.sys.pendingRst.isEmpty = true then .none else p.mtr.save } }

theorem warnRecovered_up {t : Nat} {p : Pkg} (hw : p.sup.warn = true) (hu : p.sup.upAt.isSome = true) :
    warnRecovered t p = ownFault true (unwarned (advance t p)) :=
  if_neg (by rw [advance_sup]; simp [hw, Option.isSome_iff_ne_none.1 hu])

/-- The fault of the crossing, once taken, with the supply and the save as the rise leaves them (19 R576). -/
theorem unwarned_keeps (p : Pkg) : ownFault true (unwarned p) =
    { p with sys := (ownFault true (unwarned p)).sys, mbx := (ownFault true (unwarned p)).mbx, pwr := (ownFault true (unwarned p)).pwr
             vcmd := (ownFault true (unwarned p)).vcmd, eye := (ownFault true (unwarned p)).eye, mtr := (ownFault true (unwarned p)).mtr
             bil := (ownFault true (unwarned p)).bil, duo := (ownFault true (unwarned p)).duo, vlk := (ownFault true (unwarned p)).vlk
             sup := (ownFault true (unwarned p)).sup } := by
  have hk := ownFault_keeps true (unwarned p)
  generalize ownFault true (unwarned p) = m at hk ⊢
  rw [hk]
  rfl

/-- SUPPLY_WARN_RECOVERED (09 R310, 19 R576). -/
theorem runs_supplyWarnRecovered {s : State} {t : Nat} (hw : s.m.sup.warn = true) (hu : s.m.sup.upAt.isSome = true) :
    let p := advance t s.m
    Runs (.supplyWarnRecovered t) s fun m =>
      m.sup = { s.m.sup with warn := false, warnAt := none, warnOff := some p.clk } ∧
      m.mtr = { s.m.mtr with save := if s.m.sys.pendingRst.isEmpty = true then .none else s.m.mtr.save } ∧
      (faultRow s.m = true → m.sys.mode = .safeStop ∧ m.duo.ss.mask.testBit 1 = true) ∧
      m = { p with sys := m.sys, mbx := m.mbx, pwr := m.pwr, vcmd := m.vcmd, eye := m.eye, mtr := m.mtr, bil := m.bil
                   duo := m.duo, vlk := m.vlk, sup := m.sup } := by
  intro p
  have hk := ownFault_keeps true (unwarned p)
  have hsup : (ownFault true (unwarned p)).sup = (unwarned p).sup := by rw [hk]
  have hmtr : (ownFault true (unwarned p)).mtr = (unwarned p).mtr := by rw [hk]
  have hkeep := unwarned_keeps p
  have hfault := ownFault_mode true (unwarned p)
  have hrise : warnRecovered t s.m = ownFault true (unwarned p) := warnRecovered_up hw hu
  generalize ownFault true (unwarned p) = m at hsup hmtr hkeep hfault hrise
  refine Does.runs (does_of hrise) ⟨hsup.trans ?_, hmtr.trans ?_, fun hr => ?_, congrArg (lasting s.m) hkeep⟩
  · simp only [unwarned, p, advance_sup]
  · simp only [unwarned, p, advance_mtr, advance_sys]
  · have hret : s.m.sys.mode ≠ .retired := fun hc => by simp [faultRow, inMode, hc] at hr
    obtain ⟨hmode, -, -, hmask⟩ := hfault (by
      unfold faultRow inMode at *
      rwa [show (unwarned p).sys = s.m.sys from advance_sys t s.m])
    exact ⟨by rw [lasting_mode, if_neg hret, hmode], hmask⟩

/-! ### The inhibit level (19 R574, R578) -/

theorem nvInhibit_falls {t w : Nat} {p : Pkg} (hi : p.sup.inhibit = false) (hw : p.sup.warnAt = some w) :
    nvInhibit t p =
      let q := advance t p
      let us := min 0xFFFE ((q.clk - w) / 1000)
      { q with sup := { p.sup with inhibit := true, warnInh := us
                                   evt := { p.sup.evt with inhibit := true, short := p.sup.evt.short || decide (us < 2000) } }
               mtr := { p.mtr with nvBlock := true, burn := none
                                   banks := p.mtr.banks ++ p.mtr.burn.toList.map (fun b => (b, false)) } } := by
  unfold nvInhibit
  simp only [advance_sup, advance_mtr, hw]
  rw [if_neg (by simp [hi])]
  cases p.mtr.burn <;> rfl

theorem exec_nvWriteInhibitRelease (s : State) : exec .nvWriteInhibitRelease s = .next { s with m := { s.m with
    sup := { s.m.sup with inhibit := false }, mtr := { s.m.mtr with nvBlock := false } } } :=
  run1_of (f := fun p => { p with sup := { p.sup with inhibit := false }, mtr := { p.mtr with nvBlock := false } }) rfl

/-! ### The rails (19 R575, 20 R585) -/

/-- A bank's verdict: a level is one of two nominal ones, and in operation the one that was taken (20 R585). -/
def railOk (vio : List Nat) (u : Sup) (b : Nat) (old : Bool) : Bool :=
  (vio[b]?).elim old (fun v => (vioLevel v).any (fun n => !u.started || decide (u.vioNom.getD b 0 = n)))

/-- A bank's nominal level, taken at the start-up. -/
def railNom (vio : List Nat) (u : Sup) (b old : Nat) : Nat :=
  if u.started = true then old else (vio[b]?).elim old (fun v => (vioLevel v).getD old)

theorem railValid_eq (vana : Nat) (vio : List Nat) (p : Pkg) : railValid vana vio p = tryStart { p with sup := { p.sup with
    vana := vana, vanaOk := inR 450 550 vana, vioOk := mapI (railOk vio p.sup) p.sup.vioOk
    vioNom := mapI (railNom vio p.sup) p.sup.vioNom } } := by
  unfold railValid railOk railNom
  simp only []
  congr 4
  · funext b old
    cases vio[b]? with
    | none => rfl
    | some v =>
      simp only [Option.elim_some]
      cases vioLevel v <;> rfl
  · funext b old
    cases vio[b]? <;> rfl

/-- In operation a rail that is valid again changes its own state alone. -/
theorem railValid_started {vana : Nat} {vio : List Nat} {p : Pkg} (h : p.sup.started = true) : railValid vana vio p =
    { p with sup := { p.sup with vana := vana, vanaOk := inR 450 550 vana
                                 vioOk := mapI (fun b old => (vio[b]?).elim old (fun v =>
                                   (vioLevel v).any (fun n => decide (p.sup.vioNom.getD b 0 = n)))) p.sup.vioOk } } := by
  have hok : railOk vio p.sup = fun b old => (vio[b]?).elim old (fun v =>
      (vioLevel v).any (fun n => decide (p.sup.vioNom.getD b 0 = n))) := by
    funext b old
    simp [railOk, h]
  have hnom : railNom vio p.sup = fun _ old => old := by
    funext b old
    exact if_pos h
  rw [railValid_eq, hok, hnom, mapI_self]
  exact tryStart_started _ h

/-- At the start-up, levels that all verify make every bank valid. -/
theorem railOk_start {vio : List Nat} {u : Sup} (h : u.started = false) (hl : u.vioOk.length ≤ vio.length)
    (hv : ∀ v ∈ vio, (vioLevel v).isSome = true) : (mapI (railOk vio u) u.vioOk).contains false = false := by
  refine eq_false_of_ne_true fun hc => ?_
  obtain ⟨b, old, hb, he⟩ := mem_mapI (List.contains_iff_mem.1 hc)
  have hlt : b < vio.length := Nat.lt_of_lt_of_le hb hl
  obtain ⟨n, hn⟩ := Option.isSome_iff_exists.1 (hv _ (List.getElem_mem hlt))
  simp [railOk, h, List.getElem?_eq_getElem hlt, hn] at he

/-- The last rails of the start-up (02 R78). -/
theorem runs_railValid_starts {s : State} {vana : Nat} {vio : List Nat} (h : s.m.sup.started = false) (hu : s.m.sup.upAt.isSome = true)
    (hm : s.m.sys.mode ≠ .retired) (hl : s.m.sys.lcRead.lc ≠ .scrapped) (ht : s.m.sys.thermHold = false)
    (ha : inR 450 550 vana = true) (hb : s.m.sup.vioOk.length ≤ vio.length) (hv : ∀ v ∈ vio, (vioLevel v).isSome = true) :
    Runs (.supplyRailValid vana vio) s fun m => m.sys.mode = .boot ∧ m.sup.started = true ∧ m.sup.vana = vana ∧
      m.sup.vanaOk = true ∧ m.sup.vioOk.contains false = false := by
  have hok := railOk_start h hb hv
  obtain ⟨h1, h2, h3⟩ := tryStart_boot { s.m with sup := { s.m.sup with
    vana := vana, vanaOk := inR 450 550 vana, vioOk := mapI (railOk vio s.m.sup) s.m.sup.vioOk
    vioNom := mapI (railNom vio s.m.sup) s.m.sup.vioNom } } hm hu h hl ht ha hok
  refine ⟨_, run1_next (railValid_eq vana vio s.m) hm h3, h1, ?_⟩
  rw [h2]
  exact ⟨rfl, rfl, ha, hok⟩

/-- The supply with a rail lost in operation. -/
def railLost (rail : Option (Fin 8)) (u : Sup) : Sup :=
  { u with vanaOk := u.vanaOk && rail.isSome, vioOk := rail.elim u.vioOk (fun b => upd u.vioOk b.val (fun _ => false))
           evt := rail.elim { u.evt with vana := true } (fun _ => { u.evt with vio := true }) }

theorem railInvalid_started {rail : Option (Fin 8)} {p : Pkg} (h : p.sup.started = true) :
    railInvalid rail p = safeStopFault { p with sup := railLost rail p.sup } := by
  unfold railInvalid railLost
  cases rail <;> simp [h]

/-- SUPPLY_RAIL_INVALID in operation (19 R575). -/
theorem runs_railInvalid {s : State} (rail : Option (Fin 8)) (h : s.m.sup.started = true) (hr : faultRow s.m = true) :
    Runs (.supplyRailInvalid rail) s fun m =>
      m.sys.mode = .safeStop ∧ (m.duo.ss.running = true ∨ m.duo.ss.latched = true) ∧ m.duo.ss.mask.testBit 1 = true ∧
      m.sup = railLost rail s.m.sup ∧
      m = { s.m with sys := m.sys, mbx := m.mbx, pwr := m.pwr, vcmd := m.vcmd, eye := m.eye, bil := m.bil
                     duo := m.duo, vlk := m.vlk, sup := m.sup } := by
  have hk := safeStopFault_keeps { s.m with sup := railLost rail s.m.sup }
  obtain ⟨h1, -, h3, h4⟩ := safeStopFault_mode { s.m with sup := railLost rail s.m.sup } hr
  have hf : (safeStopFault { s.m with sup := railLost rail s.m.sup }).sys.fuses = s.m.sys.fuses := safeStopFault_free fuses_free _
  have hret : s.m.sys.mode ≠ .retired := fun hc => by simp [faultRow, inMode, hc] at hr
  refine ⟨_, run1_next (railInvalid_started h) hret hf, h1, h3, h4, ?_, ?_⟩
  · rw [hk]
  · rw [hk]

theorem railTimeout_due {p : Pkg} (h : p.sup.started = false) (hd : dueO p (p.sup.upAt.map (· + 1000000000)) = true) :
    railTimeout p = { p with sup := { p.sup with evt := { p.sup.evt with
      vana := p.sup.evt.vana || !p.sup.vanaOk, vio := p.sup.evt.vio || p.sup.vioOk.contains false } } } :=
  if_neg (by rw [h, hd]; decide)

end Machine

end Sys2Proof

open Sys2Proof Sys2Proof.Machine

/-- Settles O20: by what each crossing of the supply comes to. -/
theorem supplyCrossingsStartAndEndTheHold : Obligations.SupplyCrossingsStartAndEndTheHold := by
  intro s u
  refine ⟨fun temps hu hm hl hs => ⟨fun hw => runs_vmainRelease_waits temps hu hm hl hw,
      fun hh ht hv hi => runs_vmainRelease_starts temps hu hm hl hs hh ht hv hi⟩,
    fun t hw hu => runs_supplyWarn hw hu, fun t hw hu => runs_supplyWarnRecovered hw hu,
    fun t w hi hw => run1_to (nvInhibit_falls hi hw) (advance_sys t s.m), exec_nvWriteInhibitRelease s,
    fun vana vio h => run1_to (railValid_started h) rfl,
    fun vana vio h hu hm hl ht ha hb hv => runs_railValid_starts h hu hm hl ht ha hb hv,
    fun rail h hr => runs_railInvalid rail h hr, fun h hd => run1_to (railTimeout_due h hd) rfl⟩
end

section
/-!
Package resets of chapter 02: what asks for one, when it is asserted, and what it leaves (O21).
-/

namespace Sys2Proof.Machine

/-! ### Asking for a reset (02 R72, R73, 09 R309) -/

/-- A request as the package keeps it: the cause waits, the save and the sequence are under way. -/
structure Asked (c : ResetCause) (p m : Pkg) : Prop where
  cause : m.sys.pendingRst = p.sys.pendingRst ++ [c]
  saveEnd : m.sys.rstSaveEnd = some (p.sys.rstSaveEnd.getD (p.clk + 2000000))
  save : m.mtr = { p.mtr with save := if p.mtr.save = .none then .running else p.mtr.save }
  on : m.duo.ss.running = true ∨ m.duo.ss.latched = true
  trigger : m.duo.ss.mask.testBit 2 = true
  mode : m.sys.mode = p.sys.mode
  fuses : m.sys.fuses = p.sys.fuses
  keeps : m = { p with sys := m.sys, pwr := m.pwr, vcmd := m.vcmd, eye := m.eye, mtr := m.mtr, duo := m.duo, vlk := m.vlk }

theorem requestReset_asked (c : ResetCause) {p : Pkg} (h : p.sys.mode ≠ .retired) (h' : p.sys.mode ≠ .reset) :
    Asked c p (requestReset c p) := by
  obtain ⟨hs, hm, hon, hmask⟩ := requestReset_asks c p h h'
  exact ⟨requestReset_pending c p h h', (congrArg Sys.rstSaveEnd hs).trans rfl, hm, hon, hmask, requestReset_mode c p,
    requestReset_free (g := Sys.fuses) (fun _ _ _ _ _ => rfl) c p, requestReset_keeps c p⟩

/-- The package whose retry interval is over, with the next one twice as long (02 R73). -/
def retried (p : Pkg) : Pkg :=
  { p with sys := { p.sys with retryDue := none, retryIval := min 900 (2 * p.sys.retryIval)
                               cause := { p.sys.cause with retries := inc8 p.sys.cause.retries } } }

theorem recoveryRetry_due {p : Pkg} (ha : p.duo.arb = .none) (hd : dueO p p.sys.retryDue = true) :
    recoveryRetry p = requestReset .retry (retried p) := if_neg (by simp [ha, hd])

/-! ### When a reset is asserted (02 R72, 19 R574) -/

theorem packageReset_waits {p : Pkg} (h : p.sys.pendingRst = [] ∨ p.duo.ss.running = true ∨
    (p.mtr.save ≠ .complete ∧ dueO p p.sys.rstSaveEnd = false)) : packageReset p = p :=
  if_pos (by simpa using h)

theorem packageReset_asserts {p : Pkg} {c : ResetCause} (hp : p.sys.pendingRst.contains c = true) (hr : p.duo.ss.running = false)
    (hs : p.mtr.save = .complete) : packageReset p = assertReset p.sys.pendingRst p := by
  refine if_neg ?_
  rintro (h | h | h)
  · rw [List.isEmpty_iff.1 h] at hp
    cases hp
  · rw [hr] at h
    cases h
  · simp [hs] at h

/-- The package without its supply. -/
def unsupplied (p : Pkg) : Pkg := { p with sup := { p.sup with upAt := none } }

theorem porThreshold_asserts {p : Pkg} (hu : p.sup.upAt.isSome = true) (hm : p.sys.mode ≠ .retired) :
    porThreshold p = assertReset (.por :: p.sys.pendingRst) (unsupplied p) :=
  if_neg (by simp [hm, Option.isSome_iff_ne_none.1 hu])

/-! ### What a reset leaves (02 R74, R76) -/

/-- A reset's causes, its bit and its hold are recorded in the always-on domain (02 R74, 19 R571). -/
def recorded (causes : List ResetCause) (p : Pkg) : Pkg :=
  { p with sys := { p.sys with
      cause := causes.foldl setCause p.sys.cause
      resetBit := causeBit (if causes.contains .por then .por else causes.headD .por)
      thermHold := (causes.contains .thermal && !causes.contains .por) || (p.sys.thermHold && !causes.contains .por) } }

/-- A life-cycle state that stays wipes nothing. -/
theorem wipeLc_same {p : Pkg} (h : p.sys.fuses = p.sys.lcRead) : wipeLc p = p := by
  unfold wipeLc
  simp only [h]
  rw [if_neg fun hc => hc.2 hc.1, if_neg]
  rintro (⟨h1, h2⟩ | ⟨h1, h2⟩)
  · simp [h1] at h2
  · simp [h1] at h2

theorem assertReset_eq {p : Pkg} (causes : List ResetCause) (h : p.sys.fuses = p.sys.lcRead) :
    assertReset causes p = tryStart (afterReset (recorded causes p)) :=
  congrArg (fun q => tryStart (afterReset q)) (wipeLc_same (p := recorded causes p) h)

/-- A cause among those of a reset is recorded: no later one takes its bit away (02 R74). -/
theorem foldl_setCause {g : ResetCauses → Bool} {c : ResetCause} {l : List ResetCause} (hset : ∀ r, g (setCause r c) = true)
    (hkeep : ∀ r d, g r = true → g (setCause r d) = true) (h : c ∈ l) (r : ResetCauses) : g (l.foldl setCause r) = true := by
  obtain ⟨l1, l2, rfl⟩ := List.append_of_mem h
  rw [List.foldl_append, List.foldl_cons]
  exact List.foldlRecOn (motive := fun r => g r = true) l2 setCause (hset _) fun r hr d _ => hkeep r d hr

theorem recorded_thermal {l : List ResetCause} (h : ResetCause.thermal ∈ l) (p : Pkg) : (recorded l p).sys.cause.thermal = true :=
  foldl_setCause (g := ResetCauses.thermal) (fun _ => rfl) (fun r d hr => by cases d <;> simp [setCause, hr]) h _

/-- A thermal reset that is no loss of supply sets the hold (19 R571). -/
theorem recorded_hold {l : List ResetCause} (ht : l.contains .thermal = true) (hp : l.contains .por = false) (p : Pkg) :
    (recorded l p).sys.thermHold = true := by
  show ((l.contains .thermal && !l.contains .por) || _) = true
  rw [ht, hp]
  rfl

theorem recorded_por {l : List ResetCause} (h : ResetCause.por ∈ l) (p : Pkg) : (recorded l p).sys.cause.por = true :=
  foldl_setCause (g := ResetCauses.por) (fun _ => rfl) (fun r d hr => by cases d <;> simp [setCause, hr]) h _

/-- The ledger's journal without the transfers whose record is marked bad (01 R35). -/
def soundLedger (p : Pkg) : LdgNv :=
  { p.ldg.nv with outs := p.ldg.nv.outs.filter (fun x => !p.ldg.badOut.contains x)
                  ins := p.ldg.nv.ins.filter (fun x => !p.ldg.badIn.contains x) }

/-- What every reset leaves that starts nothing (02 R74, R76). -/
structure Wiped (p m : Pkg) : Prop where
  mode : m.sys.mode = .reset
  pending : m.sys.pendingRst = []
  volatile : m.pwr = {} ∧ m.ce = {} ∧ m.vcmd = {} ∧ m.dfl = {} ∧ m.vlk = {} ∧ m.can = {} ∧ m.lsw = {}
  images : m.store = p.store ∧ m.loads = p.loads ∧ m.ready = p.ready ∧ m.config = p.config
  time : m.tim.now = p.tim.nvNow ∧ m.clk = p.clk
  ledger : m.ldg.nv = soundLedger p
  fused : m.eye.fused = p.eye.fused
  mailbox : m.mbx = { boots := (p.mbx.boots + 1) % 65536, seqs := p.mbx.seqs, workCtr := p.mbx.workCtr, work := p.mbx.work }

theorem afterReset_recorded (causes : List ResetCause) (p : Pkg) : Wiped p (afterReset (recorded causes p)) :=
  ⟨rfl, rfl, ⟨rfl, rfl, rfl, rfl, rfl, rfl, rfl⟩, ⟨rfl, rfl, rfl, rfl⟩, ⟨rfl, rfl⟩, rfl, rfl, rfl⟩

/-- A thermal reset holds the dies (19 R571). -/
theorem packageReset_thermal {p : Pkg} (ht : p.sys.pendingRst.contains .thermal = true) (hp : p.sys.pendingRst.contains .por = false)
    (hr : p.duo.ss.running = false) (hs : p.mtr.save = .complete) (hf : p.sys.fuses = p.sys.lcRead)
    (hl : p.sys.lcRead.lc ≠ .scrapped) : packageReset p = afterReset (recorded p.sys.pendingRst p) := by
  rw [packageReset_asserts ht hr hs, assertReset_eq _ hf]
  refine tryStart_waits _ ?_ (.inl ?_)
  · show p.sys.fuses.lc ≠ .scrapped
    rw [hf]
    exact hl
  · exact recorded_hold ht hp p

/-- A reset for want of supply starts nothing (19 R574). -/
theorem porThreshold_wipes {p : Pkg} (hu : p.sup.upAt.isSome = true) (hm : p.sys.mode ≠ .retired) (hf : p.sys.fuses = p.sys.lcRead) :
    porThreshold p = afterReset (recorded (.por :: p.sys.pendingRst) (unsupplied p)) := by
  rw [porThreshold_asserts hu hm, assertReset_eq (p := unsupplied p) _ hf]
  exact tryStart_down _ rfl

end Sys2Proof.Machine

open Sys2Proof Sys2Proof.Machine

/-- Settles O21: by what a request leaves, and by what an asserted reset keeps when it starts nothing. -/
theorem packageResetsAreAskedForAndAsserted : Obligations.PackageResetsAreAskedForAndAsserted := by
  intro s
  refine ⟨fun h1 h2 => ?_, fun ha hd h1 h2 => ?_, fun h => run1_same (packageReset_waits h), ?_, ?_⟩
  · have h := requestReset_asked .pin h1 h2
    exact ⟨_, run1_next rfl h1 h.fuses, h.cause, h.saveEnd, h.save, h.on, h.trigger, h.mode, h.keeps⟩
  · have h := requestReset_asked .retry (p := retried s.m) h1 h2
    have hs := (requestReset_asks .retry (retried s.m) h1 h2).1
    exact ⟨_, run1_next (recoveryRetry_due ha hd) h1 h.fuses, h.cause, (congrArg Sys.retryIval hs).trans rfl,
      (congrArg Sys.cause hs).trans rfl, h.mode, h.keeps⟩
  · intro ht hp hr hs hm hf hl
    have h := afterReset_recorded s.m.sys.pendingRst s.m
    obtain ⟨v1, v2, v3, v4, v5, v6, v7⟩ := h.volatile
    obtain ⟨i1, i2, i3, i4⟩ := h.images
    have hcause := recorded_thermal (List.contains_iff_mem.1 ht) s.m
    exact ⟨_, run1_next (packageReset_thermal ht hp hr hs hf hl) hm rfl, h.mode, recorded_hold ht hp _, hcause,
      h.pending, rfl, v1, v2, v3, v4, v5, v6, v7, i1, i2, i3, i4, h.time.1, h.time.2, h.ledger, h.fused, h.mailbox⟩
  · intro hu hm hf
    have h := afterReset_recorded (.por :: s.m.sys.pendingRst) (unsupplied s.m)
    obtain ⟨v1, v2, v3, v4, v5, v6, v7⟩ := h.volatile
    obtain ⟨i1, i2, i3, i4⟩ := h.images
    refine ⟨_, run1_next (porThreshold_wipes hu hm hf) hm rfl, h.mode, ?_, recorded_por List.mem_cons_self _, ?_, rfl,
      v1, v2, v3, v4, v5, v6, v7, i1, i2, i3, i4, h.time.1, h.time.2, h.ledger, h.fused, h.mailbox⟩
    · simp [afterReset, recorded]
    · simp [afterReset, recorded, causeBit]
end

section
/-!
A switching cluster of chapter 04 from OFF to REGULATE and back (O30).
-/

namespace Sys2Proof.Machine

/-! ### START (04 R142) -/

theorem clusterStart_same {p : Pkg} {n : Nat} (h : (clAt p n).run.startPend = false ∨ (clAt p n).run.st ≠ .off ∨
    (clAt p n).cfg.type = .unused) : clusterStart n p = p := if_pos (by simpa using h)

theorem clusterStart_refused {p : Pkg} {n k : Nat} (hs : (clAt p n).run.startPend = true) (ho : (clAt p n).run.st = .off)
    (ht : (clAt p n).cfg.type ≠ .unused) (hk : startCause p n = some k) :
    clusterStart n p = startFailed n (updRun n (fun r => { r with cause := k }) (updRun n (fun r => { r with startPend := false }) p)) := by
  unfold clusterStart
  simp only [hk]
  exact if_neg (by simp [hs, ho, ht])

/-- A DC/DC cluster that nothing refuses enters PREBIAS with every ENABLE low, and keeps its target. -/
theorem clusterStart_dcdc {p : Pkg} {n : Nat} (hs : (clAt p n).run.startPend = true) (ho : (clAt p n).run.st = .off)
    (ht : (clAt p n).cfg.type = .dcdc) (hk : startCause p n = none) :
    clusterStart n p = goSt n .prebias (updRun n (fun r =>
      { r with cause := 0, cold := false, measuring := false, meas := [], droop := 0, watch := false, isoPend := false
               matchTk := none, below5 := false, settle := none })
      (enablesLow n (endForces n (updRun n (fun r => { r with startPend := false }) p)))) := by
  unfold clusterStart
  simp only [hk, ht]
  exact if_neg (by simp [hs, ho])

/-! ### PREBIAS (04 R142, R143) -/

theorem measureStart_ready {p : Pkg} {n : Nat} (hs : (clAt p n).run.st = .prebias) (hm : (clAt p n).run.measuring = false)
    (hr : r79 p n = true) (hf : (clAt p n).cfg.type ≠ .dcdc ∨
      ∀ k ∈ feeders p (clAt p n).cfg.link, (clAt p k).run.st = .regulate) :
    measureStart n p = updRun n (fun r => { r with measuring := true, meas := [] }) p :=
  if_pos ⟨hs, by simp [hm], hr, by simpa using hf⟩

theorem measureStart_same {p : Pkg} {n : Nat} (h : (clAt p n).run.st ≠ .prebias ∨ (clAt p n).run.measuring = true ∨
    r79 p n = false) : measureStart n p = p := by
  refine if_neg ?_
  rintro ⟨hs, hm, hr, -⟩
  rcases h with h | h | h
  · exact h hs
  · simp [h] at hm
  · simp [h] at hr

theorem measured_same {p : Pkg} {n : Nat} (grid : List Int) (h : (clAt p n).run.st ≠ .prebias ∨ (clAt p n).run.measuring = false ∨
    (clAt p n).run.meas.length < 8) : measured n grid p = p := if_pos (by simpa using h)

/-- The sum of the 8 samples, in 1/80 of the pre-bias voltage's unit. -/
def preSum (p : Pkg) (n : Nat) : Int := sumI ((clAt p n).run.meas.take 8)

/-- The output is warm: the mean of the samples is at least a fifth of V_RATED (04 R143). -/
def warmStart (p : Pkg) (n : Nat) : Bool := decide (preSum p n * 5 ≥ 8 * (clAt p n).cfg.vRated)

/-- The package with the measured pre-bias voltage noted. -/
def preNoted (n : Nat) (p : Pkg) : Pkg := updRun n (fun r => { r with vpre := (preSum p n / 80).toNat }) p

/-- The measuring cycles of a cluster are over. -/
structure Measured (n : Nat) (p : Pkg) : Prop where
  prebias : (clAt p n).run.st = .prebias
  measuring : (clAt p n).run.measuring = true
  eight : (clAt p n).run.meas.length ≥ 8

/-- The source of a warm DC/DC output is dead: its input is at most a fifth of V_RATED (04 R143). -/
def noInput (p : Pkg) (n : Nat) : Bool :=
  warmStart p n && (clAt p n).cfg.type == .dcdc && decide ((clAt p n).dyn.vin * 5 ≤ (clAt p n).cfg.vRated)

/-- The grid of a warm AFE output has lost a phase (04 R143). -/
def noGrid (p : Pkg) (n : Nat) : Bool :=
  warmStart p n && (clAt p n).cfg.type == .afe && (p.mtr.meter.getD (4 + (clAt p n).cfg.acMeter) {}).ph.any (·.lost)

theorem measured_noInput {p : Pkg} {n : Nat} (grid : List Int) (h : Measured n p) (hi : noInput p n = true) :
    measured n grid p = abortStart n 0x0B (preNoted n p) :=
  (if_neg (by simp [h.prebias, h.measuring, h.eight])).trans (if_pos hi)

theorem measured_noGrid {p : Pkg} {n : Nat} (grid : List Int) (h : Measured n p) (hi : noInput p n = false)
    (hg : noGrid p n = true) : measured n grid p = abortStart n 0x0C (preNoted n p) :=
  (if_neg (by simp [h.prebias, h.measuring, h.eight])).trans ((if_neg (ne_true_of_eq_false hi)).trans (if_pos hg))

/-- A cluster with its source enters RAMP: every available phase takes its first duty (04 R143). -/
theorem measured_ramp {p : Pkg} {n : Nat} (grid : List Int) (h : Measured n p) (hi : noInput p n = false) (hg : noGrid p n = false) :
    measured n grid p =
      let warm := warmStart p n
      let duty := fun q => firstDuty p n q warm (preSum p n) grid
      let ref : Int := if warm = true then preSum p n * 1000000 else 0
      let q := (availPhases p n).foldl (fun p' l => l.foldl (fun p' q => updPt q (fun r =>
        { r with st := .active, enPend := some true, enAt := (clAt p n).dyn.sAt, raw := duty q, duty := duty q
                 shadow := some (duty q), shadowAt := (clAt p n).dyn.sAt, trim := 0, trimSat := false, revLeft := 0
                 periods := 0 }) p') p') (preNoted n p)
      presetStart n duty (goSt n .ramp (updRun n (fun r =>
        { r with measuring := false, cold := !warm, watch := decide (0 < preSum p n), revStart := (clAt p n).cfg.type == .dcdc
                 enTicks := 0, ref := ref, refStart := ref, matchTk := none
                 clamp := if (clAt p n).cfg.type = .dcdc then shareClamp q n else (clAt p n).cfg.prechg * 100000 }) q)) :=
  (if_neg (by simp [h.prebias, h.measuring, h.eight])).trans
    ((if_neg (ne_true_of_eq_false hi)).trans (if_neg (ne_true_of_eq_false hg)))

theorem noInput_iff {p : Pkg} {n : Nat} : noInput p n = true ↔ warmStart p n = true ∧ (clAt p n).cfg.type = .dcdc ∧
    (clAt p n).dyn.vin * 5 ≤ (clAt p n).cfg.vRated := by simp [noInput, and_assoc]

theorem noGrid_iff {p : Pkg} {n : Nat} : noGrid p n = true ↔ warmStart p n = true ∧ (clAt p n).cfg.type = .afe ∧
    (p.mtr.meter.getD (4 + (clAt p n).cfg.acMeter) {}).ph.any (·.lost) = true := by simp [noGrid, and_assoc]

/-- Only a DC/DC cluster's start ends for want of its input. -/
theorem noInput_of_afe {p : Pkg} {n : Nat} (h : (clAt p n).cfg.type = .afe) : noInput p n = false := by
  simp [noInput, h]

/-! ### The feeding clusters (04 R142) -/

theorem afeStartFailed_dcdc {p : Pkg} {n : Nat} (ht : (clAt p n).cfg.type = .dcdc) : afeStartFailed n p = afeFailed1 n p :=
  if_neg (by simp [ht])

theorem afeFailed1_waiting {p : Pkg} {n : Nat} (ht : (clAt p n).cfg.type = .dcdc) (hs : (clAt p n).run.st = .prebias)
    (hm : (clAt p n).run.measuring = false) (hf : feederFailed p n = true) : afeFailed1 n p = abortStart n 0x0A p :=
  if_pos ⟨ht, hs, by simp [hm], hf⟩

theorem afeFailed1_same {p : Pkg} {n : Nat} (h : (clAt p n).run.st ≠ .prebias ∨ (clAt p n).run.measuring = true ∨
    feederFailed p n = false) : afeFailed1 n p = p := by
  refine if_neg ?_
  rintro ⟨-, hs, hm, hf⟩
  rcases h with h | h | h
  · exact h hs
  · simp [h] at hm
  · simp [h] at hf

/-! ### MATCH (04 R142, R147) -/

theorem matchHeld_eq (n : Nat) (p : Pkg) : matchHeld n p = updRun n (fun r =>
    if r.st = .match_ ∧ r.matchTk.getD 0 ≥ ticksMs ∧ r.isoOn = false then { r with isoPend := true } else r) p := by
  simp only [matchHeld, Bool.not_eq_true']

theorem matchTimeout_same {p : Pkg} {n : Nat} (h : (clAt p n).run.st ≠ .match_ ∨
    due p ((clAt p n).run.since + 100000000) = false) : matchTimeout n p = p := by
  refine if_neg ?_
  rintro ⟨hs, hd⟩
  exact h.elim (fun h => h hs) (fun h => by simp [h] at hd)

theorem isoSettled_due {p : Pkg} {n t : Nat} (hs : (clAt p n).run.st = .match_) (hi : (clAt p n).run.isoOn = true)
    (ht : (clAt p n).run.settle = some t) (hd : due p t = true) : isoSettled n p = toRegulate n p :=
  if_pos ⟨hs, hi, by rw [ht]; exact hd⟩

theorem isoSettled_same {p : Pkg} {n : Nat} (h : (clAt p n).run.st ≠ .match_ ∨ (clAt p n).run.isoOn = false ∨
    (clAt p n).run.settle = none) : isoSettled n p = p := by
  refine if_neg ?_
  rintro ⟨hs, hi, hd⟩
  rcases h with h | h | h
  · exact h hs
  · simp [h] at hi
  · rw [h] at hd
    cases hd

/-! ### The stop and the return from FAULTED (04 R142, R148) -/

theorem clusterStop_same {p : Pkg} {n : Nat} (h : (clAt p n).run.stopPend = false) : clusterStop n p = p :=
  if_pos (by simp [h])

/-- The package with the requests of a cluster taken. -/
def stopTaken (n : Nat) (p : Pkg) : Pkg := updRun n (fun r => { r with stopPend := false, startPend := false }) p

theorem clusterStop_prebias {p : Pkg} {n : Nat} (h : (clAt p n).run.stopPend = true) (hs : (clAt p n).run.st = .prebias) :
    clusterStop n p = closingDone (clAt p n).cfg.region (clusterOff n 0 (stopTaken n p)) := by
  unfold clusterStop
  simp only [hs]
  exact if_neg (by simp [h])

theorem clusterStop_switching {p : Pkg} {n : Nat} (h : (clAt p n).run.stopPend = true) (hs : (clAt p n).run.st = .ramp ∨
    (clAt p n).run.st = .match_ ∨ (clAt p n).run.st = .regulate) :
    clusterStop n p = goSt n .rampDown (updRun n (fun r =>
      { r with clamp := rampClamp (clAt p n), clamp0 := rampClamp (clAt p n), below5 := false, isoPend := false, watch := false
               revStart := false, refStart := (clAt p n).dyn.vout * 8000000 }) (stopTaken n p)) := by
  unfold clusterStop
  rcases hs with hs | hs | hs
  all_goals
    simp only [hs]
    exact if_neg (by simp [h])

theorem clusterStop_still {p : Pkg} {n : Nat} (h : (clAt p n).run.stopPend = true) (hs : (clAt p n).run.st = .off ∨
    (clAt p n).run.st = .rampDown ∨ (clAt p n).run.st = .faulted) : clusterStop n p = stopTaken n p := by
  unfold clusterStop
  rcases hs with hs | hs | hs
  all_goals
    simp only [hs]
    exact if_neg (by simp [h])

theorem rampDownDone_afe {p : Pkg} {n : Nat} (hs : (clAt p n).run.st = .rampDown) (ht : (clAt p n).cfg.type = .afe)
    (hc : (clAt p n).run.clamp = 0) : rampDownDone n p = clusterOff n 0 p :=
  (if_pos ⟨hs, by simp [ht, hc]⟩).trans (if_neg (by simp [ht]))

theorem rampDownDone_dcdc {p : Pkg} {n : Nat} (hs : (clAt p n).run.st = .rampDown) (ht : (clAt p n).cfg.type = .dcdc)
    (hb : (clAt p n).run.below5 = true) : rampDownDone n p = closingDone (clAt p n).cfg.region (clusterOff n 0 p) :=
  (if_pos ⟨hs, by simp [ht, hb]⟩).trans (if_pos ht)

theorem rampDownDone_same {p : Pkg} {n : Nat} (h : (clAt p n).run.st ≠ .rampDown) : rampDownDone n p = p :=
  if_neg fun hc => h hc.1

theorem faultedRecovery_due {p : Pkg} {n : Nat} (hs : (clAt p n).run.st = .faulted) (hm : p.sys.mode ≠ .safeStop)
    (hp : ∀ q ∈ fusedPorts p n, portAvail p q = true) (hd : due p ((clAt p n).run.since + 1000000000) = true) :
    faultedRecovery n p = endDerate n (goSt n .off p) :=
  if_pos ⟨hs, hm, List.all_eq_true.2 hp, hd⟩

theorem faultedRecovery_same {p : Pkg} {n : Nat} (h : (clAt p n).run.st ≠ .faulted ∨ p.sys.mode = .safeStop ∨
    due p ((clAt p n).run.since + 1000000000) = false) : faultedRecovery n p = p := by
  refine if_neg ?_
  rintro ⟨hs, hm, -, hd⟩
  rcases h with h | h | h
  · exact h hs
  · exact hm h
  · simp [h] at hd

end Sys2Proof.Machine

open Sys2Proof Sys2Proof.Machine

/-- Settles O30: by what each row of a cluster comes to in each of its states. -/
theorem clustersStartMatchAndStop : Obligations.ClustersStartMatchAndStop := by
  intro s n
  refine ⟨fun h => run1_same (clusterStart_same h), fun k hs ho ht hk => does_of (clusterStart_refused hs ho ht hk),
    fun hs ho ht hk => does_of (clusterStart_dcdc hs ho ht hk), fun hs hm hr hf => does_of (measureStart_ready hs hm hr hf),
    fun h => run1_same (measureStart_same h), fun grid h => run1_same (measured_same grid h), ?_, ?_,
    fun ht hs hm hf => does_of ((afeStartFailed_dcdc ht).trans (afeFailed1_waiting ht hs hm hf)),
    fun ht h => run1_same ((afeStartFailed_dcdc ht).trans (afeFailed1_same h)), does_of (matchHeld_eq n.val s.m),
    fun hs hd => does_of (if_pos ⟨hs, hd⟩), fun h => run1_same (matchTimeout_same h),
    fun t hs hi ht hd => does_of (isoSettled_due hs hi ht hd), fun h => run1_same (isoSettled_same h),
    fun h => run1_same (clusterStop_same h), fun h => ⟨fun hs => does_of (clusterStop_prebias h hs),
      fun hs => does_of (clusterStop_switching h hs), fun hs => does_of (clusterStop_still h hs)⟩,
    fun hs ht hc => does_of (rampDownDone_afe hs ht hc), fun hs ht hb => does_of (rampDownDone_dcdc hs ht hb),
    fun h => run1_same (rampDownDone_same h), fun hs hm hp hd => does_of (faultedRecovery_due hs hm hp hd),
    fun h => run1_same (faultedRecovery_same h)⟩
  · intro grid hs hm h8 hw
    have hw : warmStart s.m n.val = true := decide_eq_true hw
    exact ⟨fun ht hv => does_of (measured_noInput grid ⟨hs, hm, h8⟩ (noInput_iff.2 ⟨hw, ht, hv⟩)),
      fun ht hl => does_of (measured_noGrid grid ⟨hs, hm, h8⟩ (noInput_of_afe ht) (noGrid_iff.2 ⟨hw, ht, hl⟩))⟩
  · intro grid hs hm h8 sum warm hi hg
    refine does_of (measured_ramp grid ⟨hs, hm, h8⟩ (eq_false_of_ne_true fun h => ?_) (eq_false_of_ne_true fun h => ?_))
    · obtain ⟨hw, ht, hv⟩ := noInput_iff.1 h
      exact absurd (hi hw ht) (not_lt.2 hv)
    · obtain ⟨hw, ht, hl⟩ := noGrid_iff.1 h
      exact Bool.false_ne_true ((hg hw ht).symm.trans hl)
end

section
/-!
What passes the checks of 03 R108 and what does not: the readback snapshot, commands that wait for their acceptance, queries
that are answered at once, and refusals (O7 to O11, O13, O14).
-/

namespace Sys2Proof.Machine

/-! ### Commands that pass every check -/

theorem Placed.not_free {o : OpSpec} {ix : Nat} {p : Pkg} (h : Placed o ix p) : (slotAt p ix).state ≠ .free := by
  rw [h.1]; decide

/-- A commit whose slot holds no result is counted nowhere (18 R544). -/
theorem commitCount_none {ix : Nat} {p0 p : Pkg} (h : (slotAt p ix).result = none) : commitCount ix p0 p = p :=
  if_neg fun ⟨_, _, _, hr⟩ => by simp [h] at hr

/-- IMAGE_COMMIT that passes every check: no result is refused, so none is counted. -/
theorem exec_imageCommit_passes {s : State} {ep : Fin 3} {i : Fin 64} (h : Passes specImageCommit true (slotIx ep i) s.m)
    (hr : (slotAt s.m (slotIx ep i)).result = none) :
    exec (.imageCommit ep i) s = .next { s with m := checkedOf specImageCommit (slotIx ep i) s.m } := by
  obtain ⟨w, hw⟩ := slotAt_checkedOf (o := specImageCommit) h.1.1.1.1.not_free
  have hf : commitCount (slotIx ep i) s.m (submit specImageCommit true (slotIx ep i) noAns s.m) =
      checkedOf specImageCommit (slotIx ep i) s.m := by
    rw [submit_mutating h rfl noAns]
    exact commitCount_none (by rw [hw]; exact hr)
  exact run1_to (f := fun p => commitCount (slotIx ep i) p (submit specImageCommit true (slotIx ep i) noAns p)) hf (checkedOf_sys _ _ _)

/-- A refused FORCE touches the gates' counter and the event log (07 R236). -/
theorem forceRefused_keeps (q v client : Nat) (p : Pkg) :
    forceRefused q v client p = { p with eye := (forceRefused q v client p).eye, bil := (forceRefused q v client p).bil } := by
  unfold forceRefused
  split <;> rfl

/-- A PARAM_WRITE comes to a refused FORCE, or to its checks alone (07 R236). -/
theorem refusedForce_eq (p0 : Pkg) (ix : Nat) (p : Pkg) :
    (∃ q v c, refusedForce p0 ix p = forceRefused q v c p) ∨ refusedForce p0 ix p = p :=
  (ite_eq_or_eq _ _ _).imp_left fun h => ⟨_, _, _, h⟩

theorem refusedForce_keeps (p0 : Pkg) (ix : Nat) (p : Pkg) :
    refusedForce p0 ix p = { p with eye := (refusedForce p0 ix p).eye, bil := (refusedForce p0 ix p).bil } := by
  rcases refusedForce_eq p0 ix p with ⟨q, v, c, h⟩ | h
  · rw [h]
    exact forceRefused_keeps q v c p
  · rw [h]

/-- PARAM_WRITE that passes every check. -/
theorem runs_paramWrite_passes {s : State} {ep : Fin 3} {i : Fin 64} (h : Passes (specParamWrite s.m) true (slotIx ep i) s.m) :
    Runs (.paramWrite ep i) s fun m => (slotAt m (slotIx ep i)).checked = true ∧
      m = { s.m with mbx := (checkedOf (specParamWrite s.m) (slotIx ep i) s.m).mbx
                     dfn := (checkedOf (specParamWrite s.m) (slotIx ep i) s.m).dfn, eye := m.eye, bil := m.bil } := by
  obtain ⟨w, hw⟩ := slotAt_checkedOf (o := specParamWrite s.m) h.1.1.1.1.not_free
  have hc := checkedOf_keeps (specParamWrite s.m) (slotIx ep i) s.m
  have hf : refusedForce s.m (slotIx ep i) (submit (specParamWrite s.m) true (slotIx ep i) noAns s.m) = _ :=
    congrArg (refusedForce s.m (slotIx ep i)) (submit_mutating h rfl noAns)
  have hk := refusedForce_keeps s.m (slotIx ep i) (checkedOf (specParamWrite s.m) (slotIx ep i) s.m)
  generalize checkedOf (specParamWrite s.m) (slotIx ep i) s.m = c at hw hc hf hk ⊢
  generalize refusedForce s.m (slotIx ep i) c = m at hf hk
  have hm : m = { s.m with mbx := c.mbx, dfn := c.dfn, eye := m.eye, bil := m.bil } := by rw [hc] at hk; exact hk
  refine ⟨m, run1_to (f := fun p => refusedForce p (slotIx ep i) (submit (specParamWrite p) true (slotIx ep i) noAns p)) hf
    (by rw [hm]), ?_, hm⟩
  rw [hk]
  exact congrArg Slot.checked hw

/-! ### Queries -/

/-- A final result but STATE_CONFLICT changes chapter 03's block and the mark EXPORTED (03 R96). -/
theorem finaliseR_keeps_sys (ix : Nat) {r : Result} (p : Pkg) (hr : r.status ≠ .stateConflict) :
    finaliseR ix r p = { p with mbx := (finaliseR ix r p).mbx, key := (finaliseR ix r p).key } := by
  conv_lhs => rw [finaliseR_keeps, if_neg hr]

theorem finalise_keeps_sys {st : Status} (ix g w : Nat) (pl : List Byte) (p : Pkg) (hst : st ≠ .stateConflict) :
    finalise ix st g w pl p = { p with mbx := (finalise ix st g w pl p).mbx, key := (finalise ix st g w pl p).key } :=
  finaliseR_keeps_sys ix p hst

/-- A query that passes its checks is answered by a final result with OK; what its answer does to the keys stays. -/
theorem run_query_final {o : OpSpec} {sig : Bool} {ix : Nat} {s : State} {ans : Pkg → List Byte → List Byte × Pkg}
    (h : Passes o sig ix s.m) (hq : o.query = true) (hn : ∀ d, o.signed s.m d = none)
    (hk : (ans s.m (slotAt s.m ix).payload).2 = { s.m with key := (ans s.m (slotAt s.m ix).payload).2.key }) :
    ∃ m, run1 (submit o sig ix ans) s = .next { s with m := m } ∧
      Final ix .ok 0 (ans s.m (slotAt s.m ix).payload).1 s.m m ∧ m = { s.m with mbx := m.mbx, key := m.key } := by
  refine ⟨_, run_query h hq hn (by rw [hk]), finalise_final _ _ _ h.1.1.1.1.not_free (by rw [hk]; rfl) (by rw [hk]), ?_⟩
  refine (finalise_keeps_sys ix 0 0 _ _ (by decide)).trans ?_
  rw [hk]

/-! ### Refusals -/

/-- The result that check 4 finds kept is marked DUPLICATE (03 R103). -/
theorem status_of_seqCheck_dup {p : Pkg} {s : Slot} {r : Result} (h : seqCheck p s = .dup r) : r.status = .duplicate := by
  unfold seqCheck at h
  simp only at h
  split at h
  · cases h
  · split at h
    · split at h
      · cases h; rfl
      · cases h
    · cases h

/-- A refusal after check 4 stands in the slot, though the nonce presented is used up. -/
theorem final_takeNonce {o : OpSpec} {ix : Nat} {p : Pkg} (st : Status) (g : Nat) (h : (slotAt p ix).state ≠ .free) :
    Final ix st g [] p (finalise ix st g 0 [] (takeNonce o (slotAt p ix) p)) :=
  finalise_final _ _ _ h (slotAt_takeNonce _ _ _ _) (by rw [takeNonce_keeps])

theorem takeNonce_sys (o : OpSpec) (s : Slot) (p : Pkg) : (takeNonce o s p).sys = p.sys := by rw [takeNonce_keeps]

/-- A command without a signed trailer uses no nonce. -/
theorem takeNonce_unsigned {o : OpSpec} {s : Slot} {p : Pkg} (h : o.signed p s.payload = none) : takeNonce o s p = p := by
  simp [takeNonce, h]

theorem check67_mode {o : OpSpec} {p : Pkg} {s : Slot} (hm : o.modes p.sys.mode = false) :
    check67 o p s = some (.stateConflict, 8) := by simp [check67, hm]

theorem check67_guard {o : OpSpec} {p : Pkg} {s : Slot} (hm : o.modes p.sys.mode = true) (hg : o.guard p s.payload ≠ 0) :
    check67 o p s = some (.stateConflict, o.guard p s.payload) := by simp [check67, hm, hg]

theorem check67_busy {o : OpSpec} {p : Pkg} {s : Slot} (hm : o.modes p.sys.mode = true) (hg : o.guard p s.payload = 0)
    (hb : o.busy p s.payload = true) : check67 o p s = some (.busy, 0) := by simp [check67, hm, hg, hb]

theorem check67_full {o : OpSpec} {p : Pkg} {s : Slot} (hm : o.modes p.sys.mode = true) (hg : o.guard p s.payload = 0)
    (hb : o.busy p s.payload = false) (hq : o.query = false) (hi : 256 ≤ (openItems p s.client).length) :
    check67 o p s = some (.busy, 0) := by simp [check67, hm, hg, hb, hq, hi]

theorem check67_passed {o : OpSpec} {p : Pkg} {s : Slot} (hm : o.modes p.sys.mode = true) (hg : o.guard p s.payload = 0)
    (hb : o.busy p s.payload = false) (hi : (openItems p s.client).length < 256) : check67 o p s = none := by
  simp [check67, hm, hg, hb, hi]

/-- Check 1 of 03 R108: a command of an unknown opcode is placed and acknowledged, and ends at once. -/
theorem command_unknown {m : MsgIn} {y : Session} {p : Pkg} (hi : u8 m.body 12 < 64)
    (hs : (slotAt p (m.ep * 64 + u8 m.body 12)).state ≠ .pending)
    (ha : (((clientOf p y.client).getD {}).slots.getD m.ep []).contains (u8 m.body 12) = true) (hc : u32 m.body 4 = y.client)
    (hl : u16 m.body 2 + 32 = m.body.length) (ho : isOpcode (u16 m.body 0) = false) :
    command m y p = (let q := updSlot (m.ep * 64 + u8 m.body 12) (placed m.body y.id) p
      finalise (m.ep * 64 + u8 m.body 12) .badOpcode 0 0 []
        (slotAck y (u8 m.body 12) .ok (generation q (slotAt q (m.ep * 64 + u8 m.body 12))) q)) := by
  unfold command
  simp only
  rw [if_neg (fun h => hs h.2), if_neg, if_neg (not_not.2 hl), if_neg (by simp [ho])]
  rintro (h | h)
  · simp only [ha, hi, decide_true, Bool.and_self] at h
    cases h
  · exact h hc

/-- The slot's status is then BAD_OPCODE. -/
theorem status_command_unknown {m : MsgIn} {y : Session} {p : Pkg} (hi : u8 m.body 12 < 64)
    (hx : m.ep * 64 + u8 m.body 12 < p.mbx.slots.length) (hs : (slotAt p (m.ep * 64 + u8 m.body 12)).state ≠ .pending)
    (ha : (((clientOf p y.client).getD {}).slots.getD m.ep []).contains (u8 m.body 12) = true) (hc : u32 m.body 4 = y.client)
    (hl : u16 m.body 2 + 32 = m.body.length) (ho : isOpcode (u16 m.body 0) = false) :
    (slotAt (command m y p) (m.ep * 64 + u8 m.body 12)).result.map (·.status) = some .badOpcode := by
  rw [command_unknown hi hs ha hc hl ho]
  simp only [finalise, slotAck]
  rw [slotAt_finaliseR _ (by rw [sendIn_slots]; simpa [updSlot] using hx)]
  rfl

/-- A refusal at check 6 leaves everything but its result, LAST_GUARD, and what the result brings: its message and the mark
EXPORTED (03 R109). -/
theorem finaliseR_conflict {r : Result} (ix : Nat) (p : Pkg) (hr : r.status = .stateConflict) :
    (finaliseR ix r p).sys = { p.sys with lastGuard := r.guard } ∧ (∀ k, k ≠ ix → slotAt (finaliseR ix r p) k = slotAt p k) ∧
      (finaliseR ix r p).mbx.seqs = p.mbx.seqs ∧ (finaliseR ix r p).mbx.work = p.mbx.work ∧
      finaliseR ix r p = { p with sys := (finaliseR ix r p).sys, mbx := (finaliseR ix r p).mbx, key := (finaliseR ix r p).key } := by
  have hk := finaliseR_keeps ix r p
  obtain ⟨h1, h2, -, -⟩ := finaliseR_work ix r p
  refine ⟨?_, fun k hne => ?_, h1, h2, ?_⟩
  · rw [hk, if_pos hr]
  · unfold slotAt
    rw [finaliseR_slots, upd_getD_ne _ _ _ _ _ hne]
  · rw [hk]

end Sys2Proof.Machine

open Sys2Proof Sys2Proof.Machine

/-- Settles O7: every meaning but the boundary's is a change of the package. -/
theorem readbackSnapshotMovesAtBoundariesOnly : Obligations.ReadbackSnapshotMovesAtBoundariesOnly := by
  intro c s t h
  by_cases hb : ∃ b, c = .supervisoryBoundary b
  · exact .inl hb
  · obtain ⟨m, hm⟩ := exec_changes_package (fun b hc => hb ⟨b, hc⟩) s
    rw [hm] at h
    cases h
    exact .inr rfl

/-- Settles O8: each row is a mutating command, and IMAGE_COMMIT counts no refusal. -/
theorem packageCommandsPassTheirChecks : Obligations.PackageCommandsPassTheirChecks := by
  intro s ep i pointOk sig ix
  exact ⟨fun h => run_mutating h rfl, fun h => run_mutating h rfl, fun h => run_mutating h rfl, fun h => run_mutating h rfl,
    fun h => run_mutating h rfl, fun h => run_mutating h rfl, fun h => run_mutating h rfl, fun h => run_mutating h rfl,
    fun h => run_mutating h rfl, fun h => run_mutating h rfl, fun h => run_mutating h rfl, fun h hr => exec_imageCommit_passes h hr⟩

/-- Settles O9: each row is a mutating command. -/
theorem powerCommandsPassTheirChecks : Obligations.PowerCommandsPassTheirChecks := by
  intro s ep i ix
  exact ⟨fun h => run_mutating h rfl, fun h => run_mutating h rfl, fun h => run_mutating h rfl, fun h => run_mutating h rfl,
    fun h => run_mutating h rfl, fun h => run_mutating h rfl, fun h => run_mutating h rfl, fun h => run_mutating h rfl,
    fun h => run_mutating h rfl, fun h => run_mutating h rfl, fun h => run_mutating h rfl⟩

/-- Settles O10: each row is a mutating command, and what a refused FORCE may touch is the gates' counter and the event log. -/
theorem linkAndFieldCommandsPassTheirChecks : Obligations.LinkAndFieldCommandsPassTheirChecks := by
  intro s ep i ix
  exact ⟨fun h => run_mutating h rfl, fun h => run_mutating h rfl, fun h => run_mutating h rfl, fun h => run_mutating h rfl,
    fun h => run_mutating h rfl, fun h => run_mutating h rfl, fun h => run_mutating h rfl, fun h => run_mutating h rfl,
    fun h => run_mutating h rfl, fun h => run_mutating h rfl, fun h => run_mutating h rfl, fun h => runs_paramWrite_passes h⟩

/-- Settles O11: each row is a query; ATTEST alone changes more than its result, the key its engine has loaded. -/
theorem queriesAnswerFromTheStateOrTheSnapshot : Obligations.QueriesAnswerFromTheStateOrTheSnapshot := by
  intro s ep i ix d answers
  exact ⟨fun h => run_query_final h rfl (fun _ => rfl) rfl, fun h => run_query_final h rfl (fun _ => rfl) rfl,
    fun h => run_query_final h rfl (fun _ => rfl) rfl, fun h => run_query_final h rfl (fun _ => rfl) rfl,
    fun h => run_query_final h rfl (fun _ => rfl) rfl, fun h => run_query_final h rfl (fun _ => rfl) rfl,
    fun h => run_query_final h rfl (fun _ => rfl) rfl, fun h => run_query_final h rfl (fun _ => rfl) (loadKey_keeps .attest s.m),
    fun h => run_query_final h rfl (fun _ => rfl) rfl⟩

/-- Settles O13: by what `submit` comes to at each check, and by the checks 6 and 7 one by one. -/
theorem firstFailingCheckDecidesTheStatus : Obligations.FirstFailingCheckDecidesTheStatus := by
  refine ⟨fun m x p hi hx hs ha hc hl ho => status_command_unknown hi hx hs ha hc hl ho, ?_⟩
  intro o sig ix ans p s q p1
  have hmode : p1.sys.mode = p.sys.mode := congrArg Sys.mode (takeNonce_sys o s p)
  have refused : ∀ {st g}, Passes25 o sig ix p → check67 o p1 s = some (st, g) → Final ix st g [] p q := by
    intro st g h hc
    have hq : q = finalise ix st g 0 [] p1 := submit_refused h hc ans
    rw [hq]
    exact final_takeNonce st g h.1.1.1.not_free
  refine ⟨fun h hl => ?_, fun h hl hr => ?_, fun r h hq hd => ?_, fun h hq hd => ?_, fun h hb => ?_, fun bad h hr hp hs => ?_,
    fun h hm => refused h (check67_mode (hmode ▸ hm)), fun h hm hg => refused h (check67_guard (hmode ▸ hm) hg),
    fun h hm hg hb => refused h (check67_busy (hmode ▸ hm) hg hb),
    fun h hm hg hb hq hi => refused h (check67_full (hmode ▸ hm) hg hb hq hi), fun h hm hg hb hq hi => ?_⟩
  · rw [show q = _ from submit_badLength h hl sig ans]
    exact finalise_final _ _ _ h.not_free rfl rfl
  · rw [show q = _ from submit_notAuthorised h hl hr sig ans]
    exact finalise_final _ _ _ h.not_free rfl rfl
  · rw [show q = _ from submit_duplicate h hq hd sig ans, slotAt_finaliseR _ (slot_lt h.1.not_free)]
    exact ⟨rfl, rfl, status_of_seqCheck_dup hd⟩
  · rw [show q = _ from submit_badSeq h hq hd sig ans]
    exact finalise_final _ _ _ h.1.not_free rfl rfl
  · rw [show q = _ from submit_badParameter h hb sig ans]
    exact final_takeNonce _ _ h.1.1.not_free
  · rw [show q = _ from submit_badTrailer h hr hp hs ans]
    exact finalise_final _ _ _ h.1.1.not_free (slotAt_takeNonce _ _ _ _) hmode
  · rw [show q = _ from submit_mutating ⟨h, check67_passed (hmode ▸ hm) hg hb hi⟩ hq ans]
    obtain ⟨w, hw⟩ := slotAt_checkedOf (o := o) h.1.1.1.not_free
    rw [hw]
    exact ⟨h.1.1.1.1, rfl⟩

/-- Settles O14: no nonce is presented, so the refusal makes a result final and does nothing else. -/
theorem stateConflictHasNoSideEffect : Obligations.StateConflictHasNoSideEffect := by
  intro o sig ix ans p g hn h hc q
  have ht : takeNonce o (slotAt p ix) p = p := takeNonce_unsigned (hn _)
  have h67 : check67 o (takeNonce o (slotAt p ix) p) (slotAt p ix) = some (.stateConflict, g) := by
    rw [ht]
    rcases hc with ⟨hm, rfl⟩ | ⟨hm, rfl, hg⟩
    · exact check67_mode hm
    · exact check67_guard hm hg
  have hq : q = finalise ix .stateConflict g 0 [] p := (submit_refused h h67 ans).trans (by rw [ht])
  rw [hq]
  exact ⟨finalise_final _ _ _ h.1.1.1.not_free rfl rfl, finaliseR_conflict ix p rfl⟩
end

section
/-!
Images on their way into the store: what a chunk that is applied stores, and what the end of verification leaves (O18).
-/

namespace Sys2Proof.Machine

/-! ### Chunks (03 R114) -/

/-- A chunk of another TOTAL finds the engine occupied. -/
theorem applyImageLoad_occupied {id : Nat} {d : List Byte} {p : Pkg}
    (h : ((loadOf p (imgKey d)).filter (fun l => l.verify.isSome)).any (fun l => l.total != u32 d 4) = true) :
    applyImageLoad id d p = finishWork id .busy p := if_pos h

/-- The store in which a chunk is put: as it stands while its load goes on, and with the image's place erased for the first. -/
def chunkGround (d : List Byte) (p : Pkg) : List Host.Cell :=
  if ((loadOf p (imgKey d)).filter (fun l => l.total == u32 d 4)).isSome then p.store
  else memErase (storeBase (u8 d 0) (u8 d 1)) (storeSize (u8 d 0)) p.store

/-- An image that verifies with the chunk's TOTAL is a load that goes on. -/
theorem chunkGround_verifying {d : List Byte} {p : Pkg} (hv : ((loadOf p (imgKey d)).filter (fun l => l.verify.isSome)).isSome = true)
    (h : ((loadOf p (imgKey d)).filter (fun l => l.verify.isSome)).any (fun l => l.total != u32 d 4) = false) :
    chunkGround d p = p.store := by
  refine if_pos ?_
  cases hl : loadOf p (imgKey d) with
  | none => simp [hl] at hv
  | some l =>
    have hs : l.verify.isSome = true := by
      by_contra hn
      simp [hl, Option.filter, hn] at hv
    have ht : l.total = u32 d 4 := by simpa [hl, Option.filter, hs] using h
    simp [Option.filter, ht]

/-- Otherwise its data bytes are stored at its offset. -/
theorem applyImageLoad_store {id : Nat} {d : List Byte} {p : Pkg}
    (h : ((loadOf p (imgKey d)).filter (fun l => l.verify.isSome)).any (fun l => l.total != u32 d 4) = false) :
    (applyImageLoad id d p).store = memWriteL (storeBase (u8 d 0) (u8 d 1) + u32 d 8) (d.drop 12) (chunkGround d p) := by
  unfold applyImageLoad
  simp only
  rw [if_neg (by rw [← Bool.not_eq_true] at h; exact h)]
  split
  next hv => rw [chunkGround_verifying hv h]; rfl
  next => split <;> rfl

theorem chunkGround_wf (d : List Byte) {p : Pkg} (h : memWf p.store = true) : memWf (chunkGround d p) = true := by
  unfold chunkGround
  split
  · exact h
  · exact memErase_wf _ _ _ h

theorem memRead_chunkGround (d : List Byte) {p : Pkg} (a : Nat) (h : memWf p.store = true) :
    memRead a (chunkGround d p) =
      if ((loadOf p (imgKey d)).filter (fun l => l.total == u32 d 4)).isNone = true ∧ storeBase (u8 d 0) (u8 d 1) ≤ a ∧
        a < storeBase (u8 d 0) (u8 d 1) + storeSize (u8 d 0) then 0 else memRead a p.store := by
  unfold chunkGround
  cases ho : (loadOf p (imgKey d)).filter (fun l => l.total == u32 d 4) with
  | none => simp [memRead_memErase _ _ _ _ h, storeDefault]
  | some l => simp

/-! ### Results that become final together -/

/-- Only chapter 03's block and the mark EXPORTED differ (03 R96, 18 R551). -/
def ResultsOnly (p q : Pkg) : Prop := q = { p with mbx := q.mbx, key := { p.key with exported := q.key.exported } }

theorem ResultsOnly.trans {p q r : Pkg} (h : ResultsOnly p q) (k : ResultsOnly q r) : ResultsOnly p r := by
  unfold ResultsOnly at h k ⊢
  rw [h] at k
  exact k

/-- A change of chapter 03's block. -/
theorem ResultsOnly.of_mbx {p q : Pkg} (h : q = { p with mbx := q.mbx }) : ResultsOnly p q := by
  unfold ResultsOnly
  conv_lhs => rw [h]
  rw [h]

theorem exportMark_results (x : Slot) (r : Result) (p : Pkg) : ResultsOnly p (exportMark x r p) := by
  unfold exportMark
  split <;> rfl

theorem finaliseR_results (ix : Nat) {r : Result} (p : Pkg) (hr : r.status ≠ .stateConflict) : ResultsOnly p (finaliseR ix r p) := by
  unfold finaliseR
  simp only [if_neg hr]
  split
  · exact (ResultsOnly.of_mbx (by rw [sendIn_keeps]; rfl)).trans (exportMark_results _ _ _)
  · rfl

theorem finalise_results {st : Status} (ix g w : Nat) (pl : List Byte) (p : Pkg) (hst : st ≠ .stateConflict) :
    ResultsOnly p (finalise ix st g w pl p) := finaliseR_results ix p hst

theorem updSeq_keeps (id : Nat) (f : ClientSeq → ClientSeq) (p : Pkg) :
    updSeq id f p = { p with mbx := { p.mbx with seqs := (updSeq id f p).mbx.seqs } } := by
  unfold updSeq
  split <;> rfl

theorem updSeq_results (id : Nat) (f : ClientSeq → ClientSeq) (p : Pkg) : ResultsOnly p (updSeq id f p) :=
  .of_mbx (by rw [updSeq_keeps])

theorem finishSlot_results (id : Nat) {st : Status} (ix : Nat) (p : Pkg) (hst : st ≠ .stateConflict) :
    ResultsOnly p (finishSlot id st ix p) := by
  unfold finishSlot
  simp only
  split
  · exact (finalise_results ix 0 id [] p hst).trans (updSeq_results _ _ _)
  · exact finalise_results ix 0 id [] p (by decide)

theorem recoveryAnswer_results (ep : Nat) (p : Pkg) : ResultsOnly p (recoveryAnswer ep p) := by
  unfold recoveryAnswer
  simp only
  split
  · exact .of_mbx (sendOut_keeps _ _ _)
  · rfl

/-- The end of a load changes nothing else than the results that waited for it. -/
theorem finishLoad_results (id : Nat) {st : Status} (p : Pkg) (hst : st ≠ .stateConflict) : ResultsOnly p (finishLoad id st p) := by
  unfold finishLoad
  simp only
  split
  · split
    · exact (finaliseR_results _ p hst).trans (recoveryAnswer_results _ _)
    · rfl
  · refine List.foldlRecOn (motive := ResultsOnly p) _ _ rfl fun q hq ix _ => ?_
    exact hq.trans (finishSlot_results id ix q hst)

/-! ### The end of verification (03 R114, 18 R544) -/

/-- The loads without that of a kind and target. -/
def loadsLeft (kind target : Nat) (p : Pkg) : List ImgLoad := p.loads.filter (fun x => !(x.kind == kind && x.target == target))

/-- What a load that has verified is found to hold. -/
def foundBody (kind : Nat) (sig : Bool) (b : ImageIn) (l : ImgLoad) (p : Pkg) : Option ImageBody :=
  (bodyOf p kind (memReadL (storeBase kind l.target) l.total p.store) b).filter
    (fun x => (sig && trailerOk p kind (trailerOf p kind l.target l.total)) && bodyOk p x)

section
variable {kind : Nat} {sig : Bool} {b : ImageIn} {l : ImgLoad} {p : Pkg}

theorem foundBody_good {x : ImageBody}
    (hs : sig = true ∧ trailerOk p kind (trailerOf p kind l.target l.total) = true)
    (hb : bodyOf p kind (memReadL (storeBase kind l.target) l.total p.store) b = some x) (hx : bodyOk p x = true) :
    foundBody kind sig b l p = some x := by
  simp [foundBody, hb, hs.1, hs.2, hx]

theorem foundBody_bad (h : ¬(sig = true ∧ trailerOk p kind (trailerOf p kind l.target l.total) = true) ∨
    ∀ x, bodyOf p kind (memReadL (storeBase kind l.target) l.total p.store) b = some x → bodyOk p x = false) :
    foundBody kind sig b l p = none := by
  refine Option.filter_eq_none_iff.2 fun x hx => ?_
  rcases h with h | h
  · simpa using fun h1 h2 => absurd ⟨h1, h2⟩ h
  · simp [h x hx]

variable (hl : p.loads.find? (fun l => l.kind == kind && l.verify.isSome) = some l)
include hl

/-- An image that fails is erased and counted. -/
theorem verified_bad (h : foundBody kind sig b l p = none) : verified kind sig b p =
    finishLoad (l.verify.getD 0) .badParameter (imageRefused
      { p with loads := loadsLeft kind l.target p, store := memErase (storeBase kind l.target) (storeSize kind) p.store }) := by
  unfold foundBody at h
  unfold verified
  rw [hl]
  simp only [h]
  rfl

/-- A firmware image takes its slot and is the next to boot. -/
theorem verified_firmware {f : FwSlot} (h : foundBody kind sig b l p = some (.firmware f)) : verified kind sig b p =
    finishLoad (l.verify.getD 0) .ok { p with
      loads := loadsLeft kind l.target p
      key := { p.key with fw := upd p.key.fw l.target (fun _ => f), next := some l.target } } := by
  unfold foundBody at h
  unfold verified
  rw [hl]
  simp only [h]
  rfl

/-- Any other image is ready to commit. -/
theorem verified_ready {x : ImageBody} (h : foundBody kind sig b l p = some x) (hx : ∀ f, x ≠ .firmware f) :
    verified kind sig b p = finishLoad (l.verify.getD 0) .ok { p with
      loads := loadsLeft kind l.target p
      ready := { body := x, key := p.key.opr.pub } :: p.ready.filter (fun v => v.body.kind != kind) } := by
  unfold foundBody at h
  unfold verified
  rw [hl]
  cases x with
  | firmware f => exact absurd rfl (hx f)
  | _ => simp only [h]; rfl

end

/-- A verification that comes to the end of a load, with the package's own state as it was. -/
theorem run_finishLoad {f : Pkg → Pkg} {s : State} {id : Nat} {st : Status} {q : Pkg} (h : f s.m = finishLoad id st q)
    (hs : q.sys = s.m.sys) (hst : st ≠ .stateConflict) :
    ∃ m, run1 f s = .next { s with m := m } ∧ m = { q with mbx := m.mbx, key := { q.key with exported := m.key.exported } } := by
  have hr := finishLoad_results id q hst
  refine ⟨_, run1_to h ?_, hr⟩
  rw [hr]
  exact hs

end Sys2Proof.Machine

open Sys2Proof Sys2Proof.Machine

/-- Settles O18: by the store that a chunk is put in, and by what each outcome of the verification comes to. -/
theorem imageChunksAreStoredAndVerified : Obligations.ImageChunksAreStoredAndVerified := by
  refine ⟨fun id d p hw _ => ⟨applyImageLoad_occupied, fun hv => ⟨?_, fun a => ?_, ?_⟩⟩, ?_⟩
  · rw [applyImageLoad_store hv]
    exact memWriteL_wf _ _ _ (chunkGround_wf d hw)
  · rw [applyImageLoad_store hv, memRead_memWriteL _ _ _ _ (chunkGround_wf d hw), memRead_chunkGround d a hw, List.length_drop]
  · conv_lhs => rw [applyImageLoad_keeps]
    rw [applyImageLoad_keeps]
  · intro s kind sig b l hl signed body rest
    refine ⟨fun f hs hb hx => ?_, fun x hs hb hf hx => ?_, fun hbad hw => ?_⟩
    · obtain ⟨m, hm, he⟩ := run_finishLoad (verified_firmware hl (foundBody_good hs hb hx)) rfl (by decide)
      refine ⟨m, hm, ?_⟩
      rw [he]
      exact ⟨rfl, rfl, rfl, rfl⟩
    · obtain ⟨m, hm, he⟩ := run_finishLoad (verified_ready hl (foundBody_good hs hb hx) hf) rfl (by decide)
      refine ⟨m, hm, ?_⟩
      rw [he]
      exact ⟨rfl, rfl, rfl⟩
    · obtain ⟨m, hm, he⟩ := run_finishLoad (verified_bad hl (foundBody_bad hbad)) rfl (by decide)
      refine ⟨m, hm, ?_⟩
      rw [he]
      exact ⟨rfl, rfl, rfl, fun a => memRead_memErase _ _ _ _ hw, rfl⟩
end

section
/-!
The acceptance of work: a checked command becomes an item and its result final, and a DLMS request likewise (O17).
-/

namespace Sys2Proof.Machine

/-! ### Journal records and their acceptance (13 R429, R433) -/

/-- The record of an accepted item touches chapter 13's block. -/
theorem acceptRec_keeps (id kind : Nat) (data : List Byte) (p : Pkg) :
    acceptRec id kind data p = { p with dfn := (acceptRec id kind data p).dfn } := by
  unfold acceptRec
  split <;> rfl

/-- So does the withdrawal of a command's record. -/
theorem unjournal_keeps (x : Slot) (p : Pkg) : unjournal x p = { p with dfn := (unjournal x p).dfn } := by
  unfold unjournal
  cases x.work <;> rfl

/-- Journaling a command leaves it open whether items are accepted LOCAL. -/
theorem acceptsLocal_journalSlot (ix : Nat) (p : Pkg) : acceptsLocal (journalSlot ix p) = acceptsLocal p := by
  obtain ⟨hl, hm⟩ := journal_mir ix p
  unfold acceptsLocal
  rw [hl, hm]

/-! ### Slots that hold the same client and number (03 R103, R104) -/

/-- What the settling of other slots leaves: the work, its counter, one slot, and all but the blocks of chapters 03, 13 and 18. -/
structure OtherSlots (ix : Nat) (p q : Pkg) : Prop where
  work : q.mbx.work = p.mbx.work
  workCtr : q.mbx.workCtr = p.mbx.workCtr
  slot : slotAt q ix = slotAt p ix
  frame : q = { p with mbx := q.mbx, dfn := q.dfn, key := q.key }

theorem OtherSlots.trans {ix : Nat} {p q r : Pkg} (h : OtherSlots ix p q) (k : OtherSlots ix q r) : OtherSlots ix p r := by
  refine ⟨k.work.trans h.work, k.workCtr.trans h.workCtr, k.slot.trans h.slot, ?_⟩
  have hk := k.frame
  rw [h.frame] at hk
  exact hk

theorem OtherSlots.refl (ix : Nat) (p : Pkg) : OtherSlots ix p p := ⟨rfl, rfl, rfl, rfl⟩

theorem otherSlots_unjournal (ix : Nat) (x : Slot) (p : Pkg) : OtherSlots ix p (unjournal x p) := by
  rw [unjournal_keeps]
  exact ⟨rfl, rfl, rfl, rfl⟩

theorem otherSlots_updSlot {ix j : Nat} (f : Slot → Slot) (p : Pkg) (h : j ≠ ix) : OtherSlots ix p (updSlot j f p) :=
  ⟨rfl, rfl, slotAt_updSlot_ne f h.symm, rfl⟩

theorem otherSlots_finaliseR {ix j : Nat} {r : Result} (p : Pkg) (h : j ≠ ix) (hr : r.status ≠ .stateConflict) :
    OtherSlots ix p (finaliseR j r p) := by
  obtain ⟨-, hw, -, hc⟩ := finaliseR_work j r p
  refine ⟨hw, hc, ?_, ?_⟩
  · unfold slotAt
    rw [finaliseR_slots, upd_getD_ne _ _ _ _ _ h.symm]
  · conv_lhs => rw [finaliseR_keeps_sys j p hr]
    rw [finaliseR_keeps_sys j p hr]

/-- Repeats become final or wait with the accepted command, and another command of its number is refused. -/
theorem twin_otherSlots (ix id : Nat) (x : Slot) (r : Result) (last : Bool) (p : Pkg) : OtherSlots ix p (twin ix id x r last p) := by
  unfold twin
  refine List.foldlRecOn (motive := OtherSlots ix p) _ _ (.refl ix p) fun q hq j hj => hq.trans ?_
  have hne : j ≠ ix := by simpa using (List.mem_filter.1 hj).2
  simp only
  split
  · split
    · exact (otherSlots_unjournal ix _ q).trans (otherSlots_updSlot _ _ hne)
    · exact (otherSlots_unjournal ix _ q).trans (otherSlots_finaliseR _ hne (by simp))
  · exact (otherSlots_unjournal ix _ q).trans (otherSlots_finaliseR _ hne (by simp))

/-! ### The command in a slot (03 R100 to R106) -/

/-- The item of the command in a slot. -/
def slotItem (ix id : Nat) (p : Pkg) : WorkItem :=
  { id := id, origin := .client (slotAt p ix).client, opcode := (slotAt p ix).opcode, payload := (slotAt p ix).payload
    accTime := p.tim.now, local_ := acceptsLocal p, place := some (ix / 64, ix % 64) }

/-- The chunk in a slot completes an image, so its result waits for the verification (03 R114). -/
def waitsForImage (ix : Nat) (p : Pkg) : Bool := (slotAt p ix).opcode == 0x0106 && completes p (slotAt p ix).payload

theorem waitsForImage_true {ix : Nat} {p : Pkg} :
    waitsForImage ix p = true ↔ (slotAt p ix).opcode = 0x0106 ∧ completes p (slotAt p ix).payload = true := by simp [waitsForImage]

theorem waitsForImage_false {ix : Nat} {p : Pkg} :
    waitsForImage ix p = false ↔ (slotAt p ix).opcode ≠ 0x0106 ∨ completes p (slotAt p ix).payload = false := by
  simp only [waitsForImage, Bool.and_eq_false_iff, beq_eq_false_iff_ne]

/-- The package with the item of the command in a slot, its number taken and its record accepted. -/
def itemised (ix id : Nat) (p : Pkg) : Pkg :=
  acceptRec id 1 (workRecord p id (slotAt p ix)) (updSeq (slotAt p ix).client (accepted (slotAt p ix) (workResult p id (slotAt p ix)))
    { p with mbx := { p.mbx with work := p.mbx.work ++ [slotItem ix id p] } })

/-- The command's own slot, once it is accepted. -/
def settleOwn (ix id : Nat) (p : Pkg) : Pkg :=
  if waitsForImage ix p then updSlot ix (fun x => { x with checked := false, waits := some id }) (itemised ix id p)
  else finaliseR ix (workResult p id (slotAt p ix)) (itemised ix id p)

/-- The conditions of acceptance in a slot: its number is new, and its client has room (03 R102, R106). -/
def Acceptable (ix : Nat) (p : Pkg) : Prop :=
  (slotAt p ix).state = .pending ∧ seqCheck p (slotAt p ix) = .fresh ∧ (openItems p (slotAt p ix).client).length < 256

theorem takeSlot_accepts {ix id : Nat} {p : Pkg} (h : Acceptable ix p) (ha : mayAccept p id 1 = true) :
    takeSlot ix id p = twin ix id (slotAt p ix) (workResult p id (slotAt p ix)) (waitsForImage ix p) (settleOwn ix id p) := by
  obtain ⟨-, hs, ho⟩ := h
  unfold takeSlot
  simp only [hs]
  rw [if_neg (by omega), if_neg (by simp [ha])]
  rfl

/-- A record that the mirror target has yet to acknowledge keeps its command waiting. -/
theorem takeSlot_waits {ix id : Nat} {p : Pkg} (h : Acceptable ix p) (ha : mayAccept p id 1 = false) : takeSlot ix id p = p := by
  obtain ⟨-, hs, ho⟩ := h
  unfold takeSlot
  simp only [hs]
  rw [if_neg (by omega), if_pos (by simp [ha])]

theorem itemised_keeps (ix id : Nat) (p : Pkg) : itemised ix id p =
    { p with mbx := { p.mbx with work := p.mbx.work ++ [slotItem ix id p], seqs := (itemised ix id p).mbx.seqs }
             dfn := (itemised ix id p).dfn } := by
  unfold itemised
  rw [acceptRec_keeps, updSeq_keeps]

/-- What an accepted command leaves: its item, its result or the wait for its image, and all but the blocks of chapters 03, 13
and 18 as it was. -/
structure AcceptedAs (ix id : Nat) (p m : Pkg) : Prop where
  work : m.mbx.work = p.mbx.work ++ [slotItem ix id p]
  final : waitsForImage ix p = false → (slotAt m ix).state = .done ∧ (slotAt m ix).result = some (workResult p id (slotAt p ix))
  waits : waitsForImage ix p = true → (slotAt m ix).waits = some id ∧ (slotAt m ix).state = .pending
  frame : m = { p with mbx := m.mbx, dfn := m.dfn, key := m.key }

theorem settleOwn_accepted {ix : Nat} {p : Pkg} (id : Nat) (hp : (slotAt p ix).state = .pending) :
    AcceptedAs ix id p (settleOwn ix id p) ∧ (settleOwn ix id p).mbx.workCtr = p.mbx.workCtr := by
  have hi := itemised_keeps ix id p
  have hslot : slotAt (itemised ix id p) ix = slotAt p ix := by rw [hi]; rfl
  have hx : ix < (itemised ix id p).mbx.slots.length := slot_lt (by rw [hslot, hp]; decide)
  unfold settleOwn
  cases hw : waitsForImage ix p with
  | true =>
    rw [if_pos rfl]
    have hs := slotAt_updSlot (fun x : Slot => { x with checked := false, waits := some id }) hx
    refine ⟨⟨by rw [hi]; rfl, fun h => by simp [h] at hw, fun _ => ?_, by rw [hi]; rfl⟩, by rw [hi]; rfl⟩
    rw [hs]
    exact ⟨rfl, hslot ▸ hp⟩
  | false =>
    rw [if_neg (by decide)]
    obtain ⟨-, h2, -, h4⟩ := finaliseR_work ix (workResult p id (slotAt p ix)) (itemised ix id p)
    have hk := finaliseR_keeps_sys (r := workResult p id (slotAt p ix)) ix (itemised ix id p) (by simp [workResult])
    refine ⟨⟨h2.trans (by rw [hi]), fun _ => ?_, fun h => by simp [h] at hw, ?_⟩, h4.trans (by rw [hi])⟩
    · rw [slotAt_finaliseR _ hx]
      exact ⟨rfl, rfl⟩
    · generalize finaliseR ix (workResult p id (slotAt p ix)) (itemised ix id p) = m at hk ⊢
      rw [hk, hi]

/-- A journaled command that may be accepted is. -/
theorem takeSlot_accepted {ix id : Nat} {p : Pkg} (h : Acceptable ix p) (ha : mayAccept p id 1 = true) :
    AcceptedAs ix id p (takeSlot ix id p) ∧ (takeSlot ix id p).mbx.workCtr = p.mbx.workCtr := by
  rw [takeSlot_accepts h ha]
  obtain ⟨⟨h1, h2, h3, h4⟩, hc⟩ := settleOwn_accepted id h.1
  obtain ⟨t1, t2, t3, t4⟩ := twin_otherSlots ix id (slotAt p ix) (workResult p id (slotAt p ix)) (waitsForImage ix p)
    (settleOwn ix id p)
  refine ⟨⟨t1.trans h1, by rw [t3]; exact h2, by rw [t3]; exact h3, ?_⟩, t2.trans hc⟩
  generalize twin ix id (slotAt p ix) (workResult p id (slotAt p ix)) (waitsForImage ix p) (settleOwn ix id p) = m at t4 ⊢
  rw [h4] at t4
  exact t4

/-! ### WORK_ACCEPTED of a slot -/

theorem acceptSlot_journaled {ix id : Nat} {p : Pkg} (hd : drives p = true) (hn : p.mtr.nvBlock = false)
    (hp : (slotAt p ix).state = .pending) (hc : (slotAt p ix).checked = true) (hw : (slotAt p ix).work = some id) :
    acceptSlot ix p = takeSlot ix id p := by
  unfold acceptSlot
  simp only
  rw [if_neg (by simp [hd, hn, hp, hc])]
  simp only [hw]

/-- The next work id of this module (03 R101). -/
def nextWork (p : Pkg) : Nat := nodeAddr p * 2 ^ 48 + (p.mbx.workCtr + 1) % 2 ^ 48

/-- The package with the command in a slot journaled under the next work id, and no record sent. -/
def numbered (ix : Nat) (p : Pkg) : Pkg :=
  updSlot ix (fun x => { x with work := some (nextWork p) }) { p with mbx := { p.mbx with workCtr := (p.mbx.workCtr + 1) % 2 ^ 48 } }

theorem journalSlot_local {ix : Nat} {p : Pkg} (hd : drives p = true) (hn : p.mtr.nvBlock = false) (hl : acceptsLocal p = true) :
    journalSlot ix p = numbered ix p := by
  unfold journalSlot
  rw [if_neg (by simp [hd, hn])]
  exact if_pos hl

theorem slotAt_numbered {ix : Nat} {p : Pkg} (hp : (slotAt p ix).state = .pending) :
    slotAt (numbered ix p) ix = { slotAt p ix with work := some (nextWork p) } :=
  slotAt_updSlot _ (slot_lt (p := p) (by rw [hp]; decide))

/-- A command that could not be journaled at its checks is journaled first, and awaits its acknowledgement. -/
theorem acceptSlot_unjournaled {ix : Nat} {p : Pkg} (hd : drives p = true) (hn : p.mtr.nvBlock = false)
    (hp : (slotAt p ix).state = .pending) (hc : (slotAt p ix).checked = true) (hw : (slotAt p ix).work = none)
    (hl : acceptsLocal p = false) : acceptSlot ix p = journalSlot ix p := by
  unfold acceptSlot
  simp only
  rw [if_neg (by simp [hd, hn, hp, hc])]
  simp only [hw]
  split
  · exact if_neg (by simp [acceptsLocal_journalSlot, hl])
  · rfl

/-- Or is accepted where items are accepted LOCAL. -/
theorem acceptSlot_local {ix : Nat} {p : Pkg} (hd : drives p = true) (hn : p.mtr.nvBlock = false)
    (hp : (slotAt p ix).state = .pending) (hc : (slotAt p ix).checked = true) (hw : (slotAt p ix).work = none)
    (hl : acceptsLocal p = true) : acceptSlot ix p = takeSlot ix (nextWork p) (numbered ix p) := by
  unfold acceptSlot
  simp only
  rw [if_neg (by simp [hd, hn, hp, hc]), journalSlot_local hd hn hl]
  simp only [hw, slotAt_numbered hp]
  exact if_pos hl

theorem acceptable_numbered {ix : Nat} {p : Pkg} (h : Acceptable ix p) : Acceptable ix (numbered ix p) := by
  unfold Acceptable
  rw [slotAt_numbered h.1]
  exact h

/-- What was accepted after the numbering is what stood in the slot before it. -/
theorem AcceptedAs.of_numbered {ix id : Nat} {p m : Pkg} (hp : (slotAt p ix).state = .pending) (h : AcceptedAs ix id (numbered ix p) m) :
    AcceptedAs ix id p m := by
  have hs := slotAt_numbered hp
  have hi : slotItem ix id (numbered ix p) = slotItem ix id p := by
    unfold slotItem
    rw [hs]
    rfl
  have hw : waitsForImage ix (numbered ix p) = waitsForImage ix p := by
    unfold waitsForImage
    rw [hs]
    rfl
  have hr : workResult (numbered ix p) id (slotAt (numbered ix p) ix) = workResult p id (slotAt p ix) := by
    rw [hs]
    rfl
  obtain ⟨h1, h2, h3, h4⟩ := h
  rw [hi] at h1
  rw [hw, hr] at h2
  rw [hw] at h3
  exact ⟨h1, h2, h3, h4⟩

/-- A checked command, while the active die drives and MRAM writes are allowed. -/
structure Awaiting (ix : Nat) (p : Pkg) : Prop where
  drives : drives p = true
  writes : p.mtr.nvBlock = false
  checked : (slotAt p ix).checked = true
  acceptable : Acceptable ix p

/-- A journaled command that may be accepted is: WORK_ACCEPTED leaves the counter of work ids. -/
theorem runs_accepted_journaled {s : State} {ep : Fin 3} {i : Fin 64} {id : Nat} (h : Awaiting (slotIx ep i) s.m)
    (hw : (slotAt s.m (slotIx ep i)).work = some id) (ha : mayAccept s.m id 1 = true) :
    Runs (.workAccepted (.slot ep i)) s fun m => AcceptedAs (slotIx ep i) id s.m m ∧ m.mbx.workCtr = s.m.mbx.workCtr := by
  have hf := acceptSlot_journaled h.drives h.writes h.acceptable.1 h.checked hw
  obtain ⟨hm, hc⟩ := takeSlot_accepted h.acceptable ha
  exact ⟨_, run1_to hf (by rw [hm.frame]), hm, hc⟩

theorem exec_workAccepted_waits {s : State} {ep : Fin 3} {i : Fin 64} {id : Nat} (h : Awaiting (slotIx ep i) s.m)
    (hw : (slotAt s.m (slotIx ep i)).work = some id) (ha : mayAccept s.m id 1 = false) :
    exec (.workAccepted (.slot ep i)) s = .next s :=
  run1_same ((acceptSlot_journaled h.drives h.writes h.acceptable.1 h.checked hw).trans (takeSlot_waits h.acceptable ha))

theorem runs_accepted_local {s : State} {ep : Fin 3} {i : Fin 64} (h : Awaiting (slotIx ep i) s.m)
    (hw : (slotAt s.m (slotIx ep i)).work = none) (hl : acceptsLocal s.m = true) :
    Runs (.workAccepted (.slot ep i)) s fun m =>
      AcceptedAs (slotIx ep i) (nextWork s.m) s.m m ∧ m.mbx.workCtr = (s.m.mbx.workCtr + 1) % 2 ^ 48 := by
  have hf := acceptSlot_local h.drives h.writes h.acceptable.1 h.checked hw hl
  have ha : mayAccept (numbered (slotIx ep i) s.m) (nextWork s.m) 1 = true := Bool.or_eq_true_iff.2 (.inl hl)
  obtain ⟨hm, hc⟩ := takeSlot_accepted (acceptable_numbered h.acceptable) ha
  have hm := hm.of_numbered h.acceptable.1
  exact ⟨_, run1_to hf (by rw [hm.frame]), hm, hc⟩

theorem exec_workAccepted_journals {s : State} {ep : Fin 3} {i : Fin 64} (h : Awaiting (slotIx ep i) s.m)
    (hw : (slotAt s.m (slotIx ep i)).work = none) (hl : acceptsLocal s.m = false) :
    exec (.workAccepted (.slot ep i)) s = .next { s with m := journalSlot (slotIx ep i) s.m } :=
  run1_to (acceptSlot_unjournaled h.drives h.writes h.acceptable.1 h.checked hw hl) (by rw [journalSlot_keeps])

/-! ### WORK_ACCEPTED of a DLMS SET or ACTION (10 R347) -/

theorem acceptDlms_journaled {a id : Nat} {d : DlmsPend} {p : Pkg} (hd : drives p = true) (hn : p.mtr.nvBlock = false)
    (hf : p.bil.dlmsPend.find? (fun d => d.id == a) = some d) (hw : d.work = some id) : acceptDlms a p = takeDlms d id p := by
  unfold acceptDlms
  rw [hf]
  simp only
  rw [if_neg (by simp [hd, hn])]
  simp only [hw]

/-- The item of a DLMS request. -/
def dlmsItem (id : Nat) (d : DlmsPend) (p : Pkg) : WorkItem :=
  { id := id, origin := .dlms d.id, opcode := 0, accTime := p.tim.now, local_ := acceptsLocal p }

/-- The package with a DLMS request accepted and answered. -/
def dlmsAnswered (id : Nat) (d : DlmsPend) (p : Pkg) : Pkg :=
  dlmsSend d.id (workApdu d.isSet true d.inv)
    { p with bil := { p.bil with dlmsPend := p.bil.dlmsPend.erase d, dlmsAcc := p.bil.dlmsAcc ++ [(id, d)] } }

theorem takeDlms_accepts {id : Nat} {d : DlmsPend} {p : Pkg} (ha : mayAccept p id 1 = true) : takeDlms d id p =
    { p with mbx := { p.mbx with work := p.mbx.work ++ [dlmsItem id d p] }, bil := (dlmsAnswered id d p).bil
             dfn := (takeDlms d id p).dfn } := by
  unfold takeDlms
  simp only
  rw [if_neg (by simp [ha]), acceptRec_keeps, dlmsSend_keeps]
  rfl

theorem takeDlms_waits {id : Nat} {d : DlmsPend} {p : Pkg} (ha : mayAccept p id 1 = false) : takeDlms d id p = p :=
  if_pos (by simp [ha])

end Sys2Proof.Machine

open Sys2Proof Sys2Proof.Machine

/-- Settles O17: by what the command in a slot comes to, journaled before or now, and a DLMS request. -/
theorem acceptanceGivesWorkAnIdAndAFinalResult : Obligations.AcceptanceGivesWorkAnIdAndAFinalResult := by
  intro s hd hn new
  refine ⟨?_, fun a d hf => ⟨fun id hw ha => ?_, fun id hw ha => ?_⟩⟩
  · intro ep i ix x post hp hc hs ho
    have h : Awaiting ix s.m := ⟨hd, hn, hc, hp, hs, ho⟩
    have hpost : ∀ id m, AcceptedAs ix id s.m m → post id m := fun id m h =>
      ⟨h.work, fun hx => h.final (waitsForImage_false.2 hx), fun ho hx => h.waits (waitsForImage_true.2 ⟨ho, hx⟩), h.frame⟩
    refine ⟨fun id hw ha => ?_, fun id hw ha => exec_workAccepted_waits h hw ha, fun hw hl => ?_,
      fun hw hl => exec_workAccepted_journals h hw hl⟩
    · obtain ⟨m, hm, h1, h2⟩ := runs_accepted_journaled h hw ha
      exact ⟨m, hm, hpost id m h1, h2⟩
    · obtain ⟨m, hm, h1, h2⟩ := runs_accepted_local h hw hl
      exact ⟨m, hm, hpost new m h1, h2⟩
  · have he := takeDlms_accepts (d := d) ha
    refine ⟨_, run1_to (acceptDlms_journaled hd hn hf hw) (by rw [he]), ?_, ?_, ?_⟩
    · rw [he]; rfl
    · rw [he]; rfl
    · rw [he]
  · exact run1_same ((acceptDlms_journaled hd hn hf hw).trans (takeDlms_waits ha))
end

section
/-!
The fast cycle of a switching cluster: its limits, its reference and droop watch, the end of its ramp and its load step (O29).
-/

namespace Sys2Proof.Machine

/-! ### The cycle (04 R138, R139, 11 R356) -/

theorem fastCycle_same {n : Nat} {p : Pkg} (f : FastIn) (h : cycleDue p n = false) : fastCycle n f p = p :=
  if_pos (by simp [h])

/-- A cycle in time counts no overrun (04 R139). -/
theorem fastCycle_inTime {n : Nat} {f : FastIn} {p : Pkg} (hc : cycleDue p n = true) (ho : f.overrun = false) : fastCycle n f p =
    countMirror (reachCluster n (runCluster n f (moveCluster n (limits n (clusterTime n (measure n f p)))))) := by
  have hn : ∀ q, noteOverrun n f q = q := fun q => if_neg (by simp [ho])
  refine (if_neg (by simp [hc])).trans ?_
  simp only [hn]

/-- A cycle in time, one that is not due, or one of no active die is no fault of a die. -/
theorem fastStep_inTime {n : Nat} {f : FastIn} {p : Pkg} (h : cycleDue p n = false ∨ f.overrun = false ∨
    activeDie (fastCycle n f p) = none) : fastStep n f p = fastCycle n f p := by
  unfold fastStep
  cases hd : activeDie (fastCycle n f p) with
  | none => simp only [hd]
  | some d =>
    simp only [hd]
    exact if_neg fun ⟨ho, hc⟩ => by simp [ho, hc, hd] at h

theorem fastStep_overrun {n : Nat} {f : FastIn} {p : Pkg} {d : Die} (hc : cycleDue p n = true) (ho : f.overrun = true)
    (hd : activeDie (fastCycle n f p) = some d) : fastStep n f p = dieFault .self 0xF d (fastCycle n f p) := by
  unfold fastStep
  simp only [hd]
  exact if_pos ⟨ho, hc⟩

/-! ### Limits (04 R138, R155) -/

theorem limits_breach {n k : Nat} {p : Pkg} (h : breach (dropLatched n p) n = some k) :
    limits n p = clusterFault n k (dropLatched n p) := by
  unfold limits
  simp only [h]

theorem limits_kept {n : Nat} {p : Pkg} (h : breach (dropLatched n p) n = none) : limits n p = tooFew n (dropLatched n p) := by
  unfold limits
  simp only [h]

/-! ### Reference and droop (04 R145, R146) -/

theorem stepRef_moves {n : Nat} {p : Pkg} (h : (clAt p n).run.st = .ramp ∨ (clAt p n).run.st = .match_ ∨
    (clAt p n).run.st = .regulate) : stepRef n p =
      let step : Int := (min (clAt p n).rw.rate (clAt p n).run.cmdRate * fastTicks (clAt p n).cfg * 625 : Nat)
      updRun n (fun r => { r with ref := clampI (r.ref - step) (r.ref + step) (effTarget p n) }) p :=
  if_neg (by rintro ⟨h1, h2, h3⟩; simp [h1, h2, h3] at h)

theorem stepRef_same {n : Nat} {p : Pkg} (h : (clAt p n).run.st ≠ .ramp ∧ (clAt p n).run.st ≠ .match_ ∧
    (clAt p n).run.st ≠ .regulate) : stepRef n p = p := if_pos h

theorem droopWatch_over {n : Nat} {p : Pkg} (hw : (clAt p n).run.watch = true) (hs : (clAt p n).run.st = .regulate)
    (ht : (clAt p n).run.ticks > 10 * ticksMs) : droopWatch n p = updRun n (fun r => { r with watch := false }) p :=
  (if_neg (by simp [hw])).trans (if_pos ⟨hs, ht⟩)

/-- How far the output has fallen below the first samples of the start, in 10⁻⁴ (04 R145). -/
def droopFall (p : Pkg) (n : Nat) : Nat :=
  (rdiv ((sumI (clAt p n).run.meas - (clAt p n).dyn.vout * 8) * 10000) (sumI (clAt p n).run.meas).toNat).toNat

theorem droopWatch_fault {n : Nat} {p : Pkg} (hw : (clAt p n).run.watch = true) (hs : (clAt p n).run.st ≠ .regulate)
    (hv : (clAt p n).dyn.vout * 8 * 1000 < sumI (clAt p n).run.meas * 996) : droopWatch n p =
      clusterFault n 1 (clEvt n (fun e => { e with preFail := true }) (updRun n (fun r => { r with droop := max r.droop (droopFall p n) }) p)) :=
  (if_neg (by simp [hw])).trans ((if_neg fun h => hs h.1).trans (if_pos hv))

/-! ### The end of the ramp (04 R142) -/

theorem rampReached_match {n : Nat} {p : Pkg} (hs : (clAt p n).run.st = .ramp) (hr : (clAt p n).run.ref = effTarget p n)
    (ht : (clAt p n).cfg.type = .dcdc) (hi : (clAt p n).run.isoOn = false) (hf : fnPorts p n .isolator ≠ []) :
    rampReached n p = goSt n .match_ p :=
  (if_pos ⟨hs, hr⟩).trans (if_pos ⟨ht, by simp [hi], by simp [hf]⟩)

theorem rampReached_regulate {n : Nat} {p : Pkg} (hs : (clAt p n).run.st = .ramp) (hr : (clAt p n).run.ref = effTarget p n)
    (h : (clAt p n).cfg.type ≠ .dcdc ∨ (clAt p n).run.isoOn = true ∨ fnPorts p n .isolator = []) :
    rampReached n p = toRegulate n p := by
  refine (if_pos ⟨hs, hr⟩).trans (if_neg ?_)
  rintro ⟨ht, hi, hf⟩
  rcases h with h | h | h
  · exact h ht
  · simp [h] at hi
  · simp [h] at hf

/-! ### The load step (04 R149, R153, R154) -/

/-- A rise of the load by more than a fifth of the rating returns the one phase that is shed and freezes the cluster. -/
theorem loadStep_returns {n : Nat} {write : Bool} {l : List Nat} {p : Pkg} {a : Int} {ls : List Int}
    (hb : (availPhases p n).filter (fun l => phaseSt p l == .shed || phaseSt p l == .shedding) = [l])
    (hs : (clAt p n).run.st = .regulate) (hl : (clAt p n).dyn.loads = a :: ls)
    (hr : ((clAt p n).dyn.load - ls.foldl min a) * 5 > (rating p n : Int) * 100) : loadStep n write p =
      updDyn n (fun d => { d with loads := cap 64 (d.load :: d.loads) }) (updDyn n (fun d =>
        { d with frozen := true, holdEnd := some (p.clk + (clAt p n).rw.hold * 1000000)
                 evt := { d.evt with loadstep := true, shedStep := true } }) (startReturn n (clAt p n).dyn.sAt write l p)) := by
  unfold loadStep
  simp only [hb, hl, hs]
  rw [if_pos (by simpa using hr)]
  rfl

end Sys2Proof.Machine

open Sys2Proof Sys2Proof.Machine

/-- Settles O29: by what the row does with a cycle that is due or not, and what each part of the cycle comes to. -/
theorem fastCyclesRegulateAClusterAndCheckItsLimits : Obligations.FastCyclesRegulateAClusterAndCheckItsLimits := by
  intro s
  exact ⟨fun c f hc => run1_same ((fastStep_inTime (.inl hc)).trans (fastCycle_same f hc)),
    fun c f _ h => does_of (fastStep_inTime (.inr h)), fun c f d hc ho hd => does_of (fastStep_overrun hc ho hd),
    fun n f p hc ho => fastCycle_inTime hc ho, fun n k p h => limits_breach h, fun n p h => limits_kept h,
    fun n p h => stepRef_moves h, fun n p h => stepRef_same h, fun n p hw hs ht => droopWatch_over hw hs ht,
    fun n p hw hs hv => droopWatch_fault hw hs hv, fun n p hs hr ht hi hf => rampReached_match hs hr ht hi hf,
    fun n p hs hr h => rampReached_regulate hs hr h, fun n write l p a ls hb hs hl hr => loadStep_returns hb hs hl hr⟩
end

section
/-!
Phases that are shed and return, the end of the freeze and of the reverse block, and the carrier of a switching port (O31).
-/

namespace Sys2Proof.Machine

/-! ### Shedding and returning (04 R151, R152) -/

theorem shedDone_complete {p : Pkg} {q n : Nat} {l : List Nat} (hp : phaseOf p q = some (n, l)) (hs : (ptAt p q).run.st = .shedding)
    (h : (∀ k ∈ l, (ptAt p k).run.lowI = true) ∨ (ptAt p q).run.periods ≥ 32) : shedDone q p =
      updPhase l (fun r => { r with st := .shed, enPend := some false, trim := 0, trimSat := false }) p := by
  unfold shedDone
  simp only [hp]
  exact if_pos ⟨hs, by simpa using h⟩

theorem shedDone_same {p : Pkg} {q : Nat} (h : phaseOf p q = none ∨ (ptAt p q).run.st ≠ .shedding) : shedDone q p = p := by
  unfold shedDone
  cases hp : phaseOf p q with
  | none => rfl
  | some x => exact if_neg fun hc => h.elim (by simp [hp]) (· hc.1)

theorem returnDone_complete {p : Pkg} {q n : Nat} {l : List Nat} (hp : phaseOf p q = some (n, l))
    (hs : (ptAt p q).run.st = .returning) (hn : (ptAt p q).run.periods ≥ 4) :
    returnDone q p = updPhase l (fun r => { r with st := .active }) p := by
  unfold returnDone
  simp only [hp]
  exact if_pos ⟨hs, hn⟩

theorem returnDone_same {p : Pkg} {q : Nat} (h : phaseOf p q = none ∨ (ptAt p q).run.st ≠ .returning ∨ (ptAt p q).run.periods < 4) :
    returnDone q p = p := by
  unfold returnDone
  cases hp : phaseOf p q with
  | none => rfl
  | some x =>
    refine if_neg ?_
    rintro ⟨hs, hn⟩
    rcases h with h | h | h
    · simp [hp] at h
    · exact h hs
    · omega

/-! ### The freeze and the reverse block (04 R144, R154) -/

theorem freezeEnd_eq (n : Nat) (p : Pkg) : freezeEnd n p = updDyn n (fun d =>
    if d.frozen = true ∧ dueO p d.holdEnd = true then { d with frozen := false, holdEnd := none, dwellN := 0 } else d) p := rfl

theorem reverseEnd_eq (n : Nat) (p : Pkg) : reverseEnd n p = updRun n (fun r =>
    if r.revStart = true ∧ ((r.ref - r.refStart).natAbs * 100 ≥ r.vpre * 80000000 ∨ r.enTicks ≥ 20 * ticksMs) then
      { r with revStart := false } else r) p := rfl

/-! ### Carriers (04 R125, R130, R136, R137, R138) -/

/-- The port's carrier runs: it switches, its cluster is used and the PWM engine has not stopped (04 R124, 20 R606). -/
structure Carried (q n : Nat) (p : Pkg) : Prop where
  cluster : clusterOf p q = some n
  switching : (ptAt p q).cfg.use_ = .switching
  used : (clAt p n).cfg.type ≠ .unused
  supplied : p.sup.warn = false

theorem carrierStart_noCluster {q : Nat} {p : Pkg} (mid : Bool) (t : Nat) (raw : Option Int) (h : clusterOf p q = none) :
    carrierStart q mid t raw p = p := by
  unfold carrierStart
  simp only [h]

theorem carrierStart_same {q n : Nat} {p : Pkg} (mid : Bool) (t : Nat) (raw : Option Int) (hc : clusterOf p q = some n)
    (h : (ptAt p q).cfg.use_ ≠ .switching ∨ (clAt p n).cfg.type = .unused ∨ p.sup.warn = true) : carrierStart q mid t raw p = p := by
  unfold carrierStart
  simp only [hc]
  exact if_pos h

/-- The shadow duty is younger than 1,200 ns (04 R125, R138). -/
def dutyLate (t : Nat) (r : PortRun) : Bool := decide (t < r.shadowAt + settleTicks)

/-- The ENABLE change that waits is due: an end at once, a begin once it is 1,200 ns old (04 R143, R155). -/
def enableNow (t : Nat) (r : PortRun) : Bool := r.enPend == some false || (r.enPend == some true && decide (t ≥ r.enAt + settleTicks))

/-- The period counts: it is not the one in which the port is enabled or still waits for it (04 R151, R152). -/
def periodCounts (t : Nat) (r : PortRun) : Bool :=
  !(enableNow t r && r.enPend == some true) && !(r.st == .returning && r.enPend.isSome)

theorem updatePoint_eq (t : Nat) (r : PortRun) : updatePoint t r =
    { r with inForce := if dutyLate t r = true then r.inForce else r.shadow.orElse (fun _ => r.inForce)
             shadow := if dutyLate t r = true then r.shadow else none } := by
  unfold updatePoint
  by_cases h : t < r.shadowAt + settleTicks
  · have hl : dutyLate t r = true := decide_eq_true h
    simp only [if_pos h, hl, if_true]
  · have hl : dutyLate t r = false := decide_eq_false h
    simp only [if_neg h, hl, Bool.false_eq_true, if_false]
    cases r.shadow <;> rfl

/-- A port at the start of its carrier's period, its phase available or not: its duty and ENABLE in force, its period counted and
corrected by at most a limit (04 R125, R130, R144, R151, R152). -/
def startedPort (ok : Bool) (lim : Int) (t : Nat) (r : PortRun) : PortRun :=
  { r with
    inForce := if dutyLate t r = true then r.inForce else r.shadow.orElse (fun _ => r.inForce)
    shadow := if dutyLate t r = true then r.shadow else none
    en := if enableNow t r = true then r.enPend == some true && ok else if r.revOff = true then ok && r.st != .shed else r.en
    enPend := if enableNow t r = true then none else r.enPend
    revOff := false
    revLeft := if periodCounts t r = true then r.revLeft - 1 else r.revLeft
    periods := if (periodCounts t r && (r.st == .shedding || r.st == .returning)) = true then min (r.periods + 1) 63 else r.periods
    shift := r.shift - clampI (-lim) lim r.shift }

theorem periodStart_updatePoint (ok : Bool) (lim : Int) (t : Nat) (r : PortRun) :
    periodStart ok lim t (updatePoint t r) = startedPort ok lim t r := by
  rw [updatePoint_eq]
  unfold periodStart startedPort periodCounts enableNow
  generalize r.enPend = e
  match e with
  | none => rfl
  | some false => rfl
  | some true => rfl

/-- A port at the mid-point of its carrier's period: a centred carrier takes its duty there too (04 R125). -/
def midPort (centred : Bool) (t : Nat) (r : PortRun) : PortRun :=
  if centred = true ∧ dutyLate t r = false then { r with inForce := r.shadow.orElse (fun _ => r.inForce), shadow := none } else r

theorem updatePoint_midPort (centred : Bool) (t : Nat) (r : PortRun) :
    (if (!centred) = true then r else updatePoint t r) = midPort centred t r := by
  rw [updatePoint_eq]
  unfold midPort
  cases centred <;> cases dutyLate t r <;> rfl

theorem carrierStart_start {q n : Nat} {p : Pkg} (t : Nat) (raw : Option Int) (h : Carried q n p) : carrierStart q false t raw p =
    let p1 := updPt q (startedPort (phaseAvail p q) ((clAt p n).cfg.period / 512 : Nat) t) (samplePhase q raw p)
    linesAt q 0 (lockCheck n (if (swPorts p n).head? = some q then updCl n (fun c => { c with dyn := fastPoint false c }) p1 else p1)) := by
  rw [← funext (periodStart_updatePoint _ _ t)]
  unfold carrierStart
  simp only [h.cluster]
  exact if_neg (by simp [h.switching, h.used, h.supplied])

theorem carrierStart_mid {q n : Nat} {p : Pkg} (t : Nat) (raw : Option Int) (h : Carried q n p) : carrierStart q true t raw p =
    let p1 := updPt q (midPort (clAt p n).cfg.centred t) (if (clAt p n).cfg.fcDiv = 0 then samplePhase q raw p else p)
    linesAt q ((clAt p n).cfg.period / 2)
      (lockCheck n (if (swPorts p n).head? = some q then updCl n (fun c => { c with dyn := fastPoint true c }) p1 else p1)) := by
  have hs : (if (clAt p n).cfg.fcDiv = 0 then samplePhase q raw p else p) =
      if (true && (clAt p n).cfg.fcDiv != 0) = true then p else samplePhase q raw p := by
    cases (clAt p n).cfg.fcDiv <;> rfl
  rw [← funext (updatePoint_midPort _ t), hs]
  unfold carrierStart
  simp only [h.cluster]
  exact if_neg (by simp [h.switching, h.used, h.supplied])

end Sys2Proof.Machine

open Sys2Proof Sys2Proof.Machine

/-- Settles O31: by what each row of a phase comes to, and by the change a carrier's start or mid-point makes to its port. -/
theorem phasesShedReturnAndFollowTheCarrier : Obligations.PhasesShedReturnAndFollowTheCarrier := by
  intro s
  exact ⟨fun q n l hp hs h => does_of (shedDone_complete hp hs h), fun q h => run1_same (shedDone_same h),
    fun q n l hp hs hn => does_of (returnDone_complete hp hs hn), fun q h => run1_same (returnDone_same h),
    fun n => does_of (freezeEnd_eq n.val s.m), fun n => does_of (reverseEnd_eq n.val s.m),
    fun q mid t raw h => run1_same (carrierStart_noCluster mid t raw h), fun q n t raw hc =>
      ⟨fun mid h => run1_same (carrierStart_same mid t raw hc h), fun hu ht hw =>
        ⟨does_of (carrierStart_start t raw ⟨hc, hu, ht, hw⟩), does_of (carrierStart_mid t raw ⟨hc, hu, ht, hw⟩)⟩⟩⟩
end

section
/-!
SYNC_IN edges and OFFSET of a cluster, captures, and the repetitive control of a lane (O33).
-/

namespace Sys2Proof.Machine

/-! ### SYNC_IN (04 R131) -/

/-- A cluster follows edges: SYNC_IN is configured, the cluster is used and a Stitch die is active. -/
structure Follows (n : Nat) (p : Pkg) : Prop where
  syncIn : (clAt p n).cfg.syncIn = true
  used : (clAt p n).cfg.type ≠ .unused
  awake : awake p = true

/-- The package with an edge from which the count starts afresh. -/
def edgeFresh (n t : Nat) (p : Pkg) : Pkg := updDyn n (fun x => { x with lastEdge := some t, edges := 1 }) p

/-- The package with an accepted edge counted. -/
def edgeTaken (n t : Nat) (p : Pkg) : Pkg := updDyn n (fun x => { x with lastEdge := some t, edges := min (x.edges + 1) 8 }) p

theorem syncEdge_same {n : Nat} {p : Pkg} (t : Nat) (h : (clAt p n).cfg.syncIn = false ∨ (clAt p n).cfg.type = .unused ∨
    awake p = false) : syncEdge n t p = p := if_pos (by simpa using h)

theorem syncEdge_first {n : Nat} {p : Pkg} (t : Nat) (h : Follows n p) (hl : (clAt p n).dyn.lastEdge = none) :
    syncEdge n t p = edgeFresh n t p := by
  unfold syncEdge
  simp only [hl]
  exact if_neg (by simp [h.syncIn, h.used, h.awake])

/-- An edge is within 2 % of the period after an earlier one. -/
def inTolerance (per t0 t : Nat) : Prop := t ≥ t0 ∧ (t - t0) * 100 ≥ per * 98 ∧ (t - t0) * 100 ≤ per * 102

theorem syncEdge_outside {n t0 t : Nat} {p : Pkg} (h : Follows n p) (hl : (clAt p n).dyn.lastEdge = some t0)
    (hw : ¬inTolerance ((clAt p n).cfg.period * (clAt p n).cfg.syncMul) t0 t) :
    syncEdge n t p = if (clAt p n).dyn.srcSync = true then p else edgeFresh n t p := by
  unfold syncEdge
  simp only [hl]
  exact (if_neg (by simp [h.syncIn, h.used, h.awake])).trans (if_neg hw)

theorem syncEdge_accepted {n t0 t : Nat} {p : Pkg} (h : Follows n p) (hl : (clAt p n).dyn.lastEdge = some t0)
    (hw : inTolerance ((clAt p n).cfg.period * (clAt p n).cfg.syncMul) t0 t) : syncEdge n t p =
      let p1 := edgeTaken n t p
      if (clAt p n).dyn.srcSync = true then shiftCluster n ((t : Int) - t0) p1
      else if (clAt p1 n).dyn.edges ≥ 8 then changeSource n true t p1 else p1 := by
  unfold syncEdge
  simp only [hl]
  exact (if_neg (by simp [h.syncIn, h.used, h.awake])).trans (if_pos hw)

/-- The package with no edge counted. -/
def edgesLost (n : Nat) (p : Pkg) : Pkg := updDyn n (fun x => { x with edges := 0, lastEdge := none }) p

theorem syncMissing_same {n : Nat} {p : Pkg} (h : (clAt p n).cfg.syncIn = false) : syncMissing n p = p := if_pos (by simp [h])

theorem syncMissing_time {n : Nat} {p : Pkg} (h : (clAt p n).cfg.syncIn = true) (hs : (clAt p n).dyn.srcSync = false) :
    syncMissing n p = edgesLost n p := (if_neg (by simp [h])).trans (if_neg (by simp [hs]))

theorem syncMissing_fallback {n : Nat} {p : Pkg} (h : (clAt p n).cfg.syncIn = true) (hs : (clAt p n).dyn.srcSync = true) :
    syncMissing n p = changeSource n false ((clAt p n).dyn.lastEdge.getD 0)
      (clEvt n (fun e => { e with syncFb := true }) (edgesLost n p)) := (if_neg (by simp [h])).trans (if_pos hs)

/-! ### OFFSET (04 R132, 05 R188) -/

theorem offsetWrite_waits {n v m : Nat} {p : Pkg} (hu : (clAt p n).cfg.type ≠ .unused)
    (ho : offsetOk p n (wr v m 9 0 (clAt p n).rw.offset) = true) :
    offsetWrite n v m p = updDyn n (fun d => { d with offPend := some (wr v m 9 0 (clAt p n).rw.offset) }) p := if_pos ⟨hu, ho⟩

theorem offsetWrite_same {n v m : Nat} {p : Pkg} (h : (clAt p n).cfg.type = .unused ∨
    offsetOk p n (wr v m 9 0 (clAt p n).rw.offset) = false) : offsetWrite n v m p = p :=
  if_neg fun ⟨hu, ho⟩ => h.elim hu (ne_false_of_eq_true ho)

theorem offsetTake_pending {n new : Nat} {p : Pkg} (h : (clAt p n).dyn.offPend = some new) : offsetTake n p =
    let p1 := updDyn n (fun d => { d with offPend := none }) p
    if offsetOk p n new = true then setOffset n new p1 else p1 := by
  unfold offsetTake
  simp only [h]

/-! ### Repetitive control (05 R180 to R182) -/

/-- A lane with repetitive control: used, FAST, and without a clear that waits; its N is valid. -/
structure Learner (l : Nat) (p : Pkg) : Prop where
  used : (laneAt p l).cfg.used = true
  rc : (laneAt p l).cfg.rc = true
  fast : (laneAt p l).cfg.slow = false
  kept : (laneAt p l).rc.clear = false
  valid : nValid (rcmOf p (laneAt p l)).n = true

/-- A change of an element, by what it comes to. -/
theorem upd_eq_const {α : Type} (l : List α) (n : Nat) (f : α → α) (d : α) : upd l n f = upd l n (fun _ => f (l.getD n d)) := by
  refine List.ext_getElem? fun k => ?_
  rw [upd_getElem?, upd_getElem?]
  by_cases hk : k = n
  · subst hk
    rw [if_pos rfl, if_pos rfl, List.getD_eq_getElem?_getD]
    cases l[k]? <;> rfl
  · rw [if_neg hk, if_neg hk]

theorem upd_id {α : Type} (l : List α) (n : Nat) : upd l n id = l := by
  refine List.ext_getElem? fun k => ?_
  rw [upd_getElem?, Option.map_id, id, ite_self]

/-- A change of a lane's learning memory, by what the memory comes to. -/
theorem updRcm_slot (x : Lane) (f : RcMem → RcMem) (p : Pkg) :
    updRcm x.cfg.slot f p = updRcm x.cfg.slot (fun _ => f (rcmOf p x)) p := by
  unfold updRcm rcmOf
  rw [upd_eq_const _ _ f {}]

theorem updRcm_const (k : Nat) (m : RcMem) (f : RcMem → RcMem) (p : Pkg) :
    updRcm k (fun _ => m) (updRcm k f p) = updRcm k (fun _ => m) p := by
  simp only [updRcm, upd_upd, Function.comp_def]

/-- A learning memory that is changed or not. -/
theorem updRcm_ite (x : Lane) (c : Bool) (f : RcMem → RcMem) (p : Pkg) : (if c = true then updRcm x.cfg.slot f p else p) =
    updRcm x.cfg.slot (fun _ => if c = true then f (rcmOf p x) else rcmOf p x) p := by
  cases c
  · exact (congrArg (fun r => ({ p with ce := { p.ce with rcm := r } } : Pkg)) (upd_id _ _)).symm.trans (updRcm_slot x id p)
  · exact updRcm_slot x f p

theorem rcmOf_updRcm {p : Pkg} {x : Lane} (f : RcMem → RcMem) (h : x.cfg.slot < p.ce.rcm.length) :
    rcmOf (updRcm x.cfg.slot f p) x = f (rcmOf p x) := upd_getD_same _ _ _ _ h

/-- A lane whose N is valid has a learning memory. -/
theorem Learner.slot {l : Nat} {p : Pkg} (h : Learner l p) : (laneAt p l).cfg.slot < p.ce.rcm.length := by
  refine lt_of_not_ge fun hk => ?_
  have hm : rcmOf p (laneAt p l) = {} := List.getD_eq_default _ _ hk
  exact absurd h.valid (by rw [hm]; decide)

/-- A memory at its next index, which stays below N (05 R181). -/
def nextIndex (m : RcMem) : RcMem := { m with index := min (m.index + 1) (m.n - 1) }

/-- A memory whose present entry has learnt a lane's mean error (05 R181). -/
def learnt (x : Lane) (m : RcMem) : RcMem :=
  { m with mem := upd m.mem m.index (fun _ => learnEntry x.rw m (rdiv x.rc.eSum x.rc.eN)) }

/-- A memory with a valid N after a lane's learning step, the lane's cluster regulating or not (05 R181, R182). -/
def stepMem (x : Lane) (regulates : Bool) (m : RcMem) : RcMem :=
  let m1 := if (regulates && x.rc.st == .learn && x.rc.eN != 0) = true then learnt x m else m
  if (x.rc.st != .coast) = true then nextIndex m1 else m1

theorem stepMem_coast {x : Lane} (b : Bool) (m : RcMem) (hs : x.rc.st = .coast) : stepMem x b m = m := by simp [stepMem, hs]

theorem stepMem_off {x : Lane} (b : Bool) (m : RcMem) (hs : x.rc.st = .off) : stepMem x b m = nextIndex m := by simp [stepMem, hs]

theorem stepMem_learn {x : Lane} (m : RcMem) (hs : x.rc.st = .learn) (he : x.rc.eN ≠ 0) :
    stepMem x true m = nextIndex (learnt x m) := by simp [stepMem, hs, he]

/-- The fade of a lane's correction moves: in while the lane learns or holds, else out (05 R182). -/
def rcFade (x : Lane) (k : Nat) : Nat := if (x.rc.st == .learn || x.rc.st == .hold) = true then min (k + 1) 200 else k - 1

theorem rcFade_out {x : Lane} (h : x.rc.st = .coast ∨ x.rc.st = .off) : rcFade x = fun k => k - 1 := by
  funext k
  rcases h with h | h <;> simp [rcFade, h]

theorem rcFade_in {x : Lane} (h : x.rc.st = .learn) : rcFade x = fun k => min (k + 1) 200 := by
  funext k
  simp [rcFade, h]

/-- A lane that takes the next correction from a memory, with its sums cleared and its fade moved (05 R181, R182). -/
def takeCorr (x : Lane) (m : RcMem) (fade : Nat → Nat) (y : Lane) : Lane :=
  { y with rc := { y.rc with clear := false, eSum := 0, eN := 0, c := m.mem.getD ((m.index + x.rw.lead) % m.n) 0
                             fade := fade y.rc.fade } }

theorem rcStep_same {l : Nat} {p : Pkg} (h : (laneAt p l).cfg.used = false ∨ (laneAt p l).cfg.rc = false ∨
    (laneAt p l).cfg.slow = true) : rcStep l p = p := by
  refine if_pos ?_
  rcases h with h | h | h <;> simp [h]

/-- A learning step of a lane with a live slot: its memory steps, and the lane takes the next correction. -/
theorem rcStep_learner {l : Nat} {p : Pkg} (h : Learner l p) : rcStep l p =
    let x := laneAt p l
    let m := stepMem x ((clAt p x.cfg.cluster).run.st == .regulate) (rcmOf p x)
    updLane l (takeCorr x m (rcFade x)) (updRcm x.cfg.slot (fun _ => m) p) := by
  unfold rcStep takeCorr rcFade
  refine (if_neg (by simp [h.used, h.rc, h.fast])).trans ?_
  simp only [h.kept, h.valid, Bool.false_eq_true, if_false, if_true, Bool.and_true, updRcm_ite (laneAt p l), updRcm_const,
    rcmOf_updRcm _ h.slot, apply_ite RcMem.n, ite_self, stepMem, nextIndex, learnt]

theorem rcStep_coast {l : Nat} {p : Pkg} (h : Learner l p) (hs : (laneAt p l).rc.st = .coast) :
    rcStep l p = updLane l (takeCorr (laneAt p l) (rcmOf p (laneAt p l)) (fun k => k - 1)) p := by
  rw [rcStep_learner h]
  simp only [stepMem_coast _ _ hs, rcFade_out (.inl hs)]
  exact congrArg _ (updRcm_ite (laneAt p l) false id p).symm

theorem rcStep_off {l : Nat} {p : Pkg} (h : Learner l p) (hs : (laneAt p l).rc.st = .off) : rcStep l p =
    let m := nextIndex (rcmOf p (laneAt p l))
    updLane l (takeCorr (laneAt p l) m (fun k => k - 1)) (updRcm (laneAt p l).cfg.slot (fun _ => m) p) := by
  rw [rcStep_learner h]
  simp only [stepMem_off _ _ hs, rcFade_out (.inr hs)]

theorem rcStep_learn {l : Nat} {p : Pkg} (h : Learner l p) (hs : (laneAt p l).rc.st = .learn)
    (hr : (clAt p (laneAt p l).cfg.cluster).run.st = .regulate) (he : (laneAt p l).rc.eN ≠ 0) : rcStep l p =
    let m := nextIndex (learnt (laneAt p l) (rcmOf p (laneAt p l)))
    updLane l (takeCorr (laneAt p l) m (fun k => min (k + 1) 200)) (updRcm (laneAt p l).cfg.slot (fun _ => m) p) := by
  rw [rcStep_learner h]
  simp only [hr, beq_self_eq_true, stepMem_learn _ hs he, rcFade_in hs]

theorem rcCoast_lost {l : Nat} {p : Pkg} (hs : (laneAt p l).rc.st = .learn ∨ (laneAt p l).rc.st = .hold)
    (h : (rcPhase p (laneAt p l)).seen = none ∨ nValid (rcmOf p (laneAt p l)).n = false) : rcCoast l p =
      ceEvt (fun v => { v with rcCoast := true }) (updLane l (fun x => { x with rc := { x.rc with st := .coast, good := 0 } }) p) :=
  if_pos ⟨hs, h.imp (fun h => by simp [h]) (fun h => by simp [h])⟩

theorem rcCoast_same {l t : Nat} {p : Pkg} (hp : (rcPhase p (laneAt p l)).seen = some t) (hd : due p (t + 40000000) = false)
    (hv : nValid (rcmOf p (laneAt p l)).n = true) : rcCoast l p = p := if_neg (by simp [hp, hd, hv])

theorem rcResume_same {l : Nat} {p : Pkg} (h : (laneAt p l).rc.st ≠ .coast ∨ (laneAt p l).rc.good < 2 ∨
    ((laneAt p l).rc.req ≠ .learn ∧ (laneAt p l).rc.req ≠ .hold)) : rcResume l p = p := by
  refine if_neg ?_
  rintro ⟨hs, hg, hr⟩
  rcases h with h | h | ⟨h1, h2⟩
  · exact h hs
  · omega
  · exact hr.elim h1 h2

end Sys2Proof.Machine

open Sys2Proof Sys2Proof.Machine

/-- Settles O33: by what each row comes to for an edge, an OFFSET, a capture and a learning lane in each of its states. -/
theorem synchronisationCapturesAndLearningAdvance : Obligations.SynchronisationCapturesAndLearningAdvance := by
  intro s
  refine ⟨fun n t => ⟨fun h => run1_same (syncEdge_same t h),
      fun hi hu ha hl => does_of (syncEdge_first t ⟨hi, hu, ha⟩ hl), fun t0 hi hu ha hl h0 => ?_⟩,
    fun n => ⟨fun h => run1_same (syncMissing_same h), fun h hs => does_of (syncMissing_time h hs),
      fun h hs => does_of (syncMissing_fallback h hs)⟩,
    fun n val mask => ⟨fun hu ho => does_of (offsetWrite_waits hu ho), fun h => run1_same (offsetWrite_same h)⟩,
    fun n new p hp => ⟨fun ho => (offsetTake_pending hp).trans (if_pos ho),
      fun ho => (offsetTake_pending hp).trans (if_neg (ne_true_of_eq_false ho))⟩,
    fun ha ht => does_of (if_pos ⟨ha, ht⟩),
    fun h => run1_same (if_neg fun ⟨ha, ht⟩ => h.elim (· ha) (ne_false_of_eq_true ht)),
    fun data => ⟨fun h => does_of (if_neg (not_not.2 h)), fun h => run1_same (if_pos h)⟩,
    fun l => ⟨fun h => run1_same (rcStep_same h), fun hu hr hf hc hs hv => does_of (rcStep_coast ⟨hu, hr, hf, hc, hv⟩ hs),
      fun hu hr hf hc hs hv _ => does_of (rcStep_off ⟨hu, hr, hf, hc, hv⟩ hs),
      fun hu hr hf hc hs hv hg he _ => does_of (rcStep_learn ⟨hu, hr, hf, hc, hv⟩ hs hg he),
      fun hs h => does_of (rcCoast_lost hs h), fun t hp hd hv => run1_same (rcCoast_same hp hd hv),
      fun hs hg hr => does_of (if_pos ⟨hs, hg, hr⟩), fun h => run1_same (rcResume_same h)⟩⟩
  have hw : Follows n.val s.m := ⟨hi, hu, ha⟩
  refine ⟨fun ho => ?_, fun h1 h2 => ?_⟩
  · have he := syncEdge_outside (t := t) hw hl (by unfold inTolerance; omega)
    exact ⟨fun hs => run1_same (he.trans (if_pos hs)), fun hs => does_of (he.trans (if_neg (ne_true_of_eq_false hs)))⟩
  · have he := syncEdge_accepted hw hl ⟨h0, h1, h2⟩
    exact ⟨fun h8 hs => does_of (he.trans ((if_neg (ne_true_of_eq_false hs)).trans (if_pos h8))),
      fun hs => does_of (he.trans (if_pos hs)),
      fun h8 hs => does_of (he.trans ((if_neg (ne_true_of_eq_false hs)).trans (if_neg (not_le.2 h8))))⟩
end

section
/-!
Purl receivers and frames, acknowledgements, and the register path of a region (O39).
-/

namespace Sys2Proof.Machine

/-! ### Taking frames (06 R195, R199, R200, R203) -/

/-- The package in which a frame is judged: time is at its end, its code violations are counted. -/
def seenFrame (u : Nat) (w : PurlIn) (t : Nat) (p : Pkg) : Pkg := codeViols (w.viols + w.line) u (advance t p)

/-- A frame whose line is heard is whole: the receiver was UP through all of it, its length holds and it has no code violation. -/
def WholeFrame (u : Nat) (w : PurlIn) (p : Pkg) : Prop :=
  let q := codeViols (w.viols + w.line) u p
  purlOn p = true ∧ (ppAt q u).up = true ∧ (ppAt q u).upAt + 2000 ≤ q.clk ∧ w.short = false ∧ w.viols = 0

/-- A whole frame of a TYPE, whose CRC holds. -/
def GoodFrame (ty u : Nat) (w : PurlIn) (p : Pkg) : Prop :=
  WholeFrame u w p ∧ w.bits % 256 = purlCrc w.bits ∧ w.bits / 2 ^ 61 = ty

/-- The package with a valid frame heard on a port. -/
def frameHeard (u : Nat) (p : Pkg) : Pkg := updPp u (fun x => { x with lastOk := p.clk }) p

/-- A port accepts a COMMAND or SESSION frame again: none was accepted yet, or the last one 20 µs ago. -/
def FreeAgain (u : Nat) (p : Pkg) : Prop :=
  (ppAt p u).lastEnd = none ∨ ∃ e, (ppAt p u).lastEnd = some e ∧ e + 20000 ≤ p.clk

/-- The distance of a frame's SEQ ahead of NEWEST, modulo 256. -/
def seqAhead (p : Pkg) (u w : Nat) : Nat := (fSeq w + 256 - (ppAt p u).newest) % 256

section
variable {ty u w t : Nat} {frame : PurlIn} {f : Pkg → Pkg} {p : Pkg}

/-- While the ports are silent a frame is not heard: only time moves (06 R198). -/
theorem takeFrame_silent (h : purlOn (advance t p) = false) : takeFrame ty u frame t f p = advance t p :=
  if_pos (by simp [h])

theorem takeFrame_broken (h : purlOn (advance t p) = true) (hb : let q := seenFrame u frame t p
    (ppAt q u).up = false ∨ q.clk < (ppAt q u).upAt + 2000 ∨ frame.short = true ∨ frame.viols ≠ 0) :
    takeFrame ty u frame t f p = seenFrame u frame t p :=
  (if_neg (by simp [h])).trans (if_pos (by simpa [seenFrame] using hb))

/-- A whole frame is judged by its CRC and its TYPE. -/
theorem takeFrame_whole (h : WholeFrame u frame (advance t p)) : takeFrame ty u frame t f p =
    let q := seenFrame u frame t p
    if frame.bits % 256 ≠ purlCrc frame.bits then crcError u q
    else if frame.bits / 2 ^ 61 < 1 ∨ frame.bits / 2 ^ 61 > 3 then discardFrame u q
    else if frame.bits / 2 ^ 61 ≠ ty then q else f q := by
  obtain ⟨hon, hup, hlong, hlen, hviol⟩ := h
  refine (if_neg (by simp [hon])).trans (if_neg ?_)
  rintro (h | h | h | h)
  · simp [hup] at h
  · omega
  · simp [hlen] at h
  · exact h hviol

theorem takeFrame_good (hr : 1 ≤ ty ∧ ty ≤ 3) (h : GoodFrame ty u frame (advance t p)) :
    takeFrame ty u frame t f p = f (seenFrame u frame t p) := by
  obtain ⟨hw, hc, ht⟩ := h
  exact (takeFrame_whole hw).trans ((if_neg (not_not.2 hc)).trans ((if_neg (by omega)).trans (if_neg (not_not.2 ht))))

/-- What a row that takes a frame does when the frame is no frame for it to take. -/
theorem frame_turned_away {c : Instr} {s : State} (hc : exec c s = run1 (takeFrame ty u frame t f) s) :
    let q := advance t s.m
    let p := seenFrame u frame t s.m
    (purlOn q = false → Does c s q) ∧
    (purlOn q = true → (ppAt p u).up = false ∨ p.clk < (ppAt p u).upAt + 2000 ∨ frame.short = true ∨ frame.viols ≠ 0 → Does c s p) ∧
    (WholeFrame u frame q → frame.bits % 256 ≠ purlCrc frame.bits → Does c s (crcError u p)) ∧
    (WholeFrame u frame q → frame.bits % 256 = purlCrc frame.bits → frame.bits / 2 ^ 61 < 1 ∨ frame.bits / 2 ^ 61 > 3 →
      Does c s (discardFrame u p)) :=
  ⟨fun h => hc.trans (does_of (takeFrame_silent h)), fun h hb => hc.trans (does_of (takeFrame_broken h hb)),
    fun h hx => hc.trans (does_of ((takeFrame_whole h).trans (if_pos hx))),
    fun h hx ht => hc.trans (does_of ((takeFrame_whole h).trans ((if_neg (not_not.2 hx)).trans (if_pos ht))))⟩

theorem spaced_soon (h : ∃ e, (ppAt p u).lastEnd = some e ∧ p.clk < e + 20000) : spaced u f p = discardFrame u (frameHeard u p) := by
  obtain ⟨e, he, hlt⟩ := h
  unfold spaced
  simp only [he, if_pos hlt]
  rfl

theorem spaced_free (h : FreeAgain u p) : spaced u f p = f (frameHeard u p) := by
  unfold spaced
  rcases h with he | ⟨e, he, hle⟩
  · simp only [he]
    rfl
  · simp only [he, if_neg (not_lt.2 hle)]
    rfl

theorem bySeq_repeat (h : isRepeat p u w = true) : bySeq u w f p = repeatAck u (frameTaken u p) := if_pos h

theorem bySeq_newer (h : isRepeat p u w = false ∧ 1 ≤ seqAhead p u w ∧ seqAhead p u w ≤ 127) :
    bySeq u w f p = f (frameTaken u p) := (if_neg (ne_true_of_eq_false h.1)).trans (if_pos h.2)

theorem bySeq_stale (h : isRepeat p u w = false ∧ ¬(1 ≤ seqAhead p u w ∧ seqAhead p u w ≤ 127)) :
    bySeq u w f p = discardFrame u p := (if_neg (ne_true_of_eq_false h.1)).trans (if_neg h.2)

theorem openFrame_repeat (h : isRepeat p u w = true) : openFrame u w p = repeatAck u (frameTaken u p) := if_pos h

theorem openFrame_new (h : isRepeat p u w = false) : openFrame u w p = newOpen u w (frameTaken u p) :=
  if_neg (ne_true_of_eq_false h)

/-! ### What the three transitions of a port are refused for (06 R205, R209) -/

theorem commandCause_none (hd : (dcdcOf p (regionOf u)).isEmpty = false) (hr : rangeOk p (regionOf u) w = true)
    (hb : tb w 60 = false) (ho : (vrAt p (regionOf u)).session = some (.purl u)) (hs : purlSrc p (regionOf u) = true)
    (hm : cmdMode p (regionOf u) = true) : commandCause p u w = 0 := by
  simp [commandCause, hd, hr, hb, ho, hs, hm]

theorem startCheck_none {r target : Nat} {ilim : Option Nat} (hm : startMode p r = true) (hn : (vrAt p r).session = none)
    (hc : (vrAt p r).closing = false) (hf : receiptFree p = true) (hl : wouldLend p r target ilim = true) :
    startCheck p r target ilim = 0 := by
  simp [startCheck, hm, hn, hc, hf, hl]

theorem openCause_none (hd : (dcdcOf p (regionOf u)).isEmpty = false) (hr : rangeOk p (regionOf u) w = true)
    (hs : purlSrc p (regionOf u) = true) (hc : startCheck p (regionOf u) (fTarget w) (some (fIlim w)) = 0) :
    openCause p u w = 0 := by
  simp [openCause, hd, hr, hs, hc]

theorem closeCause_none (hd : (dcdcOf p (regionOf u)).isEmpty = false) (hz : fld w 59 58 = 0)
    (ho : (vrAt p (regionOf u)).session = some (.purl u)) : closeCause p u w = 0 := by
  simp [closeCause, hd, hz, ho]

/-- A row that finds no cause (number 0) against a transition goes on with it. -/
theorem no_cause {n : Nat} {x y : Pkg} (h : n = 0) : (if n ≠ 0 then x else y) = y := if_neg (not_not.2 h)

/-! ### Frames of the three TYPEs that a dispenser sends -/

/-- A good frame that ends 20 µs after the last one goes on to the handling of its TYPE (06 R199). -/
theorem command_frame (h : GoodFrame 1 u frame (advance t p)) (hf : FreeAgain u (seenFrame u frame t p)) :
    takeFrame 1 u frame t (spaced u f) p = f (frameHeard u (seenFrame u frame t p)) :=
  (takeFrame_good (by decide) h).trans (spaced_free hf)

theorem open_frame (h : GoodFrame 3 u frame (advance t p)) (ho : tb frame.bits 60 = true) (hf : FreeAgain u (seenFrame u frame t p)) :
    takeFrame 3 u frame t (fun p => if tb frame.bits 60 then spaced u f p else p) p = f (frameHeard u (seenFrame u frame t p)) :=
  (takeFrame_good (by decide) h).trans ((if_pos ho).trans (spaced_free hf))

theorem close_frame (h : GoodFrame 3 u frame (advance t p)) (ho : tb frame.bits 60 = false) (hf : FreeAgain u (seenFrame u frame t p)) :
    takeFrame 3 u frame t (fun p => if tb frame.bits 60 then p else spaced u f p) p = f (frameHeard u (seenFrame u frame t p)) :=
  (takeFrame_good (by decide) h).trans ((if_neg (ne_true_of_eq_false ho)).trans (spaced_free hf))

end

/-! ### Receivers, the link of a session, and the transmitter (06 R195, R197, R202, R218) -/

section
variable {u r : Nat} {p : Pkg}

theorem receiverUp_off (n : Nat) (h : purlOn p = false) : receiverUp u n p = p := if_neg (ne_true_of_eq_false h)

theorem linkLost_owner {o : Nat} (h : (vrAt p r).session = some (.purl o)) : linkLost r p =
    if due p ((ppAt p o).lastOk + 100000000) then endSession r 0xA (updPp o (fun x => { x with linkLost := true }) p) else p := by
  simp only [linkLost, h]

theorem linkLost_closed (h : (vrAt p r).session = none) : linkLost r p = p := by simp only [linkLost, h]

theorem ackTransmit_mute (h : purlOn p = false ∨ drives p = false) : ackTransmit u p = p :=
  if_pos (by simpa [purlDrives, or_iff_not_imp_left] using h)

theorem purlDrives_on (hon : purlOn p = true) (hd : drives p = true) : purlDrives p = true := by simp [purlDrives, hon, hd]

theorem ackTransmit_idle (hl : purlDrives p = true) (hq : (ppAt p u).queue = []) (hs : (ppAt p u).status = none) :
    ackTransmit u p = updPp u (fun x => { x with sending := none }) p := by
  simp [ackTransmit, hl, hq, hs]

theorem ackTransmit_status {w : Nat} (hl : purlDrives p = true) (hq : (ppAt p u).queue = []) (hs : (ppAt p u).status = some w) :
    ackTransmit u p = updPp u (fun x => { x with sending := none, status := none, tx := w :: x.tx }) p := by
  simp [ackTransmit, hl, hq, hs]

theorem ackTransmit_ack {a : Ack} {l : List Ack} (hl : purlDrives p = true) (hq : (ppAt p u).queue = a :: l) :
    ackTransmit u p = updPp u (fun x => { x with queue := l, sending := some a, tx := ackFrame p a :: x.tx }) p := by
  simp [ackTransmit, hl, hq]

/-! ### The register path (06 R213 to R216) -/

theorem sessionWrite_noSrc (on : Bool) (h : regSrc p r = false) : sessionWrite r on p = p := if_pos (by simp [h])

theorem sessionWrite_open (h : regSrc p r = true) (hn : (vrAt p r).session = none) : sessionWrite r true p = regOpen r p :=
  (if_neg (by simp [h])).trans (if_pos (by simp [hn]))

theorem sessionWrite_close (h : regSrc p r = true) (ho : (vrAt p r).session.isSome = true) :
    sessionWrite r false p = endSession r 8 p :=
  (if_neg (by simp [h])).trans ((if_neg (by simp)).trans (if_pos (by simp [ho])))

theorem regOpen_starts (hd : (dcdcOf p r).isEmpty = false) (ht : (vrAt p r).target ≤ vLow p r)
    (hc : startCheck p r (vrAt p r).target none = 0) : regOpen r p =
      updVr r (fun v => { v with regNew := true }) (startSession r .register (vrAt p r).target none (vrAt p r).slew 0 0 [] p) :=
  no_cause (by simp [hd, not_lt.2 ht, hc])

theorem targetWrite_refused {val : Nat} (h : regSrc p r = false ∨ val > vLow p r) : targetWrite r val p = p :=
  if_pos (h.imp_left (by simp [·]))

/-- The package with a target of the register path stored. -/
def targetStored (r val : Nat) (p : Pkg) : Pkg :=
  updVr r (fun v => { v with target := val, writes := (v.writes + 1) % 256, reached := false }) p

theorem targetWrite_stored {val : Nat} (h : regSrc p r = true) (hv : val ≤ vLow p r) : targetWrite r val p =
    let q := targetStored r val p
    if (vrAt q r).session.isSome then regTarget r q else if (vrAt q r).autoOpen then regOpen r q else q :=
  if_neg (by simp [h, hv])

theorem targetWrite_commands {val : Nat} (h : regSrc p r = true) (hv : val ≤ vLow p r)
    (ho : (vrAt (targetStored r val p) r).session.isSome = true) : targetWrite r val p = regTarget r (targetStored r val p) :=
  (targetWrite_stored h hv).trans (if_pos ho)

theorem targetWrite_waits {val : Nat} (h : regSrc p r = true) (hv : val ≤ vLow p r)
    (hn : (vrAt (targetStored r val p) r).session = none) (ha : (vrAt (targetStored r val p) r).autoOpen = false) :
    targetWrite r val p = targetStored r val p :=
  (targetWrite_stored h hv).trans ((if_neg (by simp [hn])).trans (if_neg (ne_true_of_eq_false ha)))

end

end Sys2Proof.Machine

open Sys2Proof Sys2Proof.Machine

/-- Settles O39: by how a frame is taken, then by the branch of its row, and by what each row of the link and of the register
path comes to. -/
theorem purlFramesAndRegisterWritesCommandARegion : Obligations.PurlFramesAndRegisterWritesCommandARegion := by
  intro s u w t
  refine ⟨fun n h => does_of (if_pos h), fun n h => run1_same (receiverUp_off n h), fun n => does_of rfl, ?_,
    -- COMMAND
    fun h hs => does_of ((takeFrame_good (by decide) h).trans (spaced_soon hs)),
    fun h hf hr => does_of ((command_frame h hf).trans (bySeq_repeat hr)),
    fun h hf hn => does_of ((command_frame h hf).trans (bySeq_stale hn)),
    fun h hf hn hc => does_of ((command_frame h hf).trans ((bySeq_newer hn).trans (if_pos hc))),
    fun h hf hn hd hr hb ho hs hm =>
      does_of ((command_frame h hf).trans ((bySeq_newer hn).trans (no_cause (commandCause_none hd hr hb ho hs hm)))),
    -- SESSION open
    fun h hb hf hr => does_of ((open_frame h hb hf).trans (openFrame_repeat hr)),
    fun h hb hf hr hc => does_of ((open_frame h hb hf).trans ((openFrame_new hr).trans (if_pos hc))),
    fun h hb hf hr hd hok hs hm hn hcl hrf hl => does_of ((open_frame h hb hf).trans ((openFrame_new hr).trans
      (no_cause (openCause_none hd hok hs (startCheck_none hm hn hcl hrf hl))))),
    -- SESSION close
    fun h hb hf hn hc => does_of ((close_frame h hb hf).trans ((bySeq_newer hn).trans (if_pos hc))),
    fun h hb hf hn hd hz ho => does_of ((close_frame h hb hf).trans ((bySeq_newer hn).trans (no_cause (closeCause_none hd hz ho)))),
    -- KEEPALIVE
    fun h hz => does_of ((takeFrame_good (by decide) h).trans (if_pos hz)),
    fun h hz => does_of ((takeFrame_good (by decide) h).trans (if_neg hz)), ?_,
    fun h => run1_same (ackTransmit_mute h),
    fun hon hd => ⟨fun hq hs => does_of (ackTransmit_idle (purlDrives_on hon hd) hq hs),
      fun f hq hs => does_of (ackTransmit_status (purlDrives_on hon hd) hq hs),
      fun a l hq => does_of (ackTransmit_ack (purlDrives_on hon hd) hq)⟩⟩
  · rintro c (rfl | rfl | rfl | rfl)
    · exact frame_turned_away rfl
    · exact frame_turned_away rfl
    · exact frame_turned_away rfl
    · exact frame_turned_away rfl
  · intro g
    exact ⟨fun o ho hd => does_of ((linkLost_owner ho).trans (if_pos hd)),
      fun o ho hd => run1_same ((linkLost_owner ho).trans (if_neg (ne_true_of_eq_false hd))),
      fun hn => run1_same (linkLost_closed hn), fun on h => run1_same (sessionWrite_noSrc on h),
      fun h hn hd ht hc => does_of ((sessionWrite_open h hn).trans (regOpen_starts hd ht hc)),
      fun h ho => does_of (sessionWrite_close h ho), fun val h => run1_same (targetWrite_refused h),
      fun val h hv => ⟨fun ho => does_of (targetWrite_commands h hv ho), fun hn ha => does_of (targetWrite_waits h hv hn ha)⟩⟩
end

section
/-!
The safe-stop sequence of chapter 11: its triggers, and the opening of isolators, bypass and pre-charge (O27).
-/

namespace Sys2Proof.Machine

/-! ### Triggers (11 R377) -/

theorem safeStopTrigger_mode {p : Pkg} (h : inMode p [.armed, .deliver, .derate, .isolated, .service] = true) :
    safeStopTrigger 1 p = safeStopFault p := if_pos h

theorem safeStopTrigger_other {p : Pkg} (h : inMode p [.armed, .deliver, .derate, .isolated, .service] = false) :
    safeStopTrigger 1 p = ssTrigger 2 p.sys.hoopG.owner p := if_neg (ne_true_of_eq_false h)

/-- RESET and SUPPLY stop the clusters that run (11 R377; log 61). -/
theorem safeStopTrigger_halts {k : Fin 5} (h : k = 2 ∨ k = 3) (p : Pkg) :
    safeStopTrigger k.val p = ssTrigger (k.val + 1) p.sys.hoopG.owner (clustersHalt p) := by
  rcases h with rfl | rfl <;> rfl

/-- A mode with the row of 02 R65 is not RETIRED. -/
theorem not_retired_of_inMode {p : Pkg} (h : inMode p [.armed, .deliver, .derate, .isolated, .service] = true) :
    p.sys.mode ≠ .retired := fun hm => by simp [inMode, hm] at h

/-- A trigger keeps the mode and the fuses. -/
theorem ssTrigger_mode_fuses (code : Nat) (o : Option Die) (p : Pkg) :
    (ssTrigger code o p).sys.mode = p.sys.mode ∧ (ssTrigger code o p).sys.fuses = p.sys.fuses := by
  rw [ssTrigger_keeps]
  exact ⟨rfl, rfl⟩

/-! ### The opening of ports (11 R378) -/

/-- What the opening of a port leaves alone. -/
theorem ssOpen_keeps (forced : Bool) (amps : Int) (q : Nat) (p : Pkg) : ssOpen forced amps q p =
    { p with eye := (ssOpen forced amps q p).eye
             duo := { p.duo with ss := { p.duo.ss with left_ := (ssOpen forced amps q p).duo.ss.left_
                                                       ports := (ssOpen forced amps q p).duo.ss.ports } } } := by
  unfold ssOpen
  simp only
  split
  · rfl
  · rw [settle_keeps]
    rfl

/-- While the sequence runs, a port that opens is no longer left to open. -/
theorem ssOpen_left {p : Pkg} (forced : Bool) (amps : Int) (q : Nat) (hr : p.duo.ss.running = true) :
    (ssOpen forced amps q p).duo.ss.left_ = p.duo.ss.left_.filter (fun k => k != q) := by
  unfold ssOpen
  by_cases hq : p.duo.ss.left_.contains q = true
  · rw [if_neg (by simp [hr, List.contains_iff_mem.1 hq])]
    rfl
  · rw [if_pos (.inr (by simpa using hq))]
    refine (List.filter_eq_self.2 fun k hk => bne_iff_ne.2 ?_).symm
    rintro rfl
    exact hq (List.contains_iff_mem.2 hk)

section
variable {β : Type} {g : Pkg → β}

/-- A reading that no opening of a port and no free value can touch. -/
abbrev OpeningFree (g : Pkg → β) : Prop :=
  (∀ forced amps q p, g (ssOpen forced amps q p) = g p) ∧ ∀ (p : Pkg) n, g { p with freeN := n } = g p

theorem acOpen_free (h : OpeningFree g) (forced : Bool) (q : Nat) (p : Pkg) : g (acOpen forced q p) = g p :=
  (h.1 forced _ q _).trans (h.2 p _)

/-- The package after the forced opening of the isolators, then of bypass and pre-charge (11 R378). -/
def forcedInOrder (p : Pkg) : Pkg :=
  let now := fun r => (mcAt p (2 * r + 1)).now / 2 ^ 91
  let p1 := (List.range 4).foldl (fun p r => (isolatorsOf p r).foldl (fun p q => ssOpen true (now r) q p) p) p
  (acPorts p1 0 ++ acPorts p1 1).foldl (fun p q => if p.duo.ss.left_.contains q then acOpen true q p else p) p1

/-- The package after the forced opening of every static port that is left (11 R378). -/
def forcedOpen (p : Pkg) : Pkg :=
  (forcedInOrder p).duo.ss.left_.foldl (fun p q => acOpen true q p) (forcedInOrder p)

theorem forcedInOrder_free (h : OpeningFree g) (p : Pkg) : g (forcedInOrder p) = g p := by
  unfold forcedInOrder
  extract_lets _ p1
  have k1 : g p1 = g p := foldl_keep g _ _ p fun q r => foldl_keep g _ _ q fun q k => h.1 true _ k q
  refine (foldl_keep g _ _ p1 fun q k => ?_).trans k1
  split
  · exact acOpen_free h true k q
  · rfl

theorem forcedOpen_free (h : OpeningFree g) (p : Pkg) : g (forcedOpen p) = g p :=
  (foldl_keep g _ _ _ fun q k => acOpen_free h true k q).trans (forcedInOrder_free h p)

end

/-- Opening changes chapters 07 and 11, and uses free values. -/
theorem forcedOpen_keeps (p : Pkg) :
    forcedOpen p = { p with eye := (forcedOpen p).eye, duo := (forcedOpen p).duo, freeN := (forcedOpen p).freeN } := by
  have h := forcedOpen_free (g := fun q => { q with eye := {}, duo := {}, freeN := 0 })
    ⟨fun f a q p => by rw [ssOpen_keeps], fun _ _ => rfl⟩ p
  generalize forcedOpen p = m at h ⊢
  exact congrArg (fun q : Pkg => { q with eye := m.eye, duo := m.duo, freeN := m.freeN }) h

/-- The sequence runs until it is complete, whatever opens. -/
theorem running_openingFree : OpeningFree (fun q => q.duo.ss.running) :=
  ⟨fun f a q p => by rw [ssOpen_keeps], fun _ _ => rfl⟩

/-- Of the ports left to open, those that are opened are left no more. -/
theorem foldl_acOpen_left (forced : Bool) (l : List Nat) (p : Pkg) (hr : p.duo.ss.running = true) :
    (l.foldl (fun p q => acOpen forced q p) p).duo.ss.left_ = p.duo.ss.left_.filter (fun k => !l.contains k) := by
  induction l generalizing p with
  | nil => simp
  | cons q l ih =>
    have hq : (acOpen forced q p).duo.ss.left_ = p.duo.ss.left_.filter (fun k => k != q) := ssOpen_left _ _ _ hr
    rw [List.foldl_cons, ih _ ((acOpen_free running_openingFree forced q p).trans hr), hq, List.filter_filter]
    refine List.filter_congr fun k _ => ?_
    rw [List.contains_cons, Bool.not_or, Bool.and_comm]
    rfl

theorem forcedOpen_left {p : Pkg} (hr : p.duo.ss.running = true) : (forcedOpen p).duo.ss.left_ = [] := by
  rw [forcedOpen, foldl_acOpen_left true _ _ ((forcedInOrder_free running_openingFree p).trans hr)]
  exact List.filter_eq_nil_iff.2 fun k hk => by simp [hk]

/-- The end of a sequence that runs and has no port left to open (11 R378). -/
theorem ssComplete_over {p : Pkg} (hr : p.duo.ss.running = true) (hl : p.duo.ss.left_ = []) :
    (ssComplete p).duo.ss = { p.duo.ss with running := false, latched := true, rec_ := true } ∧
      (ssComplete p).sys.noOwnerHold = false := by
  unfold ssComplete
  rw [if_neg (by simp [hr, hl])]
  simp only
  split <;> exact ⟨rfl, rfl⟩

section
variable {r m t : Nat} {amps : Int} {p : Pkg}

theorem isolatorOpen_same (h : p.duo.ss.running = false ∨ amps.natAbs ≥ 5000) : isolatorOpen r amps t p = advance t p :=
  if_pos (by simpa using h)

theorem isolatorOpen_opens (hr : p.duo.ss.running = true) (ha : amps.natAbs < 5000) : isolatorOpen r amps t p =
    ssComplete ((isolatorsOf (advance t p) r).foldl (fun p q => ssOpen false amps q p) (advance t p)) :=
  if_neg (by simp [hr, ha])

theorem bypassOpen_same (h : p.duo.ss.running = false ∨ p.duo.ss.acLow.getD m 0 ≤ 1000000) : bypassOpen m t p = advance t p :=
  if_pos (by simpa using h)

theorem bypassOpen_opens (hr : p.duo.ss.running = true) (ha : p.duo.ss.acLow.getD m 0 > 1000000) : bypassOpen m t p =
    ssComplete ((acPorts (advance t p) m).foldl (fun p q => acOpen false q p) (advance t p)) :=
  if_neg (by simpa [hr] using ha)

theorem forceTimeout_early (h : p.duo.ss.running = false ∨ due p (p.duo.ss.clk + 500000000) = false) : forceTimeout p = p :=
  if_pos (by simpa using h)

theorem forceTimeout_due (hr : p.duo.ss.running = true) (hd : due p (p.duo.ss.clk + 500000000) = true) :
    forceTimeout p = ssComplete (forcedOpen p) := by
  unfold forceTimeout
  rw [if_neg (by simp [hr, hd])]
  extract_lets now p1 p2
  have h : p2 = forcedInOrder p := rfl
  rw [forcedOpen, ← h]

/-- 500 ms after the trigger no port is left, and the sequence is over (11 R378). -/
theorem forceTimeout_ends (hr : p.duo.ss.running = true) (hd : due p (p.duo.ss.clk + 500000000) = true) :
    let m := forceTimeout p
    m.duo.ss.left_ = [] ∧ m.duo.ss.running = false ∧ m.duo.ss.latched = true ∧ m.duo.ss.rec_ = true ∧ m.sys.noOwnerHold = false := by
  have hleft := forcedOpen_left hr
  obtain ⟨hss, hhold⟩ := ssComplete_over ((forcedOpen_free running_openingFree p).trans hr) hleft
  rw [forceTimeout_due hr hd]
  simp only [hss]
  exact ⟨hleft, trivial, trivial, trivial, hhold⟩

/-- It changes chapters 07 and 11 and two timers of the package, and uses free values. -/
theorem forceTimeout_keeps (hr : p.duo.ss.running = true) (hd : due p (p.duo.ss.clk + 500000000) = true) :
    forceTimeout p = { p with eye := (forceTimeout p).eye, duo := (forceTimeout p).duo, freeN := (forceTimeout p).freeN
                              sys := { p.sys with noOwnerHold := (forceTimeout p).sys.noOwnerHold
                                                  retryDue := (forceTimeout p).sys.retryDue } } := by
  rw [forceTimeout_due hr hd, ssComplete_keeps, forcedOpen_keeps]

end

end Sys2Proof.Machine

open Sys2Proof Sys2Proof.Machine

/-- Settles O27: by what each trigger comes to, and by what an opening takes from the ports that are left. -/
theorem safeStopTriggersStartAndItsStepsOpenThePorts : Obligations.SafeStopTriggersStartAndItsStepsOpenThePorts := by
  intro s
  refine ⟨rfl, fun h => ?_, fun h => ?_, fun k h => ?_, does_of rfl, fun k hon h => ?_,
    fun r amps t h => does_of (isolatorOpen_same h), fun r amps t hr ha => does_of (isolatorOpen_opens hr ha),
    fun m t h => does_of (bypassOpen_same h), fun m t hr ha => does_of (bypassOpen_opens hr ha),
    fun h => run1_same (forceTimeout_early h), fun hr hd => ?_⟩
  · obtain ⟨hmode, hgrant, hon, hmask⟩ := safeStopFault_mode s.m h
    exact ⟨_, run1_next (safeStopTrigger_mode h) (not_retired_of_inMode h) (safeStopFault_free fuses_free s.m),
      hmode, hgrant, hon, hmask, safeStopFault_keeps s.m⟩
  · obtain ⟨hmode, hfuses⟩ := ssTrigger_mode_fuses 2 s.m.sys.hoopG.owner s.m
    refine ⟨_, run1_keep (safeStopTrigger_other h) hmode hfuses, hmode, ssTrigger_on _ _ _, ssTrigger_mask _ _ _, ?_⟩
    rw [ssTrigger_keeps]
  · obtain ⟨hmode, hfuses⟩ := ssTrigger_mode_fuses (k.val + 1) s.m.sys.hoopG.owner (clustersHalt s.m)
    have hsys : (clustersHalt s.m).sys = s.m.sys := by rw [clustersHalt_keeps]
    rw [hsys] at hmode hfuses
    refine ⟨_, run1_keep (safeStopTrigger_halts h s.m) hmode hfuses, hmode, ssTrigger_on _ _ _, ssTrigger_mask _ _ _, ?_⟩
    rw [ssTrigger_keeps, clustersHalt_keeps]
  · refine does_of ((safeStopTrigger_halts h s.m).trans (ssTrigger_again _ _ _ ?_))
    rw [clustersHalt_keeps]
    exact hon
  · have hkeep := forceTimeout_keeps hr hd
    have hmode : (forceTimeout s.m).sys.mode = s.m.sys.mode := by rw [hkeep]
    obtain ⟨hleft, hrun, hlatch, hrec, hhold⟩ := forceTimeout_ends hr hd
    refine ⟨_, run1_keep rfl hmode (by rw [hkeep]), hleft, hrun, hlatch, hrec, hhold, hmode, ?_⟩
    rw [hkeep]
end

section
/-!
The gate lines of chapter 07: edges and pins, latches, configuration words, the clearing of a latch, and forces (O32).
-/

namespace Sys2Proof.Machine

/-! ### Records and pins of a port -/

section
variable {q : Nat} {p : Pkg}

/-- Two changes of one port's record. -/
theorem updEy_updEy (f g : EyePort → EyePort) : updEy q g (updEy q f p) = updEy q (g ∘ f) p := by
  simp only [updEy, upd_upd]

theorem pinAt_updPin (f : EyePin → EyePin) (h : q < p.eye.pin.length) : pinAt (updPin q f p) q = f (pinAt p q) :=
  upd_getD_same _ _ _ _ h

theorem pinAt_absent (h : p.eye.pin.length ≤ q) : pinAt p q = {} := List.getD_eq_default _ _ h

theorem updPin_absent (f : EyePin → EyePin) (h : p.eye.pin.length ≤ q) : updPin q f p = p := by
  simp only [updPin, upd_ge _ _ _ h]

/-- The levels of the gate lines after one die's lines have taken theirs (01 R19). -/
theorem lines_setLines (d k : Die) (b : Bool × Bool) (x : EyePin) :
    (x.setLines d b).lines k = if k = d then b else x.lines k := by
  cases d <;> cases k <;> rfl

/-! ### ENABLE (07 R221, R224, R231, R237) -/

/-- ENABLE of a port is high only where it is not latched, in dead time or waiting for its word, and is fused to a cluster. -/
def EnableGuarded (q : Nat) (p : Pkg) : Prop :=
  (pinAt p q).en = true → (eyAt p q).latched = false ∧ (eyAt p q).wordWait = false ∧ (pinAt p q).dead = false ∧
    (clusterOf p q).isSome = true

/-- What the stages 3 to 6 ask of a port whose ENABLE they let through. -/
theorem pinEn_guards {dead : Bool} (h : pinEn p q dead = true) :
    (eyAt p q).latched = false ∧ (eyAt p q).wordWait = false ∧ dead = false ∧ (clusterOf p q).isSome = true := by
  simp only [pinEn, Bool.and_eq_true, Bool.not_eq_true'] at h
  obtain ⟨⟨⟨⟨-, hd⟩, hl⟩, hw⟩, hc⟩ := h
  exact ⟨hl, hw, hd, hc⟩

/-- Once its pins have settled, a port's ENABLE is guarded. -/
theorem settle_guarded (q : Nat) (p : Pkg) : EnableGuarded q (settle q p) := by
  intro hen
  by_cases hq : q < p.eye.pin.length
  · rw [settle, pinAt_updPin _ hq] at hen ⊢
    exact pinEn_guards (p := p) hen
  · rw [settle, updPin_absent _ (not_lt.1 hq), pinAt_absent (not_lt.1 hq)] at hen
    cases hen

/-- A command that ends by settling a port leaves its ENABLE guarded. -/
theorem runs_guarded {c : Instr} {s : State} {f : Pkg → Pkg} (hc : exec c s = run1 f s) (hf : f s.m = settle q p) :
    Runs c s (EnableGuarded q) :=
  Does.runs (hc.trans (does_of hf)) (settle_guarded q p)

/-! ### Edges (07 R224, R234) -/

/-- A die's PULSE falls at an edge on a static port that the die owns. -/
def StaticFall (d : Die) (q : Nat) (b : Bool × Bool) (p : Pkg) : Prop :=
  p.sys.hoopG.owner = some d ∧ (eyAt p q).mode = .static_ ∧ b.1 = false ∧ ((pinAt p q).lines d).1 = true

theorem staticZero_iff : staticZero p q = true ↔
    (clusterOf p q).isSome = true ∧ (eyAt p q).mode = .static_ ∧ ∃ d, p.sys.hoopG.owner = some d ∧ ((pinAt p q).lines d).1 = false := by
  simp [staticZero, Option.any_eq_true, and_assoc]

/-- A port has a PULSE 0 of its owner that it had not before the edge only where the edge is such a fall. -/
theorem staticFall_of_new {d : Die} {b : Bool × Bool} (h1 : staticZero (updPin q (EyePin.setLines d b) p) q = true)
    (h0 : staticZero p q ≠ true) : StaticFall d q b p := by
  obtain ⟨hc, hm, k, ho, hl⟩ := staticZero_iff.1 h1
  have hhigh : ((pinAt p q).lines k).1 = true := by
    by_contra hlow
    exact h0 (staticZero_iff.2 ⟨hc, hm, k, ho, eq_false_of_ne_true hlow⟩)
  by_cases hq : q < p.eye.pin.length
  · rw [pinAt_updPin _ hq, lines_setLines] at hl
    by_cases hk : k = d
    · rw [if_pos hk] at hl
      subst hk
      exact ⟨ho, hm, hl, hhigh⟩
    · rw [if_neg hk, hhigh] at hl
      cases hl
  · rw [updPin_absent _ (not_lt.1 hq)] at h1
    exact absurd h1 h0

/-- A fall on a port that is there and fused gives it a PULSE 0 of its owner that it had not before. -/
theorem new_of_staticFall {d : Die} {b : Bool × Bool} (h : StaticFall d q b p) (hc : (clusterOf p q).isSome = true)
    (hq : q < p.eye.pin.length) : staticZero (updPin q (EyePin.setLines d b) p) q = true ∧ staticZero p q ≠ true := by
  obtain ⟨ho, hm, hb, hl⟩ := h
  refine ⟨staticZero_iff.2 ⟨hc, hm, d, ho, ?_⟩, fun h0 => ?_⟩
  · rw [pinAt_updPin _ hq, lines_setLines, if_pos rfl]
    exact hb
  · obtain ⟨-, -, k, hk, hz⟩ := staticZero_iff.1 h0
    obtain rfl : d = k := Option.some.inj (ho.symm.trans hk)
    rw [hl] at hz
    cases hz

/-- The levels at an edge: those of a fault, of the die that computes them, or those there are (04 R124). -/
theorem edgeLevels_eq (d : Die) (q tick : Nat) (fault : Option (Bool × Bool)) (p : Pkg) : edgeLevels d q tick fault p =
    fault.getD (if drivesLines p d = true then (pulseAt p q tick, (ptAt p q).run.en) else (pinAt p q).lines d) := by
  cases fault <;> rfl

section
variable {d : Die} {tick : Nat} {fault : Option (Bool × Bool)} {b : Bool × Bool} (hb : edgeLevels d q tick fault p = b)
include hb

theorem gateEdge_quiet (h : ¬ StaticFall d q b p) :
    gateEdge d q tick fault p = settle q (updPin q (EyePin.setLines d b) p) := by
  subst hb
  refine congrArg (settle q) (if_neg fun hn => ?_)
  rw [Bool.and_eq_true, Bool.not_eq_true'] at hn
  exact h (staticFall_of_new hn.1 (ne_true_of_eq_false hn.2))

theorem gateEdge_falls (h : StaticFall d q b p) (hc : (clusterOf p q).isSome = true) (hq : q < p.eye.pin.length) :
    gateEdge d q tick fault p = settle q (let p1 := updPin q (EyePin.setLines d b) p
      { p1 with eye := { p1.eye with patErr := inc16 p1.eye.patErr } }) := by
  subst hb
  obtain ⟨h1, h0⟩ := new_of_staticFall h hc hq
  exact congrArg (settle q) (if_pos (by rw [h1, eq_false_of_ne_true h0]; rfl))

end

/-! ### Latches and words (07 R231 to R234, R237 to R241) -/

theorem faultLevel_latches (h : p.sup.started = true) : faultLevel q true p = faultLatch q p := if_pos ⟨rfl, h⟩

theorem faultLevel_level {low : Bool} (h : low = false ∨ p.sup.started = false) :
    faultLevel q low p = updEy q (fun e => { e with faultN := !low }) p := if_neg (by rcases h with h | h <;> simp [h])

theorem patternHold_same (h : (eyAt p q).mode ≠ .switching ∨ (pinAt p q).en = false) : patternHold q p = p :=
  if_neg (by rcases h with h | h <;> simp [h])

theorem driverAck_none (h : (eyAt p q).wordWait = false) : driverAck q p = p := if_pos (by simp [h])

theorem driverAck_waiting (h : (eyAt p q).wordWait = true) : driverAck q p =
    let p1 := updEy q (fun e => { e with wordWait := false, ack := true }) p
    if (eyAt p q).clr = some .ack then
      settle q (releaseShed q (endClears q .ok (updEy q (fun e => { e with latched := false }) p1)))
    else settle q p1 := if_neg (by simp [h])

/-- An acknowledgement that a clear waits for releases the latch (07 R238). -/
theorem driverAck_clears (h : (eyAt p q).wordWait = true) (hc : (eyAt p q).clr = some .ack) : driverAck q p =
    settle q (releaseShed q (endClears q .ok (updEy q (fun e => { e with wordWait := false, ack := true, latched := false }) p))) := by
  rw [driverAck_waiting h, if_pos hc, updEy_updEy]
  rfl

theorem wordNoack_none (h : (eyAt p q).wordWait = false) : wordNoack q p = p := if_pos (by simp [h])

theorem wordNoack_waiting (h : (eyAt p q).wordWait = true) : wordNoack q p =
    let p1 := latchPort q .noack (updEy q (fun e => { e with wordWait := false, ack := false }) p)
    if (eyAt p q).clr = some .ack then endClears q .faulted p1 else p1 := if_neg (by simp [h])

/-! ### Clearing a latch (07 R238, R239) -/

/-- A clear is in its first two steps. -/
abbrev ClearPending (q : Nat) (p : Pkg) : Prop := (eyAt p q).clr = some .enLow ∨ (eyAt p q).clr = some .faultHigh

theorem not_clearPending (h : (eyAt p q).clr = none ∨ (eyAt p q).clr = some .ack) : ¬ ClearPending q p := by
  rcases h with h | h <;> simp [ClearPending, h]

theorem clearProgress_same (h : ¬ ClearPending q p ∨ (eyAt p q).faultN = false) : clearProgress q p = p :=
  if_neg fun ⟨hc, hf⟩ => h.elim (· hc) (ne_false_of_eq_true hf)

theorem clearProgress_met (h : ClearPending q p) (hf : (eyAt p q).faultN = true) : clearProgress q p =
    if (clusterOf p q).isSome then sendWord q (updEy q (fun e => { e with clr := some .ack }) p)
    else endClears q .faulted (updEy q (fun e => { e with cause := .noack }) p) := if_pos ⟨h, hf⟩

/-- The third step of a clear: the port's word is sent. -/
theorem clearProgress_sends (h : ClearPending q p) (hf : (eyAt p q).faultN = true) (hc : (clusterOf p q).isSome = true) :
    clearProgress q p = settle q (updEy q (fun e => { e with clr := some .ack, word := configWord e.mode q
                                                             code := manchester (configWord e.mode q)
                                                             wordWait := true, ack := false }) p) := by
  rw [clearProgress_met h hf, if_pos hc, sendWord, updEy_updEy]
  rfl

theorem clearProgress_unfused (h : ClearPending q p) (hf : (eyAt p q).faultN = true) (hc : clusterOf p q = none) :
    clearProgress q p = endClears q .faulted (updEy q (fun e => { e with cause := .noack }) p) :=
  (clearProgress_met h hf).trans (if_neg (by simp [hc]))

theorem clearTimeout_same (h : ¬ ClearPending q p ∨ due p ((eyAt p q).clrSince + 100000000) = false) : clearTimeout q p = p :=
  if_neg fun ⟨hc, hd⟩ => h.elim (· hc) (ne_false_of_eq_true hd)

/-! ### Forces (07 R235, R236) -/

section
variable {v client : Nat}

/-- A write that passes every check of 07 R235 and R236. -/
theorem forceBad_none {n : Nat} (hc : clusterOf p q = some n) (hv : v % 8 ≤ 3) (hs : ¬(v % 8 = 2 ∧ (eyAt p q).mode = .static_))
    (hm : p.sys.mode = .service) (hl : lcOf p = .service) (ho : (clAt p n).run.st = .off) : forceBad p q v = none := by
  unfold forceBad
  rw [if_neg (not_lt.2 hv), hc]
  exact (if_neg hs).trans (if_neg (by simp [hm, hl, ho]))

/-- A port without a cluster, another mode or life-cycle state, and a low force of a static port are refused. -/
theorem forceBad_some (hv : v % 8 ≤ 3)
    (h : clusterOf p q = none ∨ p.sys.mode ≠ .service ∨ lcOf p ≠ .service ∨ (v % 8 = 2 ∧ (eyAt p q).mode = .static_)) :
    ∃ r, forceBad p q v = some r := by
  unfold forceBad
  rw [if_neg (not_lt.2 hv)]
  cases hc : clusterOf p q with
  | none => exact ⟨_, rfl⟩
  | some n =>
    by_cases hs : v % 8 = 2 ∧ (eyAt p q).mode = .static_
    · exact ⟨_, if_pos hs⟩
    · refine ⟨_, (if_neg hs).trans (if_pos ?_)⟩
      rcases h with h | h | h | h
      · rw [hc] at h
        cases h
      · exact .inr (.inl h)
      · exact .inl h
      · exact absurd h hs

theorem forceWrite_takes (h : forceBad p q v = none) : forceWrite q v client p = setForce q v p := by
  simp only [forceWrite, h]

theorem forceWrite_refused {r : Status × Nat} (h : forceBad p q v = some r) : forceWrite q v client p = forceRefused q v client p := by
  simp only [forceWrite, h]

/-- A code above 3 is counted and logged (07 R236). -/
theorem forceWrite_both (h : v % 8 > 3) : forceWrite q v client p =
    logEvent 0x20 q client [byte (v % 8)] { p with eye := { p.eye with bothRef := inc8 p.eye.bothRef } } :=
  (forceWrite_refused (if_pos h)).trans (if_pos h)

end

end

end Sys2Proof.Machine

open Sys2Proof Sys2Proof.Machine

/-- Settles O32: an edge by whether it is a fall on the owner's static port, the rest by what each row comes to in each state of
the port. -/
theorem gatesFollowTheirStagesAndLatch : Obligations.GatesFollowTheirStagesAndLatch := by
  intro s q
  refine ⟨fun d tick fault => ?_, does_of rfl, ?_,
    -- EYE_FAULT_LATCH, PATTERN_HOLD_EXPIRY
    fun h => does_of (faultLevel_latches h), fun low h => does_of (faultLevel_level h),
    fun hm he => does_of (if_pos ⟨hm, he⟩), fun h => run1_same (patternHold_same h),
    -- DRIVER_ACK, CONFIG_WORD_NOACK
    fun hw => ⟨run1_same (driverAck_none hw), run1_same (wordNoack_none hw)⟩,
    fun hw hc => ⟨does_of ((driverAck_waiting hw).trans (if_neg hc)), does_of ((wordNoack_waiting hw).trans (if_neg hc))⟩,
    fun hw hc => ⟨does_of (driverAck_clears hw hc), does_of ((wordNoack_waiting hw).trans (if_pos hc))⟩,
    -- EYE_CLEAR_PROGRESS, EYE_CLEAR_TIMEOUT
    fun h => ⟨fun hf hc => does_of (clearProgress_sends h hf hc), fun hf hc => does_of (clearProgress_unfused h hf hc),
      fun hf => run1_same (clearProgress_same (.inr hf)), fun hd => does_of (if_pos ⟨h, hd⟩),
      fun hd => run1_same (clearTimeout_same (.inr hd))⟩,
    fun h => ⟨run1_same (clearProgress_same (.inl (not_clearPending h))), run1_same (clearTimeout_same (.inl (not_clearPending h)))⟩,
    -- EYE_FORCE_WRITE
    fun v client n hc hv hs hm hl ho => does_of (forceWrite_takes (forceBad_none hc hv hs hm hl ho)),
    fun v client hv => does_of (forceWrite_both hv), fun v client hv h => ?_⟩
  · have hb := edgeLevels_eq d q.val tick fault s.m
    have quiet := gateEdge_quiet hb
    have falls := gateEdge_falls hb
    refine ⟨fun h => ?_, fun ho hm hz hl hc hq => ?_⟩
    · have hn : ¬ StaticFall d q.val _ s.m := fun ⟨ho, hm, hz, hl⟩ =>
        h.elim (· ho) fun h => h.elim (· hm) fun h => h.elim (ne_true_of_eq_false hz) (ne_false_of_eq_true hl)
      cases d <;> exact does_of (quiet hn)
    · cases d <;> exact does_of (falls ⟨ho, hm, hz, hl⟩ hc hq)
  · rintro c (rfl | ⟨rfl, hs⟩ | ⟨d, tick, fault, rfl⟩)
    · exact runs_guarded rfl rfl
    · exact runs_guarded rfl (faultLevel_latches hs)
    · exact runs_guarded rfl rfl
  · obtain ⟨r, hr⟩ := forceBad_some hv h
    exact run1_same ((forceWrite_refused hr).trans (if_neg (not_lt.2 hv)))
end

section
/-!
The ledger between modules (08 R253 to R280): how a message is taken, joining and leaving, and site maps (O54).
-/

namespace Sys2Proof.Machine

/-! ### Messages (08 R268, R279) -/

/-- A ledger message of a type that this module takes (08 R279). -/
def TakesLdg (t : Nat) (m : List Byte) (p : Pkg) : Prop :=
  awake p = true ∧ be m 0 1 = t ∧ (be m 6 2 = nodeAddr p ∨ be m 6 2 = 0xFFFF)

/-- The body of a ledger message (08 R279). -/
def ldgBody (m : List Byte) : List Byte := (m.drop 16).take (be m 2 2)

/-- The sender of a ledger message has been heard (08 R268). -/
def heardFrom (m : List Byte) (p : Pkg) : Pkg := updPeer (be m 4 2) (fun x => { x with heard := p.clk }) p

section
variable {c : Instr} {s : State} {t : Nat} {m : List Byte} {f : Nat → Nat → List Byte → Pkg → Pkg}

/-- A message that is not taken changes nothing. -/
theorem message_dropped (hc : exec c s = run1 (ldgTake t m f) s) (h : ¬TakesLdg t m s.m) : exec c s = .next s :=
  hc.trans (run1_same (ldgTake_dropped f h))

/-- One that is taken does what its meaning comes to once its sender has been heard. -/
theorem does_message {q : Pkg} (hc : exec c s = run1 (ldgTake t m f) s) (h : TakesLdg t m s.m)
    (hf : f (be m 4 2) (be m 8 4) (ldgBody m) (heardFrom m s.m) = q) : Does c s (ledgerSettle q) :=
  hc.trans (does_of ((ldgTake_taken f h).trans (congrArg ledgerSettle hf)))

/-- A timer of the ledger does what its operation comes to, and the records accepted with it take effect. -/
theorem does_settled {g : Pkg → Pkg} {q : Pkg} (hc : exec c s = run1 (fun p => ledgerSettle (g p)) s) (hg : g s.m = q) :
    Does c s (ledgerSettle q) := hc.trans (does_of (congrArg ledgerSettle hg))

end

/-- A module of the map in force (08 R275). -/
theorem mapMods_any {p : Pkg} {n : Nat} : (mapMods p).any (fun x => x.node == n) = true ↔ ∃ x ∈ mapMods p, x.node = n := by
  simp

/-! ### Joining and leaving (08 R275, R276) -/

section
variable {src st : Nat} {p : Pkg}

theorem joinAt_noVoice (hv : isVoice p = false) : joinAt src p = p := by simp [joinAt, joinReq, hv]

theorem joinAt_stranger (hv : isVoice p = true) (hm : ¬∃ x ∈ mapMods p, x.node = src) : joinAt src p = joinReply src 3 p := by
  simp [joinAt, joinReq, hv, eq_false_of_ne_true (mapMods_any.not.2 hm)]

theorem joinAt_entered {h : Holding} (hv : isVoice p = true) (hm : ∃ x ∈ mapMods p, x.node = src) (hh : holdAt p src = some h) :
    joinAt src p = joinReply src (if h.fenced then 2 else 0) p := by
  simp [joinAt, joinReq, hv, mapMods_any.2 hm, hh]

theorem joinAt_new (hv : isVoice p = true) (hm : ∃ x ∈ mapMods p, x.node = src) (hh : holdAt p src = none) :
    joinAt src p = journalNew (.join src) (msgRecord 0x50 src (toBe 4 0)) p := by
  simp [joinAt, joinReq, hv, mapMods_any.2 hm, hh]

theorem joinAck_same (h : p.ldg.nv.st ≠ .joining ∨ st ≠ 0 ∨ src ∈ p.ldg.joinAcks) : joinAck src st p = p :=
  if_pos (by simpa using h)

/-- An acceptance is counted, and a quorum makes the module joined (08 R275). -/
theorem joinAck_counted (hj : p.ldg.nv.st = .joining) (hs : st = 0) (hn : src ∉ p.ldg.joinAcks) : joinAck src st p =
    let q := { p with ldg := { p.ldg with joinAcks := src :: p.ldg.joinAcks } }
    if quorum p ≤ (src :: p.ldg.joinAcks).length then floorCheck (updNv (fun n => { n with st := .joined }) q) else q :=
  if_neg (by simp [hj, hs, hn])

theorem leaveNote_voice (hv : isVoice p = true) :
    leaveNote src p = journalNew (.leave src) (msgRecord 0x53 src (toBe 4 0)) p := if_pos hv

theorem leaveNote_noVoice (hv : isVoice p = false) : leaveNote src p = p := if_neg (ne_true_of_eq_false hv)

end

/-! ### Site maps (08 R247, R278) -/

section
variable {w : SiteMap} {t : Nat} {p : Pkg}

theorem mapActivate_none (h : p.ldg.nv.pendMap = none) : mapActivate p = p := by simp only [mapActivate, h]

/-- A pending map waits for its ACTIVATION, and one with fewer tokens until they have been given up (08 R278). -/
theorem mapActivate_waits (h : p.ldg.nv.pendMap = some w)
    (hw : dueSite p w.act = false ∨ (w.n < (p.ldg.nv.map_.map (·.n)).getD 0 ∧ shrunk p w.n = false)) : mapActivate p = p := by
  simp only [mapActivate, h]
  refine if_neg fun ⟨hd, hl⟩ => ?_
  rcases hw with hw | ⟨hn, hs⟩
  · simp [hw] at hd
  · simp [hn, hs] at hl

theorem mapActivate_takes (h : p.ldg.nv.pendMap = some w) (hd : dueSite p w.act = true)
    (hl : ¬w.n < (p.ldg.nv.map_.map (·.n)).getD 0 ∨ shrunk p w.n = true) : mapActivate p = takeMap w p := by
  simp only [mapActivate, h]
  refine if_pos ⟨hd, ?_⟩
  simpa using hl

/-- A map that does not list this module leaves it its node address (08 R278). -/
theorem takeMap_unlisted (h : ∀ m ∈ w.mods, m.serial ≠ p.dfn.serial) : takeMap w p =
    tableMap w ((p.ldg.nv.map_.map (·.n)).getD 0) (netMap (w.mods.map (fun m => (m.node, m.serial))) w.cls
      (updNv (fun n => { n with map_ := some w, pendMap := none, moved := [], graceTo := some (w.act + 60000000000) }) p)) := by
  have hf : w.mods.find? (fun m => m.serial == p.dfn.serial) = none := List.find?_eq_none.2 (by simpa using h)
  simp only [takeMap, hf]

theorem graceOver_none (h : p.ldg.nv.graceTo = none) : graceOver p = p := by simp only [graceOver, h]

theorem graceOver_early (h : p.ldg.nv.graceTo = some t) (hd : dueSite p t = false) : graceOver p = p := by simp [graceOver, h, hd]

theorem graceOver_due (h : p.ldg.nv.graceTo = some t) (hd : dueSite p t = true) :
    graceOver p = updNv (fun n => { n with graceTo := none }) p := by simp only [graceOver, h, if_pos hd]

end

end Sys2Proof.Machine

open Sys2Proof Sys2Proof.Machine

/-- Settles O54: each message by what it comes to once its sender has been heard, each map row by whether it is due. -/
theorem membersJoinLeaveAndTakeMaps : Obligations.MembersJoinLeaveAndTakeMaps := by
  intro s
  refine ⟨fun m => ?joinReq, fun src st q => ⟨fun h => if_neg h, fun h => if_pos h⟩, fun m => ?joinAck, fun m => ?leaveNote,
    fun h => run1_same (mapActivate_none h), fun w hw => ⟨fun h => run1_same (mapActivate_waits hw h),
      fun hd hl => does_of (mapActivate_takes hw hd hl)⟩,
    fun w q h => takeMap_unlisted h,
    fun h => run1_same (graceOver_none h),
    fun t ht => ⟨fun h => run1_same (graceOver_early ht h), fun h => does_of (graceOver_due ht h)⟩⟩
  case joinReq =>
    have hc : exec (.joinReq m) s = run1 (ldgTake 0x50 m fun src _ _ => joinAt src) s := rfl
    exact ⟨message_dropped hc, fun ht hv => does_message hc ht (joinAt_noVoice hv),
      fun ht hv hm => does_message hc ht (joinAt_stranger hv hm), fun h ht hv hm hh => does_message hc ht (joinAt_entered hv hm hh),
      fun ht hv hm hh => does_message hc ht (joinAt_new hv hm hh)⟩
  case joinAck =>
    have hc : exec (.joinAck m) s = run1 (ldgTake 0x51 m fun src _ d => joinAck src (be d 0 1)) s := rfl
    refine ⟨message_dropped hc, fun ht h => does_message hc ht (joinAck_same h), fun ht hj hs hn => ?_⟩
    have hq := joinAck_counted (p := heardFrom m s.m) hj hs hn
    exact ⟨fun hl => does_message hc ht (hq.trans (if_neg (not_le.2 hl))), fun hl => does_message hc ht (hq.trans (if_pos hl))⟩
  case leaveNote =>
    have hc : exec (.leaveNote m) s = run1 (ldgTake 0x53 m fun src _ _ => leaveNote src) s := rfl
    exact ⟨message_dropped hc, fun ht hv => does_message hc ht (leaveNote_noVoice hv),
      fun ht hv => does_message hc ht (leaveNote_voice hv)⟩
end

section
/-!
Reclaim of a silent module by vote, and the return of one that was fenced (08 R268 to R271; O53).
-/

namespace Sys2Proof.Machine

/-! ### The reclaimer's request (08 R268, R269) -/

/-- The module that may reclaim another: its buddy, else the lowest known with a lease (08 R268). -/
def reclaimerOf (p : Pkg) (target : Nat) : Nat :=
  if knownLease p (buddyOf p target) then buddyOf p target
  else lowest (((mapMods p).map (·.node)).filter (fun n => n != target && knownLease p n))

/-- This module has to reclaim another (08 R268). -/
def StartsReclaim (target : Nat) (p : Pkg) : Prop :=
  awake p = true ∧ leaseOk p = true ∧ reclaimerOf p target = nodeAddr p ∧ target ≠ nodeAddr p ∧
    due p (max (peerAt p target).heard p.ldg.upSince + reclaimWait p) = true ∧ (∃ m ∈ mapMods p, m.node = target) ∧
    ∀ x ∈ p.ldg.recl, x.target ≠ target

section
variable {src target id : Nat} {p : Pkg}

/-- The condition of `reclaimStart` is that this module has to reclaim the target. -/
theorem startsReclaim_iff : (awake p = true ∧ leaseOk p = true ∧ reclaimerOf p target = nodeAddr p ∧ target ≠ nodeAddr p ∧
      due p (max (peerAt p target).heard p.ldg.upSince + reclaimWait p) = true ∧ (mapMods p).any (fun m => m.node == target) = true ∧
      (!p.ldg.recl.any (fun x => x.target == target)) = true) ↔ StartsReclaim target p := by
  simp [StartsReclaim]

theorem reclaimStart_same (h : ¬StartsReclaim target p) : reclaimStart target p = p := if_neg (startsReclaim_iff.not.2 h)

theorem reclaimStart_asks (h : StartsReclaim target p) : reclaimStart target p =
    let id := (p.ldg.reqCtr + 1) % 2 ^ 32
    reclaimAsk (nodeAddr p) target id (toVoices 0x40 (toBe 2 target ++ [0, 0] ++ toBe 4 id)
      { p with ldg := { p.ldg with reqCtr := id, recl := { target := target, id := id, sent := p.clk } :: p.ldg.recl } }) :=
  if_pos (startsReclaim_iff.2 h)

theorem voteTimeout_same (h : ∀ x, p.ldg.recl.find? (fun x => x.target == target) = some x → due p (x.sent + 20000000) = false) :
    voteTimeout target p = p := by
  unfold voteTimeout
  split
  next x hx => rw [h x hx]; rfl
  next => rfl

theorem voteTimeout_due {x : Reclaim} (h : p.ldg.recl.find? (fun x => x.target == target) = some x)
    (hd : due p (x.sent + 20000000) = true) : voteTimeout target p =
    { p with ldg := { p.ldg with recl := p.ldg.recl.filter (fun y => y.target != target) } } := by
  simp only [voteTimeout, h, if_pos hd]

/-! ### A voice's vote (08 R269) -/

/-- A voice may vote for a reclaim: it has an entry of the target, with no grant and no other vote of the last RECLAIM_WAIT, and
has itself been up for as long (08 R269). -/
def MayVote (src target : Nat) (p : Pkg) : Prop :=
  (∃ h, holdAt p target = some h ∧ (∀ t, h.granted = some t → t + reclaimWait p ≤ p.clk) ∧
    (∀ n t, h.vote = some (n, t) → n = src ∨ t + reclaimWait p ≤ p.clk)) ∧ p.ldg.upSince + reclaimWait p ≤ p.clk

theorem reclaimAsk_noVoice (hv : isVoice p = false) : reclaimAsk src target id p = p := if_pos (by rw [hv]; rfl)

/-- A choice by a condition, said of a proposition that the condition decides. -/
theorem ite_of_iff {α : Type} {c P : Prop} [Decidable c] (h : c ↔ P) (a b : α) :
    (P → (if c then a else b) = a) ∧ (¬P → (if c then a else b) = b) :=
  ⟨fun hp => if_pos (h.2 hp), fun hp => if_neg (h.not.2 hp)⟩

/-- A voice that may vote fences the target first, and one that may not answers no at once (08 R253, R269). -/
theorem reclaimAsk_voice (hv : isVoice p = true) :
    (MayVote src target p → reclaimAsk src target id p = if p.mtr.nvBlock then p
      else journalNew (.vote src target id) (msgRecord 0x41 src (voteBody target 0 id [])) (enterFence src target p)) ∧
    (¬MayVote src target p → reclaimAsk src target id p = voteReply src target 1 id p) := by
  unfold reclaimAsk
  rw [if_neg (by simp [hv])]
  refine ite_of_iff ?_ _ _
  unfold MayVote
  cases holdAt p target with
  | none => simp
  | some h =>
    rcases hg : h.granted with _ | g <;> rcases ho : h.vote with _ | ⟨n, t⟩ <;> simp [hg, ho, and_assoc, and_comm]

theorem reclaimAsk_blocked (hv : isVoice p = true) (hm : MayVote src target p) (hb : p.mtr.nvBlock = true) :
    reclaimAsk src target id p = p := ((reclaimAsk_voice hv).1 hm).trans (if_pos hb)

theorem reclaimAsk_votes (hv : isVoice p = true) (hm : MayVote src target p) (hb : p.mtr.nvBlock = false) :
    reclaimAsk src target id p =
      journalNew (.vote src target id) (msgRecord 0x41 src (voteBody target 0 id [])) (enterFence src target p) :=
  ((reclaimAsk_voice hv).1 hm).trans (if_neg (ne_true_of_eq_false hb))

end

/-! ### Votes that reach the reclaimer (08 R245, R270) -/

section
variable {voice src target st id : Nat} {rs : List (TRange × Bool)} {ts : List TRange} {x : Reclaim} {p : Pkg}

/-- The votes of a request with one more: its voice, the ranges it shows, and those of them that are floor (08 R270). -/
def votesWith (voice : Nat) (rs : List (TRange × Bool)) (x : Reclaim) : List (Nat × List TRange × List TRange) :=
  (voice, rs.map (·.1), (rs.filter (·.2)).map (·.1)) :: x.votes

/-- The requests with the votes of one of them put (08 R270). -/
def reclaimsWith (target : Nat) (v : List (Nat × List TRange × List TRange)) (p : Pkg) : List Reclaim :=
  p.ldg.recl.map (fun y => if y.target = target then { y with votes := v } else y)

theorem reclaimVote_unknown (h : p.ldg.recl.find? (fun x => x.target == target && x.id == id) = none) :
    reclaimVote voice target st id rs p = p := by simp only [reclaimVote, h]

theorem reclaimVote_same (h : p.ldg.recl.find? (fun x => x.target == target && x.id == id) = some x)
    (hv : st ≠ 0 ∨ ∃ y ∈ x.votes, y.1 = voice) : reclaimVote voice target st id rs p = p := by
  simp only [reclaimVote, h]
  exact if_pos (by simpa using hv)

/-- A yes of a voice that has not voted is counted; the quorum's vote ends the request in the record of the reclaim. -/
theorem reclaimVote_counted (h : p.ldg.recl.find? (fun x => x.target == target && x.id == id) = some x) (hs : st = 0)
    (hn : ∀ y ∈ x.votes, y.1 ≠ voice) : reclaimVote voice target st id rs p =
      let v := votesWith voice rs x
      let t := fitR p.ldg.nv.ranges (takeable v)
      if v.length < quorum p ∨ p.mtr.nvBlock = true then { p with ldg := { p.ldg with recl := reclaimsWith target v p } }
      else journalNew (.reclaim target id t) (msgRecord 0x42 (nodeAddr p) (doneBody target id t))
        { p with ldg := { p.ldg with recl := (reclaimsWith target v p).filter (fun y => y.target != target) } } := by
  simp only [reclaimVote, h]
  refine if_neg ?_
  rintro (hc | hc)
  · exact hc hs
  · obtain ⟨y, hy, he⟩ := List.any_eq_true.1 hc
    exact hn y hy (beq_iff_eq.1 he)

/-! ### The record of a reclaim, and REJOIN (08 R270, R271) -/

theorem reclaimDone_blocked (hb : p.mtr.nvBlock = true) : reclaimDone src target ts p = p := if_pos hb

/-- The target's voice passes on, and the reclaimed tokens leave what the target was last heard to hold (08 R270). -/
def passedOn (target : Nat) (ts : List TRange) (p : Pkg) : Pkg :=
  updPeer target (fun x => { x with held := x.held - countR ts }) (passVoice target p)

theorem reclaimDone_passes (hb : p.mtr.nvBlock = false) : reclaimDone src target ts p =
    if isVoice (passedOn target ts p) = true
    then journalNew (.done_ src target ts) (msgRecord 0x42 src (doneBody target 0 ts)) (passedOn target ts p)
    else passedOn target ts p := if_neg (ne_true_of_eq_false hb)

theorem rejoinAt_voice (hv : isVoice p = true) :
    rejoinAt src p = journalNew (.rejoin src) (msgRecord 0x52 src (toBe 4 0)) p := if_pos hv

theorem rejoinAt_noVoice (hv : isVoice p = false) : rejoinAt src p = p := if_neg (ne_true_of_eq_false hv)

end

end Sys2Proof.Machine

open Sys2Proof Sys2Proof.Machine

/-- Settles O53: a request and a vote by the cases in which they count, the rest by whether journal writes are blocked and this
module is a voice. -/
theorem reclaimIsVotedAndRecorded : Obligations.ReclaimIsVotedAndRecorded := by
  intro s
  refine ⟨fun target => ?start, fun m => ?request, fun q src target id => ?ask, fun m => ?vote, fun target => ?timeout,
    fun m => ?done, fun m => ?rejoin, fun a d q => ⟨journalNew_none d, journalNew_some d⟩⟩
  case start =>
    have hc : exec (.reclaimStart target) s = run1 (fun p => ledgerSettle (reclaimStart target p)) s := rfl
    exact ⟨fun h => does_settled hc (reclaimStart_same h), fun h => does_settled hc (reclaimStart_asks h)⟩
  case request =>
    have hc : exec (.reclaimReq m) s = run1 (ldgTake 0x40 m fun src _ d => reclaimAsk src (be d 0 2) (be d 4 4)) s := rfl
    exact ⟨message_dropped hc, fun ht => does_message hc ht rfl⟩
  case ask =>
    exact ⟨reclaimAsk_noVoice, reclaimAsk_blocked, reclaimAsk_votes, fun hv hm => (reclaimAsk_voice hv).2 hm⟩
  case vote =>
    have hc : exec (.reclaimVote m) s = run1 (ldgTake 0x41 m fun src _ d => reclaimVote src (be d 0 2) (be d 2 1) (be d 4 4)
      ((rangesAt d 8 (be d 3 1)).map (fun x => ((⟨x.1.first, x.1.count⟩ : TRange), x.2)))) s := rfl
    refine ⟨message_dropped hc, fun ht h => does_message hc ht (reclaimVote_unknown h), fun x ht hx =>
      ⟨fun h => does_message hc ht (reclaimVote_same hx h), fun hs hn => ?_⟩⟩
    have hq := reclaimVote_counted (p := heardFrom m s.m) (rs := (rangesAt (ldgBody m) 8 (be (ldgBody m) 3 1)).map
      (fun x => ((⟨x.1.first, x.1.count⟩ : TRange), x.2))) hx hs hn
    refine ⟨fun hl => does_message hc ht (hq.trans (if_pos hl)), fun hl hb => does_message hc ht (hq.trans (if_neg ?_))⟩
    rintro (h | h)
    · exact not_le.2 h hl
    · exact ne_true_of_eq_false hb h
  case timeout =>
    exact ⟨fun h => run1_same (voteTimeout_same h), fun x hx hd => does_of (voteTimeout_due hx hd)⟩
  case done =>
    have hc : exec (.reclaimDone m) s = run1 (ldgTake 0x42 m fun src _ d =>
      reclaimDone src (be d 0 2) ((rangesAt d 8 (be d 3 1)).map (·.1))) s := rfl
    exact ⟨message_dropped hc, fun ht hb => does_message hc ht (reclaimDone_blocked hb),
      fun ht hb hv => does_message hc ht ((reclaimDone_passes (p := heardFrom m s.m) hb).trans (if_neg (ne_true_of_eq_false hv))),
      fun ht hb hv => does_message hc ht ((reclaimDone_passes (p := heardFrom m s.m) hb).trans (if_pos hv))⟩
  case rejoin =>
    have hc : exec (.rejoin m) s = run1 (ldgTake 0x52 m fun src _ _ => rejoinAt src) s := rfl
    exact ⟨message_dropped hc, fun ht hv => does_message hc ht (rejoinAt_noVoice hv),
      fun ht hv => does_message hc ht (rejoinAt_voice hv)⟩
end

section
/-!
The transfer of tokens between modules: PREPARE, NOTE and its deferred answer, NOTE_ACK (08 R245, R264, R265; O52).
-/

namespace Sys2Proof.Machine

/-! ### PREPARE at the receiver (08 R245, R263, R264) -/

/-- The range of a PREPARE (08 R280). -/
def prepRange (d : List Byte) : TRange := ⟨be d 8 4 % 2 ^ 24, be d 12 4⟩

/-- A transfer in is noted, its counter marked applied (08 R264, 13 R430). -/
def notedIn (x : XferIn) (p : Pkg) : Pkg :=
  updNv (fun n => { n with ins := x :: n.ins }) (winMark x.src (x.id % 2 ^ 48) p)

section
variable {src ver : Nat} {d : List Byte} {r : TRange} {x : XferIn} {p : Pkg}

theorem prepareAt_pending (h : p.ldg.nv.ins.find? (fun x => x.id == be d 0 8) = some x) (hs : x.st = .pending) :
    prepareAt src ver d p = { p with dfn := { p.dfn with dups := inc32 p.dfn.dups } } := by
  simp only [prepareAt, h, if_pos hs]

theorem prepareAt_decided (h : p.ldg.nv.ins.find? (fun x => x.id == be d 0 8) = some x) (hs : x.st ≠ .pending) :
    prepareAt src ver d p = sendHeld src (be d 0 8) (if p.ldg.nv.st = .fenced then 1 else x.answer)
      { p with dfn := { p.dfn with dups := inc32 p.dfn.dups } } := by
  simp only [prepareAt, h, if_neg hs]

/-- A transfer that is new below its giver's window is refused and noted (08 R264, 13 R430). -/
theorem prepareAt_stale (h : p.ldg.nv.ins.find? (fun x => x.id == be d 0 8) = none) (hw : winBelow src (be d 0 8 % 2 ^ 48) p = true) :
    prepareAt src ver d p = sendHeld src (be d 0 8) 1 (dfnEvt (fun e => { e with stale := true }) p) := by
  simp only [prepareAt, h, if_pos hw]

theorem prepareAt_blocked (h : p.ldg.nv.ins.find? (fun x => x.id == be d 0 8) = none)
    (hw : winBelow src (be d 0 8 % 2 ^ 48) p = false) (hb : p.mtr.nvBlock = true) : prepareAt src ver d p = p := by
  simp only [prepareAt, h, if_neg (ne_true_of_eq_false hw), if_pos hb]

/-- Another is refused with its reason, or journaled PENDING (08 R264). -/
theorem prepareAt_new (h : p.ldg.nv.ins.find? (fun x => x.id == be d 0 8) = none)
    (hw : winBelow src (be d 0 8 % 2 ^ 48) p = false) (hb : p.mtr.nvBlock = false) : prepareAt src ver d p =
      let id := be d 0 8
      let bad := prepareBad ver (prepRange d) p
      if bad ≠ 0 then sendHeld src id bad (notedIn { id := id, src := src, range := prepRange d, st := .refused, answer := bad } p)
      else journalXfer id src (prepRange d) false 2 (.pend id) (notedIn { id := id, src := src, range := prepRange d } p) := by
  simp only [prepareAt, h, if_neg (ne_true_of_eq_false hw), if_neg (ne_true_of_eq_false hb)]
  rfl

theorem prepareBad_fenced (h : p.ldg.nv.st = .fenced) : prepareBad ver r p = 2 := if_pos h

theorem prepareBad_unjoined (hf : p.ldg.nv.st ≠ .fenced) (hj : p.ldg.nv.st ≠ .joined) : prepareBad ver r p = 3 := by
  rw [prepareBad, if_neg hf, if_pos hj]

theorem prepareBad_joined (hj : p.ldg.nv.st = .joined) : prepareBad ver r p =
    if p.ldg.nv.map_.map (·.ver) ≠ some ver then 4 else if fitsIn r p then 0 else 5 := by
  rw [prepareBad, if_neg (by simp [hj]), if_neg (not_not.2 hj)]
  cases fitsIn r p <;> rfl

end

/-! ### PREPARE again from the giver (08 R264) -/

/-- A giver has to repeat a PREPARE: 2 ms have passed, and no record of the transfer waits for the mirror (08 R264). -/
def ResendDue (id : Nat) (x : XferOut) (p : Pkg) : Prop :=
  awake p = true ∧ due p (x.sent + 2000000) = true ∧ waits p (.offer id) = false ∧ waits p (.gone id) = false ∧
    waits p (.back id) = false

section
variable {id : Nat} {p : Pkg}

theorem resendDue_iff {x : XferOut} : (awake p = true ∧ due p (x.sent + 2000000) = true ∧
    (!([.offer id, .gone id, .back id].any (waits p))) = true) ↔ ResendDue id x p := by
  simp [ResendDue]

theorem prepareAgain_same (h : ∀ x, p.ldg.nv.outs.find? (fun x => x.id == id) = some x → ¬ResendDue id x p) :
    prepareAgain id p = p := by
  unfold prepareAgain
  split
  next => rfl
  next x hx => exact if_neg (resendDue_iff.not.2 (h x hx))

theorem prepareAgain_due {x : XferOut} (hx : p.ldg.nv.outs.find? (fun x => x.id == id) = some x) (h : ResendDue id x p) :
    prepareAgain id p = ldgSend 0x10 x.dst (toBe 8 x.id ++ rangeBytes false x.range)
      (updNv (fun n => { n with outs := n.outs.map (fun y => if y.id = id then { y with sent := p.clk } else y) }) p) := by
  simp only [prepareAgain, hx, if_pos (resendDue_iff.2 h), outLeaving, sendPrepare]

end

/-! ### NOTE at a voice (08 R264, R269) -/

/-- The range of a NOTE (08 R280). -/
def noteRange (d : List Byte) : TRange := ⟨be d 12 4 % 2 ^ 24, be d 16 4⟩

/-- What a voice does with a NOTE(add) once it has decided: the record, a refusal, or none yet (08 R264). -/
def noteAnswer (src : Nat) (d : List Byte) (p : Pkg) : Option Nat → Pkg
  | some 0 => noteRecord src (be d 8 2) (be d 0 8) (noteRange d) false p
  | some st => noteReply src (be d 0 8) st p
  | none => noteDefer src (be d 8 2) (be d 0 8) (noteRange d) p

section
variable {src giver st : Nat} {d : List Byte} {r : TRange} {p : Pkg}

theorem noteDecide_absent (h : holdAt p giver = none) : noteDecide p giver r = some 1 := by simp only [noteDecide, h]

/-- A range of a giver under a reclaim that is not done is deferred; else the table decides (08 R264, R269). -/
theorem noteDecide_entry {h : Holding} (hh : holdAt p giver = some h) : noteDecide p giver r =
    if (h.fenced && h.open_) = true then none
    else if (!h.fenced && hasR r h.ranges && !h.taken.any (meetR r)) = true then some 0 else some 1 := by
  simp only [noteDecide, hh, Bool.and_eq_true, and_assoc]

theorem noteDecide_cases (p : Pkg) (giver : Nat) (r : TRange) :
    noteDecide p giver r = none ∨ noteDecide p giver r = some 0 ∨ noteDecide p giver r = some 1 := by
  cases hh : holdAt p giver with
  | none => exact .inr (.inr (noteDecide_absent hh))
  | some h =>
    rw [noteDecide_entry hh]
    split_ifs <;> simp

theorem noteAt_noVoice (hv : isVoice p = false) : noteAt src d p = p := if_pos (by rw [hv]; rfl)

theorem noteAt_undo (hv : isVoice p = true) (hu : be d 10 1 = 1) :
    noteAt src d p = noteRecord src (be d 8 2) (be d 0 8) (noteRange d) true p := by
  rw [noteAt, if_neg (by simp [hv])]
  exact if_pos hu

/-- A NOTE(add) is answered as the table decides (08 R264). -/
theorem noteAt_add (hv : isVoice p = true) (hu : be d 10 1 ≠ 1) :
    noteAt src d p = noteAnswer src d p (noteDecide p (be d 8 2) (noteRange d)) := by
  rw [noteAt, if_neg (by simp [hv])]
  exact if_neg hu

theorem noteAt_recorded (hv : isVoice p = true) (h : be d 10 1 = 1 ∨ noteDecide p (be d 8 2) (noteRange d) = some 0) :
    noteAt src d p = noteRecord src (be d 8 2) (be d 0 8) (noteRange d) (be d 10 1 == 1) p := by
  by_cases hu : be d 10 1 = 1
  · rw [noteAt_undo hv hu, hu]; rfl
  · rw [noteAt_add hv hu, h.resolve_left hu, beq_false_of_ne hu]; rfl

theorem noteAt_refused (hv : isVoice p = true) (hu : be d 10 1 ≠ 1) (h : noteDecide p (be d 8 2) (noteRange d) = some (st + 1)) :
    noteAt src d p = noteReply src (be d 0 8) (st + 1) p := by rw [noteAt_add hv hu, h]; rfl

theorem noteAt_deferred (hv : isVoice p = true) (hu : be d 10 1 ≠ 1) (h : noteDecide p (be d 8 2) (noteRange d) = none) :
    noteAt src d p = noteDefer src (be d 8 2) (be d 0 8) (noteRange d) p := by rw [noteAt_add hv hu, h]; rfl

end

/-! ### A deferred answer (08 R264) -/

/-- A deferred answer is no longer owed (08 R264). -/
def undeferred (x : Deferred) (p : Pkg) : Pkg :=
  { p with ldg := { p.ldg with defer_ := p.ldg.defer_.filter (fun y => y.id != x.id) } }

section
variable {id : Nat} {x : Deferred} {p : Pkg}

theorem noteTimeout_same (h : ∀ x, p.ldg.defer_.find? (fun x => x.id == id) = some x → due p x.due = false) :
    noteTimeout id p = p := by
  unfold noteTimeout
  split
  next x hx => exact if_neg (ne_true_of_eq_false (h x hx))
  next => rfl

theorem noteTimeout_due (hx : p.ldg.defer_.find? (fun x => x.id == id) = some x) (hd : due p x.due = true) :
    noteTimeout id p = noteLate x p := by simp only [noteTimeout, hx, if_pos hd]

theorem noteLate_recorded (h : noteDecide p x.giver x.range = some 0) :
    noteLate x p = noteRecord x.src x.giver x.id x.range false (undeferred x p) := by
  simp only [noteLate, h, Option.getD_some]; rfl

/-- What the table does not show, and what is still deferred, is refused. -/
theorem noteLate_refused (h : noteDecide p x.giver x.range ≠ some 0) : noteLate x p = noteReply x.src x.id 1 (undeferred x p) := by
  have h1 : (noteDecide p x.giver x.range).getD 1 = 1 := by
    rcases noteDecide_cases p x.giver x.range with hd | hd | hd
    · rw [hd]; rfl
    · exact absurd hd h
    · rw [hd]; rfl
  simp only [noteLate, h1]; rfl

end

/-! ### NOTE_ACK at the receiver (08 R264) -/

/-- A transfer in with the answer of one more voice (08 R264). -/
def answered (voice st : Nat) (x : XferIn) : XferIn :=
  if st = 0 then { x with oks := voice :: x.oks } else { x with nos := voice :: x.nos }

section
variable {voice id st : Nat} {x : XferIn} {p : Pkg}

theorem noteAck_unknown (h : p.ldg.nv.ins.find? (fun x => x.id == id) = none) : noteAck voice id st p = p := by
  simp only [noteAck, h]

section
variable (h : p.ldg.nv.ins.find? (fun x => x.id == id) = some x)
include h

theorem noteAck_twice (hs : x.st = .pending) (hv : voice ∈ x.oks ∨ voice ∈ x.nos) : noteAck voice id st p = p := by
  simp only [noteAck, h, hs]
  exact if_pos (by simpa using hv)

theorem noteAck_counted (hs : x.st = .pending) (ho : voice ∉ x.oks) (hn : voice ∉ x.nos) :
    noteAck voice id st p = inDecide (answered voice st x) (putIn (answered voice st x) p) := by
  simp only [noteAck, h]
  split
  next => exact if_neg (by simp [ho, hn])
  next ha => rw [hs] at ha; cases ha
  next hp _ => exact absurd hs hp

theorem noteAck_undoRefused (hs : x.st = .aborted) (hst : st ≠ 0) : noteAck voice id st p = p := by
  simp only [noteAck, h, hs, if_pos hst]

theorem noteAck_undone (hs : x.st = .aborted) (hst : st = 0) (hv : voice ∈ x.oks) : noteAck voice id st p =
    putIn { x with oks := x.oks.filter (fun v => v != voice), undo := !(x.oks.filter (fun v => v != voice)).isEmpty } p := by
  simp only [noteAck, h, hs, if_neg (not_not.2 hst), if_pos (List.contains_iff_mem.2 hv)]

theorem noteAck_late (hs : x.st = .aborted) (hst : st = 0) (hv : voice ∉ x.oks) : noteAck voice id st p =
    sendUndo x [voice] (putIn { x with oks := voice :: x.oks, undo := true } p) := by
  simp only [noteAck, h, hs, if_neg (not_not.2 hst), if_neg (List.contains_iff_mem.not.2 hv)]

theorem noteAck_ended (hp : x.st ≠ .pending) (ha : x.st ≠ .aborted) : noteAck voice id st p = p := by
  simp only [noteAck, h]

end

theorem inDecide_held (h : quorum p ≤ x.oks.length) : inDecide x p = journalXfer x.id x.src x.range false 3 (.held x.id) p :=
  if_pos h

theorem inDecide_aborted (ho : x.oks.length < quorum p) (hn : pairs p - quorum p < x.nos.length) :
    inDecide x p = journalXfer x.id x.src x.range false 5 (.aborted x.id) p := by
  rw [inDecide, if_neg (not_le.2 ho), if_pos hn]

theorem inDecide_open (ho : x.oks.length < quorum p) (hn : x.nos.length ≤ pairs p - quorum p) : inDecide x p = p := by
  rw [inDecide, if_neg (not_le.2 ho), if_neg (not_lt.2 hn)]

end

end Sys2Proof.Machine

open Sys2Proof Sys2Proof.Machine

/-- Settles O52: PREPARE by what the module knows of the transfer, NOTE by what the table decides, NOTE_ACK by the state of the
transfer. -/
theorem transfersAreJournaledBeforeTheyAreAnswered : Obligations.TransfersAreJournaledBeforeTheyAreAnswered := by
  intro s
  refine ⟨fun m => ?prepare, fun ver r q => ⟨prepareBad_fenced, prepareBad_unjoined,
      fun hj hm => (prepareBad_joined hj).trans (if_pos hm), fun hj hm => (prepareBad_joined hj).trans (if_neg (not_not.2 hm))⟩,
    fun id => ⟨fun h => run1_same (prepareAgain_same h), fun x hx h => does_of (prepareAgain_due hx h)⟩, fun m => ?note,
    fun q giver r => ⟨noteDecide_absent, fun h hh => noteDecide_entry hh⟩, fun id => ?late, fun m => ?ack,
    fun x q => ⟨inDecide_held, inDecide_aborted, inDecide_open⟩⟩
  case prepare =>
    have hc : exec (.prepare m) s = run1 (ldgTake 0x10 m prepareAt) s := rfl
    refine ⟨message_dropped hc, fun x ht hx => ⟨fun hs => does_message hc ht (prepareAt_pending hx hs),
      fun hs => does_message hc ht (prepareAt_decided hx hs)⟩, fun ht hx => ⟨fun hw => does_message hc ht (prepareAt_stale hx hw),
      fun hw hb => does_message hc ht (prepareAt_blocked hx hw hb), fun hw hb => ?_⟩⟩
    have hq := prepareAt_new (ver := be m 8 4) (p := heardFrom m s.m) hx hw hb
    exact ⟨fun h => does_message hc ht (hq.trans (if_pos h)), fun h => does_message hc ht (hq.trans (if_neg (not_not.2 h)))⟩
  case note =>
    have hc : exec (.note m) s = run1 (ldgTake 0x12 m fun src _ d => noteAt src d) s := rfl
    exact ⟨message_dropped hc, fun ht hv => does_message hc ht (noteAt_noVoice hv), fun ht hv =>
      ⟨fun h => does_message hc ht (noteAt_recorded hv h), fun st hu h => does_message hc ht (noteAt_refused hv hu h),
        fun hu h => does_message hc ht (noteAt_deferred hv hu h)⟩⟩
  case late =>
    have hc : exec (.noteDeferTimeout id) s = run1 (fun p => ledgerSettle (noteTimeout id p)) s := rfl
    exact ⟨fun h => does_settled hc (noteTimeout_same h), fun x hx hd =>
      ⟨fun h => does_settled hc ((noteTimeout_due hx hd).trans (noteLate_recorded h)),
        fun h => does_settled hc ((noteTimeout_due hx hd).trans (noteLate_refused h))⟩⟩
  case ack =>
    have hc : exec (.noteAck m) s = run1 (ldgTake 0x13 m fun src _ d => noteAck src (be d 0 8) (be d 8 1)) s := rfl
    exact ⟨message_dropped hc, fun ht hx => does_message hc ht (noteAck_unknown hx), fun x ht hx =>
      ⟨fun hs hv => does_message hc ht (noteAck_twice hx hs hv), fun hs ho hn => does_message hc ht (noteAck_counted hx hs ho hn),
        fun hs hst => does_message hc ht (noteAck_undoRefused hx hs hst),
        fun hs hst hv => does_message hc ht (noteAck_undone hx hs hst hv),
        fun hs hst hv => does_message hc ht (noteAck_late hx hs hst hv),
        fun hp ha => does_message hc ht (noteAck_ended hx hp ha)⟩⟩
end

section
/-!
The ledger cycle, leases and summaries (08 R247, R256 to R258, R266, R271, R277; O51).
-/

namespace Sys2Proof.Machine

/-! ### The ledger cycle (08 R266, R267) -/

section
variable {p : Pkg}

theorem ledgerBoundary_same (h : p.sys.ldgDue = false) : ledgerBoundary p = p := if_pos (by rw [h]; rfl)

theorem ledgerBoundary_due (h : p.sys.ldgDue = true) : ledgerBoundary p = acquireWaiting (ledgerSettle (ledgerCycle
    { p with sys := { p.sys with ldgDue := false, ldgCycles := p.sys.ldgCycles + 1 }, ldg := { p.ldg with temp := tempFor p } })) :=
  if_neg (by rw [h]; decide)

theorem ledgerCycle_idle (h : awake p = false ∨ p.ldg.nv.map_ = none ∨ p.ldg.nv.st = .unjoined ∨ p.ldg.nv.st = .left_) :
    ledgerCycle p = p := if_pos (by simpa using h)

end

/-! ### Lease requests (08 R256, R275) -/

/-- A module is at its own instant of the 100 ms, with no request sent yet (08 R256). -/
def AsksLease (p : Pkg) : Prop :=
  awake p = true ∧ p.ldg.nv.map_ ≠ none ∧ p.tim.now / 1000000 % 100 = nodeAddr p % 100 ∧
    ∀ r ∈ p.ldg.reqs, r.at_ / 1000000 ≠ p.tim.now / 1000000

/-- A request of an older map, once the time in which it is accepted is over (08 R247). -/
def StaleMap (ver : Nat) (p : Pkg) : Prop := p.ldg.nv.graceTo = none ∧ ver < (p.ldg.nv.map_.map (·.ver)).getD 0

/-- A voice's answer to a lease request (08 R256, R280). -/
def leaseReply (src : Nat) (d : List Byte) (st : Nat) (rs : List TRange) (p : Pkg) : Pkg :=
  ldgSend 0x21 src (toBe 4 (be d 0 4) ++ [byte st, byte rs.length, 0, 0] ++ (rs.map (rangeBytes false)).flatten) p

section
variable {src ver : Nat} {d : List Byte} {p : Pkg}

theorem leaseInstant_iff : leaseInstant p = true ↔ p.tim.now / 1000000 % 100 = nodeAddr p % 100 ∧
    ∀ r ∈ p.ldg.reqs, r.at_ / 1000000 ≠ p.tim.now / 1000000 := by
  simp [leaseInstant]

theorem asksLease_iff : (!awake p ∨ p.ldg.nv.map_.isNone ∨ !leaseInstant p) ↔ ¬AsksLease p := by
  simp only [AsksLease, ← leaseInstant_iff, not_and_or, not_not, Bool.not_eq_true, Bool.not_eq_true', Option.isNone_iff_eq_none,
    ne_eq]

theorem leaseSend_same (h : ¬AsksLease p ∨ p.ldg.nv.st = .unjoined ∨ p.ldg.nv.st = .left_) : leaseSend p = p := by
  unfold leaseSend
  split_ifs with ha
  · rfl
  · rcases h.resolve_left (asksLease_iff.not.1 ha) with h | h <;> rw [h]

theorem leaseSend_joins (h : AsksLease p) (hj : p.ldg.nv.st = .joining) :
    leaseSend p = joinAt (nodeAddr p) (toVoices 0x50 (toBe 4 0) p) := by
  rw [leaseSend, if_neg (asksLease_iff.not.2 (not_not.2 h)), hj]
  rfl

theorem leaseSend_asks (h : AsksLease p) (hu : p.ldg.nv.st ≠ .unjoined) (hl : p.ldg.nv.st ≠ .left_) (hj : p.ldg.nv.st ≠ .joining) :
    leaseSend p =
      let id := (p.ldg.reqCtr + 1) % 2 ^ 32
      ownGrant ((p.ldg.nv.map_.map (·.ver)).getD 0) id
        (toVoices 0x20 (toBe 4 id ++ toBe 4 (heldTok p) ++ toBe 4 (countR (floorR p)) ++ toBe 4 p.ldg.temp)
          { p with ldg := { p.ldg with reqCtr := id, reqs := cap 8 ({ id := id, at_ := p.tim.now, clk := p.clk } :: p.ldg.reqs) } }) := by
  rw [leaseSend, if_neg (asksLease_iff.not.2 (not_not.2 h))]
  cases hs : p.ldg.nv.st with
  | unjoined => exact absurd hs hu
  | left_ => exact absurd hs hl
  | joining => exact absurd hs hj
  | _ => rfl

/-! ### The answer of a voice (08 R247, R256, R271) -/

theorem leaseReqAt_noVoice (hv : isVoice p = false) : leaseReqAt src ver d p = p := by simp [leaseReqAt, leaseAnswer, hv]

section
variable (hv : isVoice p = true)
include hv

theorem leaseReqAt_fenced (hf : ((holdAt p src).getD {}).fenced = true) :
    leaseReqAt src ver d p = leaseReply src d 2 ((holdAt p src).getD {}).taken p := by
  simp [leaseReqAt, leaseAnswer, leaseReply, hv, hf]

theorem leaseReqAt_stranger (hf : ((holdAt p src).getD {}).fenced = false) (hm : ¬(mapMods p).any (fun x => x.node == src) = true) :
    leaseReqAt src ver d p = leaseReply src d 3 [] p := by
  simp [leaseReqAt, leaseAnswer, leaseReply, hv, hf, eq_false_of_ne_true hm]

theorem leaseReqAt_stale (hf : ((holdAt p src).getD {}).fenced = false) (hm : (mapMods p).any (fun x => x.node == src) = true)
    (ho : StaleMap ver p) : leaseReqAt src ver d p = leaseReply src d 4 [] p := by
  simp [leaseReqAt, leaseAnswer, leaseReply, hv, hf, hm, ho.1, ho.2]

theorem leaseReqAt_granted (hf : ((holdAt p src).getD {}).fenced = false) (hm : (mapMods p).any (fun x => x.node == src) = true)
    (ho : ¬StaleMap ver p) : leaseReqAt src ver d p = leaseReply src d 0 []
      (updHold src (fun h => { h with granted := some p.clk, grantAt := p.tim.now }) (enterHold src p)) := by
  have hd : (p.ldg.nv.graceTo.isNone && decide (ver < (p.ldg.nv.map_.map (·.ver)).getD 0)) = false := by
    simpa [StaleMap] using ho
  simp only [leaseReqAt, leaseAnswer, leaseReply, hv, hf, hm, hd]
  rfl

end

end

/-! ### Grants at the module that asked (08 R257, R261, R271, R277) -/

/-- A lease request with the grant of one more voice: whether the voices are then a quorum (08 R257). -/
def fullWith (r : LeaseReq) (p : Pkg) : Bool := decide (r.grants.length + 1 ≥ quorum p)

/-- The grant of a voice counted in its request (08 R257). -/
def grantCounted (src id : Nat) (r : LeaseReq) (p : Pkg) : Pkg :=
  let r1 := { r with grants := src :: r.grants, done := fullWith r p }
  { p with ldg := { p.ldg with reqs := p.ldg.reqs.map (fun x => if x.id = id then r1 else x) } }

/-- The end of a lease that a request renews (08 R257). -/
def leaseEnd (r : LeaseReq) (p : Pkg) : Nat := max (r.at_ + 500000000) (p.ldg.leaseTo.getD 0)

/-- The lease that a quorum gives: its end, and what its instant ends (08 R257, R258, R271). -/
def leased (r : LeaseReq) (p : Pkg) : Pkg :=
  { p with ldg := { p.ldg with leaseTo := some (leaseEnd r p), granted := some r.clk, everQ := true
                               low := p.ldg.low && !decide (p.tim.now < leaseEnd r p)
                               nv := { p.ldg.nv with st := if p.ldg.nv.st = .fenced then .joined else p.ldg.nv.st } } }

section
variable {src id st : Nat} {rs : List TRange} {r : LeaseReq} {p : Pkg}

theorem grantAt_unknown (h : p.ldg.reqs.find? (fun r => r.id == id) = none) : grantAt src id st rs p = p := by
  simp only [grantAt, h]

section
variable (h : p.ldg.reqs.find? (fun r => r.id == id) = some r)
include h

theorem grantAt_fenced (hs : st = 2) (hm : p.ldg.nv.st ∈ [.joined, .fenced, .leaving]) : grantAt src id st rs p = fencedAt rs p := by
  simp only [grantAt, h, if_pos hs, if_pos (List.contains_iff_mem.2 hm)]

theorem grantAt_fencedOther (hs : st = 2) (hm : p.ldg.nv.st ∉ [.joined, .fenced, .leaving]) : grantAt src id st rs p = p := by
  simp only [grantAt, h, if_pos hs, if_neg (List.contains_iff_mem.not.2 hm)]

theorem grantAt_expelled (hs : st = 3) : grantAt src id st rs p = expelled p := by
  subst hs; simp [grantAt, h]

theorem grantAt_mapOld (hs : st = 4) : grantAt src id st rs p = ldgEvt (fun e => { e with mapOld := true }) p := by
  subst hs; simp [grantAt, h]

/-- A status that no table of the chapter gives is ignored. -/
theorem grantAt_other (hs : 4 < st ∨ st = 1) : grantAt src id st rs p = p := by
  simp only [grantAt, h]
  rw [if_neg (by omega), if_neg (by omega), if_neg (by omega), if_pos (.inl (by omega))]

/-- A grant of one that is no voice, or that has granted already, is not counted (08 R257). -/
theorem grantAt_uncounted (hs : st = 0) (hc : ¬(src ∉ r.grants ∧ src ∈ voices p)) : grantAt src id st rs p = p := by
  simp only [grantAt, h]
  rw [if_neg (by omega), if_neg (by omega), if_neg (by omega)]
  refine if_pos (.inr ?_)
  rcases not_and_or.1 hc with hg | hv
  · exact .inl (List.contains_iff_mem.2 (not_not.1 hg))
  · exact .inr (by simpa using hv)

/-- A voice's grant is counted, and the one that makes a quorum gives the lease (08 R257, R261). -/
theorem grantAt_counted (hs : st = 0) (hc : src ∉ r.grants ∧ src ∈ voices p) : grantAt src id st rs p =
    if r.done = true ∨ (!fullWith r p) = true then grantCounted src id r p
    else if decide (p.tim.now < leaseEnd r p) = true then unIsolate (leased r (grantCounted src id r p))
    else leased r (grantCounted src id r p) := by
  simp only [grantAt, h]
  rw [if_neg (by omega), if_neg (by omega), if_neg (by omega), if_neg (by simp [hs, hc])]
  rfl

theorem grantAt_gathers (hs : st = 0) (hc : src ∉ r.grants ∧ src ∈ voices p) (hf : r.done = true ∨ fullWith r p = false) :
    grantAt src id st rs p = grantCounted src id r p := by
  rw [grantAt_counted h hs hc, if_pos (by simpa using hf)]

theorem grantAt_leases (hs : st = 0) (hc : src ∉ r.grants ∧ src ∈ voices p) (hd : r.done = false) (hf : fullWith r p = true) :
    grantAt src id st rs p = if p.tim.now < leaseEnd r p then unIsolate (leased r (grantCounted src id r p))
      else leased r (grantCounted src id r p) := by
  rw [grantAt_counted h hs hc, if_neg (by simp [hd, hf])]
  simp only [decide_eq_true_eq]

end

end

/-! ### The times of a lease (08 R257, R258, 02 R65) -/

/-- A request has fewer than a quorum of grants 20 ms after it was sent, for the first time (08 R257). -/
def lateReq (p : Pkg) (r : LeaseReq) : Bool := !r.done && !r.late && due p (r.clk + 20000000)

/-- A lease at its end (08 R258). -/
def leaseOver (p : Pkg) : Pkg :=
  { p with ldg := { p.ldg with leaseTo := none, low := true, evt := { p.ldg.evt with expired := true } }
           sys := { p.sys with leaseCyc := true } }

section
variable {t : Nat} {p : Pkg}

theorem renewLate_same (h : ∀ r ∈ p.ldg.reqs, lateReq p r = false) : renewLate p = p :=
  if_neg (by simpa [lateReq] using h)

theorem renewLate_marks (h : ∃ r ∈ p.ldg.reqs, lateReq p r = true) : renewLate p = ldgEvt (fun e => { e with renewLate := true })
    { p with ldg := { p.ldg with reqs := p.ldg.reqs.map (fun r => { r with late := r.late || lateReq p r }) } } :=
  if_pos (List.any_eq_true.2 h)

theorem leaseLow_none (h : p.ldg.leaseTo = none) : leaseLow p = p := by simp only [leaseLow, h]

theorem leaseLow_early (h : p.ldg.leaseTo = some t) (hd : dueSite p (t - 150000000) = false) : leaseLow p = p := by
  simp [leaseLow, h, hd]

theorem leaseLow_due (h : p.ldg.leaseTo = some t) (hd : dueSite p (t - 150000000) = true) :
    leaseLow p = { p with ldg := { p.ldg with low := true } } := by simp only [leaseLow, h, if_pos hd]

theorem leaseExpire_none (h : p.ldg.leaseTo = none) : leaseExpire p = p := by simp only [leaseExpire, h]

theorem leaseExpire_early (h : p.ldg.leaseTo = some t) (hd : dueSite p t = false) : leaseExpire p = p := by
  simp [leaseExpire, h, hd]

theorem leaseExpire_due (h : p.ldg.leaseTo = some t) (hd : dueSite p t = true) : leaseExpire p = isolate (leaseOver p) := by
  simp only [leaseExpire, h, if_pos hd]
  rfl

theorem isolate_owed (h : inMode p [.idle, .armed, .deliver, .derate] = false) :
    isolate p = { p with sys := { p.sys with leaseOwed := true } } := if_neg (ne_true_of_eq_false h)

theorem isolate_now (h : inMode p [.idle, .armed, .deliver, .derate] = true) : isolate p =
    (List.range 4).foldl (fun p r => if p.ldg.floorUse.getD r false then p else endSession r 0xB p)
      { setMode .isolated p with sys := { (setMode .isolated p).sys with
          armUntil := none, leaseWait := none, leaseOwed := false, freeCycles := 0 } } := if_pos h

end

end Sys2Proof.Machine

open Sys2Proof Sys2Proof.Machine

/-- Settles O51: messages by what they come to once their sender has been heard, timers by whether they are due. -/
theorem leasesAreAskedGrantedAndLost : Obligations.LeasesAreAskedGrantedAndLost := by
  intro s
  refine ⟨fun h => run1_same (ledgerBoundary_same h), fun h => does_of (ledgerBoundary_due h), fun q => ledgerCycle_idle,
    fun q m ha hm hu hl => ?cycle, ?send, fun m => ?request, fun m => ?grant,
    ⟨fun h => run1_same (renewLate_same h), fun h => does_of (renewLate_marks h)⟩,
    fun h => ⟨run1_same (leaseLow_none h), run1_same (leaseExpire_none h)⟩,
    fun t ht => ⟨fun hd => does_of (leaseLow_due ht hd), fun hd => run1_same (leaseLow_early ht hd),
      fun hd => run1_same (leaseExpire_early ht hd), fun hd =>
        ⟨fun hm => does_of ((leaseExpire_due ht hd).trans (isolate_owed (p := leaseOver s.m) hm)),
          fun hm => does_of ((leaseExpire_due ht hd).trans (isolate_now (p := leaseOver s.m) hm))⟩⟩,
    fun m => ?summary⟩
  case cycle =>
    rw [ledgerCycle, if_neg (by simp [ha, hm, hu, hl]), hm]
    rfl
  case send =>
    have hc : exec .leaseRequestSend s = run1 (fun p => ledgerSettle (leaseSend p)) s := rfl
    exact ⟨fun h => does_settled hc (leaseSend_same h), fun h hj => does_settled hc (leaseSend_joins h hj),
      fun h hu hl hj => does_settled hc (leaseSend_asks h hu hl hj)⟩
  case request =>
    have hc : exec (.leaseReq m) s = run1 (ldgTake 0x20 m leaseReqAt) s := rfl
    exact ⟨message_dropped hc, fun ht => ⟨fun hv => does_message hc ht (leaseReqAt_noVoice hv),
      fun hv hf => does_message hc ht (leaseReqAt_fenced hv hf), fun hv hf hm => does_message hc ht (leaseReqAt_stranger hv hf hm),
      fun hv hf hm ho => does_message hc ht (leaseReqAt_stale hv hf hm ho),
      fun hv hf hm ho => does_message hc ht (leaseReqAt_granted hv hf hm ho)⟩⟩
  case grant =>
    have hc : exec (.leaseGrant m) s = run1 (ldgTake 0x21 m fun src _ d =>
      grantAt src (be d 0 4) (be d 4 1) ((rangesAt d 8 (be d 5 1)).map (·.1))) s := rfl
    exact ⟨message_dropped hc, fun ht hr => does_message hc ht (grantAt_unknown hr), fun r ht hr =>
      ⟨fun hs hm => does_message hc ht (grantAt_fenced hr hs hm), fun hs hm => does_message hc ht (grantAt_fencedOther hr hs hm),
        fun hs => does_message hc ht (grantAt_expelled hr hs), fun hs => does_message hc ht (grantAt_mapOld hr hs),
        fun hs => does_message hc ht (grantAt_other hr hs), fun hs hn => does_message hc ht (grantAt_uncounted hr hs hn),
        fun hs hn hf => does_message hc ht (grantAt_gathers hr hs hn hf),
        fun hs hn hd hf => does_message hc ht (grantAt_leases hr hs hn hd hf)⟩⟩
  case summary =>
    have hc : exec (.summary m) s = run1 (ldgTake 0x30 m fun src _ d => summaryAt src d) s := rfl
    exact ⟨message_dropped hc, fun ht => does_message hc ht rfl⟩
end

section
/-!
Metering (09 R285 to R315): calibration banks, pulse outputs, the journal, samples, integration intervals, RMS windows and
the views of the accumulators (O46, O47, O55).
-/

namespace Sys2Proof.Machine

/-! ### Calibration burns (09 R289 to R292) -/

section
variable {b : CalBank} {p : Pkg}

/-- A burn may start: in life-cycle SERVICE, with none in progress, a bank free and NV writes allowed (09 R289). -/
abbrev MayBurn (p : Pkg) : Prop := lcOf p = .service ∧ p.mtr.burn = none ∧ p.mtr.banks.length < 8 ∧ p.mtr.nvBlock = false

theorem applyCalBurn_starts (h : MayBurn p) : applyCalBurn p = { p with mtr := { p.mtr with burn := some (stagedBank p) } } := by
  obtain ⟨hl, hb, hf, hn⟩ := h
  rw [applyCalBurn, if_pos hl, startBurn, if_neg (by simp [hb, bankFull, hf, hn])]

theorem applyCalBurn_same (h : ¬MayBurn p) : applyCalBurn p = p := by
  by_cases hl : lcOf p = .service
  · have hbusy : p.mtr.burn.isSome = true ∨ bankFull p = true ∨ p.mtr.nvBlock = true := by
      by_contra hc
      simp only [not_or, bankFull, decide_eq_true_eq, not_le, Bool.not_eq_true, Option.isSome_eq_false_iff,
        Option.isNone_iff_eq_none] at hc
      exact h ⟨hl, hc⟩
    rw [applyCalBurn, if_pos hl, startBurn, if_pos hbusy]
  · exact if_neg hl

theorem calBurnt_none (ok : Bool) (h : p.mtr.burn = none) : calBurnt ok p = p := by simp only [calBurnt, h]

/-- The bank that was burning is used up, with whether its CRC verifies (09 R290, R291). -/
def burnEnded (b : CalBank) (ok : Bool) (p : Pkg) : Pkg :=
  { p with mtr := { p.mtr with burn := none, banks := p.mtr.banks ++ [(b, ok)] } }

theorem calBurnt_cut (h : p.mtr.burn = some b) : calBurnt false p = stageBank (burnEnded b false p) := by
  simp only [calBurnt, h]
  rfl

theorem calBurnt_done (h : p.mtr.burn = some b) : calBurnt true p =
    logBoth p.tim.now 5 0xFFFF 0 p.mtr.epoch 1 (validEpoch (p.mtr.banks ++ [(b, true)])) 1 allRegions
      (mtrEvt (fun e => { e with calBurnt := true }) (burnEnded b true p)) := by
  simp only [calBurnt, h]
  rfl

end

/-! ### Pulse outputs (09 R313, R314) -/

section
variable {k v : Nat} {p : Pkg}

/-- A pulse output configured so would give too many pulses at the meter's P_MAX (09 R314). -/
abbrev PulsesTooFast (p : Pkg) (v : Nat) : Prop := fld v 16 0 * pMax p (fld v 29 27) > 100000 * 3600

theorem pulseOk_iff : pulseOk p v = true ↔
    fld v 29 27 ≤ 5 ∧ fld v 26 24 ≤ 5 ∧ 1 ≤ fld v 16 0 ∧ fld v 16 0 ≤ 100000 ∧ ¬PulsesTooFast p v := by
  simp only [pulseOk, inR, Bool.and_eq_true, decide_eq_true_eq, not_lt, and_assoc]

theorem applyPulse_taken (h : pulseOk p v = true) : applyPulse k v p =
    { p with mtr := { p.mtr with pulse := upd p.mtr.pulse k (fun u =>
      { u with en := tb v 31, trial := tb v 30, meter := fld v 29 27, qty := fld v 26 24, k := fld v 16 0, carry := 0 }) } } :=
  if_neg (by simp [h])

theorem applyPulse_refused (h : ¬pulseOk p v = true) : applyPulse k v p =
    mtrEvt (fun e => { e with pulseLim := e.pulseLim || decide (PulsesTooFast p v) }) p :=
  if_pos (by simpa using h)

end

/-! ### The journal and the final save (09 R306, R308, R309) -/

section
variable {m : Nat} {ok : Bool} {r : MtrRecord} {l : List MtrRecord} {p : Pkg}

theorem journalRecord_same (h : (mtAt p m).sent = [] ∨ p.mtr.nvBlock = true ∧ ok = true) : journalRecord m ok p = p := by
  cases hs : (mtAt p m).sent with
  | nil => simp only [journalRecord, hs]
  | cons r l => simp only [journalRecord, hs, if_pos (h.resolve_left (by simp [hs]))]

/-- The oldest record sent is written to slot SEQ mod 64, and a late one counted (09 R306, R308). -/
theorem journalRecord_written (hs : (mtAt p m).sent = r :: l) (h : p.mtr.nvBlock = false ∨ ok = false) : journalRecord m ok p =
    (let q := writeSlot m { r with ok := ok } (updMt m (fun x => { x with sent := l }) p)
     { q with mtr := { q.mtr with late := if p.clk > r.clk + 2000000 then inc8 p.mtr.late else p.mtr.late } }) := by
  simp only [journalRecord, hs]
  rw [if_neg fun ⟨hn, hk⟩ => h.elim (ne_false_of_eq_true hn) (ne_false_of_eq_true hk)]
  rfl

/-- A save writes its records: it has been asked for, NV writes are allowed, and metering runs (09 R309). -/
abbrev Saving (p : Pkg) : Prop := (p.mtr.save = .running ∨ p.mtr.save = .writing) ∧ p.mtr.nvBlock = false ∧ metering p = true

/-- The condition under which `finalSave` leaves the package. -/
theorem not_saving_iff : (!(decide (p.mtr.save = .running ∨ p.mtr.save = .writing))) = true ∨ p.mtr.nvBlock = true ∨ (!metering p) = true ↔
    ¬Saving p := by
  simp only [Saving, not_and_or, Bool.not_eq_true', Bool.not_eq_false, decide_eq_false_iff_not, Bool.not_eq_true]

end

/-! ### Lost phases (09 R301) -/

/-- A phase has had no crossing for 40 ms, for the first time (09 R301). -/
abbrev PhaseMissing (x : PhaseTrk) (p : Pkg) : Prop :=
  metering p = true ∧ x.lost = false ∧ ∃ w, x.seen = some w ∧ due p (w + 40000000) = true

/-- The condition under which `phaseLost` leaves the package. -/
theorem not_phaseMissing_iff {x : PhaseTrk} {p : Pkg} :
    (!metering p) = true ∨ x.lost = true ∨ (!x.seen.any (fun t => due p (t + 40000000))) = true ↔ ¬PhaseMissing x p := by
  simp only [PhaseMissing, not_and_or, Bool.not_eq_true', Bool.not_eq_false, Bool.not_eq_true,
    ← Option.any_eq_true (fun t => due p (t + 40000000))]

theorem phaseLost_same {a k : Nat} {p : Pkg} (h : ¬PhaseMissing ((mtAt p (4 + a)).ph.getD k {}) p) : phaseLost a k p = p :=
  if_pos (not_phaseMissing_iff.2 h)

theorem phaseLost_marks {a k : Nat} {p : Pkg} (h : PhaseMissing ((mtAt p (4 + a)).ph.getD k {}) p) : phaseLost a k p =
    mtrEvt (fun e => { e with phaseLost := true })
      (setFreq (4 + a) (updMt (4 + a) (fun z => { z with ph := upd z.ph k (fun y => { y with lost := true }) }) p)) :=
  if_neg (not_phaseMissing_iff.not.2 (not_not.2 h))

/-! ### Energy into the accumulators (09 R298, R299) -/

@[simp] theorem energyOf_zero (p : Pkg) : energyOf p 0 = 0 := by simp [energyOf]

@[simp] theorem root_zero : root 0 = 0 := List.foldl_fixed' (fun k => if_neg (by simp)) _

/-- An interval without energy adds nothing. -/
theorem receives_zero (p : Pkg) (m : Nat) : receives p m (0, 0) = List.replicate 6 0 := by
  cases h : isAc m <;> simp [receives, h]

/-- An interval's energy is added to the accumulators, the remainder is carried, and the sums start again; a meter that is not
there reads as one without energy. -/
theorem commitMeter_adds (m : Nat) (p : Pkg) :
    let x := mtAt p m
    let t := addTo x.acc x.frac (receives p m (x.eA, x.eR))
    let y := mtAt (commitMeter m p) m
    y.acc = t.1 ∧ y.frac = t.2 ∧ y.eA = 0 ∧ y.eR = 0 := by
  intro x t y
  by_cases h : m < p.mtr.meter.length
  · have hy : y = _ := upd_getD_same p.mtr.meter m _ {} h
    rw [hy]
    exact ⟨rfl, rfl, rfl, rfl⟩
  · have hx : x = {} := List.getD_eq_default _ _ (not_lt.1 h)
    have hy : y = {} := List.getD_eq_default _ _ ((upd_length _ _ _).trans_le (not_lt.1 h))
    have ht : t = addTo (List.replicate 6 0) (List.replicate 6 0) (List.replicate 6 0) := by
      simp only [t, hx, receives_zero]
    rw [hy, ht]
    decide

/-! ### RMS windows (09 R300) -/

theorem windowEnd_same {a : Nat} {groups : List Nat} {p : Pkg} (h : metering p = false ∨ windowDone p a = false) :
    windowEnd a groups p = p := if_pos (by simpa using h)

/-- The RMS value of a channel's window (09 R300). -/
def windowRms (c : MChan) : Nat := if c.wN = 0 then 0 else rootDiv c.wSq (c.wN * 2 ^ 182)

/-- The channels' RMS values and the harmonic groups at the end of a window. -/
theorem windowEnd_values {a : Nat} (groups : List Nat) {p : Pkg} (hm : metering p = true) (hd : windowDone p a = true) :
    (windowEnd a groups p).mtr.chan = mapI (fun c (x : MChan) => if inR (8 + 7 * a) (8 + 7 * a + 6) c = true then
        { x with value := windowRms x, ripple := 0, wSum := 0, wSq := 0, wN := 0 } else x) p.mtr.chan ∧
    (windowEnd a groups p).mtr.harm = mapI (fun i (v : Option Nat) => if i / 384 = a then
        (if refPhase p (4 + a) = none then none else some (groups.getD (i % 384) 0 % 2 ^ 32)) else v) p.mtr.harm := by
  rw [windowEnd, if_neg (by simp [hm, hd])]
  refine ⟨rfl, ?_⟩
  simp only [← Option.isNone_iff_eq_none]
  rfl

/-! ### Views (09 R303) -/

/-- The registers of the 32-bit views. -/
theorem meterRead_view (p : Pkg) (m : Nat) (j : Fin 6) :
    meterRead p m (0x38 + 4 * j.val) = (p.mtr.shown.getD m []).getD j.val 0 / 10 ^ 6 % 2 ^ 32 := by
  fin_cases j <;> rfl

end Sys2Proof.Machine

open Sys2Proof Sys2Proof.Machine

/-- Settles O46: each row by whether its condition holds. -/
theorem metersKeepTheirBanksJournalAndPulses : Obligations.MetersKeepTheirBanksJournalAndPulses := by
  intro s
  refine ⟨fun h => does_of (applyCalBurn_starts h), fun h => run1_same (applyCalBurn_same h),
    fun h _ => does_of (if_pos h), fun h _ => run1_same (if_neg h),
    fun h ok => run1_same (calBurnt_none ok h), fun b h => ⟨does_of (calBurnt_cut h), does_of (calBurnt_done h)⟩,
    fun k v => ⟨fun h => does_of (applyPulse_taken (pulseOk_iff.2 h)),
      fun h => does_of (applyPulse_refused (pulseOk_iff.not.2 h)), does_of rfl⟩,
    fun m ok => ⟨fun h => run1_same (journalRecord_same h), fun r l hs h => does_of (journalRecord_written hs h)⟩,
    ⟨fun h => run1_same (if_pos (not_saving_iff.2 h)), fun h => does_of (if_neg (not_saving_iff.not.2 (not_not.2 h)))⟩,
    fun a k => ⟨fun h => run1_same (phaseLost_same h), fun h => does_of (phaseLost_marks h)⟩⟩

/-- Settles O47: a sample and an interval by their guards, the accumulators by `commitMeter_adds`, a window by
`windowEnd_values`. -/
theorem samplesReachTheAccumulatorsAndTheRecords : Obligations.SamplesReachTheAccumulatorsAndTheRecords := by
  intro s
  refine ⟨fun h => ⟨fun _ _ _ => run1_same (if_pos (by simp [h])), fun _ _ => run1_same (windowEnd_same (.inl h))⟩,
    fun _ _ _ h => does_of (if_neg (by simp [h])),
    fun _ _ _ _ => ⟨rfl, rfl, rfl, rfl, rfl, rfl⟩,
    fun h => run1_same (if_pos h), fun h => does_of (if_neg (not_lt.2 h)),
    commitMeter_adds,
    fun _ _ h => run1_same (windowEnd_same (.inr h)),
    fun a groups hm hd => Does.runs (does_of (f := windowEnd a.val groups) rfl) (windowEnd_values groups hm hd)⟩

/-- Settles O55: the view is the accumulator in whole Wh, so 1 Wh more wraps its largest value to 0. -/
theorem accumulatorViewsReadInWattHours : Obligations.AccumulatorViewsReadInWattHours := by
  intro p m j a
  have hv : meterRead p m.val (0x38 + 4 * j.val) = a / 10 ^ 6 % 2 ^ 32 := meterRead_view p m.val j
  refine ⟨hv, fun hmax p' ha => ?_⟩
  rw [hv] at hmax
  rw [meterRead_view, ha]
  omega
end

section
/-!
Billing boundaries and the power-fail record (10 R317 to R333; O48).
-/

namespace Sys2Proof.Machine

/-! ### The next boundary (10 R328) -/

/-- The boundaries that are placed next, with their kinds, in the order in which they are taken at one instant (10 R328). -/
def placedBoundaries (p : Pkg) : List (Nat × Nat) :=
  ([if p.bil.timeHold then none else nextDemand p, if p.bil.timeHold then none else nextClose p,
    p.bil.passive.map (fun c => max c.act p.bil.demT)].zipIdx).filterMap (fun x => x.1.map (fun t => (t, x.2)))

/-- The earlier of a boundary and one listed after it, if not later than a site time; of two at one instant the first. -/
def earlier (lim : Nat) (b : Option (Nat × Nat)) (x : Nat × Nat) : Option (Nat × Nat) :=
  if x.1 > lim then b else match b with
    | none => some x
    | some y => if x.1 < y.1 then some x else some y

theorem nextDue_eq (p : Pkg) (lim : Nat) : nextDue p lim = (placedBoundaries p).foldl (earlier lim) none := rfl

/-- A boundary of a list that no other precedes, by time and then by kind; or none, where all are later than a site time. -/
def IsEarliest (lim : Nat) (l : List (Nat × Nat)) : Option (Nat × Nat) → Prop
  | none => ∀ z ∈ l, lim < z.1
  | some y => y ∈ l ∧ y.1 ≤ lim ∧ ∀ z ∈ l, y.1 < z.1 ∨ y.1 = z.1 ∧ y.2 ≤ z.2

theorem isEarliest_earlier {lim : Nat} {l : List (Nat × Nat)} {a : Nat × Nat} {b : Option (Nat × Nat)} (h : IsEarliest lim l b)
    (ha : ∀ z ∈ l, z.2 ≤ a.2) : IsEarliest lim (l ++ [a]) (earlier lim b a) := by
  unfold earlier
  split
  next hlate =>
    cases b with
    | none => exact List.forall_mem_append.2 ⟨h, by simpa using hlate⟩
    | some y =>
      obtain ⟨hy, hlim, hz⟩ := h
      exact ⟨List.mem_append_left _ hy, hlim, List.forall_mem_append.2 ⟨hz, by simpa using .inl (hlim.trans_lt hlate)⟩⟩
  next hdue =>
    cases b with
    | none => exact ⟨by simp, not_lt.1 hdue, List.forall_mem_append.2 ⟨fun z hz => .inl ((not_lt.1 hdue).trans_lt (h z hz)), by simp⟩⟩
    | some y =>
      obtain ⟨hy, hlim, hz⟩ := h
      dsimp only
      split
      next hlt =>
        refine ⟨by simp, not_lt.1 hdue, List.forall_mem_append.2 ⟨fun z hzl => .inl ?_, by simp⟩⟩
        have := hz z hzl
        omega
      next hge =>
        refine ⟨List.mem_append_left _ hy, hlim, List.forall_mem_append.2 ⟨hz, ?_⟩⟩
        have := ha y hy
        simp only [List.mem_singleton, forall_eq]
        omega

/-- Of boundaries listed by kind, the search finds the earliest. -/
theorem foldl_earlier_isEarliest (lim : Nat) {l : List (Nat × Nat)} (hl : l.Pairwise (fun x y => x.2 ≤ y.2)) :
    IsEarliest lim l (l.foldl (earlier lim) none) := by
  induction l using List.reverseRecOn with
  | nil => exact fun _ h => absurd h List.not_mem_nil
  | append_singleton l a ih =>
    obtain ⟨hl, -, ha⟩ := List.pairwise_append.1 hl
    rw [List.foldl_append]
    exact isEarliest_earlier (ih hl) fun z hz => ha z hz a (by simp)

theorem placedBoundaries_byKind (p : Pkg) : (placedBoundaries p).Pairwise (fun x y => x.2 ≤ y.2) := by
  refine List.Pairwise.filterMap _ (R := fun x y => x.2 ≤ y.2) (fun x y hxy b hb c hc => ?_) (by simp)
  obtain ⟨t, -, rfl⟩ := Option.map_eq_some_iff.1 hb
  obtain ⟨u, -, rfl⟩ := Option.map_eq_some_iff.1 hc
  exact hxy

/-- A boundary of a kind is placed next at an instant: a close outside the hold of 10 R331, or an activation. -/
abbrev PlacesNext (p : Pkg) (i y : Nat) : Prop :=
  (i = 0 ∧ p.bil.timeHold = false ∧ nextDemand p = some y) ∨ (i = 1 ∧ p.bil.timeHold = false ∧ nextClose p = some y) ∨
    (i = 2 ∧ ∃ c, p.bil.passive = some c ∧ y = max c.act p.bil.demT)

theorem mem_placedBoundaries {p : Pkg} {i y : Nat} : (y, i) ∈ placedBoundaries p ↔ PlacesNext p i y := by
  simp only [placedBoundaries, List.zipIdx_cons, List.zipIdx_nil, List.mem_filterMap, List.mem_cons, List.not_mem_nil, or_false,
    exists_eq_or_imp, exists_eq_left, Option.map_eq_some_iff, Prod.mk.injEq, Option.ite_none_left_eq_some, Bool.not_eq_true]
  constructor
  · rintro (⟨t, ⟨hh, ht⟩, rfl, rfl⟩ | ⟨t, ⟨hh, ht⟩, rfl, rfl⟩ | ⟨t, ⟨c, hc, rfl⟩, rfl, rfl⟩)
    · exact .inl ⟨rfl, hh, ht⟩
    · exact .inr (.inl ⟨rfl, hh, ht⟩)
    · exact .inr (.inr ⟨rfl, c, hc, rfl⟩)
  · rintro (⟨rfl, hh, ht⟩ | ⟨rfl, hh, ht⟩ | ⟨rfl, c, hc, rfl⟩)
    · exact .inl ⟨y, ⟨hh, ht⟩, rfl, rfl⟩
    · exact .inr (.inl ⟨y, ⟨hh, ht⟩, rfl, rfl⟩)
    · exact .inr (.inr ⟨_, ⟨c, hc, rfl⟩, rfl, rfl⟩)

/-- The boundary taken next is not later than the site time, and no boundary that is placed precedes it. -/
theorem nextDue_earliest {p : Pkg} {lim x k : Nat} (h : nextDue p lim = some (x, k)) :
    x ≤ lim ∧ PlacesNext p k x ∧ ∀ i y, PlacesNext p i y → x < y ∨ x = y ∧ k ≤ i := by
  have he := foldl_earlier_isEarliest lim (placedBoundaries_byKind p)
  rw [← nextDue_eq, h] at he
  obtain ⟨hmem, hlim, hmin⟩ := he
  exact ⟨hlim, mem_placedBoundaries.1 hmem, fun i y hy => hmin (y, i) (mem_placedBoundaries.2 hy)⟩

/-! ### Boundaries taken one by one (10 R328) -/

section
variable {p : Pkg} {mark from_ lim x f k j : Nat}

theorem takeDue_none (h : nextDue p lim = none) : takeDue from_ mark lim (f + 1) p = p := by
  simp only [takeDue, h]

theorem takeDue_some (h : nextDue p lim = some (x, j)) :
    takeDue from_ mark lim (f + 1) p = takeDue from_ mark lim f (takeOne from_ mark x j p) := by
  simp only [takeDue, h]

theorem takeTo_none (h : nextDue p lim = none) : takeTo k lim (f + 1) p = p := by
  simp only [takeTo, h]

theorem takeTo_some (h : nextDue p lim = some (x, j)) :
    takeTo k lim (f + 1) p = if j = k then takeOne 0 0 x j p else takeTo k lim f (takeOne 0 0 x j p) := by
  simp only [takeTo, h]

/-- A demand close outside a span leaves the marks of its period as they are (10 R330, R332). -/
theorem takeOne_demand (h : 0 < x) (p : Pkg) : takeOne 0 0 x 0 p = closeDemand x 0 (follow (x - 1) p) := by
  simp [takeOne, h.ne']

theorem takeOne_billing (h : 0 < x) (p : Pkg) : takeOne 0 0 x 1 p = closeBilling x (follow (x - 1) p) := by
  simp [takeOne, h.ne']

theorem takeOne_activation (h : 0 < x) (p : Pkg) : takeOne 0 0 x 2 p = activate x (follow (x - 1) p) := by
  simp [takeOne, h.ne']

end

/-! ### Season and tariff (10 R318 to R320) -/

/-- A switch of the tariff changes the tariff in force and the energies cut off by it. -/
theorem switchTariff_keeps (t : Nat) (p : Pkg) :
    switchTariff t p = { p with bil := { p.bil with tariff := t, rg := (switchTariff t p).bil.rg } } := by
  by_cases h : t = p.bil.tariff
  · rw [switchTariff, if_pos h, h]
  · rw [switchTariff, if_neg h]

/-- Once season and tariff follow a calendar, they are the calendar's. -/
theorem follow_calendar {p : Pkg} {c : Calendar} (x : Nat) (h : p.bil.cal = some c) :
    (follow x p).bil.season = (seasonAt c x).2 ∧
      (follow x p).bil.tariff = tariffAt c (seasonAt c x).2 (calTime (follow x p).bil c (seasonAt c x).2 x) ∧
      (follow x p).bil.cal = p.bil.cal ∧ (follow x p).bil.period = p.bil.period := by
  simp only [follow, h]
  rw [switchTariff_keeps]
  refine ⟨rfl, ?_, rfl, rfl⟩
  simp only [tariffNow]
  rfl

/-! ### The closes (10 R326, R327) -/

/-- The demand of a period: its energy and that of the periods before it, over their time (10 R326). -/
def periodDemand (p : Pkg) (r : Nat) (g : BilRegion) : Nat :=
  let e := g.perE + (partE p r - g.pre.1)
  let ns := g.perNs + (partNs p - g.pre.2)
  let old := g.hist.take (p.bil.demN - 1)
  demandW (e + sumN (old.map (·.1))) (max (p.bil.demLen * minNs * max 1 p.bil.demN) (ns + sumN (old.map (·.2))))

/-- A region at the end of its demand period (10 R326). -/
def demandEnded (p : Pkg) (t r : Nat) (g : BilRegion) : BilRegion :=
  let w := periodDemand p r g
  let k := p.bil.tariff - 1
  let up := decide (w > g.maxDem.getD k 0)
  { g with dem := w, hist := cap 14 ((g.perE + (partE p r - g.pre.1), g.perNs + (partNs p - g.pre.2)) :: g.hist)
           perE := 0, perNs := 0, pre := (partE p r, partNs p)
           maxDem := if up then upd g.maxDem k (fun _ => w) else g.maxDem
           maxTime := if up then upd g.maxTime k (fun _ => t) else g.maxTime }

theorem closeDemand_regions (x mark : Nat) (p : Pkg) : (closeDemand x mark p).bil.rg = mapI (demandEnded p x) p.bil.rg := rfl

theorem demandEnded_tar (p : Pkg) (t r : Nat) (g : BilRegion) : (demandEnded p t r g).tar = g.tar := by
  rw [demandEnded]

theorem demandEnded_dem (p : Pkg) (t r : Nat) (g : BilRegion) : (demandEnded p t r g).dem = periodDemand p r g := rfl

/-- The maximum demand of the tariff in force follows a demand above it (10 R326). -/
theorem demandEnded_maxDem (p : Pkg) (t r : Nat) (g : BilRegion) : (demandEnded p t r g).maxDem =
    if periodDemand p r g > g.maxDem.getD (p.bil.tariff - 1) 0
    then upd g.maxDem (p.bil.tariff - 1) (fun _ => periodDemand p r g) else g.maxDem := by
  simp only [demandEnded, decide_eq_true_eq]

/-- A region after the close of its demand period (10 R326). -/
theorem closeDemand_region {r : Nat} (x mark : Nat) {p : Pkg} (h : r < p.bil.rg.length) :
    let g := p.bil.rg.getD r {}
    let g' := (closeDemand x mark p).bil.rg.getD r {}
    g'.dem = periodDemand p r g ∧ g'.perE = 0 ∧ g'.tar = g.tar ∧ g'.maxDem =
      if periodDemand p r g > g.maxDem.getD (p.bil.tariff - 1) 0
      then upd g.maxDem (p.bil.tariff - 1) (fun _ => periodDemand p r g) else g.maxDem := by
  rw [closeDemand_regions, mapI_getD _ _ _ h]
  exact ⟨demandEnded_dem p x r _, rfl, demandEnded_tar p x r _, demandEnded_maxDem p x r _⟩

/-- What a demand close does beside the regions: a load-profile entry, and a period that begins (10 R326). -/
theorem closeDemand_begins (x mark : Nat) (p : Pkg) :
    let q := closeDemand x mark p
    (∃ en : ProfEntry, q.bil.load = en :: p.bil.load ∧ en.time = x ∧ en.acc = (List.range 6).map (accAt p)) ∧
      q.bil.demT = x ∧ q.bil.holdT = max p.bil.holdT x ∧ q.bil.marks = 0 ∧ q.bil.period = p.bil.period ∧
      q.bil.tariff = p.bil.tariff ∧ q = { p with bil := q.bil } :=
  ⟨⟨_, rfl, rfl, rfl⟩, rfl, rfl, rfl, rfl, rfl, rfl⟩

theorem activate_some {p : Pkg} {c : Calendar} (x : Nat) (h : p.bil.passive = some c) : activate x p =
    (let q := follow x { p with bil := { p.bil with cal := some c, passive := none, season := (seasonAt c x).2, rep_ := none
                                                    bilT := max x p.bil.bilT, evt := { p.bil.evt with calAct := true } } }
     let old := (p.bil.cal.map (·.id)).getD 0
     updOpen allRegions (enterEv 6 (placedAt p) old c.id 0) (logEventAt (placedAt p) 6 0xFFFF 0 (toLe 4 old ++ toLe 4 c.id) q)) := by
  simp only [activate, h]
  rfl

/-! ### The rows (10 R317, R319, R320, R328, R329) -/

section
variable {season : Bool} {c : Calendar} {p : Pkg}

/-- Every boundary placed on the samples available is taken, then season and tariff follow the calendar. -/
def allTaken (p : Pkg) : Pkg := follow p.mtr.tLast (takeDue 0 0 p.mtr.tLast (manyDue p p.mtr.tLast) p)

/-- The calendar's season at the newest sample is another than the season in force. -/
abbrev NewSeason (c : Calendar) (p : Pkg) : Prop := (seasonAt c p.mtr.tLast).2 ≠ p.bil.season

theorem calendarRow_waits (h : mayTake p = false ∨ p.bil.cal = none) : calendarRow season p = p :=
  if_neg fun ⟨hm, hc⟩ => h.elim (fun h => by simp [h] at hm) (fun h => by simp [h] at hc)

theorem calendarRow_takes (hm : mayTake p = true) (hc : p.bil.cal = some c) (hs : season = true ↔ NewSeason c p) :
    calendarRow season p = allTaken p := by
  refine if_pos ⟨hm, ?_⟩
  rw [hc, Option.any_some, beq_iff_eq, Bool.eq_iff_iff, bne_iff_ne]
  exact hs

theorem calendarRow_otherSeason (hc : p.bil.cal = some c) (hs : ¬(season = true ↔ NewSeason c p)) : calendarRow season p = p := by
  refine if_neg fun ⟨_, h⟩ => hs ?_
  rw [hc, Option.any_some, beq_iff_eq, Bool.eq_iff_iff, bne_iff_ne] at h
  exact h

end

section
variable {k w x : Nat} {t : Option Nat} {p : Pkg}

theorem boundaryRow_takes (hm : mayTake p = true) (ht : t = some x) (hx : x ≤ p.mtr.tLast) :
    boundaryRow k t p = takeTo k p.mtr.tLast (manyDue p p.mtr.tLast) p :=
  if_pos ⟨hm, by simpa [ht] using hx⟩

theorem boundaryRow_same (h : mayTake p = false ∨ ∀ x, t = some x → p.mtr.tLast < x) : boundaryRow k t p = p := by
  refine if_neg fun ⟨hm, ht⟩ => ?_
  obtain ⟨x, hx, hle⟩ := (Option.any_eq_true _ _).1 ht
  exact h.elim (fun h => by simp [h] at hm) (fun h => (h x hx).not_ge (of_decide_eq_true hle))

theorem powerFail_same (h : p.bil.warnAt = none ∨ p.mtr.nvBlock = true ∨ ∃ w, p.bil.warnAt = some w ∧ p.mtr.tLast < w) :
    powerFail p = p := by
  rcases h with h | h | ⟨w, hw, h⟩
  · simp only [powerFail, h]
  · unfold powerFail
    split
    · rfl
    · exact if_pos (.inl h)
  · simp only [powerFail, hw]
    exact if_pos (.inr h)

/-- The power-fail record is logged once a sample has reached the warn instant, after the boundaries (10 R328, R329). -/
theorem powerFail_logs (hw : p.bil.warnAt = some w) (hn : p.mtr.nvBlock = false) (h : w ≤ p.mtr.tLast) : powerFail p =
    (let q := if mayTake p = true then allTaken p else p
     logEventAt (placedAt p) 1 0xFFFF 0 (toLe 8 w) { q with bil := { q.bil with warnAt := none } }) := by
  simp only [powerFail, hw]
  exact if_neg (by simp [hn, h])

end

section
variable {k x : Nat} {next : Pkg → Option Nat} {p : Pkg}

/-- The row of a close: nothing during the hold after a time-set (10 R331), else its boundary's row. -/
def closeRow (k : Nat) (next : Pkg → Option Nat) (p : Pkg) : Pkg := if p.bil.timeHold then p else boundaryRow k (next p) p

theorem closeRow_hold (h : p.bil.timeHold = true) : closeRow k next p = p := if_pos h

theorem closeRow_takes (hh : p.bil.timeHold = false) (hm : mayTake p = true) (ht : next p = some x) (hx : x ≤ p.mtr.tLast) :
    closeRow k next p = takeTo k p.mtr.tLast (manyDue p p.mtr.tLast) p :=
  (if_neg (ne_true_of_eq_false hh)).trans (boundaryRow_takes hm ht hx)

theorem closeRow_same (hh : p.bil.timeHold = false) (h : mayTake p = false ∨ ∀ x, next p = some x → p.mtr.tLast < x) :
    closeRow k next p = p :=
  (if_neg (ne_true_of_eq_false hh)).trans (boundaryRow_same h)

end

theorem exec_demandPeriodClose (s : State) : exec .demandPeriodClose s = run1 (closeRow 0 nextDemand) s := rfl

theorem exec_billingClose (s : State) : exec .billingClose s = run1 (closeRow 1 nextClose) s := rfl

end Sys2Proof.Machine

open Sys2Proof Sys2Proof.Machine

/-- Settles O48: each row by whether its boundary is due, the next boundary by `nextDue_earliest`, and each boundary by what it
comes to when it is taken. -/
theorem billingBoundariesAreTakenInTimeOrder : Obligations.BillingBoundariesAreTakenInTimeOrder := by
  intro s
  refine ⟨fun h => ⟨run1_same (calendarRow_waits h), run1_same (calendarRow_waits h)⟩,
    fun c hm hc => ⟨fun hs => ?sameSeason, fun hs => ?newSeason⟩,
    fun h => ⟨(exec_demandPeriodClose s).trans (run1_same (closeRow_hold h)), (exec_billingClose s).trans (run1_same (closeRow_hold h))⟩,
    fun hh => ?closes,
    fun c hm hc hx => does_of (boundaryRow_takes hm (by rw [hc]; rfl) hx), ?noActivation,
    fun p lim x k => nextDue_earliest,
    fun p lim f k => ⟨fun h => ⟨takeTo_none h, takeDue_none h⟩, fun x j h => ⟨takeTo_some h, takeDue_some h⟩⟩,
    fun p x hx => ⟨takeOne_demand hx p, takeOne_billing hx p, takeOne_activation hx p⟩,
    fun p x mark r hr => ?demand, fun _ _ => rfl, fun p x c => activate_some x, fun p x c => follow_calendar x,
    fun h => run1_same (powerFail_same h), fun w hw hn h => does_of (powerFail_logs hw hn h)⟩
  case sameSeason | newSeason =>
    exact ⟨does_of (calendarRow_takes hm hc (by simp [hs])), run1_same (calendarRow_otherSeason hc (by simp [hs]))⟩
  case closes =>
    rw [exec_demandPeriodClose, exec_billingClose]
    exact ⟨fun x hm ht hx => does_of (closeRow_takes hh hm ht hx), fun h => run1_same (closeRow_same hh h),
      fun x hm ht hx => does_of (closeRow_takes hh hm ht hx), fun h => run1_same (closeRow_same hh h)⟩
  case noActivation =>
    refine fun h => run1_same (boundaryRow_same (h.imp id fun h x hx => ?_))
    obtain ⟨c, hc, rfl⟩ := Option.map_eq_some_iff.1 hx
    exact h c hc
  case demand =>
    obtain ⟨hdem, hper, htar, hmax⟩ := closeDemand_region x mark hr
    exact ⟨hdem, hper, htar, hmax, closeDemand_begins x mark p⟩
end

section
/-!
Tamper conditions (10 R334, R335; O49).
-/

namespace Sys2Proof.Machine

section
variable {st : Bool} {c : TamperCond} {p : Pkg}

/-- What is counted of a condition (10 R334). -/
def tamperOf (p : Pkg) : TamperCond → Tamper
  | .reverse r => (p.bil.rg.getD r {}).rev
  | .bypassCurrent r => (p.bil.rg.getD r {}).cur
  | .bypassEnergy a => (p.bil.ac.getD a {}).byp
  | .neutral a => (p.bil.ac.getD a {}).neu

/-- The represented ns, or the windows, for which a condition's test has to hold or fail (10 R334). -/
def tamperNeed (p : Pkg) : TamperCond → Nat
  | .reverse _ => p.bil.tmp.revMs * 1000000
  | .bypassCurrent _ => p.bil.tmp.curTime * 100000000
  | .bypassEnergy _ => p.bil.tmp.bypWin
  | .neutral _ => p.bil.tmp.neuTime * 100000000

/-- A condition stays as it is: without a configuration image, where it stands so already, or before its time. -/
abbrev TamperStays (st : Bool) (x : Tamper) (n : Nat) (p : Pkg) : Prop := p.config = none ∨ x.on = st ∨ x.count < max 1 n

/-- The condition under which `tamperTurn` leaves the package. -/
theorem tamperStays_iff {x : Tamper} {n : Nat} :
    (!(p.config.isSome && x.on != st && decide (x.count ≥ max 1 n))) = true ↔ TamperStays st x n p := by
  rw [Bool.not_eq_true', Bool.and_eq_false_iff, Bool.and_eq_false_iff, bne_eq_false_iff_eq, decide_eq_false_iff_not, not_le,
    Option.isSome_eq_false_iff, Option.isNone_iff_eq_none, or_assoc]

theorem tamperTurn_same (h : TamperStays st (tamperOf p c) (tamperNeed p c) p) : tamperTurn st c p = p := by
  cases c <;> exact if_pos (tamperStays_iff.2 h)

theorem turns_of {x : Tamper} {n : Nat} (hc : p.config ≠ none) (hon : x.on ≠ st) (hn : max 1 n ≤ x.count) : ¬TamperStays st x n p :=
  not_or.2 ⟨hc, not_or.2 ⟨hon, hn.not_gt⟩⟩

end

theorem exec_tamper (st : Bool) (c : TamperCond) (s : State) :
    exec (if st then .tamperConditionStart c else .tamperConditionEnd c) s = run1 (tamperTurn st c) s := by
  cases st <;> rfl

end Sys2Proof.Machine

open Sys2Proof Sys2Proof.Machine

/-- Settles O49: a condition that stays by `tamperTurn_same`; one that turns by its kind, and by whether it starts or ends. -/
theorem tamperConditionsStartAndEndOnce : Obligations.TamperConditionsStartAndEndOnce := by
  intro s st c i b x n k x1 count set logged
  have hi : exec i s = run1 (tamperTurn st c) s := exec_tamper st c s
  have hx : x = tamperOf s.m c := by cases c <;> rfl
  have hn : n = tamperNeed s.m c := by cases c <;> rfl
  rw [Does, hi, hx, hn]
  refine ⟨fun h => run1_same (tamperTurn_same h), fun im hc hon hcount => does_of ?_⟩
  have hturns := turns_of (p := s.m) (by simp [hc]) hon hcount
  cases c
  all_goals
    refine (if_neg (tamperStays_iff.not.2 hturns)).trans ?_
    cases st <;> rfl
end

section
/-!
DLMS associations, and requests made in them (10 R345 to R348; O50).
-/

namespace Sys2Proof.Machine

/-! ### Association requests (10 R345, R347, 18 R548) -/

section
variable {a : AarqIn} {role : DlmsRole} {p : Pkg}

/-- The handle and the role's place are free (10 R346). -/
abbrev PlaceFree (a : AarqIn) (role : DlmsRole) (p : Pkg) : Prop :=
  p.bil.assoc.length < 8 ∧ (∀ x ∈ p.bil.assoc, x.id ≠ a.id) ∧
    (role = .metrology ∨ role = .vendor → ∀ x ∈ p.bil.assoc, x.role ≠ role)

/-- The client is Public, or one of the table that the mechanism authenticates under a server key that exists (10 R347). -/
abbrev Authentic (a : AarqIn) (role : DlmsRole) (p : Pkg) : Prop :=
  role = .public_ ∨ (a.authOk = true ∧ (a.key, role) ∈ p.bil.dlmsCli ∧ rootOf p.key = .ready)

theorem aarqOk_iff : aarqOk a role p = true ↔ PlaceFree a role p ∧ p.key.entropy = true ∧ Authentic a role p := by
  simp only [aarqOk, PlaceFree, Authentic, Bool.and_eq_true, Bool.or_eq_true, decide_eq_true_eq, Bool.not_eq_true', List.any_eq_false,
    beq_iff_eq, List.contains_eq_mem, Bool.and_eq_false_imp, and_assoc]
  tauto

/-- An association request that is not heard: from no client's wPort, or at no endpoint that is up (10 R345). -/
theorem aarq_unheard (h : roleOfPort a.wrap.src = none ∨ awake p = false ∨ 1 < a.ep ∨ epUp p a.ep = false ∨ a.wrap.ok = false) :
    aarq a p = p := by
  unfold aarq
  split
  · rfl
  next role hr => exact if_pos (by simpa [hr] using h)

/-- One that is heard is rejected outside the role's life-cycle, refused where it is not in order, or begins. -/
theorem aarq_heard (hr : roleOfPort a.wrap.src = some role) (hw : awake p = true) (he : a.ep ≤ 1) (hu : epUp p a.ep = true)
    (hk : a.wrap.ok = true) : aarq a p =
      if role = .metrology ∧ lcOf p ≠ .service then dlmsOut a.id role (Config.dlmsAare false true []) p
      else if !aarqOk a role p then dlmsOut a.id role (Config.dlmsAare false false []) p
      else beginAssoc a role p := by
  simp only [aarq, hr]
  exact if_neg (by simp [hw, he, hu, hk])

@[simp] theorem loadKey_bil (id : KeyId) (p : Pkg) : (loadKey id p).bil = p.bil := by rw [loadKey_keeps]

@[simp] theorem holdKey_bil (id : KeyId) (b : List Byte) (p : Pkg) : (holdKey id b p).bil = p.bil := by rw [holdKey_keeps]

/-- An association that begins is the newest (10 R346). -/
theorem beginAssoc_assoc (a : AarqIn) (role : DlmsRole) (p : Pkg) : (beginAssoc a role p).bil.assoc =
    p.bil.assoc ++ [{ id := a.id, role := role, ep := a.ep, last := p.clk, max := a.max }] := by
  unfold beginAssoc
  by_cases h : role = .public_
  · rw [if_pos h]
    rfl
  · rw [if_neg h]
    simp only [dlmsOut_bil, holdKey_bil, loadKey_bil]
    rfl

end

/-! ### Requests in an association (10 R345 to R347) -/

section
variable {r : DlmsReq} {k : Assoc → Pkg → Pkg} {x : Assoc} {objs : List Cosem} {p : Pkg}

theorem inAssoc_same (h : ∀ x, p.bil.assoc.find? (fun x => x.id == r.id) = some x →
      awake p = false ∨ epUp p x.ep = false ∨ r.wrap.ok = false ∨ r.wrap.src ≠ wPort x.role ∨ (x.role ≠ .public_ ∧ r.okTag = false)) :
    inAssoc r k p = p := by
  unfold inAssoc
  split
  · rfl
  next x hx => exact if_pos (by simpa using h x hx)

/-- The package once a request has restarted an association's 300 s (10 R346). -/
def restarted (id : Nat) (p : Pkg) : Pkg := updAssoc id (fun y => { y with last := p.clk }) p

theorem inAssoc_taken (hx : p.bil.assoc.find? (fun x => x.id == r.id) = some x) (hw : awake p = true) (hu : epUp p x.ep = true)
    (hk : r.wrap.ok = true) (hs : r.wrap.src = wPort x.role) (ht : x.role = .public_ ∨ r.okTag = true) :
    inAssoc r k p = k x (restarted r.id p) := by
  simp only [inAssoc, hx]
  refine if_neg ?_
  rintro (h | h | h | h | ⟨h, h'⟩)
  · simp [hw] at h
  · simp [hu] at h
  · simp [hk] at h
  · exact h hs
  · exact ht.elim h (by simpa using h')

theorem dlmsGet_first (h : r.next = none) : dlmsGet r objs x p = sendGet r.inv r.id (objs.map (getOne p x)) p := by
  simp only [dlmsGet, h]

theorem dlmsGet_follows {n : Nat} (hn : r.next = some n) (hb : n = x.blk) (hr : x.rest ≠ []) :
    dlmsGet r objs x p = getBlock r.inv r.id p := by
  simp only [dlmsGet, hn]
  exact if_pos ⟨hb, by simpa using hr⟩

theorem dlmsGet_wrongBlock {n : Nat} (hn : r.next = some n) (h : n ≠ x.blk ∨ x.rest = []) :
    dlmsGet r objs x p = dlmsSend r.id (getApdu r.inv [.result 19]) p := by
  simp only [dlmsGet, hn]
  exact if_neg fun ⟨hb, hr⟩ => h.elim (fun h => h hb) (fun h => by simp [h] at hr)

end

section
variable {r : DlmsReq} {isSet : Bool} {ok : DlmsRole → Obj → Nat → Bool} {c : Cosem} {args : List Int} {cal : Option Calendar}
  {x : Assoc} {p : Pkg}

theorem dlmsWork_journaled (hm : p.sys.mode ≠ .retired) (h : ∃ o, objOf c.obis = some o ∧ ok x.role o c.attr = true) :
    dlmsWork r isSet ok c args cal x p = journalDlms { id := x.id, inv := r.inv, isSet := isSet, obj := c, args := args, cal := cal } p :=
  if_pos (Bool.and_eq_true_iff.2 ⟨by simpa using hm, (Option.any_eq_true _ _).2 h⟩)

theorem dlmsWork_denied (h : p.sys.mode = .retired ∨ ∀ o, objOf c.obis = some o → ok x.role o c.attr = false) :
    dlmsWork r isSet ok c args cal x p = dlmsSend r.id (workApdu isSet false r.inv) p := by
  refine if_neg fun hc => ?_
  obtain ⟨hm, ho⟩ := Bool.and_eq_true_iff.1 hc
  obtain ⟨o, hob, hok⟩ := (Option.any_eq_true _ _).1 ho
  exact h.elim (fun h => by simp [h] at hm) (fun h => by simp [h o hob] at hok)

end

/-! ### The answer of a GET for one object (10 R348; log 58) -/

section
variable {p : Pkg} {x : Assoc} {c : Cosem} {o : Obj}

theorem getOne_unknown (h : objOf c.obis = none) : getOne p x c = .result 4 := by
  simp only [getOne, h]

theorem getOne_denied (ho : objOf c.obis = some o) (h : mayGet x.role o = false) : getOne p x c = .result 3 := by
  simp only [getOne, ho]
  exact if_pos (by simp [h])

theorem objVal_name (h : c.attr = 1) : objVal p x o c = some (obisV (obisOf o)) := if_pos h

theorem objVal_unlisted (h1 : c.attr ≠ 1) (h : c.attr ∉ attrsOf o) : objVal p x o c = none := by
  rw [objVal, if_neg h1, if_pos (by simpa using h)]

/-- An object that the role may read answers its value, or object-undefined where there is none. -/
theorem getOne_read (ho : objOf c.obis = some o) (h : mayGet x.role o = true) :
    getOne p x c = (objVal p x o c).elim (.result 4) .data := by
  simp only [getOne, ho]
  rw [if_neg (by simp [h])]
  cases objVal p x o c <;> rfl

end

/-! ### What a role may change (10 R348) -/

theorem maySet_iff {role : DlmsRole} {o : Obj} {k : Nat} : maySet role o k = true ↔
    (role = .operator ∧ ((o = .calendar ∧ 6 ≤ k ∧ k ≤ 10) ∨ (o = .specials ∧ k = 2) ∨ (o = .closes ∧ k = 4))) ∨
      (role = .metrology ∧ k = 2 ∧ ∃ c, o = .staged c) := by
  cases o <;> simp [maySet, inR]

theorem mayAct_iff {role : DlmsRole} {o : Obj} {k : Nat} : mayAct role o k = true ↔
    (role = .operator ∧ k = 1 ∧ (o = .calendar ∨ ∃ r, o = .receipts r)) ∨ (role = .metrology ∧ k = 1 ∧ o = .calScript) ∨
      (role = .vendor ∧ 1 ≤ k ∧ k ≤ 4 ∧ o = .transfer) := by
  cases o <;> simp [mayAct, inR]

/-! ### The time limit (10 R346) -/

theorem assocTimeout_releases {id : Nat} {p : Pkg} (h : ∃ x ∈ p.bil.assoc, x.id = id ∧ due p (x.last + 300000000000) = true) :
    assocTimeout id p = dropAssoc id p :=
  if_pos (by simpa using h)

theorem assocTimeout_same {id : Nat} {p : Pkg} (h : ∀ x ∈ p.bil.assoc, x.id = id → due p (x.last + 300000000000) = false) :
    assocTimeout id p = p :=
  if_neg (by simpa using h)

end Sys2Proof.Machine

open Sys2Proof Sys2Proof.Machine

/-- Settles O50: an association request by whether it is heard and in order, a request by whether its association takes it, and
what a role may read and change by the object. -/
theorem dlmsRequestsAreAnsweredByRole : Obligations.DlmsRequestsAreAnsweredByRole := by
  intro s p
  refine ⟨fun a => ⟨fun h => run1_same (aarq_unheard h), fun role hr hw he hu hk => ?request⟩, fun a role => beginAssoc_assoc a role p,
    fun r objs c args cal => ⟨fun h => ⟨run1_same (inAssoc_same h), run1_same (inAssoc_same h), run1_same (inAssoc_same h)⟩,
      fun x hx hw hu hk hs ht => ?taken⟩,
    fun x c => ⟨getOne_unknown, fun o ho => ⟨getOne_denied ho, fun hg h1 => ?name, fun hg h1 ha => ?unlisted⟩⟩,
    fun role o k => ⟨maySet_iff, mayAct_iff⟩,
    fun id => ⟨fun h => ⟨does_of (assocTimeout_releases h), rfl⟩, fun h => run1_same (assocTimeout_same h)⟩⟩
  case request =>
    intro outside free authentic ok
    have ha := aarq_heard hr hw he hu hk
    have hok : aarqOk a role p = true ↔ ok := aarqOk_iff
    refine ⟨fun ho => does_of (ha.trans (if_pos ho)), fun ho hk => does_of (ha.trans ?_), fun ho hk => does_of (ha.trans ?_)⟩
    · rw [if_neg ho, if_pos (by simpa using hok.not.2 hk)]
    · rw [if_neg ho, if_neg (by simpa using hok.2 hk)]
  case taken =>
    have hq : ∀ k, inAssoc r k p = k x (restarted r.id p) := fun k => inAssoc_taken hx hw hu hk hs ht
    exact ⟨fun h => does_of ((hq _).trans (dlmsGet_first h)),
      fun n hn => ⟨fun hb hr => does_of ((hq _).trans (dlmsGet_follows hn hb hr)), fun h => does_of ((hq _).trans (dlmsGet_wrongBlock hn h))⟩,
      fun hm h => does_of ((hq _).trans (dlmsWork_journaled hm h)), fun h => does_of ((hq _).trans (dlmsWork_denied h)),
      fun hm h => does_of ((hq _).trans (dlmsWork_journaled hm h)), fun h => does_of ((hq _).trans (dlmsWork_denied h))⟩
  case name => rw [getOne_read ho hg, objVal_name h1]; rfl
  case unlisted => rw [getOne_read ho hg, objVal_unlisted h1 ha]; rfl
end

section
/-!
Failures of the Stitch dies, the hand-over of Hoop and the planned flip (11 R352 to R358, R371, R373; O25).
-/

namespace Sys2Proof.Machine

/-! ### The record of a die (11 R352) -/

@[simp] theorem other_other (d : Die) : d.other.other = d := by cases d <;> rfl

theorem other_ne (d : Die) : d.other ≠ d := by cases d <;> decide

section
variable (d : Die) (f g : DieRec → DieRec) (p : Pkg)

@[simp] theorem dieOf_updDie : dieOf (updDie d f p) d = f (dieOf p d) := by cases d <;> rfl

@[simp] theorem dieOf_updDie_other : dieOf (updDie d f p) d.other = dieOf p d.other := by cases d <;> rfl

@[simp] theorem dieOf_updDie_otherDie : dieOf (updDie d.other f p) d = dieOf p d := by cases d <;> rfl

/-- A change of a die's record leaves the rest of chapter 11. -/
theorem updDie_keeps :
    updDie d f p = { p with duo := { p.duo with a := (updDie d f p).duo.a, b := (updDie d f p).duo.b } } := by cases d <;> rfl

theorem updDie_updDie : updDie d f (updDie d g p) = updDie d (f ∘ g) p := by cases d <;> rfl

end

@[simp] theorem dieOf_setArb (a : ArbState) (p : Pkg) (d : Die) : dieOf (setArb a p) d = dieOf p d := rfl

@[simp] theorem dieOf_evt (e : DuoEvt) (p : Pkg) (d : Die) : dieOf { p with duo := { p.duo with evt := e } } d = dieOf p d := rfl

@[simp] theorem dieOf_lasting (o p : Pkg) (d : Die) : dieOf (lasting o p) d = dieOf p d := rfl

/-- Two changes of a die's record come to the same where they agree on the record it has. -/
theorem updDie_congr {d : Die} {f g : DieRec → DieRec} {p : Pkg} {x : DieRec} (hx : dieOf p d = x) (h : f x = g x) :
    updDie d f p = updDie d g p := by
  subst hx
  cases d <;> simp only [dieOf] at h <;> simp only [updDie, h]

/-! ### What every failure and switchover shares (11 R353, R371, R373) -/

/-- A failure that is noted changes its die's record and DUO_LAST with its time. -/
theorem noteLast_keeps (d : Die) (c : Crit) (src : Nat) (p : Pkg) :
    noteLast d c src p = { p with duo := { p.duo with a := (noteLast d c src p).duo.a, b := (noteLast d c src p).duo.b
                                                      last := some (d, c, src), lastTime := p.tim.now } } := by
  unfold noteLast
  simp only
  rw [updDie_keeps]

theorem dieOf_noteLast_other (d : Die) (c : Crit) (src : Nat) (p : Pkg) :
    dieOf (noteLast d c src p) d.other = dieOf p d.other := dieOf_updDie_other d _ p

/-- DUO_SWITCHes that end change their work items, and none waits after it. -/
theorem dropSwitches_keeps (p : Pkg) :
    dropSwitches p = { p with mbx := (dropSwitches p).mbx, duo := { p.duo with swWork := [] } } := by
  have h : ∀ l : List Nat, l.foldl (fun p id => finishWork id .faulted p) p =
      { p with mbx := (l.foldl (fun p id => finishWork id .faulted p) p).mbx } := fun l =>
    foldl_frame (fun q => { q with mbx := {} }) (fun a b => { a with mbx := b.mbx }) _ l p (fun _ _ => rfl) (fun _ => rfl)
  unfold dropSwitches
  simp only
  rw [h]

/-- The reset of a die: its keys leave with it, and a DUO_READMIT that waits for it ends. -/
theorem dieReset_keeps (d : Die) (p : Pkg) :
    dieReset d p = { p with sys := (dieReset d p).sys, mbx := (dieReset d p).mbx, key := (dropDie d p).key
                            duo := { p.duo with a := (dieReset d p).duo.a, b := (dieReset d p).duo.b
                                                rdWork := (dieReset d p).duo.rdWork } } := by
  unfold dieReset
  simp only
  rw [updDie_keeps]
  split
  · split <;> rfl
  · rfl

theorem dieReset_failed (d : Die) (p : Pkg) : (dieOf (dieReset d p) d).st = .failed := by
  unfold dieReset
  simp only
  split
  · split <;> exact congrArg DieRec.st (dieOf_updDie d _ _)
  · exact congrArg DieRec.st (dieOf_updDie d _ _)

theorem dieOf_dieReset_other (d : Die) (p : Pkg) : dieOf (dieReset d p) d.other = dieOf p d.other := by
  unfold dieReset
  simp only
  split
  · split <;> exact dieOf_updDie_other d _ _
  · exact dieOf_updDie_other d _ _

/-- The non-active die's failure leaves Hoop, and the arbiter in SOLO (11 R353). -/
theorem standbyFails_keeps (d : Die) (p : Pkg) :
    standbyFails d p = { p with
      sys := (standbyFails d p).sys, mbx := (standbyFails d p).mbx, key := (dropDie d p).key
      duo := { p.duo with a := (standbyFails d p).duo.a, b := (standbyFails d p).duo.b, rdWork := (standbyFails d p).duo.rdWork
                          arb := .solo, evt := { p.duo.evt with stbyReset := true }, swWork := [] } } := by
  unfold standbyFails setArb
  simp only
  rw [dropSwitches_keeps, dieReset_keeps]

theorem dieOf_standbyFails (d k : Die) (p : Pkg) : dieOf (standbyFails d p) k = dieOf (dieReset d p) k := by
  unfold standbyFails setArb
  simp only
  rw [dropSwitches_keeps]
  rfl

/-! ### The hand-over of Hoop (11 R371) -/

/-- Keys that are delivered again leave chapter 11. -/
@[simp] theorem redeliver_duo (p : Pkg) : (redeliver p).duo = p.duo :=
  foldl_keep (fun q : Pkg => q.duo) _ _ _ fun _ _ => by
    split
    · rfl
    · rw [deliverKey_keeps]

/-- Acknowledgements that are sent again leave chapter 11. -/
@[simp] theorem resendAcks_duo (p : Pkg) : (resendAcks p).duo = p.duo :=
  foldl_keep (fun q : Pkg => q.duo) _ _ p fun _ _ => rfl

@[simp] theorem injEnd_duo (l : Nat) (st : Status) (p : Pkg) : (injEnd l st p).duo = p.duo := by
  unfold injEnd
  split <;> rfl

@[simp] theorem scanLost_duo (l : Nat) (p : Pkg) : (scanLost l p).duo = p.duo := by
  unfold scanLost
  split
  · rfl
  · split <;> rfl

/-- Scans and injections that end leave chapter 11. -/
@[simp] theorem lanesAbort_duo (p : Pkg) : (lanesAbort p).duo = p.duo :=
  foldl_keep (fun q : Pkg => q.duo) _ _ p fun q l => (scanLost_duo l _).trans (injEnd_duo l _ q)

@[simp] theorem canSwitchover_duo (p : Pkg) : (canSwitchover p).duo = p.duo := rfl

@[simp] theorem resumeFe_duo (p : Pkg) : (resumeFe p).duo = p.duo := rfl

/-- What a hand-over of Hoop leaves in chapter 11. -/
theorem takeOver_duo (d : Die) (p : Pkg) : (takeOver d p).duo =
    { (updDie d (fun x => { x with st := .active, soakFrom := none }) p).duo with
      hoop := some d, switches := inc16 p.duo.switches, turns := p.duo.turns + 1, swDue := true } := by
  unfold takeOver
  simp only [canSwitchover_duo, lanesAbort_duo, resendAcks_duo, redeliver_duo, resumeFe_duo]
  rw [updDie_keeps]

theorem dieOf_takeOver (d k : Die) (p : Pkg) :
    dieOf (takeOver d p) k = dieOf (updDie d (fun x => { x with st := .active, soakFrom := none }) p) k := by
  unfold dieOf
  rw [takeOver_duo]

/-! ### A fault of a die (11 R353, R356, R371) -/

/-- A fault of the die that is not active. -/
theorem dieFault_standby {d : Die} {p : Pkg} (c : Crit) (src : Nat) (hk : activeDie p = some d.other)
    (ha : p.duo.arb = .dual ∨ p.duo.arb = .sync) (hs : (dieOf p d).st = .standby ∨ (dieOf p d).st = .candidate) :
    dieFault c src d p = standbyFails d (noteLast d c src p) := by
  unfold dieFault
  simp only
  rw [if_neg, if_pos]
  · rw [hk]; simp [other_ne]
  · rcases ha with ha | ha <;> rcases hs with hs | hs <;> simp [ha, hs]

/-- The package after a fault of the active die that hands Hoop over. -/
def faultHandsOver (c : Crit) (src : Nat) (d : Die) (p : Pkg) : Pkg :=
  let q := takeOver d.other (dieReset d (dropSwitches (noteLast d c src p)))
  setArb .solo { q with duo := { q.duo with evt := { q.duo.evt with switch := true } } }

theorem dieFault_active {d : Die} {p : Pkg} (c : Crit) (src : Nat) (hk : activeDie p = some d) (ha : p.duo.arb = .dual)
    (hs : (dieOf p d).st = .active) (hm : mayTakeOver p d.other = true) : dieFault c src d p = faultHandsOver c src d p := by
  unfold dieFault
  simp only
  rw [if_neg (by simp [ha, hs]), if_neg (by simp [hk]), if_pos ⟨ha, hm⟩]
  rfl

/-- Chapter 11 after it, but for the records of the dies. -/
theorem faultHandsOver_duo (c : Crit) (src : Nat) (d : Die) (p : Pkg) : let m := faultHandsOver c src d p
    m.duo.hoop = some d.other ∧ m.duo.arb = .solo ∧ m.duo.last = some (d, c, src) ∧ m.duo.evt.switch = true ∧
      m.duo.switches = inc16 p.duo.switches ∧ m.sys.degraded = true := by
  unfold faultHandsOver setArb
  simp only
  rw [takeOver_duo, updDie_keeps, dieReset_keeps, dropSwitches_keeps, noteLast_keeps]
  simp

theorem faultHandsOver_dies (c : Crit) (src : Nat) (d : Die) (p : Pkg) :
    (dieOf (faultHandsOver c src d p) d).st = .failed ∧ (dieOf (faultHandsOver c src d p) d.other).st = .active := by
  unfold faultHandsOver
  simp only [dieOf_setArb, dieOf_evt, dieOf_takeOver, dieOf_updDie, dieOf_updDie_otherDie, dieReset_failed, and_self]

/-! ### Heartbeats (11 R355, R356) -/

/-- A heartbeat that is not of a fast cycle carries no CRC that is kept. -/
theorem heartbeat_idle {d : Die} {p : Pkg} (src slot crc : Nat) (h : (dieOf p d).beats = true) : heartbeat d src false slot crc p =
    updDie d (fun x => { x with
      slots := upd x.slots src (fun _ => some (slot % 65536))
      hbMiss := if ((dieOf p d).slots.getD src none).any (fun o => (slot + 65536 - o) % 65536 == 2) = true then inc16 x.hbMiss
        else x.hbMiss }) p := by
  unfold heartbeat
  simp only
  rw [if_neg (by simp [h]), if_neg (by simp)]
  rfl

theorem heartbeatMissed_faults {d : Die} {p : Pkg} (src : Nat) (h : (dieOf p d).beats = true) : heartbeatMissed d src p =
    dieFault .heartbeat (if src = 8 then 0xF else src) d (updDie d (fun x => { x with hbMiss := satAdd 65535 x.hbMiss 2 }) p) :=
  if_neg (by simp [h])

/-! ### The planned flip (11 R373) -/

/-- A DUO_SWITCH flips Hoop to the standby; its die, now active no more, shadows without a reset. -/
def flipped (d : Die) (id : Nat) (p : Pkg) : Pkg :=
  let p1 := finishWork id .ok (noteLast d .planned 0xF p)
  let p2 := takeOver d.other (dropSwitches { p1 with duo := { p1.duo with swWork := p1.duo.swWork.drop 1 } })
  let p3 := updDie d (fun x => { x with st := .candidate, soak := false, soakFrom := none
                                        shadow := { x.shadow with synced := true, supAt := p.clk, run := 0, fastLost := 0, supLost := 0
                                                                  good := List.replicate 8 0, goodAt := List.replicate 8 p.clk } }) p2
  setArb .sync { p3 with duo := { p3.duo with evt := { p3.duo.evt with planned := true } } }

theorem plannedFlip_flips {d : Die} {id : Nat} {l : List Nat} {p : Pkg} (hk : activeDie p = some d) (hw : p.duo.swWork = id :: l)
    (ha : p.duo.arb = .dual) (hm : mayTakeOver p d.other = true) (hf : flipSlot p d.other = true) :
    plannedFlip p = flipped d id p := by
  unfold plannedFlip
  rw [hk, hw]
  exact if_neg (by simp [ha, hm, hf])

theorem plannedFlip_same {p : Pkg} (h : activeDie p = none ∨ p.duo.swWork = [] ∨ p.duo.arb ≠ .dual) : plannedFlip p = p := by
  unfold plannedFlip
  split
  next d id l hk hw =>
    rcases h with h | h | h
    · rw [hk] at h; cases h
    · rw [hw] at h; cases h
    · exact if_pos (.inl h)
  next => rfl

theorem flipped_duo (d : Die) (id : Nat) (p : Pkg) : let m := flipped d id p
    m.duo.hoop = some d.other ∧ m.duo.arb = .sync ∧ m.duo.evt.planned = true ∧ m.duo.swWork = [] ∧
      m.duo.last = some (d, .planned, 0xF) := by
  unfold flipped setArb
  simp only
  rw [updDie_keeps d, takeOver_duo, updDie_keeps d.other, dropSwitches_keeps, finishWork_duo, noteLast_keeps]
  simp

theorem flipped_dies (d : Die) (id : Nat) (p : Pkg) :
    (dieOf (flipped d id p) d).st = .candidate ∧ (dieOf (flipped d id p) d.other).st = .active := by
  unfold flipped
  simp only [dieOf_setArb, dieOf_evt, dieOf_takeOver, dieOf_updDie, dieOf_updDie_other, and_self]

end Sys2Proof.Machine

open Sys2Proof Sys2Proof.Machine

/-- Settles O25: a fault by whose it is, and the planned flip by what both leave of Hoop, of the arbiter and of each die. -/
theorem failingDiesLoseTheirPart : Obligations.FailingDiesLoseTheirPart := by
  intro s u
  refine ⟨fun d src slot own h => does_of (heartbeat_idle _ _ _ h), fun d src h => does_of (heartbeatMissed_faults _ h),
    fun d c h => does_of (congrFun (if_pos h) _), fun d c h => run1_same (congrFun (if_neg h) _), ?active, ?standby, ?flip,
    fun h => run1_same (plannedFlip_same h)⟩
  case active =>
    intro d hk ha hs hm
    have hdoes : Does (.watchdogExpiry d) s (faultHandsOver .self 0xF d s.m) := does_of (dieFault_active .self 0xF hk ha hs hm)
    refine hdoes.runs ?_
    obtain ⟨hhoop, harb, hlast, hevt, hsw, hdeg⟩ := faultHandsOver_duo .self 0xF d s.m
    obtain ⟨hd, ho⟩ := faultHandsOver_dies .self 0xF d s.m
    simp only [lasting_duo, lasting_sys_degraded, dieOf_lasting]
    exact ⟨hhoop, harb, hd, ho, hlast, hevt, hdeg, hsw⟩
  case standby =>
    intro d hk ha hs
    have hdoes : Does (.watchdogExpiry d) s (standbyFails d (noteLast d .self 0xF s.m)) := does_of (dieFault_standby .self 0xF hk ha hs)
    refine hdoes.runs ?_
    have hkeeps := standbyFails_keeps d (noteLast d .self 0xF s.m)
    simp only [lasting_duo, dieOf_lasting, dieOf_standbyFails, dieReset_failed, dieOf_dieReset_other, dieOf_noteLast_other]
    rw [hkeeps, noteLast_keeps]
    exact ⟨rfl, rfl, trivial, trivial, rfl, rfl, rfl⟩
  case flip =>
    intro d id l hk hw ha hm hf
    have hdoes : Does .plannedFlip s (flipped d id s.m) := does_of (plannedFlip_flips hk hw ha hm hf)
    refine hdoes.runs ?_
    obtain ⟨hhoop, harb, hevt, hwork, hlast⟩ := flipped_duo d id s.m
    obtain ⟨hd, ho⟩ := flipped_dies d id s.m
    simp only [lasting_duo, dieOf_lasting]
    exact ⟨hhoop, harb, hd, ho, hevt, hwork, hlast⟩
end

section
/-!
Mirrors, Sampler reports, soak and the return of a repaired die (11 R353, R361 to R376; O26).
-/

namespace Sys2Proof.Machine

/-! ### Mirrors (11 R361, R365 to R367) -/

section
variable {d : Die} {p : Pkg}

theorem fastMirror_same (c : Nat) (ok agree : Bool) (loop : List LoopIn) (h : shadows p d = false) :
    fastMirror c d ok agree loop p = p := by
  unfold fastMirror
  exact if_pos (by simp [h])

/-- A good frame after a good one is compared, and adopted. -/
theorem fastMirror_compared {c : Nat} (agree : Bool) (loop : List LoopIn) (h : shadows p d = true)
    (hs : (dieOf p d).shadow.synced = true) (hg : (dieOf p d).shadow.good.getD c 0 ≥ 1) :
    fastMirror c d true agree loop p = (let l := loopsOf p loop; let same := agree = true ∧ l.any (·.differs) = false
      updDie d (fun x => { x with shadow := loopEnter p.tim.now l { x.shadow with
        good := upd x.shadow.good c (fun n => min 2 (n + 1)), goodAt := upd x.shadow.goodAt c (fun _ => p.clk)
        run := if same then 0 else min 65535 (x.shadow.run + 1)
        mismatch := if same then x.shadow.mismatch else inc32 x.shadow.mismatch } })
        { p with vcmd := { p.vcmd with port := p.vcmd.port.map (fun x => { x with mir := x.mirNext }) } }) := by
  unfold fastMirror
  refine (if_neg (by simp [h])).trans ((if_pos rfl).trans (updDie_congr (x := dieOf p d) rfl ?_))
  have hcmp : ((dieOf p d).shadow.synced && decide ((dieOf p d).shadow.good.getD c 0 ≥ 1)) = true := by
    simp only [hs, hg, decide_true, Bool.and_self]
  simp only [hcmp]
  generalize (loopsOf p loop).any (·.differs) = b
  cases agree <;> cases b <;> rfl

/-- The first good frame after one that was not, or before the full synchronisation, is adopted without a comparison. -/
theorem fastMirror_adopted {c : Nat} (agree : Bool) (loop : List LoopIn) (h : shadows p d = true)
    (hf : (dieOf p d).shadow.synced = false ∨ (dieOf p d).shadow.good.getD c 0 = 0) :
    fastMirror c d true agree loop p = updDie d (fun x => { x with shadow := loopEnter p.tim.now (loopsOf p loop) { x.shadow with
      good := upd x.shadow.good c (fun n => min 2 (n + 1)), goodAt := upd x.shadow.goodAt c (fun _ => p.clk) } })
        { p with vcmd := { p.vcmd with port := p.vcmd.port.map (fun x => { x with mir := x.mirNext }) } } := by
  unfold fastMirror
  refine (if_neg (by simp [h])).trans ((if_pos rfl).trans (updDie_congr (x := dieOf p d) rfl ?_))
  have hcmp : ((dieOf p d).shadow.synced && decide ((dieOf p d).shadow.good.getD c 0 ≥ 1)) = false := by
    rcases hf with hf | hf
    · rw [hf]; rfl
    · rw [hf]; simp
  simp only [hcmp]
  rfl

theorem fastMirror_lost (c : Nat) (agree : Bool) (loop : List LoopIn) (h : shadows p d = true) :
    fastMirror c d false agree loop p = updDie d (fun x => { x with shadow := loopEnter p.tim.now (loopsOf p loop) { x.shadow with
        good := upd x.shadow.good c (fun _ => 0), fastLost := inc16 x.shadow.fastLost } })
      { p with duo := { p.duo with fastLost := inc16 p.duo.fastLost, evt := { p.duo.evt with mirrorLoss := true } }
               sys := { p.sys with linkDrops := upd p.sys.linkDrops 2 inc32 } } := by
  unfold fastMirror
  refine (if_neg (by simp [h])).trans ((if_neg (by simp)).trans ?_)
  cases d <;> rfl

theorem supMirror_same (ok : Bool) (h : shadows p d = false) : supMirror d ok p = p := by
  unfold supMirror
  exact if_pos (by simp [h])

theorem supMirror_adopted (h : shadows p d = true) : supMirror d true p =
    updDie d (fun x => { x with shadow := { x.shadow with supAt := p.clk } }) { p with duo := { p.duo with supAck := p.duo.mirrors.2 } } := by
  unfold supMirror
  rw [if_neg (by simp [h]), if_pos rfl]
  cases d <;> rfl

theorem supMirror_lost (h : shadows p d = true) : supMirror d false p =
    updDie d (fun x => { x with shadow := { x.shadow with supLost := inc16 x.shadow.supLost } })
      { p with duo := { p.duo with supLost := inc8 p.duo.supLost, evt := { p.duo.evt with mirrorLoss := true } }
               sys := { p.sys with linkDrops := upd p.sys.linkDrops 2 inc32 } } := by
  unfold supMirror
  rw [if_neg (by simp [h]), if_neg (by simp)]
  cases d <;> rfl

/-! ### Sampler reports (11 R353, R366 to R369, R374) -/

/-- A package whose die has published its report. -/
def published (d : Die) (p : Pkg) : Pkg :=
  let r := reportOf p d
  updDie d (fun x => { x with report := some (r, p.clk), shadow := { x.shadow with seq := r.seq, fastLost := 0, supLost := 0 }
                              soakFrom := if r.verdict = .pass ∧ x.st = .candidate then some (x.soakFrom.getD p.clk) else none }) p

/-- The report leaves what its die is, and whether it owes a soak. -/
theorem published_st : (dieOf (published d p) d).st = (dieOf p d).st ∧ (dieOf (published d p) d).soak = (dieOf p d).soak := by
  unfold published
  simp only [dieOf_updDie, and_self]

/-- A failed march or vector set is the first verdict that applies. -/
theorem reportOf_failed (h : (dieOf p d).shadow.failed = true) : (reportOf p d).verdict = .failTest := if_pos h

theorem samplerTake_mismatch (h : (reportOf p d).verdict = .failMismatch) : samplerTake d p =
    standbyFails d (noteLast d .sampler 0xF
      { published d p with duo := { (published d p).duo with evt := { (published d p).duo.evt with mismatch := true } } }) := by
  unfold samplerTake
  simp only
  rw [if_pos (.inr h), if_pos h]
  rfl

theorem samplerTake_stale (h : (reportOf p d).verdict = .staleMirror) (hs : (dieOf p d).st = .standby) :
    samplerTake d p = standbyStale d (published d p) := by
  unfold samplerTake
  simp only
  rw [if_neg (by simp [h]), if_pos ⟨h, published_st.1.trans hs⟩]
  rfl

theorem samplerTake_pass (h : (reportOf p d).verdict = .pass) (hs : (dieOf p d).st = .candidate) (hk : (dieOf p d).soak = false) :
    samplerTake d p = toDual d (published d p) := by
  unfold samplerTake
  simp only
  rw [if_neg (by simp [h]), if_neg (by simp [h]), if_pos ⟨h, published_st.1.trans hs, by simp [hk]⟩]
  rfl

theorem samplerTake_stays (h : (reportOf p d).verdict = .coverage ∨ ((reportOf p d).verdict = .staleMirror ∧ (dieOf p d).st ≠ .standby) ∨
      ((reportOf p d).verdict = .pass ∧ ((dieOf p d).st ≠ .candidate ∨ (dieOf p d).soak = true))) :
    samplerTake d p = published d p := by
  unfold samplerTake
  simp only [dieOf_updDie]
  rcases h with h | ⟨h, hs⟩ | ⟨h, hs | hs⟩
  all_goals rw [if_neg (by simp [h]), if_neg (by simp [*]), if_neg (by simp [*])]; rfl

theorem samplerReport_same (t : TestIn) (h : shadows p d = false) : samplerReport d t p = p := by
  unfold samplerReport
  exact if_pos (by simp [h])

theorem samplerReport_failed {q : Pkg} (t : TestIn) (h : shadows p d = true)
    (hq : q = updDie d (fun x => { x with shadow := runTests t p.thm.quiet p.tim.now x.shadow }) p)
    (hf : (dieOf q d).shadow.failed = true) : samplerReport d t p = dieFault .self 0xF d q := by
  subst hq
  unfold samplerReport
  simp only
  rw [if_neg (by simp [h]), if_pos hf]

theorem samplerReport_takes {q : Pkg} (t : TestIn) (h : shadows p d = true)
    (hq : q = updDie d (fun x => { x with shadow := runTests t p.thm.quiet p.tim.now x.shadow }) p)
    (hv : (reportOf q d).verdict ≠ .failTest) : samplerReport d t p = samplerTake d q := by
  subst hq
  unfold samplerReport
  simp only
  rw [if_neg (by simp [h]), if_neg (mt reportOf_failed hv)]

/-! ### Soak and full synchronisation (11 R353, R363, R374) -/

theorem samplerStale_due {r : Sampler} {t : Nat} (hs : (dieOf p d).st = .standby) (hr : (dieOf p d).report = some (r, t))
    (h : due p (t + 10000000) = true) : samplerStale d p = standbyStale d p := by
  unfold samplerStale
  simp only [hr]
  exact if_pos ⟨hs, h⟩

theorem samplerStale_early {r : Sampler} {t : Nat} (hr : (dieOf p d).report = some (r, t)) (h : due p (t + 10000000) = false) :
    samplerStale d p = p := by
  unfold samplerStale
  simp only [hr]
  exact if_neg (by simp [h])

theorem samplerStale_same (h : (dieOf p d).st ≠ .standby) : samplerStale d p = p := if_neg fun hc => h hc.1

theorem soakDone_due {t : Nat} (hs : (dieOf p d).st = .candidate) (ha : p.duo.arb = .sync) (hk : (dieOf p d).soak = true)
    (ht : (dieOf p d).soakFrom = some t) (h : due p (t + p.duo.soak * 1000000) = true) : soakDone d p = toDual d p :=
  if_pos ⟨hs, ha, hk, by rw [ht]; exact h⟩

theorem soakDone_early {t : Nat} (ht : (dieOf p d).soakFrom = some t) (h : due p (t + p.duo.soak * 1000000) = false) :
    soakDone d p = p := by
  refine if_neg fun ⟨_, _, _, hd⟩ => ?_
  rw [ht] at hd
  exact Bool.false_ne_true (h.symm.trans hd)

theorem soakDone_same (h : (dieOf p d).st ≠ .candidate ∨ p.duo.arb ≠ .sync ∨ (dieOf p d).soak = false ∨ (dieOf p d).soakFrom = none) :
    soakDone d p = p := by
  refine if_neg fun ⟨hs, ha, hk, hd⟩ => ?_
  rcases h with h | h | h | h
  · exact h hs
  · exact h ha
  · rw [h] at hk; cases hk
  · rw [h] at hd; cases hd

theorem fullSync_candidate (hs : (dieOf p d).st = .candidate) (hn : (dieOf p d).shadow.synced = false) : fullSync d p =
    (List.range 96).foldl (fun p q => updPin q (fun x => x.setLines d (x.lines d.other)) p)
      (updDie d (fun x => { x with shadow := { x.shadow with synced := true, supAt := p.clk, goodAt := List.replicate 8 p.clk } }) p) :=
  if_pos ⟨hs, by simp [hn]⟩

theorem fullSync_same (h : (dieOf p d).st ≠ .candidate ∨ (dieOf p d).shadow.synced = true) : fullSync d p = p := by
  refine if_neg fun ⟨hs, hn⟩ => ?_
  rcases h with h | h
  · exact h hs
  · simp [h] at hn

/-! ### Return of a repaired die (11 R375, R376) -/

theorem autoReadmit_eligible {t : Nat} (hs : (dieOf p d).st = .failed) (ha : p.duo.arb = .solo) (hu : p.duo.auto = true)
    (ht : (dieOf p d).failedAt = some t) (hd : due p (t + 1000000000) = true) (hm : readmitCount p d < p.duo.maxReadmit) :
    autoReadmit d p =
      updDie d (fun x => { x with st := .testing, shadow := {}, failedAt := none, readmits := cap 255 (p.tim.now :: x.readmits) }) p := by
  unfold autoReadmit startTest
  simp only
  rw [if_neg (by simp [hs, ha, hu, ht, dueO, hd, hm]), updDie_updDie]
  rfl

theorem autoReadmit_same (h : (dieOf p d).st ≠ .failed ∨ p.duo.arb ≠ .solo ∨ p.duo.auto = false ∨ readmitCount p d ≥ p.duo.maxReadmit) :
    autoReadmit d p = p := by
  refine if_pos ?_
  rcases h with h | h | h | h
  · exact .inl h
  · exact .inr (.inl h)
  · exact .inr (.inr (.inl (by simp [h])))
  · exact .inr (.inr (.inr (.inr h)))

theorem dieTested_passes (hs : (dieOf p d).st = .testing) (ha : p.duo.arb = .solo) : dieTested d true p = setArb .sync
    (updDie d (fun x => { x with st := .candidate, soak := true, soakFrom := none, shadow := {}
                                 fw := ((activeDie p).map (fun k => (dieOf p k).fw)).getD none })
      { p with sys := { p.sys with wiped := upd p.sys.wiped (dieIx d) (fun _ => true) } }) := by
  unfold dieTested
  rw [if_neg (by simp [hs, ha]), if_pos rfl]
  cases d <;> rfl

theorem dieTested_fails (hs : (dieOf p d).st = .testing) (ha : p.duo.arb = .solo) : dieTested d false p = standbyFails d p := by
  unfold dieTested
  rw [if_neg (by simp [hs, ha]), if_neg (by simp)]

theorem dieTested_same (ok : Bool) (h : (dieOf p d).st ≠ .testing ∨ p.duo.arb ≠ .solo) : dieTested d ok p = p := if_pos h

end

end Sys2Proof.Machine

open Sys2Proof Sys2Proof.Machine

/-- Settles O26: each event by whether the die is in the state for it; a report by its verdict. -/
theorem mirrorsAndReportsMakeAStandby : Obligations.MirrorsAndReportsMakeAStandby := by
  intro s d u x
  refine ⟨fun c ok agree loop h => run1_same (fastMirror_same _ _ _ _ h),
    fun c agree loop h hs hg => does_of (fastMirror_compared _ _ h hs hg),
    fun c agree loop h hf => does_of (fastMirror_adopted _ _ h hf), ?lost,
    fun ok h => run1_same (supMirror_same _ h), ?supAdopted, ?supLost,
    fun ts h => run1_same (samplerReport_same _ h), ?report,
    fun r t hs hr => ⟨fun h => does_of (samplerStale_due hs hr h), fun h => run1_same (samplerStale_early hr h)⟩,
    fun h => run1_same (samplerStale_same h),
    fun t hs ha hk ht => ⟨fun h => does_of (soakDone_due hs ha hk ht h), fun h => run1_same (soakDone_early ht h)⟩,
    fun h => run1_same (soakDone_same h), fun hs hn => does_of (fullSync_candidate hs hn), fun h => run1_same (fullSync_same h),
    fun t hs ha hu ht hd hm => does_of (autoReadmit_eligible hs ha hu ht hd hm), fun h => run1_same (autoReadmit_same h),
    fun hs ha => does_of (dieTested_passes hs ha), fun hs ha => does_of (dieTested_fails hs ha),
    fun ok h => run1_same (dieTested_same ok h)⟩
  case lost =>
    intro c agree loop h
    exact ⟨_, run1_keep (fastMirror_lost _ _ _ h) (by simp) (by simp), rfl⟩
  case supAdopted => exact fun h => ⟨_, run1_keep (supMirror_adopted h) (by simp) (by simp), rfl⟩
  case supLost => exact fun h => ⟨_, run1_keep (supMirror_lost h) (by simp) (by simp), rfl⟩
  case report =>
    intro ts h p0 r p
    have hp : p = published d p0 := by
      have hclk : p0.clk = s.m.clk := updDie_clk _ _ _
      unfold published
      rw [hclk]
    have htested : dieOf p0 d = { x with shadow := runTests ts s.m.thm.quiet s.m.tim.now x.shadow } := dieOf_updDie d _ s.m
    have hst : (dieOf p0 d).st = x.st := by rw [htested]
    have hsoak : (dieOf p0 d).soak = x.soak := by rw [htested]
    have htake : r.verdict ≠ .failTest → samplerReport d ts s.m = samplerTake d p0 := samplerReport_takes ts h rfl
    rw [hp, ← hst, ← hsoak]
    refine ⟨fun hf => does_of (samplerReport_failed ts h rfl hf), fun hv => does_of ((htake ?_).trans (samplerTake_mismatch hv)),
      fun hv hs => does_of ((htake ?_).trans (samplerTake_stale hv hs)),
      fun hv hs hk => does_of ((htake ?_).trans (samplerTake_pass hv hs hk)),
      fun hv => does_of ((htake ?_).trans (samplerTake_stays hv))⟩
    · rw [hv]; decide
    · rw [hv]; decide
    · rw [hv]; decide
    · rcases hv with hv | ⟨hv, -⟩ | ⟨hv, -⟩ <;> rw [hv] <;> decide
end

section
/-!
Lane register writes, eye scans and fault injections of chapter 12 (O35).
-/

namespace Sys2Proof.Machine

section
variable {p : Pkg} {l : Nat}

/-! ### Lane registers (12 R396, R400) -/

theorem updFl_updFl (f g : FLane → FLane) : updFl l g (updFl l f p) = updFl l (g ∘ f) p := by
  simp only [updFl, upd_upd]

/-- ENABLE cleared on a lane in any other state: training and data stop, and the loss of one that was UP reaches the network layer. -/
theorem laneEnable_off (h : (flAt p l).st ≠ .disabled) : laneEnable l false p =
    let q := updFl l (fun x => { x with
      enable := false, st := .disabled, train := { prbs := x.train.prbs }
      data := { x.data with txIdle := true, rxIdle := false, wait := none, line := [] } }) p
    if laneUp p l = true then laneLost l (scanLost l q) else q := by
  unfold laneEnable
  simp only
  rw [Bool.not_false, if_pos rfl, if_neg h, updFl_updFl]
  rfl

theorem laneEnable_off_disabled (h : (flAt p l).st = .disabled) :
    laneEnable l false p = updFl l (fun x => { x with enable := false }) p := by
  unfold laneEnable
  simp only
  rw [Bool.not_false, if_pos rfl, if_pos h]

theorem laneEnable_on : laneEnable l true p = if (flAt p l).st = .disabled
    then toSearch l true false (updFl l (fun x => { x with enable := true }) p) else updFl l (fun x => { x with enable := true }) p := by
  unfold laneEnable
  simp only
  rw [Bool.not_true, if_neg Bool.false_ne_true]

/-! ### Eye scans (12 R403, R404) -/

theorem scanPoint_same (errors : Nat) (h : (flAt p l).scan = none ∨ ∃ e, (flAt p l).scan = some e ∧ e.on = false) :
    scanPoint l errors p = p := by
  rcases h with h | ⟨e, h, ho⟩ <;> simp only [scanPoint, h]
  exact if_pos (by simp [ho])

theorem scanPoint_counted {e : EyeScan} (errors : Nat) (h : (flAt p l).scan = some e) (ho : e.on = true)
    (hn : e.counts.length + 1 < scanPoints e) : scanPoint l errors p =
      updFl l (fun x => { x with scan := some { e with counts := e.counts ++ [min errors 0xFFFFFFFF] } }) p := by
  have hf : decide ((e.counts ++ [min errors 0xFFFFFFFF]).length ≥ scanPoints e) = false :=
    decide_eq_false (by rw [List.length_append]; exact Nat.not_le.2 hn)
  simp only [scanPoint, h]
  rw [if_neg (by simp [ho]), hf, if_neg Bool.false_ne_true, if_neg Bool.false_ne_true, ho]
  rfl

theorem scanPoint_last {e : EyeScan} (errors : Nat) (h : (flAt p l).scan = some e) (ho : e.on = true)
    (hn : e.counts.length + 1 ≥ scanPoints e) : scanPoint l errors p = finishWork e.work .ok (updFl l (fun x => { x with
      scan := some { e with counts := e.counts ++ [min errors 0xFFFFFFFF], on := false, t1 := p.tim.now } }) p) := by
  have hf : decide ((e.counts ++ [min errors 0xFFFFFFFF]).length ≥ scanPoints e) = true :=
    decide_eq_true (by rw [List.length_append]; exact hn)
  simp only [scanPoint, h]
  rw [if_neg (by simp [ho]), hf, if_pos rfl, if_pos rfl]
  rfl

/-! ### The injection window (12 R406, R408) -/

theorem windowClosed_same (h : p.dfl.window ≠ 0 ∨ lcOf p ≠ .field) : windowClosed p = p :=
  if_neg fun ⟨hl, hw⟩ => h.elim (· hw) (· hl)

theorem windowClosed_ends (hl : lcOf p = .field) (hw : p.dfl.window = 0) :
    windowClosed p = (List.range 8).foldl (fun p l => injEnd l .ok p) p := if_pos ⟨hl, hw⟩

/-- A value that is taken is the window's, with its client; the window it leaves may be closed. -/
theorem injWindowWrite_taken {v : Nat} (client : Nat) (hv : v ≤ 3600) (hm : p.sys.mode ≠ .retired) :
    injWindowWrite v client p = windowClosed { p with dfl := { p.dfl with window := v, client := client } } :=
  if_neg fun h => h.elim (Nat.not_lt.2 hv) hm

theorem injWindowTick_open (h : p.dfl.window ≥ 2 ∨ lcOf p ≠ .field) :
    injWindowTick p = { p with dfl := { p.dfl with window := p.dfl.window - 1 } } :=
  windowClosed_same (h.imp_left Nat.sub_ne_zero_of_lt)

theorem injWindowTick_closes (hw : p.dfl.window ≤ 1) (hl : lcOf p = .field) :
    injWindowTick p = (List.range 8).foldl (fun p l => injEnd l .ok p) { p with dfl := { p.dfl with window := 0 } } := by
  unfold injWindowTick
  rw [Nat.sub_eq_zero_of_le hw]
  exact windowClosed_ends hl rfl

/-! ### The end of an injection (12 R408) -/

theorem injEnd_running {i : Injection} (st : Status) (h : (flAt p l).run = some i) :
    injEnd l st p = finishWork i.work st (updFl l (fun x => { x with run := none }) p) := by
  simp only [injEnd, h]

theorem injectionEnd_none (h : (flAt p l).run = none) : injectionEnd l p = p := by
  simp only [injectionEnd, h]

theorem injectionEnd_running {i : Injection} (h : (flAt p l).run = some i) : injectionEnd l p =
    if due p i.until_ = true ∨ (i.maxEv ≠ 0 ∧ (flAt p l).inj ≥ i.maxEv) ∨ (lcOf p = .field ∧ p.dfl.window = 0)
    then finishWork i.work .ok (updFl l (fun x => { x with run := none }) p) else p := by
  rw [← injEnd_running .ok h]
  simp only [injectionEnd, h]

end

end Sys2Proof.Machine

open Sys2Proof Sys2Proof.Machine

/-- Settles O35: each register by what its write comes to, a scan point and an injection by whether one is running, and
the window by whether it is left closed in FIELD. -/
theorem laneRegistersScansAndInjectionsAct : Obligations.LaneRegistersScansAndInjectionsAct := by
  intro s l x
  refine ⟨fun h => does_of (if_pos h), fun h => run1_same (if_neg (by simp [h])), fun h => does_of (laneEnable_on.trans (if_pos h)),
    fun h => does_of (laneEnable_on.trans (if_neg h)), fun h => does_of (laneEnable_off_disabled h),
    fun h => ⟨fun hu => does_of ((laneEnable_off h).trans (if_pos hu)),
      fun hu => does_of ((laneEnable_off h).trans (if_neg (by simp [hu])))⟩,
    fun on => does_of rfl, fun errors h => run1_same (scanPoint_same errors h),
    fun errors e h ho => ⟨fun hn => does_of (scanPoint_counted errors h ho hn), fun hn => does_of (scanPoint_last errors h ho hn)⟩,
    fun v client h => run1_same (if_pos h), ?opens, ?closes, fun h => does_of (injWindowTick_open h),
    fun hw hl => does_of (injWindowTick_closes hw hl), fun h => run1_same (injectionEnd_none h), ?ends⟩
  case opens =>
    intro v client h1 hv hm
    exact does_of ((injWindowWrite_taken client hv hm).trans (windowClosed_same (.inl (Nat.ne_of_gt h1))))
  case closes =>
    intro client hm hl
    exact does_of ((injWindowWrite_taken client (Nat.zero_le _) hm).trans (windowClosed_ends hl rfl))
  case ends =>
    intro i h
    refine ⟨fun hc => does_of ((injectionEnd_running h).trans (if_pos hc)),
      fun hd he hw => run1_same ((injectionEnd_running h).trans (if_neg ?_))⟩
    rintro (hd' | ⟨h0, hn⟩ | ⟨hl, h0⟩)
    · exact Bool.false_ne_true (hd.symm.trans hd')
    · exact he.elim h0 (Nat.not_lt.2 hn)
    · exact hw.elim (· hl) (· h0)
end

section
/-!
One step of the queue, and the nonces that are issued (O1, O2, O12).
-/

namespace Sys2Proof.Machine

/-- An issued nonce is that client's, and outstanding (18 R547). -/
theorem nonceOk_issueNonce (client : Nat) (n : List Byte) (p : Pkg) : nonceOk (issueNonce client n p) client n = true := by
  unfold nonceOk issueNonce
  simp only
  rw [List.any_cons]
  simp

/-- Making a result final leaves the nonces outstanding. -/
theorem nonceOk_finaliseR (ix : Nat) (r : Result) (client : Nat) (n : List Byte) (p : Pkg) :
    nonceOk (finaliseR ix r p) client n = nonceOk p client n := by
  obtain ⟨-, -, hn, -⟩ := finaliseR_work ix r p
  have hc : (finaliseR ix r p).clk = p.clk := by rw [finaliseR_keeps]
  unfold nonceOk
  rw [hn, hc]

end Sys2Proof.Machine

open Sys2Proof Sys2Proof.Machine

/-- Settles O1: that is how a step is defined on a queue with a front. -/
theorem stepTakesTheFrontCommand : Obligations.StepTakesTheFrontCommand := fun _ _ _ => rfl

/-- Settles O2: that is how a step is defined on an empty queue. -/
theorem stepOnAnEmptyQueueIdles : Obligations.StepOnAnEmptyQueueIdles := by
  intro s h
  unfold step
  rw [h]

/-- Settles O12: the query's final result leaves the nonce that its answer has issued. -/
theorem nonceGetIssuesANonce : Obligations.NonceGetIssuesANonce := by
  intro s ep i nonce ix h
  refine ⟨_, run_query h rfl (fun _ => rfl) rfl, finalise_final _ _ _ h.1.1.1.1.not_free rfl rfl, ?_, ?_⟩
  · exact (nonceOk_finaliseR _ _ _ _ _).trans (nonceOk_issueNonce _ _ _)
  · exact finalise_keeps_sys ix 0 0 _ _ (by decide)
end

section
/-!
The fabric network of chapter 13: packets at a lane, neighbours, link state, routes and time exchanges (O36); streams,
floods and mirroring (O37).
-/

namespace Sys2Proof.Machine

section
variable {p : Pkg} {l : Nat}

/-! ### Packets at a lane (13 R411, R416) -/

theorem pktIn_same {b : List Byte} (use : NPkt → Pkg → Pkg) (h : awake p = false ∨ laneUp p l = false) : pktIn l b use p = p :=
  if_pos (h.imp (by simp [·]) (by simp [·]))

/-- A packet at a lane that is UP, with an active die. -/
theorem pktIn_up {b : List Byte} (use : NPkt → Pkg → Pkg) (ha : awake p = true) (hl : laneUp p l = true) : pktIn l b use p =
    match pktOf b with
    | none => { p with dfn := { p.dfn with crc := inc16 p.dfn.crc } }
    | some k =>
      if k.dst = 0xFFFE ∨ k.dst = myAddr p ∨ k.dst = 0xFFFF then use k p
      else if k.dst ≥ 0xF000 ∨ k.dst = 0 then p
      else if k.ttl ≤ 1 then { p with dfn := { p.dfn with ttl := inc16 p.dfn.ttl } }
      else sendPkt { k with ttl := k.ttl - 1 } p :=
  if_neg (by simp [ha, hl])

theorem pktIn_badCrc {b : List Byte} (use : NPkt → Pkg → Pkg) (ha : awake p = true) (hl : laneUp p l = true)
    (hb : pktOf b = none) : pktIn l b use p = { p with dfn := { p.dfn with crc := inc16 p.dfn.crc } } := by
  rw [pktIn_up use ha hl, hb]

/-- A packet for this module, for its neighbour or for all. -/
theorem pktIn_used {b : List Byte} {k : NPkt} (use : NPkt → Pkg → Pkg) (ha : awake p = true) (hl : laneUp p l = true)
    (hb : pktOf b = some k) (hd : k.dst = 0xFFFE ∨ k.dst = myAddr p ∨ k.dst = 0xFFFF) : pktIn l b use p = use k p := by
  rw [pktIn_up use ha hl, hb]
  exact if_pos hd

/-- A packet for another module. -/
theorem pktIn_forwarded {b : List Byte} {k : NPkt} (use : NPkt → Pkg → Pkg) (ha : awake p = true) (hl : laneUp p l = true)
    (hb : pktOf b = some k) (hd : k.dst < 0xF000) (h0 : k.dst ≠ 0) (hm : k.dst ≠ myAddr p) : pktIn l b use p =
      if k.ttl ≤ 1 then { p with dfn := { p.dfn with ttl := inc16 p.dfn.ttl } } else sendPkt { k with ttl := k.ttl - 1 } p := by
  rw [pktIn_up use ha hl, hb]
  exact (if_neg (by omega)).trans (if_neg (by omega))

/-! ### Neighbours (13 R413, R414) -/

theorem helloSend_asleep (h : awake p = false) : helloSend p = p := if_pos (by simp [h])

theorem helloSend_awake (h : awake p = true) : helloSend p = (upLanes p).foldl (fun p l =>
    sendLocal l 1 (toBe 8 p.dfn.serial ++ toBe 2 (nodeAddr p) ++ toBe 2 p.dfn.disc ++ [byte l, byte (bit (activeDie p == some .b))]
      ++ toBe 4 ((p.ldg.nv.map_.map (·.ver)).getD 0) ++ toBe 2 (timeWord p)) p) p := if_neg (by simp [h])

/-- The neighbour that a HELLO tells of. -/
def helloNbr (b : List Byte) (t : Nat) : Nbr :=
  { serial := be b 0 8, node := be b 8 2, disc := be b 10 2, lane := be b 12 1 % 8, die := be b 13 1 % 2, mapVer := be b 14 4
    time := be b 18 2, heard := t }

theorem hello_badLength {k : NPkt} (h : k.data.length ≠ 20) : hello l k p = p := if_pos (.inr h)

/-- A HELLO of the neighbour that the lane has already, at the same addresses. -/
theorem hello_known {k : NPkt} {n o : Nbr} (hd : k.dst = 0xFFFE) (hb : k.data.length = 20) (hn : n = helloNbr k.data p.clk)
    (ho : (nlAt p l).nbr = some o) (hs : o.serial = n.serial) (ha : o.node = n.node) (hc : o.disc = n.disc) :
    hello l k p = timeState (timeSource (discover (if n.node ≠ 0 then n.node else n.disc) n.serial
      (clash n.disc n.serial (updNl l (fun x => { x with nbr := some n }) p)))) := by
  subst hn
  unfold hello
  simp only
  rw [if_neg (by simp [hd, hb]), ho]
  refine congrArg (fun q => timeState (timeSource (discover _ _ (clash _ _ q)))) (if_neg ?_)
  simp only [helloNbr] at hs ha hc
  simp [hs, ha, hc]

/-- A HELLO on a lane without a neighbour: links and routes have changed. -/
theorem hello_new {k : NPkt} {n : Nbr} (hd : k.dst = 0xFFFE) (hb : k.data.length = 20) (hn : n = helloNbr k.data p.clk)
    (ho : (nlAt p l).nbr = none) : hello l k p = timeState (timeSource (discover (if n.node ≠ 0 then n.node else n.disc) n.serial
      (clash n.disc n.serial (let q := updNl l (fun x => { x with nbr := some n }) p
        { q with dfn := { q.dfn with lsaDue := true, dirty := true } })))) := by
  subst hn
  unfold hello
  simp only
  rw [if_neg (by simp [hd, hb]), ho]
  rfl

theorem nbrAbsent_none (h : (nlAt p l).nbr = none) : nbrAbsent l p = p := by simp only [nbrAbsent, h]

theorem nbrAbsent_some {n : Nbr} (h : (nlAt p l).nbr = some n) :
    nbrAbsent l p = if due p (n.heard + 30000000) = true then laneLost l p else p := by simp only [nbrAbsent, h]

/-! ### Link state and routes (13 R415, R421, R422) -/

theorem lsaSend_same (h : awake p = false ∨ (p.dfn.lsaDue = false ∧ due p (p.dfn.lsaAt + 1000000000) = false)) : lsaSend p = p := by
  refine if_pos ?_
  rcases h with h | ⟨h, hd⟩
  · simp [h]
  · simp [h, hd]

theorem lsaSend_due (ha : awake p = true) (h : p.dfn.lsaDue = true ∨ due p (p.dfn.lsaAt + 1000000000) = true) :
    lsaSend p = (let n := (p.dfn.lsaSeq + 1) % 2 ^ 32
      floodSend 0 (toBe 2 (myAddr p) ++ toBe 4 n ++ [byte (ownLinks p).length, 0]
        ++ ((ownLinks p).map (fun k => toBe 2 k.nbr ++ [byte k.lane, byte k.peer, byte k.l, byte k.e, byte k.u, 0])).flatten)
          { p with dfn := { p.dfn with lsaSeq := n, lsaAt := p.clk, lsaDue := false
                                       lane := p.dfn.lane.map (fun x => { x with flooded := (x.l, x.e, x.u) }) } }) :=
  if_neg (by rcases h with h | h <;> simp [ha, h])

theorem lsaIn_own {k : NPkt} (h : be k.data 0 2 = myAddr p ∨ k.data.length ≠ 8 + 8 * be k.data 6 1) : lsaIn l k p = p :=
  if_pos (.inr (.inr (h.imp_right .inl)))

theorem lsaIn_old {k : NPkt} {x : Lsa} (h : p.dfn.lsas.find? (fun x => x.origin == be k.data 0 2) = some x)
    (hn : newer (be k.data 2 4) x.seq = false) : lsaIn l k p = p := by
  refine if_pos (.inr (.inr (.inr (.inr ?_))))
  rw [h]
  simp [hn]

/-- A link-state packet of an origin that the map does not have. -/
theorem lsaIn_new {k : NPkt} (hk : k.kind = 3) (hd : k.dst = 0xFFFF) (ho : be k.data 0 2 ≠ myAddr p)
    (hb : k.data.length = 8 + 8 * be k.data 6 1) (h : p.dfn.lsas.find? (fun x => x.origin == be k.data 0 2) = none) :
    lsaIn l k p = discover (be k.data 0 2) 0 (passOn l k { p with dfn := { p.dfn with
      dirty := true
      lsas := { origin := be k.data 0 2, seq := be k.data 2 4, links := lsaLinks k.data, at_ := p.clk } ::
        p.dfn.lsas.filter (fun x => x.origin != be k.data 0 2) } }) := by
  unfold lsaIn
  simp only
  rw [h]
  refine (if_neg ?_).trans ?_
  · rintro (h | h | h | h | h)
    · exact h hk
    · exact h hd
    · exact ho h
    · exact h hb
    · cases h
  · rw [Bool.or_true]

theorem lsaAge_some {o : Nat} {x : Lsa} (h : p.dfn.lsas.find? (fun x => x.origin == o) = some x) :
    lsaAge o p = if due p (x.at_ + 3000000000) = true then
      { p with dfn := { p.dfn with lsas := p.dfn.lsas.filter (fun y => y.origin != o), dirty := true } } else p := by
  simp only [lsaAge, h]

theorem recompute_clean (h : p.dfn.dirty = false) : recompute p = p := if_pos (by simp [h])

theorem recompute_dirty (h : p.dfn.dirty = true) : recompute p = p.dfn.held.foldl (fun p k => sendPkt k p)
    { p with dfn := { p.dfn with
      dests := mapI (fun i d => { d with routes := ((List.range 16).map (classRoutes p)).map (fun rs => rs.getD i {}) }) p.dfn.dests
      dirty := false, held := [] } } := if_neg (by simp [h])

/-! ### Time exchanges (13 R438) -/

theorem syncSend_asleep (h : awake p = false) : syncSend p = p := if_pos (by simp [h])

theorem syncSend_awake (h : awake p = true) : syncSend p = (upLanes p).foldl (fun p l =>
    updNl l (fun x => { x with t1 := some (p.tim.now * 1000) }) (sendLocal l 1 (toBe 8 (p.tim.now * 1000)) p)) p :=
  if_neg (by simp [h])

theorem syncPacket_asleep (f : SyncIn) (h : awake p = false) : syncPacket l f p = p := if_pos (by simp [h])

theorem syncPacket_request (t1 t2 t3 : Nat) (ha : awake p = true) (hl : laneUp p l = true) :
    syncPacket l (.request t1 t2 t3) p = sendLocal l 1 (toBe 8 t1 ++ toBe 8 t2 ++ toBe 8 t3) p := if_neg (by simp [ha, hl])

/-- A reply on a lane without an exchange in progress. -/
theorem syncPacket_stray (t1 t2 t3 t4 : Nat) (h : (nlAt p l).t1 = none) : syncPacket l (.reply t1 t2 t3 t4) p = p := by
  unfold syncPacket
  split
  · rfl
  · exact if_pos (by simp [h])

theorem syncPacket_reply (t1 t2 t3 t4 : Nat) (ha : awake p = true) (hl : laneUp p l = true) (h : (nlAt p l).t1.isSome = true) :
    syncPacket l (.reply t1 t2 t3 t4) p = (
      let d1 : Int := (t2 : Int) - t1; let d2 : Int := (t4 : Int) - t3
      let e : SyncEx := { rtt := (d1 + d2).toNat, offset := (d1 - d2) / 2 }
      upExchange l e (timeSource (updNl l (fun x => { x with t1 := none, exs := cap 8 (e :: x.exs) }) p))) :=
  (if_neg (by simp [ha, hl])).trans (if_neg (by rw [← Option.not_isSome, h]; decide))

end

end Sys2Proof.Machine

open Sys2Proof Sys2Proof.Machine

/-- Settles O36: a packet by what the lane makes of it, then each row by whether there is something for it to do. -/
theorem neighboursLinksAndTimeAreExchanged : Obligations.NeighboursLinksAndTimeAreExchanged := by
  intro s
  refine ⟨?asleep, fun h => does_of (helloSend_awake h), fun h => does_of (syncSend_awake h),
    fun l b h => ⟨run1_same (pktIn_same _ (.inr h)), run1_same (pktIn_same _ (.inr h))⟩, ?badCrc,
    fun l w k ha hl hw hd hb => run1_same ((pktIn_used _ ha hl hw (.inl hd)).trans (hello_badLength hb)), ?hello,
    fun l n h => ⟨fun hd => does_of ((nbrAbsent_some h).trans (if_pos hd)),
      fun hd => run1_same ((nbrAbsent_some h).trans (if_neg (by simp [hd])))⟩,
    fun l h => run1_same (nbrAbsent_none h), fun h hd => run1_same (lsaSend_same (.inr ⟨h, hd⟩)),
    fun ha h => does_of (lsaSend_due ha h),
    fun l w k ha hl hw hd h => run1_same ((pktIn_used _ ha hl hw (.inr (.inr hd))).trans (lsaIn_own h)),
    fun l w k x ha hl hw hd h hn => run1_same ((pktIn_used _ ha hl hw (.inr (.inr hd))).trans (lsaIn_old h hn)), ?lsa,
    fun o x h => ⟨fun hd => does_of ((lsaAge_some h).trans (if_pos hd)),
      fun hd => run1_same ((lsaAge_some h).trans (if_neg (by simp [hd])))⟩,
    fun h => run1_same (recompute_clean h), fun h => does_of (recompute_dirty h),
    fun l t1 t2 t3 ha hl => does_of (syncPacket_request t1 t2 t3 ha hl),
    fun l t1 t2 t3 t4 h => run1_same (syncPacket_stray t1 t2 t3 t4 h),
    fun l t1 t2 t3 t4 ha hl h => does_of (syncPacket_reply t1 t2 t3 t4 ha hl h)⟩
  case asleep =>
    intro h
    exact ⟨run1_same (helloSend_asleep h), run1_same (syncSend_asleep h), run1_same (lsaSend_same (.inl h)),
      fun l b f => ⟨run1_same (pktIn_same _ (.inl h)), run1_same (pktIn_same _ (.inl h)), run1_same (syncPacket_asleep f h)⟩⟩
  case badCrc =>
    rintro l b ha hl hb c (rfl | rfl)
    · exact does_of (pktIn_badCrc _ ha hl hb)
    · exact does_of (pktIn_badCrc _ ha hl hb)
  case hello =>
    intro l w k ha hl hw hd hb
    have hk := pktIn_used (hello l.val) ha hl hw (.inl hd)
    exact ⟨fun o ho hs hn hc => does_of (hk.trans (hello_known hd hb rfl ho hs hn hc)),
      fun ho => does_of (hk.trans (hello_new hd hb rfl ho))⟩
  case lsa =>
    intro l w k ha hl hw hk hd b ho hb h p
    have hin : pktIn l.val w (lsaIn l.val) s.m = discover (be b 0 2) 0 (passOn l.val k p) :=
      (pktIn_used _ ha hl hw (.inr (.inr hd))).trans (lsaIn_new hk hd ho hb h)
    exact ⟨fun ht => does_of (hin.trans (congrArg (discover _ 0) (if_neg (Nat.not_le.2 ht)))),
      fun ht => does_of (hin.trans (congrArg (discover _ 0) (if_pos ht)))⟩
end

section
/-!
Packets, streams and floods of the fabric network, and mirroring (O37).
-/

namespace Sys2Proof.Machine

section
variable {p : Pkg}

/-! ### Streams (13 R423 to R426) -/

theorem dataIn_stream {k : NPkt} (h1 : k.kind = 1) (hf : k.dst ≠ 0xFFFF) (hl : k.dst ≠ 0xFFFE) : dataIn k p = (
    let q := oldGone k p
    let r := rxFor k q
    let ahead := (k.seq + 2 ^ 32 - r.next) % 2 ^ 32
    if ahead ≥ 2 ^ 31 then ackSend k.src k.cls { putRx r q with dfn := { (putRx r q).dfn with dups := inc32 q.dfn.dups } }
    else if ahead > 64 then putRx r q
    else ackFour k.src k.cls (deliverRun k.src k.cls 65
      (putRx (if r.buf.any (fun x => x.1 == k.seq) then r else { r with buf := r.buf ++ [(k.seq, k.data)] }) q))) :=
  if_neg (by simp [h1, hf, hl])

theorem streamAck_other {k : NPkt} (h : k.kind ≠ 2 ∨ k.data.length ≠ 16 ∨ be k.data 2 2 ≠ myEpoch p) : streamAck k p = p := if_pos h

theorem ackDue_some {src cls : Nat} {r : RxStream} (h : rxAt p src cls = some r) :
    ackDue src cls p = if r.owed > 0 ∧ awake p = true then ackSend src cls p else p := by simp only [ackDue, h]

theorem rtoExpiry_some {p0 : Pkg} {dst cls seq t : Nat} {x : TxStream} {u : Unacked} (hp : p = advance t p0)
    (hx : p.dfn.txs.find? (fun s => s.dst == dst && s.cls == cls) = some x) (hu : x.out.find? (fun u => u.seq == seq) = some u) :
    rtoExpiry dst cls seq t p0 = if awake p = true ∧ p.clk ≥ u.sent + u.rto then resend x u p else p := by
  subst hp
  simp only [rtoExpiry, hx, hu]

theorem peerLost_some {dst cls : Nat} {x : TxStream} (h : p.dfn.txs.find? (fun s => s.dst == dst && s.cls == cls) = some x) :
    peerLost dst cls p = if x.out ≠ [] ∧ x.lost = false ∧ due p (x.acked + 10000000000) = true then
      dfnEvt (fun e => { e with peerLost := true }) { p with dfn := { p.dfn with
        txs := p.dfn.txs.map (fun x => if x.dst = dst ∧ x.cls = cls then { x with lost := true } else x) } } else p := by
  simp only [peerLost, h]
  simp

/-! ### Floods (13 R428) -/

theorem floodIn_seen {l : Nat} {k : NPkt} {w : FloodWin} (h : p.dfn.floods.find? (fun w => w.src == k.src) = some w)
    (hn : (floodStep w k.seq).1 = false) : floodIn l k p = p := by
  unfold floodIn
  simp only [h]
  generalize floodStep w k.seq = r at hn ⊢
  obtain ⟨b, w'⟩ := r
  obtain rfl : b = false := hn
  simp

/-! ### Mirroring (13 R431 to R434) -/

theorem mirrorIn_same {src : Nat} {b : List Byte} {ok : Bool}
    (h : awake p = false ∨ nodeAddr p = 0 ∨ b.length < 12 ∨ ok = false ∨ p.mtr.nvBlock = true) : mirrorIn src b ok p = p :=
  if_pos (h.imp (by simp [·]) (Or.imp_right (Or.imp_right (Or.imp_left (by simp [·])))))

theorem mirrorIn_stored {src : Nat} {b : List Byte} (ha : awake p = true) (hn : nodeAddr p ≠ 0) (hb : b.length ≥ 12)
    (hv : p.mtr.nvBlock = false) : mirrorIn src b true p = (
      let r : MirRec := { id := be b 0 8, kind := be b 8 1, data := b.drop 12 }
      let cs := (src, r) :: p.dfn.nv.copies.filter (fun x => !(x.1 == src && x.2.id == r.id && x.2.kind == r.kind))
      let q := if r.kind = 2 then mirrorTable src r.data p else p
      ownAck r (streamSend src 2 (toBe 8 r.id ++ [0]) { q with dfn := { q.dfn with nv := { q.dfn.nv with copies := cs } } })) :=
  if_neg (by simp [ha, hn, hv, hb])

theorem targetTimeout_lost (hn : nodeAddr p ≠ 0) (ha : awake p = true) (hb : buddyLost p = true) :
    targetTimeout p = setTarget (standIn p) (if standIn p = 0 then .local_ else .standIn) p := if_pos ⟨hn, ha, hb⟩

theorem targetTimeout_same (h : nodeAddr p = 0 ∨ awake p = false ∨ buddyLost p = false) : targetTimeout p = p := by
  refine if_neg fun ⟨hn, ha, hb⟩ => ?_
  rcases h with h | h | h
  · exact hn h
  · exact Bool.false_ne_true (h.symm.trans ha)
  · exact Bool.false_ne_true (h.symm.trans hb)

theorem localTimeout_none (h : p.dfn.noTarget = none) : localTimeout p = p := by simp only [localTimeout, h]

theorem localTimeout_some {t : Nat} (h : p.dfn.noTarget = some t) : localTimeout p = if due p (t + 1000000000) = true
    then ledgerSettle { p with dfn := { p.dfn with mirState := .local_, target := 0 } } else p := by simp only [localTimeout, h]

theorem catchUp_same (h : nodeAddr p = 0 ∨ awake p = false) : catchUp p = p := if_pos (h.imp_right (by simp [·]))

theorem catchUp_awake (hn : nodeAddr p ≠ 0) (ha : awake p = true) : catchUp p =
    if buddyOf p (nodeAddr p) ≠ 0 ∧ reachable p (buddyOf p (nodeAddr p)) = true then setTarget (buddyOf p (nodeAddr p)) .buddy p
    else if standIn p ≠ 0 then setTarget (standIn p) .standIn p else p := if_neg (by simp [hn, ha])

end

end Sys2Proof.Machine

open Sys2Proof Sys2Proof.Machine

/-- Settles O37: a packet by what the lane makes of it, then by its place in its stream; the rest by whether there is
something for the row to do. -/
theorem packetsStreamsAndMirrorsAdvance : Obligations.PacketsStreamsAndMirrorsAdvance := by
  intro s
  refine ⟨fun l b h => ⟨run1_same (pktIn_same _ h), run1_same (pktIn_same _ h), run1_same (pktIn_same _ h)⟩, ?badCrc, ?packet, ?stream,
    fun p k h => streamAck_other h, fun l p k w h hn => floodIn_seen h hn,
    fun src cls r h => ⟨fun ho ha => does_of ((ackDue_some h).trans (if_pos ⟨ho, ha⟩)),
      fun ho => run1_same ((ackDue_some h).trans (if_neg (by simp [ho])))⟩,
    fun dst cls seq t x u hx hu => ⟨fun ha hc => does_of ((rtoExpiry_some rfl hx hu).trans (if_pos ⟨ha, hc⟩)),
      fun hc => does_of ((rtoExpiry_some rfl hx hu).trans (if_neg fun h => Nat.not_le.2 hc h.2))⟩, ?lost,
    fun src b ok h => run1_same (mirrorIn_same h), fun src b ha hn hb hv => does_of (mirrorIn_stored ha hn hb hv),
    fun hn ha hb => does_of (targetTimeout_lost hn ha hb), fun h => run1_same (targetTimeout_same h),
    fun t h => ⟨fun hd => does_of ((localTimeout_some h).trans (if_pos hd)),
      fun hd => run1_same ((localTimeout_some h).trans (if_neg (by simp [hd])))⟩,
    fun h => run1_same (localTimeout_none h), fun h => run1_same (catchUp_same h), ?catchUp⟩
  case badCrc =>
    rintro l b ha hl hb c (rfl | rfl | rfl)
    · exact does_of (pktIn_badCrc _ ha hl hb)
    · exact does_of (pktIn_badCrc _ ha hl hb)
    · exact does_of (pktIn_badCrc _ ha hl hb)
  case packet =>
    intro l b k ha hl hb
    refine ⟨fun hd => ⟨does_of (pktIn_used _ ha hl hb hd), does_of (pktIn_used _ ha hl hb hd), does_of (pktIn_used _ ha hl hb hd)⟩, ?_⟩
    intro hd h0 hm c hc
    have hrun : ∃ use, exec c s = run1 (pktIn l.val b use) s := by
      rcases hc with rfl | rfl | rfl <;> exact ⟨_, rfl⟩
    obtain ⟨use, hrun⟩ := hrun
    have hf := pktIn_forwarded use ha hl hb hd h0 hm
    exact ⟨fun ht => hrun.trans (does_of (hf.trans (if_pos ht))), fun ht => hrun.trans (does_of (hf.trans (if_neg (Nat.not_le.2 ht))))⟩
  case stream =>
    intro p0 k h1 hf hl p r ahead q
    have hin := dataIn_stream (p := p0) h1 hf hl
    refine ⟨fun h => hin.trans (if_pos h), fun h h' => hin.trans ((if_neg (Nat.not_le.2 h')).trans (if_pos h)), fun h hn => ?_⟩
    refine hin.trans ((if_neg fun h' => absurd (Nat.le_trans h' h) (by decide)).trans ((if_neg (Nat.not_lt.2 h)).trans ?_))
    exact congrArg (fun x => ackFour k.src k.cls (deliverRun k.src k.cls 65 (putRx x p))) (if_neg (ne_true_of_eq_false hn))
  case lost =>
    intro dst cls x h
    refine ⟨fun ho hl hd => does_of ((peerLost_some h).trans (if_pos ⟨ho, hl, hd⟩)), fun hn => run1_same ((peerLost_some h).trans (if_neg ?_))⟩
    rintro ⟨ho, hl, hd⟩
    rcases hn with hn | hn | hn
    · exact ho hn
    · exact Bool.false_ne_true (hl.symm.trans hn)
    · exact Bool.false_ne_true (hn.symm.trans hd)
  case catchUp =>
    intro hn ha b
    have hc := catchUp_awake hn ha
    have gone : b = 0 ∨ reachable s.m b = false → ¬(b ≠ 0 ∧ reachable s.m b = true) :=
      fun h ⟨h0, hr⟩ => h.elim h0 fun h => Bool.false_ne_true (h.symm.trans hr)
    exact ⟨fun h0 hr => does_of (hc.trans (if_pos ⟨h0, hr⟩)),
      fun h hs => does_of (hc.trans ((if_neg (gone h)).trans (if_pos hs))),
      fun h hs => run1_same (hc.trans ((if_neg (gone h)).trans (if_neg (not_not.2 hs))))⟩
end

section
/-!
The CAN channels of chapter 14: frames received, basic cycles and slots, ends of transmissions, bus-off, sleep and wake
(O42).
-/

namespace Sys2Proof.Machine

section
variable {p : Pkg} {c : Nat}

/-! ### Frames received (14 R469, R470, R472, R473) -/

theorem canReceive_deaf {p0 : Pkg} {t : Nat} (f : CanFrame) (len : Nat) (hp : p = advance t p0)
    (h : awake p = false ∨ (canAt p c).asleep = true ∧ (canAt p c).wakeFrame = false) : canReceive c f len t p0 = p := by
  subst hp
  refine if_pos ?_
  rcases h with h | ⟨h, hw⟩
  · simp [h]
  · simp [h, hw]

/-- A frame that is decoded is stored, wakes a channel whose pattern it matches, and goes to its consumers. -/
theorem canReceive_heard {p0 : Pkg} {t : Nat} (f : CanFrame) (len : Nat) (hp : p = advance t p0) (ha : awake p = true)
    (h : (canAt p c).asleep = false ∨ (canAt p c).wakeFrame = true) : canReceive c f len t p0 = (
      let wake := (canAt p c).asleep && wakeMatch (canAt p c) f
      let q := ringStore c { time := siteAt p0 t, frame := f, own := false, wake := wake, len := len }
        (updCan c (fun x => { x with rec_ := if x.rec_ > 127 then 127 else x.rec_ - 1 }) p)
      consume c f (if wake = true then wakeCan c q else q)) := by
  subst hp
  refine if_neg ?_
  rcases h with h | h
  · simp [ha, h]
  · simp [ha, h]

theorem imdTimeout_same {r : Nat} (h : due p ((p.vlk.rg.getD r {}).imdAt.getD 0 + 1000000000) = false) : imdTimeout r p = p :=
  if_neg (ne_true_of_eq_false h)

theorem imdTimeout_due {r : Nat} (h : due p ((p.vlk.rg.getD r {}).imdAt.getD 0 + 1000000000) = true) :
    imdTimeout r p = { p with vlk := { p.vlk with rg := upd p.vlk.rg r (fun v => { v with imdOk := none }) } } := if_pos h

/-! ### Basic cycles (14 R462, R468) -/

section
variable {q : Pkg} {pr : Pricking}

/-- A cycle of a schedule, with what waits behind it. -/
def cycleStart (c : Nat) (pr : Pricking) (nxt : Option (Option Pricking)) (q : Pkg) : Pkg :=
  if q.tim.now % (pr.cycleUs * 1000) ≠ 0 then q
  else updCan c (fun x => { x with prk := some pr, nextPrk := nxt, cycleAt := some q.tim.now, ran := [], slot := 0
                                   cycle := q.tim.now / (pr.cycleUs * 1000) % 16 }) q

theorem basicCycle_running (hq : q = dropWanted c p) (hn : (canAt q c).nextPrk = none) (hp : (canAt q c).prk = some pr) :
    basicCycle c p = cycleStart c pr none q := by
  subst hq
  simp only [basicCycle, hn, hp]
  rfl

/-- A schedule that waits comes in at a matrix start of its own. -/
theorem basicCycle_taken (hq : q = dropWanted c p) (hn : (canAt q c).nextPrk = some (some pr))
    (hm : q.tim.now % (16 * pr.cycleUs * 1000) = 0) : basicCycle c p = cycleStart c pr none q := by
  subst hq
  simp only [basicCycle, hn, decide_eq_true hm, if_true]
  rfl

/-- Until then the present schedule goes on. -/
theorem basicCycle_waiting {pr' : Pricking} (hq : q = dropWanted c p) (hn : (canAt q c).nextPrk = some (some pr'))
    (hm : q.tim.now % (16 * pr'.cycleUs * 1000) ≠ 0) (hp : (canAt q c).prk = some pr) :
    basicCycle c p = cycleStart c pr (some (some pr')) q := by
  subst hq
  simp only [basicCycle, hn, hp, decide_eq_false hm, Bool.false_eq_true, if_false]
  rfl

/-- A schedule that is to be removed goes at a matrix start. -/
theorem basicCycle_removed (hq : q = dropWanted c p) (hn : (canAt q c).nextPrk = some none) (hp : (canAt q c).prk = some pr)
    (hm : q.tim.now % (16 * pr.cycleUs * 1000) = 0) : basicCycle c p =
      updCan c (fun x => { x with prk := none, nextPrk := none, cycle := 0, slot := 0, cycleAt := none, ran := [] }) q := by
  subst hq
  simp only [basicCycle, hn, hp, decide_eq_true hm, if_true]
  rfl

end

/-! ### Slots (14 R463, R465, R466, R472) -/

section
variable {k : Nat}

theorem pricking_asleep (h : awake p = false) : pricking c k p = p := if_pos (by simp [h])

theorem pricking_unscheduled (ha : awake p = true) (h : (canAt p c).prk = none) : pricking c k p = tryQueue c p := by
  simp only [pricking, ha, h, Bool.not_true, Bool.false_eq_true, if_false]

theorem pricking_scheduled {pr : Pricking} (ha : awake p = true) (h : (canAt p c).prk = some pr) : pricking c k p =
    if (presentSlot p (canAt p c)).map (·.1) ≠ some k then p
    else if (canAt p c).ran.contains k = true then tryQueue c p
    else
      let e := slotEntry pr (canAt p c).cycle k
      let q := updCan c (fun x => { x with slot := k, ran := k :: x.ran }) (dropWanted c p)
      if e.1 = .free then q
      else if (canAt p c).asleep = true then skipSlot c q
      else if e.1 = .arbitration then tryQueue c q
      else if e.1 = .exclusive ∧ ((canAt p c).buf.getD e.2 none).isNone = true then skipSlot c q
      else tryWanted c (updCan c (fun x => { x with want := some k }) q) := by
  simp only [pricking, ha, h, Bool.not_true, Bool.false_eq_true, if_false]

end

/-! ### Ends of transmissions (14 R460, R465, R466, R475) -/

section
variable {p0 : Pkg} {t : Nat}

theorem canSent_none (e : CanEnd) (hp : p = advance t p0) (h : (canAt p c).tx = none) : canSent c e t p0 = p := by
  subst hp
  simp only [canSent, h]

theorem canSent_lost {tx : CanTx} (hp : p = advance t p0) (h : (canAt p c).tx = some tx) :
    canSent c .lost t p0 = tryQueue c (tryWanted c (updCan c (fun x => { x with tx := none }) p)) := by
  subst hp
  simp only [canSent, h]

theorem canSent_error {tx : CanTx} (l : Fin 8) (hp : p = advance t p0) (h : (canAt p c).tx = some tx) :
    canSent c (.error l) t p0 = tryQueue c (tryWanted c (updCan c (fun x =>
      let y := { x with tec := satAdd 255 x.tec 8, lec := l.val }
      { y with st := canStateOf y }) (updCan c (fun x => { x with tx := none }) p))) := by
  subst hp
  simp only [canSent, h]

/-- The channel once a frame has been sent: counted, its transmitter free. -/
def sentOne (c : Nat) (p : Pkg) : Pkg :=
  updCan c (fun x =>
    let y := { x with txCnt := (x.txCnt + 1) % 2 ^ 32, tec := x.tec - 1, lec := 0 }
    { y with st := canStateOf y }) (updCan c (fun x => { x with tx := none }) p)

theorem canSent_queued {q : TxQ} (hp : p = advance t p0) (h : (canAt p c).tx = some (.queued q)) (hl : (canAt p c).loopback = false) :
    canSent c .sent t p0 = tryQueue c (tryWanted c (finishWork q.work .ok
      (updCan c (fun x => { x with queue := x.queue.filter (fun y => y.work != q.work) }) (sentOne c p)))) := by
  subst hp
  simp only [canSent, h, hl, Bool.false_eq_true, if_false]
  rfl

theorem canSent_ref {f : CanFrame} (hp : p = advance t p0) (h : (canAt p c).tx = some (.ref f)) (hl : (canAt p c).loopback = false) :
    canSent c .sent t p0 = tryQueue c (tryWanted c (sentOne c p)) := by
  subst hp
  simp only [canSent, h, hl, Bool.false_eq_true, if_false]
  rfl

theorem canSent_buffer {b : Nat} {f : CanFrame} (hp : p = advance t p0) (h : (canAt p c).tx = some (.buffer b f))
    (hl : (canAt p c).loopback = false) : canSent c .sent t p0 = tryQueue c (tryWanted c (updCan c (fun x => { x with
      buf := upd x.buf b (fun o => match o with
        | some t => if t.oneShot then none else some t
        | none => none) }) (sentOne c p))) := by
  subst hp
  simp only [canSent, h, hl, Bool.false_eq_true, if_false]
  rfl

theorem canSendTimeout_none {work : Nat} (h : (canAt p c).queue.find? (fun q => q.work == work) = none) :
    canSendTimeout c work p = p := by simp only [canSendTimeout, h]

theorem canSendTimeout_some {work : Nat} {q : TxQ} (h : (canAt p c).queue.find? (fun q => q.work == work) = some q) :
    canSendTimeout c work p = if due p (q.at_ + 1000000000) = true then finishWork work .faulted (updCan c (fun x =>
      { x with queue := x.queue.filter (fun y => y.work != work), evt := { x.evt with txTimeout := true } }) p) else p := by
  simp only [canSendTimeout, h]

theorem busOffRecovery_allowed (h : (canAt p c).st = .busOff) (hr : (canAt p c).autoRec = true ∨ (canAt p c).recov = true) :
    busOffRecovery c p = tryQueue c (updCan c (fun x => { x with st := .active, tec := 0, rec_ := 0, recov := false }) p) :=
  if_pos ⟨h, hr⟩

theorem busOffRecovery_same (h : (canAt p c).st ≠ .busOff ∨ (canAt p c).autoRec = false ∧ (canAt p c).recov = false) :
    busOffRecovery c p = p := by
  refine if_neg fun ⟨hb, hr⟩ => ?_
  rcases h with h | ⟨h1, h2⟩
  · exact h hb
  · simp [h1, h2] at hr

end

/-! ### Wake (14 R473) -/

theorem canWake_same (w : WakeIn) (h : (canAt p c).asleep = false ∨ awake p = false) : canWake c w p = p :=
  if_pos (h.imp (by simp [·]) (by simp [·]))

theorem canWake_asleep (w : WakeIn) (h : (canAt p c).asleep = true) (ha : awake p = true) : canWake c w p = match w with
    | .edge => if (canAt p c).wakeFrame = true then p else wakeCan c (canEvt c (fun e => { e with edgeLost := true }) p)
    | .frame f t => if (canAt p c).wakeFrame = true then canReceive c f f.data.length t p else p
    | .send => if sendOpen p c = true then wakeCan c p else p := if_neg (by simp [h, ha])

end

end Sys2Proof.Machine

open Sys2Proof Sys2Proof.Machine

/-- Settles O42: a frame by whether the channel decodes it, a cycle by the schedule that waits, a slot by its kind, and
a transmission by how it ends. -/
theorem canChannelsKeepTheirScheduleQueueAndSleep : Obligations.CanChannelsKeepTheirScheduleQueueAndSleep := by
  intro s c t p x z
  refine ⟨fun f len h => does_of (canReceive_deaf f len rfl h), ?heard, ?cycle, ?slot, ?sent,
    fun work h => run1_same (canSendTimeout_none h),
    fun work q h => ⟨fun hd => does_of ((canSendTimeout_some h).trans (if_pos hd)),
      fun hd => run1_same ((canSendTimeout_some h).trans (if_neg (ne_true_of_eq_false hd)))⟩,
    does_of rfl, fun h hr => does_of (busOffRecovery_allowed h hr), fun h => run1_same (busOffRecovery_same h),
    does_of rfl, does_of rfl, does_of rfl, fun w h => run1_same (canWake_same w h), ?wake,
    fun r => ⟨fun h => does_of (imdTimeout_due h), fun h => run1_same (imdTimeout_same h)⟩⟩
  case heard =>
    intro f len ha h wake q
    have hr := canReceive_heard (c := c.val) f len (rfl : p = advance t s.m) ha h
    exact ⟨fun hw => does_of (hr.trans (congrArg (consume c.val f) (if_pos hw))),
      fun hw => does_of (hr.trans (congrArg (consume c.val f) (if_neg (ne_true_of_eq_false hw))))⟩
  case cycle =>
    intro q y now starts
    have run : ∀ {m}, basicCycle c.val p = m → Does (.basicCycleStart c t) s m :=
      fun h => does_of (f := fun p => basicCycle c.val (advance t p)) h
    have hit : ∀ {pr nxt}, now % (pr.cycleUs * 1000) = 0 → cycleStart c.val pr nxt q = starts pr nxt := fun h => if_neg (not_not.2 h)
    exact ⟨fun pr hn hp h0 => run ((basicCycle_running rfl hn hp).trans (hit h0)),
      fun pr hn hp h0 => run ((basicCycle_running rfl hn hp).trans (if_pos h0)),
      fun pr hn hm h0 => run ((basicCycle_taken rfl hn hm).trans (hit h0)),
      fun pr pr' hn hm hp h0 => run ((basicCycle_waiting rfl hn hm hp).trans (hit h0)),
      fun pr hn hp hm => run (basicCycle_removed rfl hn hp hm)⟩
  case slot =>
    intro k q
    have run : ∀ {m}, pricking c.val k.val p = m → Does (.prickingSlot c k t) s m :=
      fun h => does_of (f := fun p => pricking c.val k.val (advance t p)) h
    refine ⟨fun h => run (pricking_asleep h), fun ha h => run (pricking_unscheduled ha h),
      fun pr ha h hs => run ((pricking_scheduled ha h).trans (if_pos hs)),
      fun pr ha h hs hr => run ((pricking_scheduled ha h).trans ((if_neg (not_not.2 hs)).trans (if_pos hr))), ?_⟩
    intro pr ha h hs hr e
    have hfirst := (pricking_scheduled (k := k.val) ha h).trans ((if_neg (not_not.2 hs)).trans (if_neg (ne_true_of_eq_false hr)))
    refine ⟨fun he => run (hfirst.trans (if_pos he)), fun he hz => run (hfirst.trans ((if_neg he).trans (if_pos hz))),
      fun he hz => run (hfirst.trans ?_), fun he hz hb => run (hfirst.trans ?_), fun he hz => run (hfirst.trans ?_)⟩
    · exact (if_neg (by rw [he]; decide)).trans ((if_neg (ne_true_of_eq_false hz)).trans (if_pos he))
    · exact (if_neg (by rw [he]; decide)).trans ((if_neg (ne_true_of_eq_false hz)).trans ((if_neg (by rw [he]; decide)).trans
        (if_pos ⟨he, by rw [hb]; rfl⟩)))
    · have hkind : e.1 ≠ .free ∧ e.1 ≠ .arbitration ∧ ¬(e.1 = .exclusive ∧ (x.buf.getD e.2 none).isNone = true) := by
        rcases he with ⟨he, hb⟩ | he
        · exact ⟨by rw [he]; decide, by rw [he]; decide, fun h => by rw [← Option.not_isSome, hb] at h; cases h.2⟩
        · exact ⟨by rw [he]; decide, by rw [he]; decide, fun h => by rw [he] at h; cases h.1⟩
      obtain ⟨hf, har, hx⟩ := hkind
      exact (if_neg hf).trans ((if_neg (ne_true_of_eq_false hz)).trans ((if_neg har).trans (if_neg hx)))
  case sent =>
    intro free after count
    exact ⟨fun e h => does_of (canSent_none e rfl h), fun tx h => does_of (canSent_lost rfl h),
      fun tx l h => does_of (canSent_error l rfl h),
      fun hl => ⟨fun q h => does_of (canSent_queued rfl h hl), fun f h => does_of (canSent_ref rfl h hl),
        fun b f h => does_of (canSent_buffer rfl h hl)⟩⟩
  case wake =>
    intro h ha
    exact ⟨fun hw => does_of ((canWake_asleep .edge h ha).trans (if_neg (ne_true_of_eq_false hw))),
      fun hw => run1_same ((canWake_asleep .edge h ha).trans (if_pos hw)),
      fun f hw => does_of ((canWake_asleep (.frame f t) h ha).trans (if_pos hw)),
      fun hs => does_of ((canWake_asleep .send h ha).trans (if_pos hs)),
      fun hs => run1_same ((canWake_asleep .send h ha).trans (if_neg (ne_true_of_eq_false hs)))⟩
end

section
/-!
The buffer strings of chapter 17: identity samples, STATUS and IDENT frames, loss, drift and the journal (O41).
-/

namespace Sys2Proof.Machine

section
variable {p : Pkg} {n : Nat}

theorem updStr_updStr (f g : BStr → BStr) : updStr n g (updStr n f p) = updStr n (g ∘ f) p := by
  simp only [updStr, upd_upd]

theorem strAt_updStr (f : BStr → BStr) (h : n < p.bat.str.length) : strAt (updStr n f p) n = f (strAt p n) :=
  upd_getD_same _ _ _ _ h

/-! ### Identity samples (17 R513) -/

/-- The resistance of an identity input lies in the string's band. -/
def idInBand (x : BStr) : Option Nat → Bool
  | none => false
  | some v => inR x.cfg.rMin x.cfg.rMax v

theorem idInBand_iff {x : BStr} {r : Option Nat} : idInBand x r = true ↔ ∃ v, r = some v ∧ x.cfg.rMin ≤ v ∧ v ≤ x.cfg.rMax := by
  cases r <;> simp [idInBand, inR]

theorem strSample_disabled (r : Option Nat) (h : (strAt p n).st = .disabled) :
    strSample n r p = updStr n (fun x => { x with r := r }) p := by
  simp only [strSample, h]

theorem strSample_absent (r : Option Nat) (h : (strAt p n).st = .absent) : strSample n r p =
    if idInBand (strAt p n) r = false then updStr n (fun x => { x with r := r, run := 0 }) p
    else if (strAt p n).run + 1 ≥ 20 then updStr n (fun x => { x with r := r, st := .seen, run := 0, gotSt := false, ident := none }) p
    else updStr n (fun x => { x with r := r, run := x.run + 1 }) p := by
  simp only [strSample, h, updStr_updStr, Bool.not_eq_true']
  rfl

theorem strSample_present (r : Option Nat) (h : (strAt p n).st = .seen ∨ (strAt p n).st = .active ∨ (strAt p n).st = .lost) :
    strSample n r p = if idInBand (strAt p n) r = true then updStr n (fun x => { x with r := r, run := 0 }) p
      else if (strAt p n).run + 1 ≥ 5 then
        batEvt (fun e => { e with removed := true }) (leaveActive n .absent (updStr n (fun x => { x with r := r }) p))
      else updStr n (fun x => { x with r := r, run := x.run + 1 }) p := by
  rcases h with h | h | h
  all_goals
    simp only [strSample, h, updStr_updStr]
    rfl

/-! ### STATUS and IDENT frames (17 R512, R513) -/

theorem bmsStatus_badLength {d : List Byte} (h : d.length ≠ 16) : bmsStatus n d p = p := if_pos h

theorem bmsStatus_stale {d : List Byte} (h : d.length = 16) (hc : (strAt p n).status.count = some (be d 15 1)) :
    bmsStatus n d p = updStr n (fun x => { x with stale := inc8 x.stale }) p := (if_neg (not_not.2 h)).trans (if_pos hc)

theorem bmsStatus_taken {d : List Byte} (h : d.length = 16) (hc : (strAt p n).status.count ≠ some (be d 15 1)) :
    bmsStatus n d p = statusEvent n (updStr n (fun x => { x with status := parseStatus p.clk d }) p) :=
  (if_neg (not_not.2 h)).trans (if_neg hc)

section
variable {x : BStr} (hx : strAt p n = x)
include hx

theorem statusEvent_active (h : x.st = .active) :
    statusEvent n p = if (x.status.fault || !x.status.closed) = true then goLost n p else p := by
  subst hx
  simp only [statusEvent, h]

theorem statusEvent_lost (h : x.st = .lost) : statusEvent n p = if (x.status.fault || !x.status.closed) = true then p
    else if (x.cfg.aux || decide (p.clk < x.lostAt + 1000000000)) = true then updStr n (fun x => { x with st := .active, run := 0 }) p
    else updStr n (fun x => { restartEst p x with st := .active, run := 0 }) p := by
  subst hx
  simp only [statusEvent, h]

theorem statusEvent_seen (h : x.st = .seen) : statusEvent n p = tryActive n (updStr n (fun x => { x with gotSt := true }) p) := by
  subst hx
  simp only [statusEvent, h]

theorem statusEvent_none (h : x.st = .disabled ∨ x.st = .absent) : statusEvent n p = p := by
  subst hx
  rcases h with h | h <;> simp only [statusEvent, h]

end

theorem bmsIdent_same {d : List Byte} (h : d.length ≠ 8 ∨ (strAt p n).st ≠ .seen) : bmsIdent n d p = p := by
  unfold bmsIdent
  split
  · rfl
  next hl => exact if_neg (h.resolve_left hl)

theorem bmsIdent_seen {d : List Byte} (h : d.length = 8) (hs : (strAt p n).st = .seen) :
    bmsIdent n d p = tryActive n (updStr n (fun x => { x with ident := some (be d 0 8) }) p) := (if_neg (not_not.2 h)).trans (if_pos hs)

theorem tryActive_same (h : (strAt p n).st ≠ .seen ∨ (strAt p n).gotSt = false ∨ (strAt p n).ident = none) : tryActive n p = p := by
  unfold tryActive
  simp only
  split
  next k hs hg hi => simp [hs, hg, hi] at h
  · rfl

/-- A SEEN string with both frames becomes ACTIVE, as itself or as another. -/
theorem tryActive_seen {k : Nat} (hs : (strAt p n).st = .seen) (hg : (strAt p n).gotSt = true) (hi : (strAt p n).ident = some k) :
    tryActive n p = if (strAt p n).nv.serial = some k then updStr n (fun x => { resumeEst p x with st := .active, run := 0 }) p
      else batEvt (fun e => { e with swapped := true }) (updStr n (fun x => { restartEst p x with
        st := .active, run := 0, resume := false, cap := { x.cap with q := x.cfg.qNom, learned := false }
        nv := { serial := some k, cap := { x.cap with q := x.cfg.qNom, learned := false } } }) p) := by
  simp only [tryActive, hs, hg, hi]

/-! ### Loss, drift and the journal (17 R513, R517, R526) -/

theorem bmsLost_late (h : (strAt p n).st = .active) (hd : due p ((strAt p n).status.at_.getD 0 + 300000000) = true) :
    bmsLost n p = goLost n p := if_pos ⟨h, hd⟩

theorem bmsLost_same (h : (strAt p n).st ≠ .active ∨ due p ((strAt p n).status.at_.getD 0 + 300000000) = false) : bmsLost n p = p :=
  if_neg fun ⟨ha, hd⟩ => h.elim (· ha) (ne_true_of_eq_false · hd)

theorem driftTimer_early (h : (strAt p n).est.driftN < 10000) : driftTimer n p = p := if_pos h

theorem driftTimer_over (h : 10000 ≤ (strAt p n).est.driftN) : driftTimer n p = (
    let q := updStr n (fun x => { x with est := { x.est with drift := !x.est.drift, driftN := 0 } }) p
    if (strAt p n).est.drift = true then q else batEvt (fun e => { e with drift := true }) q) := if_neg (Nat.not_lt.2 h)

theorem journalTick_same (h : p.mtr.nvBlock = true ∨ due p (p.bat.jrnAt + 10000000000) = false) : journalTick p = p := by
  unfold journalTick
  rcases h with h | h
  · split
    · exact if_pos h
    · rfl
  · exact if_neg (ne_true_of_eq_false h)

theorem journalTick_due (h : p.mtr.nvBlock = false) (hd : due p (p.bat.jrnAt + 10000000000) = true) :
    journalTick p = { p with bat := { p.bat with str := p.bat.str.map (journalStr p.tim.now), jrnAt := p.clk } } :=
  (if_pos hd).trans (if_neg (ne_true_of_eq_false h))

end

end Sys2Proof.Machine

open Sys2Proof Sys2Proof.Machine

/-- Settles O41: a sample by its band and the string's state, a STATUS frame by its length, its counter and what it tells
of the string; the rest by whether there is something for the row to do. -/
theorem batteryStringsComeGoAndAreJournaled : Obligations.BatteryStringsComeGoAndAreJournaled := by
  intro s n x set sampled band lost
  have absent := fun r (h : x.st = .absent) (hb : band r) =>
    (strSample_absent r h).trans (if_neg (ne_false_of_eq_true (idInBand_iff.2 hb)))
  have present := fun r (h : x.st = .seen ∨ x.st = .active ∨ x.st = .lost) (hb : ¬band r) =>
    (strSample_present r h).trans (if_neg (mt idInBand_iff.1 hb))
  refine ⟨fun r h => does_of (strSample_disabled r h),
    fun r h hb hr => does_of ((absent r h hb).trans (if_neg (Nat.not_le.2 (Nat.succ_lt_succ hr)))),
    fun r h hb hr => does_of ((absent r h hb).trans (if_pos (Nat.succ_le_succ hr))),
    fun r h hb => does_of ((strSample_absent r h).trans (if_pos (Bool.eq_false_iff.2 (mt idInBand_iff.1 hb)))),
    fun r h hb => does_of ((strSample_present r h).trans (if_pos (idInBand_iff.2 hb))),
    fun r h hb hr => does_of ((present r h hb).trans (if_neg (Nat.not_le.2 (Nat.succ_lt_succ hr)))),
    fun r h hb hr => does_of ((present r h hb).trans (if_pos (Nat.succ_le_succ hr))),
    fun d h => run1_same (bmsStatus_badLength h), fun d h hc => does_of (bmsStatus_stale h hc), ?status,
    fun d h => run1_same (bmsIdent_same h), fun d h hs => does_of (bmsIdent_seen h hs),
    fun p => ⟨tryActive_same, fun k hs hg hi hk => (tryActive_seen hs hg hi).trans (if_pos hk),
      fun k hs hg hi hk => (tryActive_seen hs hg hi).trans (if_neg hk)⟩,
    fun h hd => does_of (bmsLost_late h hd), fun h => run1_same (bmsLost_same h), fun h => run1_same (driftTimer_early h),
    fun h hd => does_of ((driftTimer_over h).trans (if_pos hd)),
    fun h hd => does_of ((driftTimer_over h).trans (if_neg (ne_true_of_eq_false hd))),
    fun h => run1_same (journalTick_same h), fun h hd => does_of (journalTick_due h hd)⟩
  case status =>
    intro d h hc f p
    have ht : bmsStatus n.val d s.m = statusEvent n.val p := bmsStatus_taken h hc
    have hat : n.val < s.m.bat.str.length → strAt p n.val = { x with status := f } := strAt_updStr _
    refine ⟨fun hn hbad => ?_, fun hn hf hcl => ?_, fun hn hs => does_of (ht.trans (statusEvent_seen (hat hn) hs)),
      fun hn hs => does_of (ht.trans (statusEvent_none (hat hn) hs))⟩
    · have hbad' : (f.fault || !f.closed) = true := by rcases hbad with hbad | hbad <;> simp [hbad]
      exact ⟨fun hs => does_of (ht.trans ((statusEvent_active (hat hn) hs).trans (if_pos hbad'))),
        fun hs => does_of (ht.trans ((statusEvent_lost (hat hn) hs).trans (if_pos hbad')))⟩
    · have hgood : ¬(f.fault || !f.closed) = true := by simp [hf, hcl]
      refine ⟨fun hs => does_of (ht.trans ((statusEvent_active (hat hn) hs).trans (if_neg hgood))),
        fun hs ha => does_of (ht.trans ((statusEvent_lost (hat hn) hs).trans ((if_neg hgood).trans (if_pos ?_)))),
        fun hs ha hl => does_of (ht.trans ((statusEvent_lost (hat hn) hs).trans ((if_neg hgood).trans (if_neg ?_))))⟩
      · rcases ha with ha | ha
        · simp [ha]
        · have ha' : p.clk < x.lostAt + 1000000000 := ha
          simp [ha']
      · have hl' : ¬p.clk < x.lostAt + 1000000000 := Nat.not_lt.2 hl
        simp [ha, hl']
end

section
/-!
The time counter and its sources of chapter 19: PPS edges, the rate trim, the journal, steps and acquisitions (O38).
-/

namespace Sys2Proof.Machine

section
variable {p : Pkg}

/-! ### The PPS input (19 R559, R564) -/

/-- An edge at these reference cycles falls 1 s ± 100 µs after the last valid one, or there is none. -/
def inWindowPps (p : Pkg) (ref : Nat) : Prop :=
  p.tim.pps.last = none ∨ ∃ r, p.tim.pps.last = some r ∧ r + 24997500 ≤ ref ∧ ref ≤ r + 25002500

theorem ppsEdge_valid {ref : Nat} (stamp : Nat) (h : inWindowPps p ref) : ppsEdge stamp ref p = ppsGood stamp ref p := by
  unfold ppsEdge
  rcases h with h | ⟨r, h, h1, h2⟩
  · simp only [h, if_true]
  · have hr : 24997500 ≤ ref - r ∧ ref - r ≤ 25002500 ∧ r ≤ ref := by omega
    simp [h, inR, hr]

theorem ppsEdge_invalid {ref r : Nat} (stamp : Nat) (h : p.tim.pps.last = some r) (hr : ref < r + 24997500 ∨ r + 25002500 < ref) :
    ppsEdge stamp ref p = ppsBad p := by
  have hout : ¬((24997500 ≤ ref - r ∧ ref - r ≤ 25002500) ∧ r ≤ ref) := by omega
  unfold ppsEdge
  simp only [h, inR, Bool.and_eq_true, decide_eq_true_eq]
  exact if_neg hout

/-- The package with the PPS input after a valid edge: its phase, counts and alignment, and the span that is measured. -/
def ppsAfterEdge (stamp ref : Nat) (valid : Bool) (span : Option (Nat × Nat)) (p : Pkg) : Pkg :=
  let phi := ((stamp : Int) - p.tim.delay) - nearSec ((stamp : Int) - p.tim.delay)
  let close := if phi.natAbs < 18 then min 8 (p.tim.pps.close + 1) else 0
  { p with tim := { p.tim with pps := { p.tim.pps with
    valid := valid, good := min 8 (p.tim.pps.good + 1), close := close, aligned := valid && decide (close ≥ 8), phi := phi
    last := some ref, lastClk := some ((p.clk : Int) + stamp - p.tim.now).toNat, bad := 0, span := span } } }

theorem ppsGood_early (stamp ref : Nat) (hv : p.tim.pps.valid = false) (hg : p.tim.pps.good < 7) :
    ppsGood stamp ref p = timeState (timeSource (ppsAfterEdge stamp ref false none p)) := by
  have h : (p.tim.pps.valid || decide (min 8 (p.tim.pps.good + 1) ≥ 8)) = false := by
    rw [hv, Bool.false_or]; exact decide_eq_false (by omega)
  simp only [ppsGood, h, Bool.not_false, if_true]
  rfl

section
variable (stamp ref : Nat)

/-- PPS_VALID stays, and comes with the eighth valid edge in a row. -/
theorem pps_settled (h : p.tim.pps.valid = true ∨ p.tim.pps.good ≥ 7) :
    (p.tim.pps.valid || decide (min 8 (p.tim.pps.good + 1) ≥ 8)) = true := by
  rcases h with h | h
  · rw [h, Bool.true_or]
  · rw [decide_eq_true (show min 8 (p.tim.pps.good + 1) ≥ 8 by omega), Bool.or_true]

theorem ppsGood_first (h : p.tim.pps.valid = true ∨ p.tim.pps.good ≥ 7) (hs : p.tim.pps.span = none) :
    ppsGood stamp ref p = timeState (timeSource (ppsAfterEdge stamp ref true (some (0, ref)) p)) := by
  simp only [ppsGood, pps_settled h, hs, Bool.not_true, Bool.false_eq_true, if_false]
  rfl

theorem ppsGood_within {n r : Nat} (h : p.tim.pps.valid = true) (hs : p.tim.pps.span = some (n, r)) (hn : n < 63) :
    ppsGood stamp ref p = timeState (timeSource (ppsAfterEdge stamp ref true (some (n + 1, r)) p)) := by
  simp only [ppsGood, pps_settled (.inl h), hs, Bool.not_true, Bool.false_eq_true, if_false]
  rw [if_pos (Nat.succ_lt_succ hn)]
  rfl

/-- The 64th second of a span measures the frequency. -/
theorem ppsGood_measured {r : Nat} (h : p.tim.pps.valid = true) (hs : p.tim.pps.span = some (63, r)) :
    ppsGood stamp ref p = timeState (timeSource (freqMeasured (rdiv (((ref : Int) - r - 1600000000) * 10 ^ 12) 1600000000)
      (ppsAfterEdge stamp ref true (some (0, ref)) p))) := by
  simp only [ppsGood, pps_settled (.inl h), hs, Bool.not_true, Bool.false_eq_true, if_false]
  rw [if_neg (by decide)]
  rfl

end

theorem ppsLost_none (h : p.tim.pps.lastClk = none) : ppsLost p = p := by simp only [ppsLost, h]

theorem ppsLost_early {c : Nat} (h : p.tim.pps.lastClk = some c) (hd : due p (c + 3000000000) = false) : ppsLost p = p := by
  simp only [ppsLost, h, hd, Bool.not_false, if_true]

theorem ppsLost_due {c : Nat} (h : p.tim.pps.lastClk = some c) (hd : due p (c + 3000000000) = true) :
    ppsLost p = timeState (timeSource { p with tim := { p.tim with
      pps := { p.tim.pps with
        valid := false, aligned := false, good := 0, close := 0, bad := 0, last := none, lastClk := none, span := none
        missed := cap 255 (List.replicate (3 - p.tim.pps.bad) p.clk ++ p.tim.pps.missed) }
      evt := { p.tim.evt with lost := p.tim.evt.lost || p.tim.pps.valid } } }) := by
  simp only [ppsLost, h, hd, Bool.not_true, Bool.false_eq_true, if_false, List.map_const', List.length_range]
  refine congrArg (fun q => timeState (timeSource q)) ?_
  cases hv : p.tim.pps.valid
  · simp [updTim]
  · simp [updTim, timEvt]

/-! ### The rate trim and the journal (19 R557, R560, R564) -/

/-- Outside state FABRIC no span of the upstream is measured. -/
theorem fabricSpan_other (h : p.tim.sync ≠ .fabric) : fabricSpan p = updTim (fun t => { t with fspan := none }) p := if_pos (.inl h)

theorem rateTrim_unsync (h : p.tim.sync = .unsync) : rateTrim p = { p with tim := { p.tim with fspan := none } } := by
  simp only [rateTrim, fabricSpan_other (by rw [h]; decide : p.tim.sync ≠ .fabric), updTim, h]

/-- The trim stays within 1,000 ppm. -/
def clampTrim (x : Rat) : Rat := if x < -(1 / 1000) then -(1 / 1000) else if x > 1 / 1000 then 1 / 1000 else x

theorem rateTrim_pps (h : p.tim.sync = .pps) : rateTrim p = (
    let f := match p.tim.phiPrev with
      | some q => p.tim.fEst + ((p.tim.pps.phi : Rat) - q) / 1000000000 / 16
      | none => p.tim.fEst
    { p with tim := { p.tim with fspan := none, fEst := f, phiPrev := some (p.tim.pps.phi : Rat)
                                 a := clampTrim (-(f + (p.tim.pps.phi : Rat) / 8000000000)) } }) := by
  simp only [rateTrim, fabricSpan_other (by rw [h]; decide : p.tim.sync ≠ .fabric), updTim, h, phiNow]
  rfl

theorem rateTrim_holdover (h : p.tim.sync = .holdover) (hb : holdBin p = none) :
    rateTrim p = { p with tim := { p.tim with fspan := none, phiPrev := none, a := clampTrim (-p.tim.fEst) } } := by
  have hb' : holdBin (updTim (fun t => { t with fspan := none }) p) = none := hb
  simp only [rateTrim, fabricSpan_other (by rw [h]; decide : p.tim.sync ≠ .fabric), hb']
  simp only [updTim, h]
  rfl

/-- In HOLDOVER the bin of the present temperature gives the frequency error. -/
theorem rateTrim_bin {b : Nat} (h : p.tim.sync = .holdover) (hb : holdBin p = some b) (hn : (p.tim.hold.getD b {}).n ≠ 0) :
    rateTrim p = (
      let f := ((p.tim.hold.getD b {}).e : Rat) / 10000000000
      { p with tim := { p.tim with fspan := none, fEst := f, phiPrev := none, a := clampTrim (-f), e := (p.tim.hold.getD b {}).e * 100 } }) := by
  have hb' : holdBin (updTim (fun t => { t with fspan := none }) p) = some b := hb
  have hf : (some (p.tim.hold.getD b {})).filter (fun x => decide (x.n ≠ 0)) = some (p.tim.hold.getD b {}) :=
    if_pos (decide_eq_true hn)
  simp only [rateTrim, fabricSpan_other (by rw [h]; decide : p.tim.sync ≠ .fabric), hb', Option.map_some]
  simp only [updTim, h, hf]
  rfl

theorem timeJournal_same (h : p.mtr.nvBlock = true ∨ p.mtr.save ≠ .none) : timeJournal p = p := if_pos h

theorem timeJournal_taken (h : p.mtr.nvBlock = false) (hs : p.mtr.save = .none) :
    timeJournal p = { p with tim := { p.tim with nvNow := p.tim.now } } := if_neg (by simp [h, hs])

/-! ### Steps and acquisitions (19 R556, R561, R565) -/

theorem stepEffective_none (h : p.tim.step_ = none) : stepEffective p = p := by simp only [stepEffective, h]

theorem stepEffective_early {y : Step_} (h : p.tim.step_ = some y) (hw : p.tim.now < y.eff ∨ p.sys.ldgDue = true) :
    stepEffective p = p := by
  simp only [stepEffective, h]
  exact if_pos hw

/-- The counter at EFFECTIVE: it, the offset and what follows the counter move by the difference. -/
theorem stepEffective_due {y : Step_} (h : p.tim.step_ = some y) (he : y.eff ≤ p.tim.now) (hl : p.sys.ldgDue = false) :
    stepEffective p = (
      let d : Int := (y.new : Int) - y.eff
      let p1 := moveOffset d (moveCounter d (updTim (fun t => { t with step_ := none, noAcq := false, acq := none }) p))
      let p2 := updTim (fun t => { t with large := p1.tim.large && decide (p1.dfn.time.offset.natAbs ≥ 1000000000)
                                          sync := if t.sync = .unsync then .holdover else t.sync }) p1
      let p3 := timEvt (fun e => { e with step := true }) (prickingCut p2.tim.now (timeShift d p2))
      finishWork y.work .ok (timeState (timeSource { p3 with bil := { p3.bil with setAt := some (p.tim.now, p3.tim.now, p3.clk) } }))) := by
  simp only [stepEffective, h]
  exact if_neg (not_or.2 ⟨Nat.not_lt.2 he, ne_true_of_eq_false hl⟩)

theorem acquisition_same (h : awake p = false ∨ p.tim.sync ≠ .unsync ∨ p.tim.noAcq = true ∨ p.sys.mode ≠ .idle ∨ agreed p = none) :
    acquisition p = p := by
  unfold acquisition
  split
  · rfl
  next hn =>
    have hag : agreed p = none := by
      simp only [not_or] at hn
      obtain ⟨ha, hs, hq, hm⟩ := hn
      rcases h with h | h | h | h | h
      · simp [h] at ha
      · exact absurd h hs
      · exact absurd h hq
      · exact absurd h hm
      · exact h
    rw [hag]

theorem acquisition_agreed {off : Int} (ha : awake p = true) (hs : p.tim.sync = .unsync) (hn : p.tim.noAcq = false)
    (hm : p.sys.mode = .idle) (ho : agreed p = some off) :
    acquisition p = if p.tim.now % 1000000 = 0 then acquire off p else updTim (fun t => { t with acq := some off }) p := by
  unfold acquisition
  rw [if_neg (by simp [ha, hs, hn, hm]), ho]

theorem acquire_idle (off : Int) (hs : p.tim.sync = .unsync) (hn : p.tim.noAcq = false) (hm : p.sys.mode = .idle) :
    acquire off p = (
      let q := updTim (fun t => { t with acq := none }) p
      if off < 0 then timEvt (fun e => { e with acqRef := true }) (updTim (fun t => { t with noAcq := true }) q)
      else deferred (timeState (timeSource (timEvt (fun e => { e with acquired := true })
        (updTim (fun t => { t with sync := .holdover }) (moveOffset off (moveCounter off q))))))) :=
  if_neg (by simp [updTim, hs, hn, hm])

end

end Sys2Proof.Machine

open Sys2Proof Sys2Proof.Machine

/-- Settles O38: an edge by its window and the counts behind it, the trim by the source of time, a step and an
acquisition by whether they may move the counter now. -/
theorem theCounterFollowsItsSources : Obligations.TheCounterFollowsItsSources := by
  intro s t x phi close edge within clampR
  refine ⟨fun stamp ref hw hv hg => does_of ((ppsEdge_valid stamp hw).trans (ppsGood_early stamp ref hv hg)),
    fun stamp ref hw hv hs => does_of ((ppsEdge_valid stamp hw).trans (ppsGood_first stamp ref hv hs)),
    fun stamp ref n r hw hv hs hn => does_of ((ppsEdge_valid stamp hw).trans (ppsGood_within stamp ref hv hs hn)),
    fun stamp ref r hw hv hs => does_of ((ppsEdge_valid stamp hw).trans (ppsGood_measured stamp ref hv hs)),
    fun stamp ref r h hr => does_of (ppsEdge_invalid stamp h hr), fun h => run1_same (ppsLost_none h),
    fun c h hd => run1_same (ppsLost_early h hd), fun c h hd => does_of (ppsLost_due h hd), fun h => does_of (rateTrim_unsync h),
    fun h => does_of (rateTrim_pps h), fun h hb => does_of (rateTrim_holdover h hb), fun b h hb hn => does_of (rateTrim_bin h hb hn),
    fun h => run1_same (timeJournal_same h), fun h hs => does_of (timeJournal_taken h hs), fun h => run1_same (stepEffective_none h),
    fun y h hw => run1_same (stepEffective_early h hw), fun y h he hl => does_of (stepEffective_due h he hl),
    fun d => ⟨rfl, rfl, rfl⟩, fun h => run1_same (acquisition_same h), ?acquires⟩
  case acquires =>
    intro ha hs hn hm off ho
    have hacq := acquisition_agreed ha hs hn hm ho
    have hidle := acquire_idle off hs hn hm
    exact ⟨fun hb => does_of (hacq.trans (if_neg hb)),
      fun hb hneg => does_of (hacq.trans ((if_pos hb).trans (hidle.trans (if_pos hneg)))),
      fun hb hpos => does_of (hacq.trans ((if_pos hb).trans (hidle.trans (if_neg (Int.not_lt.2 hpos)))))⟩
end

section
/-!
The power-line links of chapter 15: frames sent and acknowledged, frames received, and what the coordinator sends (O43).
-/

namespace Sys2Proof.Machine

section
variable {p : Pkg} {k i : Nat}

/-! ### Frames that start (15 R484, R485) -/

theorem slotSend_none {slot period : Nat} (h : pfAt (plAt p k) i = none) : slotSend k i slot period p = p := by
  simp only [slotSend, h]

theorem slotSend_idle {slot period : Nat} {f : PFrame} (h : pfAt (plAt p k) i = some f)
    (hs : plcUp p k = false ∨ f.sent = true ∨ f.hop = 0 ∨ slotStart p (plAt p k) slot period = none ∨ inWindow f.prio slot = false) :
    slotSend k i slot period p = p := by
  simp only [slotSend, h]
  cases hst : slotStart p (plAt p k) slot period with
  | none => rfl
  | some t =>
    refine if_pos ?_
    rcases hs with hs | hs | hs | hs | hs
    · exact .inl (by rw [hs]; rfl)
    · exact .inr (.inl hs)
    · exact .inr (.inr (.inl hs))
    · rw [hst] at hs; cases hs
    · exact .inr (.inr (.inr (by rw [hs]; rfl)))

/-- A frame in a slot of its window on an idle medium. -/
theorem slotSend_starts {slot period t : Nat} {f : PFrame} (h : pfAt (plAt p k) i = some f) (hu : plcUp p k = true)
    (hs : f.sent = false) (hh : f.hop ≠ 0) (ht : slotStart p (plAt p k) slot period = some t) (hw : inWindow f.prio slot = true) :
    slotSend k i slot period p = (
      let q := plcStart k t f p
      if f.dst ≠ 0x3FF then updPl k (fun x => { x with queue := upd x.queue i (fun f => { f with sent := true }) }) q
      else if f.copies ≤ 1 then dropFrame k i (if f.host = true then updPl k (fun x => { x with txRes := .delivered }) q else q)
      else updPl k (fun x => { x with queue := upd x.queue i (fun f => { f with copies := f.copies - 1 }) }) q) := by
  simp only [slotSend, h, ht]
  exact if_neg (by simp [hu, hs, hh, hw])

/-! ### SACKs (15 R485 to R488) -/

theorem retry_again {f : PFrame} (missing : Nat) (sacked : Bool) (h : f.tries < 7) : retry k i f missing sacked p =
    updPl k (fun x => { x with retx := inc16 x.retx, queue := upd x.queue i (fun f =>
      { f with sent := false, tries := f.tries + 1, segmap := missing, mode := f.mode.robust }) })
      (updPn k f.hop (fun y => { y with acks := cap 16 (sacked :: y.acks) }) p) := if_neg (Nat.not_le.2 h)

theorem sackIn_same {a : SackIn} (h : headIn (plAt p k) a.head = none ∨ ∃ hd, headIn (plAt p k) a.head = some hd ∧
    (sackedFrame (plAt p k) hd = none ∨ awake p = false ∨ hd.type ≠ 2 ∨ hd.hopD ≠ 0)) : sackIn k a p = p := by
  rcases h with h | ⟨hd, h, hc⟩
  · simp only [sackIn, h]
  · simp only [sackIn, h]
    cases hf : sackedFrame (plAt p k) hd with
    | none => rfl
    | some i => exact if_pos ((hc.resolve_left (by rw [hf]; simp)).imp_left (by simp [·]))

theorem sackIn_ours {a : SackIn} {hd : PHead} (h : headIn (plAt p k) a.head = some hd) (hf : sackedFrame (plAt p k) hd = some i)
    (ha : awake p = true) (ht : hd.type = 2) (hh : hd.hopD = 0) : sackIn k a p = match segOf a.seg with
      | none => updPl k (fun x => { x with segBad := inc8 x.segBad }) p
      | some g => sackRead k i hd g.2 p := by
  unfold sackIn
  extract_lets x
  rw [h]
  simp only
  rw [hf]
  exact if_neg (by simp [ha, ht, hh])

theorem sackRead_failed {h : PHead} {b : List Byte} (hr : plcOpen (plAt p k).network (plcKey p k h.src) h 1 b = none) :
    sackRead k i h b p = updPl k (fun x => { x with authErr := inc8 x.authErr }) p := by
  unfold sackRead
  extract_lets x
  rw [hr]

theorem sackRead_opened {h : PHead} {b d : List Byte} (hr : plcOpen (plAt p k).network (plcKey p k h.src) h 1 b = some d) :
    sackRead k i h b p = (
      let f := (pfAt (plAt p k) i).getD {}
      let p1 := updPn k h.src (fun y => { y with peerLqi := h.lqi }) p
      let missing := (2 ^ f.nseg - 1) &&& (255 - u8 d 0)
      if missing = 0 then frameDone k i f p1 else retry k i f missing true p1) := by
  unfold sackRead
  extract_lets x
  rw [hr]

theorem sackTimeout_sent {f : PFrame} (h : pfAt (plAt p k) i = some f) (hs : f.sent = true) (ha : awake p = true) :
    sackTimeout k i p = retry k i f (2 ^ f.nseg - 1) false p := by
  simp only [sackTimeout, h]
  exact if_pos ⟨hs, ha⟩

theorem sackTimeout_same (h : pfAt (plAt p k) i = none ∨ (∃ f, pfAt (plAt p k) i = some f ∧ f.sent = false) ∨ awake p = false) :
    sackTimeout k i p = p := by
  unfold sackTimeout
  split
  next f hf =>
    refine if_neg fun ⟨hs, ha⟩ => ?_
    rcases h with h | ⟨f', h, hn⟩ | h
    · rw [hf] at h; cases h
    · rw [hf] at h; cases h; exact ne_true_of_eq_false hn hs
    · exact ne_true_of_eq_false h ha
  · rfl

/-! ### Frames received (15 R478, R483, R487, R488) -/

section
variable {f : PlcIn}

theorem plcFrame_unconfigured (h : (plAt p k).cfgd = false) : plcFrame k f p = p := if_pos (by rw [h]; rfl)

/-- The impulses that a frame brings are counted. -/
def impulsesCounted (k : Nat) (f : PlcIn) (p : Pkg) : Pkg :=
  updPl k (fun x => { x with impulse := satAdd 255 x.impulse (f.head.impulse + sumN (f.segs.map (·.impulse))) }) p

/-- The header is of a frame to the coordinator or to all, of a type that it takes (15 R483). -/
def headTaken (p : Pkg) (h : PHead) : Bool :=
  awake p && (h.hopD == 0 || h.hopD == 0x3FF) && inR 1 8 h.nseg && [1, 3, 4].contains h.type

theorem plcFrame_badHead (hc : (plAt p k).cfgd = true) (h : segOf f.head = none) :
    plcFrame k f p = updPl k (fun x => { x with segBad := inc8 x.segBad }) (impulsesCounted k f p) := by
  unfold plcFrame
  simp only
  rw [if_neg (by rw [hc]; decide), if_pos (by rw [h]; rfl)]
  rfl

theorem plcFrame_head (hc : (plAt p k).cfgd = true) (h : segOf f.head ≠ none) : plcFrame k f p = (
    let q := holdMedium k ((impulsesCounted k f p).clk + sackTime (plAt p k).band) (impulsesCounted k f p)
    match (headIn (plAt p k) f.head).filter (headTaken p) with
    | none => q
    | some h => plcHeld k h f (updPl k (fun x => { x with
        segBad := satAdd 255 x.segBad (f.segs.filter (fun g => (segOf g).isNone)).length }) q)) := by
  exact (if_neg (by rw [hc]; decide)).trans (if_neg (by simpa using h))

/-- A frame that is not for the coordinator only holds the medium. -/
theorem plcFrame_other (hc : (plAt p k).cfgd = true) (h : segOf f.head ≠ none) (hf : (headIn (plAt p k) f.head).filter (headTaken p) = none) :
    plcFrame k f p = holdMedium k ((impulsesCounted k f p).clk + sackTime (plAt p k).band) (impulsesCounted k f p) := by
  rw [plcFrame_head hc h, hf]

theorem plcFrame_held {h : PHead} (hc : (plAt p k).cfgd = true) (hs : segOf f.head ≠ none) (hi : headIn (plAt p k) f.head = some h)
    (ht : headTaken p h = true) : plcFrame k f p = plcHeld k h f (updPl k (fun x => { x with
      segBad := satAdd 255 x.segBad (f.segs.filter (fun g => (segOf g).isNone)).length })
        (holdMedium k ((impulsesCounted k f p).clk + sackTime (plAt p k).band) (impulsesCounted k f p))) := by
  have hf : (headIn (plAt p k) f.head).filter (headTaken p) = some h := by rw [hi]; exact if_pos ht
  rw [plcFrame_head hc hs, hf]

end

section
variable {h : PHead} {f : PlcIn} {b : List Byte}

/-- The package once a frame's segments are no longer held. -/
def holdsDropped (k : Nat) (h : PHead) (p : Pkg) : Pkg :=
  updPl k (fun x => { x with holds := x.holds.filter (fun y => !(y.src == h.src && y.seq == h.seq)) }) p

theorem plcWhole_refused (hr : plcOpen (plAt p k).network (plcKey p k h.src) h f.len b = none ∨
    (plAt p k).table.any (fun n => n.id == h.src) = false) :
    plcWhole k h f b p = updPl k (fun x => { x with authErr := inc8 x.authErr }) (holdsDropped k h p) := by
  have hf : (plcOpen (plAt p k).network (plcKey p k h.src) h f.len b).filter
      (fun _ => (plAt p k).table.any (fun n => n.id == h.src)) = none := by
    rcases hr with hr | hr
    · rw [hr]; rfl
    · rw [hr]; cases plcOpen (plAt p k).network (plcKey p k h.src) h f.len b <;> rfl
  unfold plcWhole
  extract_lets x p1 bc full y old
  rw [hf]
  rfl

section
variable {d : List Byte} (hr : plcOpen (plAt p k).network (plcKey p k h.src) h f.len b = some d)
  (hk : (plAt p k).table.any (fun n => n.id == h.src) = true)
include hr hk

/-- The tag of a frame of a known node has passed. -/
theorem plcWhole_read : (plcOpen (plAt p k).network (plcKey p k h.src) h f.len b).filter
    (fun _ => (plAt p k).table.any (fun n => n.id == h.src)) = some d := by rw [hr, hk]; rfl

theorem plcWhole_duplicate (hd : (pnAt (plAt p k) h.src).rxDone.contains h.seq = true) (hb : h.dst = 0x3FF) :
    plcWhole k h f b p = updPl k (fun x => { x with dup := inc8 x.dup }) (holdsDropped k h p) := by
  unfold plcWhole
  extract_lets x p1 bc full y old
  rw [plcWhole_read hr hk]
  exact (if_pos hd).trans (if_pos (decide_eq_true hb))

/-- The first frame of a node, and to the coordinator: delivered and acknowledged. -/
theorem plcWhole_delivered (hd : (pnAt (plAt p k) h.src).rxDone.contains h.seq = false) (hn : (pnAt (plAt p k) h.src).rxHigh = none)
    (hb : h.dst ≠ 0x3FF) : plcWhole k h f b p =
      sendSack k h.hopS h.seq (2 ^ h.nseg - 1) (plcDeliver k h f d (nodeHeard k h f (holdsDropped k h p))) := by
  unfold plcWhole
  extract_lets x p1 bc full y old
  have hold : old = false := by simp only [old, y, x, hn]
  rw [plcWhole_read hr hk]
  exact (if_neg (ne_true_of_eq_false hd)).trans ((if_neg (ne_true_of_eq_false hold)).trans (if_neg (by simpa [bc] using hb)))

end

end

/-! ### What the coordinator sends (15 R490 to R493) -/

theorem beaconSend_same (h : plcUp p k = false ∨ ∃ t, (plAt p k).beacon = some t ∧ due p (t + 10000000000) = false) :
    beaconSend k p = p := by
  refine if_pos ?_
  rcases h with h | ⟨t, h, hd⟩
  · exact .inl (by rw [h]; rfl)
  · exact .inr (by rw [h]; simp only [hd, Bool.not_false])

theorem beaconSend_due (hu : plcUp p k = true) (h : (plAt p k).beacon = none ∨ ∃ t, (plAt p k).beacon = some t ∧ due p (t + 10000000000) = true) :
    beaconSend k p = plcQueue k .beacon 1 0x3FF
      (((plAt p k).nodes.filter (fun n => n.heard.isSome)).take 60 |>.map (fun n => toBe 2 n.id ++ [byte n.lqi, byte (shareOf n)])).flatten false
      (updPl k (fun x => { x with beacon := some p.clk }) p) := by
  refine if_neg ?_
  rw [hu]
  rcases h with h | ⟨t, h, hd⟩
  · rw [h]; simp
  · rw [h]; simp [hd]

theorem statusSend_down (h : plcUp p k = false) : statusSend k p = p := if_pos (by rw [h]; rfl)

theorem statusSend_up (h : plcUp p k = true) : statusSend k p = (plAt p k).table.foldl (fun p n => match n.role with
    | .legacy r => statusTo k n r p
    | .aux => p) p := if_neg (by rw [h]; decide)

theorem routeExpiry_due {node t : Nat} (h : (pnAt (plAt p k) node).used = some t) (ht : tatting (plAt p k) = true)
    (hd : due p (t + 300000000000) = true) : routeExpiry k node p =
      updPn k node (fun y => { y with used := none, hops := 0, rep1 := 0, rep0 := 0, cost := 0xFFFF }) p := by
  simp only [routeExpiry, h]
  exact if_pos ⟨ht, hd⟩

theorem routeExpiry_same {node : Nat} (h : (pnAt (plAt p k) node).used = none ∨ tatting (plAt p k) = false) : routeExpiry k node p = p := by
  unfold routeExpiry
  split
  next t ht => exact if_neg fun ⟨h1, _⟩ => ne_true_of_eq_false (h.resolve_left (by rw [ht]; simp)) h1
  · rfl

theorem txCtrl_long {v : Nat} (h : fld v 26 22 > 16) : txCtrl k v p = p := if_pos h

theorem txCtrl_short {v : Nat} (h : fld v 26 22 ≤ 16) : txCtrl k v p = (
    let q := updPl k (fun x => { x with txPrio := fld v 30 29, txLen := fld v 26 22, txDst := fld v 9 0 }) p
    if tb v 31 = false then q
    else if (plAt p k).txRes = .queued then updPl k (fun x => { x with txRef := inc8 x.txRef }) q
    else if fld v 9 0 ≠ 0x3FF ∧ (plAt p k).table.any (fun n => n.id == fld v 9 0) = false then
      updPl k (fun x => { x with txRes := .failed }) q
    else plcSend k (fld v 30 29) (fld v 9 0) ([3, 0, 0, 0] ++ (((plAt p k).txD.map (toLe 4)).flatten.take (fld v 26 22))) true
      (updPl k (fun x => { x with txRes := .queued }) q)) := by
  unfold txCtrl
  simp only [Bool.not_eq_true']
  exact if_neg (Nat.not_lt.2 h)

end

end Sys2Proof.Machine

open Sys2Proof Sys2Proof.Machine

/-- Settles O43: a frame by its slot and whom it is for, a SACK by its header, segment and tag, a frame received by its
header, then by its tag, its source and whether it was delivered before; GO by the frame that waits and the node. -/
theorem powerLineFramesAreSentAcknowledgedAndDelivered : Obligations.PowerLineFramesAreSentAcknowledgedAndDelivered := by
  intro s k x
  refine ⟨fun i slot period h => run1_same (slotSend_none h), fun i slot period f h hs => run1_same (slotSend_idle h hs), ?starts,
    fun i missing f sacked p => ⟨fun h => if_pos h, retry_again missing sacked⟩, fun a h => run1_same (sackIn_same h), ?sack, ?read,
    fun i f h hs ha => does_of (sackTimeout_sent h hs ha), fun i h => run1_same (sackTimeout_same h),
    fun f h => run1_same (plcFrame_unconfigured h), ?received, ?whole, fun src seq => does_of rfl,
    fun h => run1_same (beaconSend_same h), fun hu h => does_of (beaconSend_due hu h), fun h => run1_same (statusSend_down h),
    fun h => does_of (statusSend_up h), fun node t h ht hd => does_of (routeExpiry_due h ht hd),
    fun node h => run1_same (routeExpiry_same h), fun v h => run1_same (txCtrl_long h), ?go⟩
  case starts =>
    intro i slot period start f h hu hs hh ht hw
    have hst := slotSend_starts h hu hs hh ht hw
    refine ⟨fun hd => does_of (hst.trans (if_pos hd)), fun hd hc => does_of (hst.trans ((if_neg (not_not.2 hd)).trans (if_neg (by omega)))),
      fun hd hc hn => does_of (hst.trans ((if_neg (not_not.2 hd)).trans ((if_pos hc).trans ?_)))⟩
    exact congrArg (dropFrame k.val i) (if_neg (ne_true_of_eq_false hn))
  case sack =>
    intro a h i hi hf ha ht hh
    have hin := sackIn_ours hi hf ha ht hh
    exact ⟨fun hg => does_of (hin.trans (by rw [hg])), fun g hg => does_of (hin.trans (by rw [hg]))⟩
  case read =>
    intro i h b p f read p1 missing
    exact ⟨sackRead_failed, fun d hr hm => (sackRead_opened hr).trans (if_pos hm), fun d hr hm => (sackRead_opened hr).trans (if_neg hm)⟩
  case received =>
    intro f hc p q bad
    refine ⟨fun h => does_of (plcFrame_badHead hc h), fun h hn => does_of (plcFrame_other hc h ?_),
      fun hd h hi hn => does_of (plcFrame_other hc h ?_), fun hd h ha hi hh hn ht => does_of (plcFrame_held hc h hi ?_)⟩
    · rcases hn with hn | hn
      · cases headIn (plAt s.m k.val) f.head <;> simp [headTaken, hn]
      · rw [hn]; rfl
    · have htk : headTaken s.m hd = false := by
        rcases hn with ⟨h0, h1⟩ | hn | hn
        · simp [headTaken, h0, h1]
        · simp [headTaken, hn]
        · unfold headTaken; rw [hn, Bool.and_false]
      rw [hi]
      exact if_neg (ne_true_of_eq_false htk)
    · have hh' : (hd.hopD == 0 || hd.hopD == 0x3FF) = true := by rcases hh with hh | hh <;> simp [hh]
      unfold headTaken
      rw [ha, hh', hn, ht]
      rfl
  case whole =>
    intro h f b p y p1 known read
    exact ⟨plcWhole_refused, fun d hr hk hd hb => plcWhole_duplicate hr hk hd hb,
      fun d hr hk hd hn hb => plcWhole_delivered hr hk hd hn hb⟩
  case go =>
    intro v h p
    have htx := txCtrl_short (p := s.m) (k := k.val) h
    have go : tb v 31 = true → ¬tb v 31 = false := fun hg hf => Bool.false_ne_true (hf.symm.trans hg)
    refine ⟨fun hg => does_of (htx.trans (if_pos hg)), fun hg hq => does_of (htx.trans ((if_neg (go hg)).trans (if_pos hq))),
      fun hg hq hd hn => does_of (htx.trans ((if_neg (go hg)).trans ((if_neg hq).trans (if_pos ⟨hd, hn⟩)))),
      fun hg hq hd => does_of (htx.trans ((if_neg (go hg)).trans ((if_neg hq).trans (if_neg ?_))))⟩
    exact fun ⟨hb, hn⟩ => hd.elim hb fun hk => Bool.false_ne_true (hn.symm.trans hk)
end

section
/-!
The vehicle links of chapter 14: frames at a port and requests in conversation; discovery, TLS, protocol, setup,
authorization and services (O44).
-/

namespace Sys2Proof.Machine

section
variable {p : Pkg} {u : Nat}

/-! ### Frames at a port and requests (14 R443, R448, R452, R454) -/

/-- The package once a frame has been counted at a port. -/
def portHeard (u : Nat) (p : Pkg) : Pkg := updVp u (fun x => { x with rx := (x.rx + 1) % 2 ^ 32, frameAt := some p.clk }) p

theorem frameAtPort_asleep (f : Pkg → Pkg) (h : awake p = false) : frameAtPort u f p = p := if_pos (by rw [h]; rfl)

theorem frameAtPort_unserved (f : Pkg → Pkg) (h : awake p = true) (hs : v2gSrc (portHeard u p) (u / 2) = false) :
    frameAtPort u f p = portHeard u p := (if_neg (by rw [h]; decide)).trans (if_neg (ne_true_of_eq_false hs))

theorem frameAtPort_served (f : Pkg → Pkg) (h : awake p = true ∧ v2gSrc (portHeard u p) (u / 2) = true) :
    frameAtPort u f p = f (portHeard u p) := (if_neg (by rw [h.1]; decide)).trans (if_pos h.2)

/-- The package once a request has been taken at a port: it acknowledges the responses before it, and an owner's time starts
again. -/
def requested (u : Nat) (p : Pkg) : Pkg :=
  let q := updVp u (fun x => { x with sent := [] }) (portHeard u p)
  if (vgAt q (u / 2)).owner = some u then updVg (u / 2) (fun v => { v with reqAt := p.clk }) q else q

/-- A request touches the vehicle links alone. -/
theorem requested_keeps : requested u p = { p with vlk := (requested u p).vlk } := by
  unfold requested
  simp only
  split <;> rfl

@[simp] theorem requested_clk : (requested u p).clk = p.clk := by rw [requested_keeps]
@[simp] theorem requested_tim : (requested u p).tim = p.tim := by rw [requested_keeps]
@[simp] theorem requested_config : (requested u p).config = p.config := by rw [requested_keeps]

/-- The port has TLS and the DC protocol, and is served (14 R447, R448). -/
abbrev Agreed (u : Nat) (p : Pkg) : Prop :=
  (awake p = true ∧ v2gSrc (portHeard u p) (u / 2) = true) ∧ (vpAt (portHeard u p) u).tls = true ∧ (vpAt (portHeard u p) u).proto = true

theorem v2gReq_agreed (f : Pkg → Pkg) (h : Agreed u p) : v2gReq u f p = f (requested u p) := by
  obtain ⟨hs, ht, hp⟩ := h
  exact (frameAtPort_served _ hs).trans (if_neg (by rw [ht, hp]; decide))

theorem inTalk_talking (f : Pkg → Pkg) (h : Agreed u p ∧ (vgAt (requested u p) (u / 2)).talk = some u) :
    inTalk u f p = f (requested u p) := (v2gReq_agreed _ h.1).trans (if_pos h.2)

/-- A request outside the conversation is answered FAILED. -/
theorem inTalk_other (f : Pkg → Pkg) (h : Agreed u p) (ht : (vgAt (requested u p) (u / 2)).talk ≠ some u) :
    inTalk u f p = respond u { code := .failed } (requested u p) := (v2gReq_agreed _ h).trans (if_neg ht)

/-! ### Discovery, TLS and protocol (14 R446 to R448) -/

/-- What a handshake must bring: good parameters, a configuration, entropy, and a certificate under a V2G root or none where
none is asked for. -/
def goodHandshake (p : Pkg) (r : Nat) (h : TlsIn) : Prop :=
  h.paramsOk = true ∧ p.config.isSome = true ∧ p.key.entropy = true ∧
    (h.cert = true ∧ (h.certOk && rootOk p h.root) = true ∨ h.cert = false ∧ (vgAt p r).cliAuth = false)

/-- The test that the model makes of a handshake. -/
theorem goodHandshake_iff {r : Nat} {h : TlsIn} : (h.paramsOk && p.config.isSome && p.key.entropy &&
    (if h.cert then h.certOk && rootOk p h.root else !(vgAt p r).cliAuth)) = true ↔ goodHandshake p r h := by
  unfold goodHandshake
  cases h.cert <;> simp [and_assoc]

section
variable (hs : awake p = true ∧ v2gSrc (portHeard u p) (u / 2) = true)
include hs

theorem seccDiscovery_served : seccDiscovery u p = (
    let q := portHeard u p
    let o := updVp u (fun x => { x with sdp := sdpAnswer q u :: x.sdp }) q
    if (vgAt q (u / 2)).owner = none then updVg (u / 2) (fun v => { v with stage := .discovery }) o else o) := by
  refine (frameAtPort_served _ hs).trans ?_
  simp only [Option.isNone_iff_eq_none]
  rfl

theorem tlsHandshake_open {h : TlsIn} (ht : (vpAt (portHeard u p) u).tcp = true) :
    tlsHandshake u h p = updVp u (fun x => { x with resets := x.resets + 1 }) (portHeard u p) :=
  (frameAtPort_served _ hs).trans (if_pos ht)

theorem tlsHandshake_refused {h : TlsIn} (ht : (vpAt (portHeard u p) u).tcp = false) (hg : ¬goodHandshake (portHeard u p) (u / 2) h) :
    tlsHandshake u h p = portHeard u p := by
  refine (frameAtPort_served _ hs).trans ((if_neg (ne_true_of_eq_false ht)).trans (if_pos ?_))
  rw [Bool.not_eq_true', Bool.eq_false_iff]
  exact mt goodHandshake_iff.1 hg

theorem tlsHandshake_taken {h : TlsIn} (ht : (vpAt (portHeard u p) u).tcp = false) (hg : goodHandshake (portHeard u p) (u / 2) h) :
    tlsHandshake u h p = (
      let o := updVp u (fun x => { x with tcp := true, tls := true, proto := false, seq := 0 }) (portHeard u p)
      if (vgAt (portHeard u p) (u / 2)).owner = none then updVg (u / 2) (fun v => { v with stage := .tls }) o else o) := by
  refine (frameAtPort_served _ hs).trans ((if_neg (ne_true_of_eq_false ht)).trans ((if_neg ?_).trans ?_))
  · rw [goodHandshake_iff.2 hg]; decide
  · simp only [Option.isNone_iff_eq_none]
    rfl

theorem appProtocol_plain (dc20 : Bool) (ht : (vpAt (portHeard u p) u).tls = false) : appProtocol u dc20 p = portHeard u p :=
  (frameAtPort_served _ hs).trans (if_pos (by rw [ht]; rfl))

theorem appProtocol_secured (dc20 : Bool) (ht : (vpAt (portHeard u p) u).tls = true) : appProtocol u dc20 p =
    respond u { code := if dc20 then .ok else .noNegotiation } (updVp u (fun x => { x with proto := dc20, sent := [] }) (portHeard u p)) :=
  (frameAtPort_served _ hs).trans (if_neg (by rw [ht]; decide))

end

/-! ### Setup and authorization (14 R449, R454, R455) -/

/-- A session of the region begins with the port as its owner and in conversation. -/
theorem sessionSetup_first {mac : Nat} (h : Agreed u p) (ho : (vgAt (requested u p) (u / 2)).owner = none)
    (hs : (vrAt (requested u p) (u / 2)).session = none) : sessionSetup u mac p = respond u { code := .ok } (updVg (u / 2) (fun v => { v with
      owner := some u, talk := some u, stage := .setup, auth := .none_, mcs := false, dynamic := false, authAt := none
      authReg := 0, authOk := false, authBad := false, vid := (0, []), cable := none, weld := false, told := none
      openBad := none, reqAt := p.clk }) (updVp u (fun x => { x with mac := mac % 2 ^ 48 }) (requested u p))) := by
  refine (v2gReq_agreed _ h).trans ((if_neg (by rw [ho]; simp)).trans ((if_neg (by rw [ho, hs]; simp)).trans ?_))
  rw [requested_clk]
  rfl

theorem sessionSetup_owner {mac : Nat} (h : Agreed u p) (ho : (vgAt (requested u p) (u / 2)).owner = some u) :
    sessionSetup u mac p = respond u { code := .ok } (requested u p) := (v2gReq_agreed _ h).trans (if_pos ho)

theorem sessionSetup_second {mac : Nat} (h : Agreed u p) (ho : (vgAt (requested u p) (u / 2)).owner ≠ some u)
    (hs : (vgAt (requested u p) (u / 2)).owner ≠ none ∨ (vrAt (requested u p) (u / 2)).session ≠ none) :
    sessionSetup u mac p = respond u { code := .failed } (requested u p) := by
  refine (v2gReq_agreed _ h).trans ((if_neg ho).trans (if_pos ?_))
  simpa only [← Option.isSome_iff_ne_none] using hs

/-- Authorization by EIM has been chosen in a package. -/
def byEim (r : Nat) (p : Pkg) : Pkg := updVg r (fun v => { v with auth := .eim }) p

theorem eimAuth_refused (h : (vgAt (byEim (u / 2) p) (u / 2)).authBad = true ∨ (vgAt (byEim (u / 2) p) (u / 2)).authReg = 2) :
    eimAuth u p = endV2g (u / 2) 8 (respond u { code := .failed } (byEim (u / 2) p)) := if_pos h

section
variable (hb : (vgAt (byEim (u / 2) p) (u / 2)).authBad = false) (hr : (vgAt (byEim (u / 2) p) (u / 2)).authReg ≠ 2)
include hb hr

theorem eimAuth_accepted (h : (vgAt (byEim (u / 2) p) (u / 2)).authOk = true ∨ (vgAt (byEim (u / 2) p) (u / 2)).eimHost = false ∨
    (vgAt (byEim (u / 2) p) (u / 2)).authReg = 1) : eimAuth u p = respond u { code := .ok } (updVg (u / 2) (fun v => { v with
      authOk := true, authAt := none, authReg := 0, vid := (1, toBe 6 (vpAt (byEim (u / 2) p) u).mac) }) (byEim (u / 2) p)) :=
  (if_neg (not_or.2 ⟨ne_true_of_eq_false hb, hr⟩)).trans (if_pos (h.imp_right (Or.imp_left (Bool.not_eq_true' _).mpr)))

theorem eimAuth_pending (hk : (vgAt (byEim (u / 2) p) (u / 2)).authOk = false) (hh : (vgAt (byEim (u / 2) p) (u / 2)).eimHost = true)
    (h1 : (vgAt (byEim (u / 2) p) (u / 2)).authReg ≠ 1) : eimAuth u p = respond u { code := .ongoing }
      (updVg (u / 2) (fun v => { v with authAt := some (v.authAt.getD p.clk) }) (byEim (u / 2) p)) :=
  (if_neg (not_or.2 ⟨ne_true_of_eq_false hb, hr⟩)).trans (if_neg (not_or.2 ⟨ne_true_of_eq_false hk, not_or.2 ⟨fun hn => ne_false_of_eq_true hh ((Bool.not_eq_true' _).mp hn), h1⟩⟩))

end

/-- Authorization by contract certificate has been chosen in a package. -/
def byCert (r : Nat) (p : Pkg) : Pkg := updVg r (fun v => { v with auth := .pnc }) p

section
variable {chain : Bool} {b e : Nat} {rt em dg : List Byte}

theorem pncAuth_taken (hc : chain = true) (hr : rootOk p rt = true) (hv : revokedCert p dg = false)
    (hb : b ≤ p.tim.now / 1000000000) (he : p.tim.now / 1000000000 ≤ e) : pncAuth u chain rt b e em dg p =
      respond u { code := .ok } (updVg (u / 2) (fun v => { v with
        authOk := true, vid := if (vgAt (byCert (u / 2) p) (u / 2)).vidPref then (3, dg.take 48) else (2, em.take 64) }) (byCert (u / 2) p)) :=
  if_pos ⟨hc, hr, by rw [Bool.not_eq_true']; exact hv, hb, he⟩

theorem pncAuth_refused (h : chain = false ∨ rootOk p rt = false ∨ revokedCert p dg = true ∨ p.tim.now / 1000000000 < b ∨
    e < p.tim.now / 1000000000) : pncAuth u chain rt b e em dg p =
      endV2g (u / 2) 8 (respond u { code := .failed } (byCert (u / 2) p)) := by
  refine if_neg fun ⟨hc, hr, hv, hb, he⟩ => ?_
  rcases h with h | h | h | h | h
  · exact ne_true_of_eq_false h hc
  · exact ne_true_of_eq_false h hr
  · exact ne_false_of_eq_true h ((Bool.not_eq_true' _).mp hv)
  · exact Nat.not_le.2 h hb
  · exact Nat.not_le.2 h he

end

theorem eimTimeout_over {r t : Nat} (h : (vgAt p r).authAt = some t) (hd : due p (t + 60000000000) = true)
    (h1 : (vgAt p r).authReg ≠ 1) (h2 : (vgAt p r).authReg ≠ 2) :
    eimTimeout r p = updVg r (fun v => { v with authAt := none, authReg := 0, authBad := true }) p :=
  if_pos ⟨by rw [h]; exact hd, (Bool.not_eq_true' _).mpr (decide_eq_false (not_or.2 ⟨h1, h2⟩))⟩

theorem eimTimeout_same {r : Nat} (h : (vgAt p r).authAt = none ∨ (∃ t, (vgAt p r).authAt = some t ∧ due p (t + 60000000000) = false) ∨
    (vgAt p r).authReg = 1 ∨ (vgAt p r).authReg = 2) : eimTimeout r p = p := by
  refine if_neg fun ⟨hd, hr⟩ => ?_
  rcases h with h | ⟨t, h, hf⟩ | h
  · rw [h] at hd; cases hd
  · rw [h] at hd; exact ne_true_of_eq_false hf hd
  · exact of_decide_eq_false ((Bool.not_eq_true' _).mp hr) h

/-! ### Release of responses (14 R456) -/

theorem segRelease_same (h : (vpAt p u).heldSeg = [] ∨ drives p = false) : segRelease u p = p := by
  unfold segRelease
  split
  · rfl
  next g l hg => exact if_neg fun ⟨hd, _⟩ => ne_true_of_eq_false (h.resolve_left (by rw [hg]; simp)) hd

theorem segRelease_driven {g : VSeg} {l : List VSeg} (h : (vpAt p u).heldSeg = g :: l) (hd : drives p = true) : segRelease u p =
    if (dieOf p ((activeDie p).getD .a).other).st ≠ .standby ∨ g.mir ≤ p.duo.supAck
    then updVp u (fun x => { x with heldSeg := l, sent := x.sent ++ [g], out := g :: x.out }) p else p := by
  simp only [segRelease, h, hd, true_and]

end

end Sys2Proof.Machine

open Sys2Proof Sys2Proof.Machine

/-- Settles O44: a frame by whether its port is served, a request by whether it is in conversation, then each by what it
finds of the region's session. -/
theorem vehiclesConnectAgreeAndAreAuthorized : Obligations.VehiclesConnectAgreeAndAreAuthorized := by
  intro s u r p q0 q here agreed talking z eim pnc
  refine ⟨fun h => run1_same (frameAtPort_asleep _ h), fun h ho => does_of ((seccDiscovery_served h).trans (if_pos ho)),
    fun h ho => does_of ((seccDiscovery_served h).trans (if_neg ho)), fun h hs => does_of (frameAtPort_unserved _ h hs), ?tls,
    fun h ht dc20 => does_of (appProtocol_secured h dc20 ht), fun h ht dc20 => does_of (appProtocol_plain h dc20 ht),
    fun mac h ho hs => does_of (sessionSetup_first h ho hs), fun mac h ho => does_of (sessionSetup_owner h ho),
    fun mac h ho hs => does_of (sessionSetup_second h ho hs), fun h ht => does_of (inTalk_other _ h ht),
    fun h => does_of (inTalk_talking _ h), fun h hb => does_of ((inTalk_talking _ h).trans (eimAuth_refused hb)), ?eim, ?pnc, ?services,
    fun g => ⟨fun val h => does_of (if_pos h), fun val h => run1_same (if_neg (by rw [h]; decide)),
      fun t h hd h1 h2 => does_of (eimTimeout_over h hd h1 h2), fun h => run1_same (eimTimeout_same h)⟩,
    fun h => run1_same (segRelease_same h), ?release⟩
  case tls =>
    intro h hs good
    exact ⟨fun ht => does_of (tlsHandshake_open hs ht), fun ht hg => does_of (tlsHandshake_refused hs ht hg),
      fun ht hg => ⟨fun ho => does_of ((tlsHandshake_taken hs ht hg).trans (if_pos ho)),
        fun ho => does_of ((tlsHandshake_taken hs ht hg).trans (if_neg ho))⟩⟩
  case eim =>
    intro h hb hr
    refine ⟨fun ha => does_of ((inTalk_talking _ h).trans (eimAuth_accepted hb hr ha)),
      fun hk hh h1 => does_of ((inTalk_talking _ h).trans ((eimAuth_pending hb hr hk hh h1).trans ?_))⟩
    show _ = respond u.val { code := .ongoing } (updVg r (fun v => { v with authAt := some (v.authAt.getD s.m.clk) }) eim)
    rw [← requested_clk (u := u.val) (p := s.m)]
    rfl
  case pnc =>
    intro chain b e rt em dg h t
    have hroot : rootOk z rt = rootOk s.m rt := by
      unfold rootOk; rw [← requested_config (u := u.val) (p := s.m)]; rfl
    have hrev : revokedCert z dg = revokedCert s.m dg := by
      unfold revokedCert; rw [← requested_config (u := u.val) (p := s.m)]; rfl
    have ht : z.tim.now / 1000000000 = t := by
      show (requested u.val s.m).tim.now / 1000000000 = t
      rw [requested_tim]
    refine ⟨fun hc hr hv hb he => does_of ((inTalk_talking _ h).trans (pncAuth_taken hc (hroot.trans hr) (hrev.trans hv) (ht ▸ hb) (ht ▸ he))),
      fun hn => does_of ((inTalk_talking _ h).trans (pncAuth_refused ?_))⟩
    rw [← hroot, ← hrev, ← ht] at hn
    exact hn
  case services =>
    intro h
    exact ⟨does_of (inTalk_talking _ h), fun k => does_of (inTalk_talking _ h),
      fun k dyn hk => does_of ((inTalk_talking _ h).trans (if_pos hk)),
      fun k dyn hk => does_of ((inTalk_talking _ h).trans (if_neg (Nat.not_le.2 hk)))⟩
  case release =>
    intro g l h hd alone
    exact ⟨fun ha => does_of ((segRelease_driven h hd).trans (if_pos ha)),
      fun ha hm => run1_same ((segRelease_driven h hd).trans (if_neg (not_or.2 ⟨ha, Nat.not_le.2 hm⟩)))⟩
end

section
/-!
Vehicle charging of chapter 14: commands, the close and the end of a session; parameters, cable check, delivery, welding,
stop and loss of the link (O45).
-/

namespace Sys2Proof.Machine

section
variable {p : Pkg} {u : Nat}

/-! ### Commands of the vehicle (14 R450, 06 R205) -/

section
variable {t i : Nat}

theorem v2gCommand_inForce (hs : (vrAt p (u / 2)).session = some (.v2g u)) (ht : (vrAt p (u / 2)).cmdTgt = t)
    (hi : (vrAt p (u / 2)).ilim = some (min 30000 i)) : v2gCommand u t i p = (true, p) := if_pos ⟨hs, ht, hi⟩

/-- A command that differs from the one in force: its first cause of refusal, or a transition. -/
theorem v2gCommand_differs (h : ¬((vrAt p (u / 2)).session = some (.v2g u) ∧ (vrAt p (u / 2)).cmdTgt = t ∧
    (vrAt p (u / 2)).ilim = some (min 30000 i))) : v2gCommand u t i p =
      if t > vLow p (u / 2) then (false, updVr (u / 2) (fun v => { v with lastCause := 1 }) p)
      else if (vrAt p (u / 2)).session.isNone = true then (true, updVr (u / 2) (fun v => { v with lastCause := 2 }) p)
      else if (vrAt p (u / 2)).session ≠ some (.v2g u) then (true, updVr (u / 2) (fun v => { v with lastCause := 3 }) p)
      else if (!cmdMode p (u / 2)) = true then (true, updVr (u / 2) (fun v => { v with lastCause := 4 }) p)
      else (true, setCommand (u / 2) (.v2g u) t (some (min 30000 i)) (vgAt p (u / 2)).slew 0 (updVr (u / 2) (fun v => { v with
        trans := some { kind := .command, src := .v2g u, turn := p.duo.turns } }) (supersede (u / 2) none false p))) := if_neg h

end

/-! ### The close and the end of a session (14 R447, R450, R454, 06 R209) -/

theorem v2gClose_other (h : (vrAt p (u / 2)).session ≠ some (.v2g u)) : v2gClose u p = p := if_pos h

theorem v2gClose_own (h : (vrAt p (u / 2)).session = some (.v2g u)) : v2gClose u p = (
    let q := endSession (u / 2) 8 p
    let z := updVr (u / 2) (fun v => { v with trans := some { kind := .close, src := .v2g u, turn := p.duo.turns } }) q
    if (vrAt q (u / 2)).closing = true then z else endTrans (u / 2) .reached 0 none false z) := if_neg (not_not.2 h)

/-! ### The cable check (14 R450, R451, R470) -/

/-- The package once the first cable check has opened the session. -/
def cableOpened (u maxV : Nat) (p : Pkg) : Pkg :=
  let q := updVg (u / 2) (fun v => { v with stage := .cableCheck }) p
  if (vgAt q (u / 2)).cable.isNone then cableOpen u maxV q else q

theorem cableOpened_eq (u maxV : Nat) (p : Pkg) : cableOpened u maxV p = (
    let q := updVg (u / 2) (fun v => { v with stage := .cableCheck }) p
    if (vgAt q (u / 2)).cable.isSome = true then q else cableOpen u maxV q) := by
  unfold cableOpened
  extract_lets q
  cases (vgAt q (u / 2)).cable <;> rfl

/-- The session has started, and the insulation monitor has been valid for 1 s. -/
def cableReady (r : Nat) (p : Pkg) : Prop := (vrAt p r).started = true ∧ ∃ t, (vgAt p r).imdOk = some t ∧ t + 1000000000 ≤ p.clk

/-- The test that the model makes of a cable check. -/
theorem cableReady_iff {r : Nat} :
    ((vrAt p r).started = true ∧ (vgAt p r).imdOk.any (fun t => decide (p.clk ≥ t + 1000000000)) = true) ↔ cableReady r p := by
  simp only [cableReady, Option.any_eq_true, decide_eq_true_eq, ge_iff_le]

section
variable {maxV : Nat} (h : Agreed u p ∧ (vgAt (requested u p) (u / 2)).talk = some u)
include h

theorem cableCheck_unauthorized (ha : (vgAt (requested u p) (u / 2)).authOk = false) :
    cableCheck u maxV p = respond u { code := .failed } (requested u p) := (inTalk_talking _ h).trans (if_pos (by rw [ha]; rfl))

theorem cableCheck_authorized (ha : (vgAt (requested u p) (u / 2)).authOk = true) : cableCheck u maxV p = (
    let w := cableOpened u maxV (requested u p)
    if (vgAt w (u / 2)).authBad = true ∨ (vgAt w (u / 2)).openBad.isSome = true then respond u { code := .failed } w
    else if (vrAt w (u / 2)).started = true ∧ (vgAt w (u / 2)).imdOk.any (fun t => decide (w.clk ≥ t + 1000000000)) = true
      then respond u { code := .finished } w
    else respond u { code := .ongoing } w) := (inTalk_talking _ h).trans (if_neg (by rw [ha]; decide))

end

theorem cableTimeout_over {r t : Nat} (hs : (vgAt p r).stage = .cableCheck) (hc : (vgAt p r).cable = some t)
    (hd : due p (t + 40000000000) = true) : cableTimeout r p = endV2g r 8 (updVg r (fun v => { v with authBad := true }) p) :=
  if_pos ⟨hs, by rw [hc]; exact hd⟩

theorem cableTimeout_same {r : Nat} (h : (vgAt p r).stage ≠ .cableCheck ∨ (vgAt p r).cable = none ∨
    ∃ t, (vgAt p r).cable = some t ∧ due p (t + 40000000000) = false) : cableTimeout r p = p := by
  refine if_neg fun ⟨hs, hd⟩ => ?_
  rcases h with h | h | ⟨t, h, hf⟩
  · exact h hs
  · rw [h] at hd; cases hd
  · rw [h] at hd; exact ne_true_of_eq_false hf hd

/-! ### Delivery (14 R450) -/

/-- Every cluster of the region regulates, and it has one. -/
def regulating (p : Pkg) (r : Nat) : Prop := dcdcOf p r ≠ [] ∧ ∀ n ∈ dcdcOf p r, (clAt p n).run.st = .regulate

/-- The test that the model makes before a delivery starts. -/
theorem regulating_iff {r : Nat} : ((!(dcdcOf p r).isEmpty) = true ∧ (dcdcOf p r).all (fun n => (clAt p n).run.st == .regulate) = true) ↔
    regulating p r := by
  simp [regulating]

section
variable (h : Agreed u p ∧ (vgAt (requested u p) (u / 2)).talk = some u)
include h

theorem powerDelivery_starts (hr : regulating (requested u p) (u / 2)) : powerDelivery u true p =
    respond u { code := .ok } (updVg (u / 2) (fun v => { v with stage := .chargeLoop }) (requested u p)) :=
  (inTalk_talking _ h).trans ((if_pos rfl).trans (if_pos (regulating_iff.2 hr)))

theorem powerDelivery_refused (hr : ¬regulating (requested u p) (u / 2)) :
    powerDelivery u true p = respond u { code := .failed } (requested u p) :=
  (inTalk_talking _ h).trans ((if_pos rfl).trans (if_neg (mt regulating_iff.1 hr)))

end

/-! ### Loss of the link (14 R452) -/

section
variable {r w : Nat}

theorem v2gLost_talking (ho : (vgAt p r).owner = none) (ht : (vgAt p r).talk = some w) : v2gLost r true p = tcpEnd w p := by
  simp only [v2gLost, ho, ht, if_true]

theorem v2gLost_owner (closed : Bool) (ho : (vgAt p r).owner = some w) (ha : awake p = true) : v2gLost r closed p =
    if closed = true then endV2g r 10 (tcpEnd w p)
    else if due p ((vgAt p r).reqAt + 2000000000) = true then endV2g r 10 p else p := by
  simp only [v2gLost, ho, ha, Bool.not_true, Bool.false_eq_true, if_false]

theorem v2gLost_same {closed : Bool} (h : (vgAt p r).owner = none ∧ (vgAt p r).talk = none ∨ (vgAt p r).owner = none ∧ closed = false ∨
    (vgAt p r).owner ≠ none ∧ awake p = false ∨ closed = false ∧ due p ((vgAt p r).reqAt + 2000000000) = false) : v2gLost r closed p = p := by
  unfold v2gLost
  cases ho : (vgAt p r).owner with
  | none =>
    cases ht : (vgAt p r).talk with
    | none => rfl
    | some w =>
      refine if_neg (ne_true_of_eq_false ?_)
      rcases h with ⟨-, h⟩ | ⟨-, h⟩ | ⟨h, -⟩ | ⟨h, -⟩
      · rw [ht] at h; cases h
      · exact h
      · exact absurd ho h
      · exact h
  | some w =>
    rcases h with ⟨h, -⟩ | ⟨h, -⟩ | ⟨-, h⟩ | ⟨hc, hd⟩
    · rw [ho] at h; cases h
    · rw [ho] at h; cases h
    · exact if_pos (by rw [h]; rfl)
    · subst hc
      simp only [hd, Bool.false_eq_true, if_false, ite_self]

end

end

end Sys2Proof.Machine

open Sys2Proof Sys2Proof.Machine

/-- Settles O45: a request by whether it is in conversation, a command by its first cause of refusal, the cable check by
what has been opened, and the loss of the link by who holds it. -/
theorem vehiclesChargeUnderTheStatedTransitions : Obligations.VehiclesChargeUnderTheStatedTransitions := by
  intro s u r p q0 q here agreed talking stage limits shown ask
  refine ⟨?other, ?command, fun x => ⟨v2gClose_other, v2gClose_own⟩, fun g cause x => rfl, ?talking, ?lost⟩
  case other =>
    intro h ht c hc
    have hother : ∀ f, inTalk u.val f s.m = respond u.val { code := .failed } q := fun f => inTalk_other f h ht
    simp only [List.mem_cons, List.not_mem_nil, or_false] at hc
    rcases hc with rfl | rfl | rfl | rfl | rfl | rfl | rfl | rfl | rfl | rfl | rfl <;> exact does_of (hother _)
  case command =>
    intro t i x v il mine
    refine ⟨v2gCommand_inForce, fun hn => ?_⟩
    have hd := v2gCommand_differs (u := u.val) hn
    have opened : v.session ≠ none → ¬v.session.isNone = true := fun hs => by simpa using hs
    have owned : mine → ¬v.session.isNone = true := fun hm => by rw [show v.session = _ from hm]; exact Bool.false_ne_true
    refine ⟨fun ht => hd.trans (if_pos ht), fun ht hs => hd.trans ((if_neg (Nat.not_lt.2 ht)).trans (if_pos (by rw [hs]; rfl))),
      fun ht hs hm => hd.trans ((if_neg (Nat.not_lt.2 ht)).trans ((if_neg (opened hs)).trans (if_pos hm))),
      fun ht hm hc => hd.trans ((if_neg (Nat.not_lt.2 ht)).trans ((if_neg (owned hm)).trans ((if_neg (not_not.2 hm)).trans (if_pos ?_)))),
      fun ht hm hc => hd.trans ((if_neg (Nat.not_lt.2 ht)).trans ((if_neg (owned hm)).trans ((if_neg (not_not.2 hm)).trans (if_neg ?_))))⟩
    · rw [hc]; rfl
    · rw [hc]; decide
  case talking =>
    intro h
    refine ⟨does_of (inTalk_talking _ h), fun dyn => does_of (inTalk_talking _ h), fun maxV ha => does_of (cableCheck_unauthorized h ha), ?cable,
      fun v => does_of (inTalk_talking _ h), fun hr => does_of (powerDelivery_starts h hr), fun hr => does_of (powerDelivery_refused h hr),
      does_of (inTalk_talking _ h), fun dyn v i => does_of (inTalk_talking _ h), does_of (inTalk_talking _ h), does_of (inTalk_talking _ h),
      does_of (inTalk_talking _ h)⟩
    case cable =>
      intro maxV ha z o tgt c w ready
      have hw : cableOpened u.val maxV (requested u.val s.m) = w := cableOpened_eq _ _ _
      have hcc := cableCheck_authorized (maxV := maxV) h ha
      rw [hw] at hcc
      refine ⟨fun hb => does_of (hcc.trans (if_pos hb)), fun hb ho => ?_⟩
      have hgood : ¬((vgAt w r).authBad = true ∨ (vgAt w r).openBad.isSome = true) := by simp [hb, ho]
      exact ⟨fun hr => does_of (hcc.trans ((if_neg hgood).trans (if_pos (cableReady_iff.2 hr)))),
        fun hr => does_of (hcc.trans ((if_neg hgood).trans (if_neg (mt cableReady_iff.1 hr))))⟩
  case lost =>
    intro g
    refine ⟨fun t hs hc hd => does_of (cableTimeout_over hs hc hd), fun h => run1_same (cableTimeout_same h), fun w => ?_,
      fun closed h => run1_same (v2gLost_same h)⟩
    exact ⟨fun ho ht => does_of (v2gLost_talking ho ht), fun ho ha => ⟨does_of ((v2gLost_owner true ho ha).trans (if_pos rfl)),
      fun hd => does_of ((v2gLost_owner false ho ha).trans ((if_neg Bool.false_ne_true).trans (if_pos hd)))⟩⟩
end
